-- ==== Sys2Proof/Word.lean ====
section
/-! DEFINITION. The word types of the DXN-7128 model: a byte, a 32-bit register word. -/
namespace Sys2Proof

/-- One byte, the unit of every layout of the manual (00, "Numbers and units"). -/
abbrev Byte := BitVec 8

/-- One 32-bit register word (R10, R460: expert accesses are 4-byte words). -/
abbrev Word := BitVec 32

end Sys2Proof
end

