-- ==== Sys2Proof/Syntax.lean ====
section
/-! DEFINITION. The commands and events of the DXN-7128, one constructor for each row of the opcode table,
with what each brings in from outside the controller as its operands. -/
namespace Sys2Proof

/-- The two panel outputs, A and B (R2). -/
inductive OutId where
  | A
  | B
  deriving DecidableEq, Repr

/-- The two ring ports, east (IS46) and west (IS47) (R18, R302). -/
inductive RPort where
  | east
  | west
  deriving DecidableEq, Repr

/-- The two host rings whose vector can be held back (R474). -/
inductive RingSel where
  | cq
  | eq
  deriving DecidableEq, Repr

/-- The Transom rails in the order in which they are brought up (R332). -/
inductive Rail where
  | vgl
  | vgh
  | vsl
  | vsh
  | vcom
  deriving DecidableEq, Repr

/-- The lockstepped units of R562: one Hearth pair, Cellar, Threshold. -/
inductive LockUnit where
  | hearth
  | cellar
  | threshold
  deriving DecidableEq, Repr

/-- What an error-correcting read finds in one word (R430, R438). -/
inductive Ecc where
  | clean
  | corrected
  | uncorrectable
  deriving DecidableEq, Repr

/-- The areas of the shared on-die SRAM that R431 tells apart. -/
inductive SramArea where
  | planeCache
  | pointTable
  | journal
  | rowStore
  | blitStaging
  | hearthSram
  | ispFifo
  | atlas
  deriving DecidableEq, Repr

/-- A submission entry as host memory holds it (R465): its 64 bytes, what a DMA read of its DATA buffer
returns (`none` when the read fails or is never answered), and whether writing its response buffer succeeds. -/
structure SqEntry where
  raw    : List Byte
  data   : Option (List Byte)
  respOk : Bool
  deriving DecidableEq, Repr

/-- A CSI-2 long packet as it arrives at a camera port (R363, R364, R377): data type, virtual channel,
whether its header ECC is uncorrectable, whether its payload CRC fails, and its payload. -/
structure CamPacket where
  dt      : Nat
  vc      : Nat
  eccBad  : Bool
  crcBad  : Bool
  payload : List Byte
  deriving DecidableEq, Repr

/-- What a receiver measures at its slicers (R309): the smallest vertical opening and its reference, in one unit, and the
smallest horizontal opening, in hundredths of a picosecond. -/
structure Openings where
  h    : Nat
  href : Nat
  w    : Nat
  deriving DecidableEq, Repr

/-- What a receiver's adaptation works out (R312, R313): the CTLE step, the DFE taps in hundredths of the main cursor, and the
sampling phase in 64ths of a unit interval. -/
structure Equaliser where
  ctle : Nat
  taps : List Int
  samp : Int
  deriving DecidableEq, Repr

/-- A block on an output's backchannel as it arrives (R263, R265, R286). -/
structure BcBlock where
  out     : OutId
  header  : Nat
  payload : List Byte
  deriving DecidableEq, Repr

/-- The commands of the block. A host command names the function whose submission ring carries it; its payload
is in that ring's next entry. An event brings the pin level, block, packet or reading that arrives with it. -/
inductive Instr where
  /-- `GET_INFO` (R494). Command 0x0100 returns variant, stepping, lifecycle, VF count, firmware version and Cellar time. -/
  | getInfo (f : Nat)
  /-- `GET_STATUS` (R494). Command 0x0101 returns safe states, power state, throttle step, frame numbers and link flags. -/
  | getStatus (f : Nat)
  /-- `COMMIT` (R28). Expert command 0x0110 freezes the shadow sets of the named blocks as a pending commit toward a target doorway. -/
  | commit (f : Nat)
  /-- `WRITE_FIELDS` (R498). Expert command 0x0111 applies masked writes to block-window offsets, each as one atomic BAR2 write. -/
  | writeFields (f : Nat)
  /-- `READ_FIELDS` (R499). Expert command 0x0112 returns what a BAR2 read returns for each listed offset. -/
  | readFields (f : Nat)
  /-- `SUBMIT_OPS` (R127). Command 0x0200 fetches an OPS submission for a channel and completes once every packet is ingested or discarded. -/
  | submitOps (f : Nat)
  /-- `SET_STREAM` (R491). Command 0x0201 writes STREAM_FUNC and STREAM_EN of a channel and commits SCN at the next doorway. -/
  | setStream (f : Nat)
  /-- `GET_SCENE` (R494). Command 0x0202 returns the scene and ingest status of a channel. -/
  | getScene (f : Nat)
  /-- `SET_MODE` (R80). Command 0x0300 writes MODE and PLANE_RES, and GEOM and GRID when asked, then commits SYN and SCO after a validity check. -/
  | setMode (f : Nat)
  /-- `GET_MODE` (R494). Command 0x0301 returns the live mode, plane reservation, validity status and frame number of an output. -/
  | getMode (f : Nat)
  /-- `SET_LAYER` (R186). Command 0x0400 writes a host layer record and commits CMP. -/
  | setLayer (f : Nat)
  /-- `SET_CHANNEL` (R195). Command 0x0401 writes a channel control record, and HDR_CH when asked, and commits CMP and SYN. -/
  | setChannel (f : Nat)
  /-- `SET_AUDIT_CHAIN` (R500). Command 0x0402 sets the audit descriptor chain that is used from the next capture start. -/
  | setAuditChain (f : Nat)
  /-- `OPEN_SESSION` (R536). Command 0x0500 is queued for admission, then authenticated, and derives the session keys and returns a receipt. -/
  | openSession (f : Nat)
  /-- `CLOSE_SESSION` (R538). Command 0x0501 closes a session after its KMAC trailer and sequence number verify. -/
  | closeSession (f : Nat)
  /-- `SUBMIT_POINTS` (R503). Command 0x0502 carries point updates that are each judged alone, and returns one receipt per update. -/
  | submitPoints (f : Nat)
  /-- `SET_SCANOUT` (R257). Command 0x0600 writes LOCKED, TE_SRC, LINK_EN, PSAFE_HOLD and blanking limits, and commits SCO and SPL. -/
  | setScanout (f : Nat)
  /-- `GET_LINK` (R494). Command 0x0601 returns the link state and panel capabilities of an output. -/
  | getLink (f : Nat)
  /-- `RETRAIN` (R291). Command 0x0602 acts as a write of 1 to RETRAIN for an output. -/
  | retrain (f : Nat)
  /-- `TRANSOM_UPDATE` (R504). Command 0x0700 starts loading a zone target image, and an alternate image where the zone blinks, into the pending planes. -/
  | transomUpdate (f : Nat)
  /-- `GET_TRANSOM` (R494). Command 0x0701 returns the Transom engine status. -/
  | getTransom (f : Nat)
  /-- `I2C_XFER` (R505). Command 0x0800 queues an I2C write then read to a camera sensor and returns the result. -/
  | i2cXfer (f : Nat)
  /-- `SET_VIEWERS` (R506). Command 0x0801 supplies host viewer positions, which count as seen at command start. -/
  | setViewers (f : Nat)
  /-- `SET_CAL` (R491). Maintainer command 0x0900 writes the calibration controls and commits CAL. -/
  | setCal (f : Nat)
  /-- `APPLY_CAL` (R402). Maintainer command 0x0901 commits a new SOURCE for an output, which starts a ramp. -/
  | applyCal (f : Nat)
  /-- `GET_CAL` (R494). Command 0x0902 returns the optical calibration status of an output. -/
  | getCal (f : Nat)
  /-- `SUBMIT_BLIT` (R410). Command 0x0A00 queues a blitter command list for the issuing function. -/
  | submitBlit (f : Nat)
  /-- `GET_POOL` (R494). Command 0x0B00 returns the surface pool of the issuing function. -/
  | getPool (f : Nat)
  /-- `SET_POOL` (R437). PF command 0x0B01 sets a function's surface pool and commits SYS. -/
  | setPool (f : Nat)
  /-- `GET_IDENTITY` (R515). Command 0x0C00 returns the device certificate chain. -/
  | getIdentity (f : Nat)
  /-- `ATTEST` (R532). Command 0x0C01 returns the signed measurement list for a nonce. -/
  | attest (f : Nat)
  /-- `INSTALL_PACKAGE` (R529). Owner command 0x0C02 verifies and stores an owner package, which becomes live at DUE. -/
  | installPackage (f : Nat)
  /-- `SET_LIFECYCLE` (R522). Owner command 0x0C03 moves the device from OWNED to PROVISIONED or to DECOMMISSIONED. -/
  | setLifecycle (f : Nat)
  /-- `READ_VIOLATIONS` (R508). Owner command 0x0C04 returns Cellar's violation counters. -/
  | readViolations (f : Nat)
  /-- `UPDATE_FIRMWARE` (R519). Owner command 0x0C05 checks a firmware image and writes it to the inactive firmware record. -/
  | updateFirmware (f : Nat)
  /-- `GET_FAULTS` (R563). Command 0x0D00 returns entries of the fault log. -/
  | getFaults (f : Nat)
  /-- `RECOVER` (R580). Owner or maintainer command 0x0D01 lifts an SS3 forced by FC4, or retries recovery of islands held out of service. -/
  | recover (f : Nat)
  /-- `SET_RING` (R585). PF command 0x0E00 sets the ring port enables, the HEAD bit and the head DEVICE_ID, and commits RNG. -/
  | setRing (f : Nat)
  /-- `GET_RING` (R494). Command 0x0E01 returns the ring state. -/
  | getRing (f : Nat)
  /-- `SET_POWER` (R625). PF command 0x0F00 commits POWER_STATE and GRACE_MS, entering or leaving STANDBY. -/
  | setPower (f : Nat)
  /-- `GET_THERMAL` (R494). Command 0x0F01 returns thermal, throttle and supply status. -/
  | getThermal (f : Nat)
  /-- `REGISTER_WRITE` (R461). A write to a BAR0 or BAR2 register without a row of its own sets shadow fields under access codes, grants and locks, or counts a violation. -/
  | registerWrite (f bar off : Nat) (data : List Byte)
  /-- `EXPERT_WINDOW_READ_DENIED` (R461). A BAR2 read of an ungranted block window returns zero and counts a violation. -/
  | expertWindowReadDenied (f off : Nat) (size : Nat)
  /-- `TIME_LO_READ` (R251). A read of TIME_LO returns Cellar time bits 31:0 and latches TIME_HI. -/
  | timeLoRead (f : Nat)
  /-- `SQ_TAIL` (R471). A submission doorbell write makes entries ready for fetch, or is ignored and counted in DB_ERR. -/
  | sqTail (f val : Nat) (entries : List SqEntry)
  /-- `CQ_HEAD` (R469). A completion doorbell write returns completion entries and frees ring space so that fetching can resume. -/
  | cqHead (f val : Nat)
  /-- `EQ_HEAD` (R471). An event doorbell write returns event entries. -/
  | eqHead (f val : Nat)
  /-- `SQ_EN` (R463). A write of SQ_EN enables the submission ring, or stops fetching when it clears the bit. -/
  | sqEn (f : Nat) (on : Bool)
  /-- `CQ_EN` (R463). A write of CQ_EN enables the completion ring, or discards completions when it clears the bit. -/
  | cqEn (f : Nat) (on : Bool)
  /-- `EQ_EN` (R463). A write of EQ_EN enables the event ring and resets EVENT_SEQ, or discards events when it clears the bit. -/
  | eqEn (f : Nat) (on : Bool)
  /-- `RETRAIN_WRITE` (R291). A write of 1 to RETRAIN_A or RETRAIN_B starts a new training cycle of that output at once. -/
  | retrainWrite (f : Nat) (word : Word)
  /-- `RECAL_NOW` (R324). A write of 1 to RECAL_NOW marks every transmit lane of a port for calibration. -/
  | recalNow (f port : Nat) (word : Word)
  /-- `MGMT_I2C_TRANSFER` (R677). A management I2C transfer sets a register index and reads health registers with auto-increment and field latching. -/
  | mgmtI2cTransfer (index : Nat) (wdata : List Byte) (rlen : Nat)
  /-- `CONFIG_REQUEST` (R651). A PCIe configuration request is answered with retry status until the endpoint is ready, and normally afterwards. -/
  | configRequest (f off : Nat) (wdata : Option (List Byte))
  /-- `FUNCTION_LEVEL_RESET` (R485). A function level reset, or the disabling of a VF, stops the function's rings, commands, blitter lists and ingest within 100 ms. -/
  | functionLevelReset (f : Nat)
  /-- `VECTOR_COALESCE_EXPIRY` (R474). At the end of a COALESCE_US interval the controller raises a ring vector that was held. -/
  | vectorCoalesceExpiry (f : Nat) (ring : RingSel)
  /-- `VAUX_VALID` (R643). The internal VAUX rail reaches 2.7 V, which begins a cold start with Cellar running from ROM. -/
  | vauxValid (mv : Nat)
  /-- `VAUX_INVALID` (R619). The internal VAUX rail falls below 2.7 V and Cellar is held in reset. -/
  | vauxInvalid (mv : Nat)
  /-- `POWER_FAIL` (R620). The power-fail indication forces SS3 without a message and starts the Transom power-loss procedure. -/
  | powerFail (mv : Nat)
  /-- `VMAIN_VALID` (R618). VMAIN has been at least 10.8 V for 1 ms, which starts a main start. -/
  | vmainValid (mv : Nat)
  /-- `VMAIN_LOST` (R621). VMAIN below 10.5 V for 10 us puts the device in SS4 and OFF-HOLD with DISPLAY NOT VALID shown. -/
  | vmainLost (mv : Nat)
  /-- `VMAIN_RANGE_FAULT` (R618). VMAIN outside its operating range for 1 ms raises fault 0x0F11. -/
  | vmainRangeFault (mv : Nat)
  /-- `VMAIN_OVERVOLTAGE` (R618). VMAIN above 14.0 V for 10 us raises fault 0x0F12, with SS4. -/
  | vmainOvervoltage (mv : Nat)
  /-- `REGULATOR_FAULT` (R618). A module regulator output outside 5 % for 10 us raises fault 0x0F13, with SS4. -/
  | regulatorFault (mv : Nat)
  /-- `VAUX_LOW` (R638). The VAUX rail below 3.0 V for 1 s while valid raises fault 0x0F14. -/
  | vauxLow (mv : Nat)
  /-- `PERST_ASSERT` (R641). A PERST# assertion forces PSAFE, drives SAFE_OUT low, holds the Transom and resets islands, or resets only the endpoint during a start. -/
  | perstAssert
  /-- `PERST_DEASSERT` (R640). A PERST# deassertion begins a warm start, or restarts the endpoint readiness bounds. -/
  | perstDeassert
  /-- `FAULT_IN` (R553). A filtered low level on FAULT_IN, while enabled, is fault 0x0E06 and forces SS3 on every output. -/
  | faultIn (low : Bool)
  /-- `HEARTBEAT_TOGGLE` (R551). Every 10 ms Cellar inverts HEARTBEAT while it runs outside SS4. -/
  | heartbeatToggle
  /-- `BOOT_VERIFY_DONE` (R517). Threshold finishes checking the firmware copies, then releases Hearth or reports a boot failure. -/
  | bootVerifyDone
  /-- `PACKAGE_CHECK_DONE` (R531). Threshold finishes checking the stored owner package at start. -/
  | packageCheckDone
  /-- `DRAM_TRAINED` (R643). Power-up DRAM training ends and zeroing of the data space begins. -/
  | dramTrained (ok : Bool)
  /-- `DRAM_ZEROING_DONE` (R441). Zeroing of the data space ends and all requesters are granted. -/
  | dramZeroingDone
  /-- `BANK_COPY_DONE` (R408). Hearth finishes copying the selected calibration banks from MRAM into DRAM. -/
  | bankCopyDone
  /-- `ENDPOINT_READY` (R651). The PCIe endpoint stops answering configuration requests with retry status. -/
  | endpointReady
  /-- `LETTERBOX_READY` (R652). The letterboxes begin to read READY and to serve doorbells. -/
  | letterboxReady
  /-- `VERIFY_TIMEOUT` (R649). An output ACTIVE for 2 s without a verified frame raises fault 0x0E09 and enters SS3. -/
  | verifyTimeout (o : OutId)
  /-- `DOORWAY_CLOSE` (R38). The sequencer issues CLOSE(N) and frame-doorway landings fix their pending commits and answer READY(N). -/
  | doorwayClose (o : OutId)
  /-- `DOORWAY_SWAP` (R39). Once every landing has answered READY(N), the sequencer issues SWAP(N). -/
  | doorwaySwap (o : OutId)
  /-- `LANDING_SWAP` (R40). A landing makes its pending copy live at its boundary between frame N-1 and frame N work. -/
  | landingSwap (isl : Nat) (o : OutId)
  /-- `LANDING_TIMEOUT` (R42). A landing without READY 20 us after CLOSE is reported, and SWAP is issued with the frame's commits withheld. -/
  | landingTimeout (isl : Nat) (o : OutId)
  /-- `BAND_PREP_START` (R140). Preparation of a band starts once cache rows are free, expanding plane rows and composing front plane rows. -/
  | bandPrepStart (o : OutId) (y : Nat)
  /-- `BAND_PREP_DONE` (R141). Every required row of a band has been expanded and composed for a channel. -/
  | bandPrepDone (o : OutId) (y c : Nat)
  /-- `FRONT_PLANE_ROW` (R198). A composer writes the front plane rows of a band and hands region signatures to the comparator. -/
  | frontPlaneRow (o : OutId) (y c : Nat) (flip : Word)
  /-- `EXPECTATION_DONE` (R246). The checking glyph renderer delivers a region expectation to the signature comparator. -/
  | expectationDone (o : OutId) (r : Nat) (flip : Word)
  /-- `SIGNATURE_COMPARE` (R247). The Cellar comparator compares a region signature with its expectation and with the previous frame. -/
  | signatureCompare (o : OutId) (r : Nat)
  /-- `SIGNATURE_DEADLINE` (R247). A signature or expectation not delivered by its deadline is counted missing and forces SS1. -/
  | signatureDeadline (o : OutId) (r : Nat)
  /-- `PREP_BUDGET_SPENT` (R165). The frame's preparation wait budget runs out, and bands are dispatched without waiting for preparation. -/
  | prepBudgetSpent (o : OutId)
  /-- `SPAN_DISPATCH` (R156). A free slice takes the pending span with the earliest pacing time, fixing the band cap at its first span. -/
  | spanDispatch (slice : Nat)
  /-- `SPAN_COMPLETE` (R155). A slice finishes marching a span and writes its ray codes to the ray row store. -/
  | spanComplete (slice : Nat)
  /-- `SPAN_WATCHDOG` (R562). A span not complete 4 t_band after dispatch is fault 0x0201, and the slice is reset and its spans redispatched. -/
  | spanWatchdog (slice : Nat)
  /-- `ROW_PACING` (R158). At a row's pacing time, once its rays are ready, the formatter processes and sends the emitter row. -/
  | rowPacing (o : OutId)
  /-- `FRAME_START` (R161). An output starts a frame once its period, blanking, preparation and TE conditions all hold. -/
  | frameStart (o : OutId)
  /-- `FORCED_START` (R162). When blanking reaches VBLANK_MAX without preparation or TE permission, the frame starts by force. -/
  | forcedStart (o : OutId)
  /-- `FRAME_END` (R273). The FRAME_END slot ends, blanking begins and the DESKEW slot follows. -/
  | frameEnd (o : OutId)
  /-- `DESKEW_SLOT_DUE` (R276). After 16,384 slots with every lane carrying a block, a DESKEW slot is sent. -/
  | deskewSlotDue (p : Nat)
  /-- `TE_PIN_CHANGE` (R259). A change of the TE pin level permits or holds a frame start. -/
  | tePinChange (o : OutId) (level : Bool)
  /-- `TE` (R260). A backchannel TE message sets the in-band TE level. -/
  | teMsg (o : OutId) (block : List Byte)
  /-- `TE_TIMEOUT` (R260). With no TE message for 1 ms, the in-band level is taken as hold. -/
  | teTimeout (o : OutId)
  /-- `TRAIN_REPORT` (R288). A backchannel TRAIN_REPORT advances link training through block lock, deskew and verify, or triggers retraining when unrequested. -/
  | trainReport (o : OutId) (block : List Byte)
  /-- `CAPS` (R284). A backchannel CAPS records the panel capabilities and completes the CAPS phase, or triggers retraining when unrequested. -/
  | capsMsg (o : OutId) (block : List Byte)
  /-- `CRC_ECHO` (R249). A backchannel CRC echo is judged against FRAME_CRC, updating ECHO_FRAME or counting ECHO_FAIL. -/
  | crcEcho (o : OutId) (block : List Byte)
  /-- `STATUS` (R287). A backchannel STATUS reports the panel state, and STATE 2 is a panel fault. -/
  | statusMsg (o : OutId) (block : List Byte)
  /-- `LINK_QUALITY` (R291). A backchannel LINK_QUALITY records eye margins and header errors, steps presets in EQUALISE, or triggers retraining. -/
  | linkQuality (o : OutId) (block : List Byte)
  /-- `BACKCHANNEL_LOSS` (R286). No correct backchannel block for 100 us is a link fault, and the output retrains. -/
  | backchannelLoss (o : OutId)
  /-- `ECHO_TIMEOUT` (R249). A frame whose echo has not arrived 2 ms after FRAME_END counts as an echo failure. -/
  | echoTimeout (o : OutId)
  /-- `PANEL_FAULT_CLEAR` (R562). After 1 s of STATUS without STATE 2, the SS3 of fault 0x0603 is lifted. -/
  | panelFaultClear (o : OutId)
  /-- `TRAIN_PHASE_TIMEOUT` (R288). A link training phase times out and the attempt ends, or after the third attempt the link goes DOWN. -/
  | trainPhaseTimeout (o : OutId)
  /-- `TRAIN_DESKEW_REPEAT` (R288). During the DESKEW phase, eight DESKEW slots are sent again every 10 us. -/
  | trainDeskewRepeat (o : OutId)
  /-- `PANEL_RST_RELEASE` (R288). After 1 ms low on attempts 2 and 3, PANEL_RST is released. -/
  | panelRstRelease (o : OutId)
  /-- `LINK_RETRY_CYCLE` (R290). Every 1 s while a link is DOWN with LINK_EN at 1, a new cycle of three training attempts begins. -/
  | linkRetryCycle (o : OutId)
  /-- `EI_EXIT_START` (R317). At FRAME_END plus VBLANK_MIN minus 1 us, idle forward lanes begin their exit sequence. -/
  | eiExitStart (o : OutId)
  /-- `EI_EXIT_DONE` (R318). A lane completes its exit sequence and carries data, and a DESKEW slot follows. -/
  | eiExitDone (lane : Nat)
  /-- `EYE_REFRESH` (R310). A receiver refreshes its eye margin at least every 10 ms. -/
  | eyeRefresh (lane : Nat) (eye : Openings) (ctle : Equaliser)
  /-- `LANE_CAL_DUE` (R319). CAL_INTERVAL expires for a lane, or its island temperature has changed by 5 C, making it eligible for calibration. -/
  | laneCalDue (lane : Nat)
  /-- `LANE_CAL_START` (R320). The chosen transmit lane leaves service for calibration in the first slot after the post-FRAME_END DESKEW slot. -/
  | laneCalStart (port : Nat)
  /-- `LANE_CAL_DONE` (R320). A lane calibration completes and the lane sends its exit sequence. -/
  | laneCalDone (lane : Nat)
  /-- `LANE_CAL_ABORT` (R320). A lane calibration not done within 150 us is aborted and the lane returns with its previous values. -/
  | laneCalAbort (lane : Nat)
  /-- `OPS_PACKET` (R126). An OPS packet is checked and ingested into the scene store and journal, or discards the open scene commit. -/
  | opsPacket (c : Nat) (bytes : List Byte) (readOk : Bool)
  /-- `STORE_PAUSE_TIMEOUT` (R129). Ingest paused for store space for 250 ms ends with cause 0x0D. -/
  | storePauseTimeout (c : Nat)
  /-- `STORE_COMPACTION` (R128). When FREE_BUFFERS is low, live tile groups are moved out of buffers less than half live, so that those buffers can be freed. -/
  | storeCompaction
  /-- `POINT_UPDATE` (R230). A KMAC engine judges one point update, writing the entry and journalling it before issuing its receipt, or refusing it. -/
  | pointUpdate (k : Nat) (engine : Nat) (lanesAgree : Bool)
  /-- `POINT_SWEEP` (R224). Every 1 s Cellar sets EXPIRED on every received point whose counted age exceeds MAX_AGE. -/
  | pointSweep
  /-- `POINT_TABLE_REWRITE_DONE` (R227). Rewriting of the point table for a newly live package ends and marked regions are drawn normally. -/
  | pointTableRewriteDone
  /-- `ADMISSION_START` (R653). 20 ms after the owner package becomes live, session admission begins. -/
  | admissionStart
  /-- `SESSION_ADMISSION` (R654). Every 125 us Threshold admits the next queued OPEN_SESSION in function round-robin order. -/
  | sessionAdmission
  /-- `AUDIT_RECORD_DONE` (R207). The encoder completes an image or gap record in the audit chain after FRAME_END. -/
  | auditRecordDone (c : Nat)
  /-- `AUDIT_SEAL` (R540). At each whole second of Cellar time while capture runs, a seal record closes the audit segment. -/
  | auditSeal
  /-- `BLIT_LIST_START` (R412). The blitter takes the next queued list, copies it to staging and checks its header. -/
  | blitListStart
  /-- `BLIT_COPY` (R420). Blitter command COPY copies source bits to the destination rectangle. -/
  | blitCopy (ue : Bool)
  /-- `BLIT_FILL` (R420). Blitter command FILL writes FILL_VALUE to every texel of the rectangle. -/
  | blitFill (ue : Bool)
  /-- `BLIT_STRETCH` (R422). Blitter command STRETCH resamples the source rectangle to the destination rectangle. -/
  | blitStretch (ue : Bool)
  /-- `BLIT_BLEND` (R420). Blitter command BLEND blends source over destination with constant alpha. -/
  | blitBlend (ue : Bool)
  /-- `BLIT_CONVERT` (R421). Blitter command CONVERT converts source texels to the destination format. -/
  | blitConvert (ue : Bool)
  /-- `CAM_FRAME_START` (R370). An FS packet advances SENSOR_FRAME, opens the sensor-frame doorway and starts the write list and frame intake. -/
  | camFrameStart (port vc : Nat)
  /-- `CAM_LONG_PACKET` (R377). A CSI-2 long packet delivers a line to the pipeline, FIFO or spill store, or truncates the frame. -/
  | camLongPacket (port : Nat) (pkt : CamPacket)
  /-- `CAM_FRAME_END` (R377). An FE packet ends a camera frame, truncating it when its line count is wrong. -/
  | camFrameEnd (port vc : Nat)
  /-- `CAM_FRAME_TIMEOUT` (R377). No FE within FRAME_TIMEOUT truncates the frame with cause 7. -/
  | camFrameTimeout (port : Nat)
  /-- `CAM_TRIG` (R366). At each trigger instant of Cellar time, CAMn_TRIG pulses high for TRIG_US. -/
  | camTrig (port : Nat)
  /-- `PIPELINE_FRAME_DONE` (R378). A pipeline finishes a frame, writes its statistics record and takes the next waiting frame. -/
  | pipelineFrameDone (pipe : Nat)
  /-- `ZONE_COPY_UPDATE` (R385). Hearth computes viewer positions and writes the zone copy of slot assignments. -/
  | zoneCopyUpdate (o : OutId)
  /-- `VIEWER_HOLD_EXPIRY` (R383). A viewer unseen for HOLD_MS loses its view occupancy. -/
  | viewerHoldExpiry (k : Nat)
  /-- `TRACKING_LOST` (R386). No tracking frame or host positions for HOLD_MS freezes the zone copy and raises an event. -/
  | trackingLost
  /-- `CAL_PHASE_END` (R395). A calibration phase reaches its frame count, and the step moves to its next phase or completes. -/
  | calPhaseEnd
  /-- `CAL_MAPS_BUILT` (R400). At the end of a pass the agent writes new maps and a bank record, then commits SOURCE or raises calibration-ready. -/
  | calMapsBuilt (o : OutId)
  /-- `CAL_RAMP_END` (R401). After 256 frames the ramp ends and the calibration configuration record is written. -/
  | calRampEnd (o : OutId)
  /-- `WAVEFORM_FRAME` (R328). Every 1/85 s the Transom engine applies the next drive codes, starts or ends updates and updates the ledger. -/
  | waveformFrame
  /-- `TRANSOM_LOAD_DONE` (R341). A zone request's image is loaded into plane P, the pending flag is set and the command completes. -/
  | transomLoadDone (z : Nat)
  /-- `BLINK_TOGGLE` (R347). BLINK_HALF_MS after the previous toggle ended, a blinking zone starts a toggle update. -/
  | blinkToggle (z : Nat)
  /-- `VCOM_CAL_DUE` (R390). VCOM_PERIOD_H hours after the last calibration, VCOM calibration is requested. -/
  | vcomCalDue
  /-- `NTC_MEASURE` (R338). Every 1 s the engine reads TR_NTC, setting or clearing NTC_FAULT. -/
  | ntcMeasure (ohms : Nat)
  /-- `RAIL_GOOD` (R332). A Transom rail reaches its good band and the next rail is enabled 0.5 ms later. -/
  | railGood (rail : Rail)
  /-- `RAIL_ENABLE_TIMEOUT` (R332). A rail not good within 2 ms of its enable is a rail fault. -/
  | railEnableTimeout (rail : Rail)
  /-- `RAIL_OUT_OF_BAND` (R334). An enabled rail out of its band for 100 us is a rail fault that aborts updates and takes the rails down. -/
  | railOutOfBand (rail : Rail)
  /-- `RAILS_IDLE_TIMEOUT` (R333). 100 ms after the last waveform frame with nothing pending, the rails are taken down. -/
  | railsIdleTimeout
  /-- `LEDGER_FLUSH_DONE` (R356). The ledger record write completes in MRAM. -/
  | ledgerFlushDone
  /-- `HELLO` (R595). A ring HELLO makes the port ACTIVE, or refuses the join on a variant or head conflict. -/
  | helloBlk (p : RPort) (block : List Byte)
  /-- `RING_TRAIN_REPORT` (R594). A ring TRAIN_REPORT advances ring port training. -/
  | ringTrainReport (p : RPort) (block : List Byte)
  /-- `RING_TRAIN_TIMEOUT` (R594). A ring training phase times out, and the port restarts after 100 ms. -/
  | ringTrainTimeout (p : RPort)
  /-- `JOIN_RETRY` (R595). Every 1 s a refused ring port retries joining. -/
  | joinRetry (p : RPort)
  /-- `PING` (R593). A PING request is answered, or a reply yields HOP_NS. -/
  | pingBlk (p : RPort) (block : List Byte)
  /-- `PING_TIMER` (R593). Every 1 ms a ring port sends a PING. -/
  | pingTimer (p : RPort)
  /-- `ACK` (R592). A ring ACK frees acknowledged packets and grants credits. -/
  | ackBlk (p : RPort) (block : List Byte)
  /-- `ACK_TIMER` (R592). Every 2 us a ring receiver sends an ACK. -/
  | ackTimer (p : RPort)
  /-- `RETX_TIMEOUT` (R592). No ACK advance within 20 us resends every unacknowledged packet. -/
  | retxTimeout (p : RPort)
  /-- `TOKEN_READY` (R599). A READY(N) token is forwarded, returned, or counted at the head. -/
  | tokenReady (p : RPort) (block : List Byte)
  /-- `TOKEN_START` (R597). A START(N) token is forwarded and schedules the local frame start. -/
  | tokenStart (p : RPort) (block : List Byte)
  /-- `HEAD_START_SEND` (R599). The head sends START(N) once READY has returned and its timing conditions hold. -/
  | headStartSend
  /-- `HEAD_START_FORCED` (R599). At FRAME_END plus max(VBLANK_MAX minus DELAY, 40 us), the head sends START(N) with FORCED set. -/
  | headStartForced
  /-- `MEMBER_FRAME_START` (R600). A member starts frame N at the scheduled instant and adopts its frame number. -/
  | memberFrameStart
  /-- `START_TIMEOUT` (R601). A member without START by FRAME_END plus VBLANK_MAX plus 10 us runs on its own timing and raises fault 0x1003. -/
  | startTimeout
  /-- `ISOLATION_TIMEOUT` (R609). A member with no path to the head for 1 s becomes isolated. -/
  | isolationTimeout
  /-- `RING_PORT_DOWN` (R608). A ring port leaves ACTIVE and the ring becomes a line. -/
  | ringPortDown (p : RPort)
  /-- `ENUM_TIMER` (R596). Every 1 s the head sends ENUM packets both ways. -/
  | enumTimer
  /-- `ENUM` (R596). An ENUM packet is appended to and forwarded, or used by the head to assign IDs and compute L_max. -/
  | enumPkt (p : RPort) (pkt : List Byte)
  /-- `SCENE` (R605). A ring SCENE packet feeds forwarded OPS bytes into a member channel's ingest. -/
  | scenePkt (p : RPort) (pkt : List Byte)
  /-- `MIRROR` (R603). A ring MIRROR packet writes mirrored shadow words, and with LAST commits them for the target frame. -/
  | mirrorPkt (p : RPort) (pkt : List Byte)
  /-- `RELAY` (R606). A ring RELAY packet carries a command that the designated controller judges and answers. -/
  | relayPkt (p : RPort) (pkt : List Byte)
  /-- `VIEWERS` (R591). A ring VIEWERS packet supplies the head's viewer positions to a member. -/
  | viewersPkt (p : RPort) (pkt : List Byte)
  /-- `CHECKPOINT_BY_VOLUME` (R568). When 256 MiB of journal entries have been written since the newest complete checkpoint, a checkpoint begins. -/
  | checkpointByVolume
  /-- `CHECKPOINT_DONE` (R568). A checkpoint completes and older journal entries are freed. -/
  | checkpointDone (ok : Bool)
  /-- `ISLAND_REPLAY_DONE` (R572). An island's restore and replay end and it rejoins at the next CLOSE. -/
  | islandReplayDone (isl : Nat)
  /-- `ISLAND_REJOIN_TIMEOUT` (R562). An island not rejoined 100 ms after its reset is fault 0x0E08, held out of service with SS3. -/
  | islandRejoinTimeout (isl : Nat)
  /-- `PLL_WINDOW` (R615). At the end of each 2^14-cycle window a PLL judges its count to declare lock or loss. -/
  | pllWindow (isl count : Nat)
  /-- `REF_EDGE_TIMEOUT` (R616). No reference edge for 4 us declares loss of lock and gates the island clock. -/
  | refEdgeTimeout (isl : Nat)
  /-- `HEARTH_HEARTBEAT_TIMEOUT` (R562). No Hearth heartbeat to Cellar for 50 ms is fault 0x0E01, an FC3 of Hearth. -/
  | hearthHeartbeatTimeout
  /-- `LOCKSTEP_MISMATCH` (R562). A lockstep comparator of Hearth, Cellar or Threshold detects a mismatch. -/
  | lockstepMismatch (u : LockUnit)
  /-- `CRYSTAL_STOP` (R562). The ring-oscillator monitor finds the 25 MHz crystal stopped, which is fault 0x0E05 with SS4. -/
  | crystalStop
  /-- `CRYSTAL_DEVIATION` (R562). The crystal deviating beyond 500 ppm from both references is fault 0x0408 with SS4. -/
  | crystalDeviation
  /-- `SENSOR_SAMPLE` (R629). Every 10 ms each temperature sensor is sampled and judged for broken, throttle and critical conditions. -/
  | sensorSample (n : Nat) (t : Int)
  /-- `GRACE_EXPIRY` (R631). At the end of the grace time a throttle step is enforced or the request lapses. -/
  | graceExpiry
  /-- `THROTTLE_STEP_TIMER` (R632). After 10 s at a step, a further step is requested or a step is removed. -/
  | throttleStepTimer
  /-- `THERMAL_CUTOFF` (R635). A sensor comparator reaches cut-off, switching off all domains but PD58, then SS4. -/
  | thermalCutoff (n : Nat)
  /-- `SENSOR_OFFSET_CAL` (R389). Every 10 s a sensor's offset is calibrated against the bandgap reference. -/
  | sensorOffsetCal (n : Nat) (done : Bool)
  /-- `DRAM_RETRAIN` (R448). A DRAM channel retrains after RETRAIN_MS or a temperature change, in blanking, or at once when forced. -/
  | dramRetrain (ch : Nat)
  /-- `DRAM_PATROL_SCRUB` (R438). The patrol scrub reads and corrects DRAM blocks over each SCRUB_H period. -/
  | dramPatrolScrub (addr : Nat) (ecc : Ecc)
  /-- `SRAM_PATROL_SCRUB` (R430). The patrol scrub reads and corrects every shared SRAM word within 10 s. -/
  | sramPatrolScrub (area : SramArea) (idx : Nat) (ecc : Ecc)
  /-- `BLOCK_LOCK_GAINED` (R307). A receiver sees 16 consecutive valid headers spaced 264 bits apart and gains block lock, which also ends the BACKCHANNEL training phase. -/
  | blockLockGained (lane : Nat)
  /-- `BLOCK_LOCK_LOST` (R307). A receiver sees 16 header errors in 64 blocks, loses block lock, counts LOCK_LOSS, searches again and logs fault 0x0701. -/
  | blockLockLost (lane : Nat)
  /-- `BACKCHANNEL_BLOCK_DISCARD` (R286). A backchannel block with a header error or failed CRC is discarded and BC_ERR increments. -/
  | backchannelBlockDiscard (o : BcBlock)
  /-- `I2C_TRANSFER_DONE` (R373). An I2C write-list entry or host transfer finishes on the bus. A NACK ends the list, increments I2C_ERR and raises a camera event, and I2C_XFER completes with its result. -/
  | i2cTransferDone (port : Nat) (ackOk : Bool) (rdata : List Byte)
  /-- `RAIL_OFF` (R333). During rail take-down, a Transom rail falls below 10 % of its nominal value, and the next rail is switched off or the engine reaches rails-off. -/
  | railOff (rail : Rail)
  /-- `RESOURCE_RELOAD_DONE` (R431). Cellar finishes reloading the glyph atlas and drawing resources from the live owner package after an uncorrectable SRAM error, which ends the not-ready marking of the affected channel. -/
  | resourceReloadDone
  /-- `STANDBY_REACHED` (R623). The shutdown into STANDBY completes, with domains off and DRAM in self-refresh, and the CPT state moves from entering STANDBY to STANDBY. -/
  | standbyReached
  /-- `VAUX_RAIL_BELOW_1V5` (R552). The internal VAUX rail falls below 1.5 V and SAFE_OUT_A and SAFE_OUT_B are released. -/
  | vauxRailBelow1v5 (mv : Nat)
  deriving DecidableEq, Repr

end Sys2Proof
end

