-- ==== Sys2Proof/Config.lean ====
section
/-! DEFINITION. What one part fixes and the manual does not: uninterpreted constants without a body, so that no
proof can rest on a value of theirs. Cryptographic primitives the manual takes from other standards stand here too. -/
namespace Sys2Proof.Config

/-- Falcon-1024 verification (R511): key, 72-byte message, signature. The manual names the scheme and gives no
arithmetic for it. -/
opaque falconVerify : List Byte → List Byte → List Byte → Bool

/-- The Falcon-1024 signature that the identity private keys make of a 72-byte message (R511, R512): keys, message. -/
opaque falconSign : List Byte → List Byte → List Byte

/-- ML-KEM-1024 decapsulation with the identity KEM key (R536): the identity private keys, ciphertext. -/
opaque mlkemDecap : List Byte → List Byte → List Byte

/-- The 256-bit device secret fused into the part of a serial (R513). -/
opaque deviceSecret : Nat → List Byte

/-- The identity private keys that Threshold generated at manufacture (R512, R521): Falcon-1024, then ML-KEM-1024. -/
opaque identityPrivate : Nat → List Byte

/-- The input and the customisation string of the KMACXOF256 output that wraps the identity private keys, which R513 does
not name. -/
opaque wrapInput : List Byte

/-- The customisation string of that output. -/
opaque wrapCustom : List Byte

/-- The n-th draw of Threshold's entropy source (R534, R447): one byte each. -/
opaque entropy : Nat → Byte

/-- A value that the manual leaves open, one for each draw. -/
opaque freeValue : Nat → Nat

/-- A Boolean that the manual leaves open, one for each draw. -/
opaque freeChoice : Nat → Bool

/-- How far, in codes from -1 to 1, this part's ray code lies from the binary32 evaluation (R150): value as mantissa and
exponent, full scale.
It is a function of the value, so equal rays have equal codes. -/
opaque raySlack : Nat × Int → Nat → Fin 3

/-- The code of an SDR ray value beyond full scale, for which R154 gives no code: the value, full scale. -/
opaque rayOver : Nat × Int → Nat → Nat

/-- The same tolerance of the composer and the blitter (R197, R421). -/
opaque texelSlack : Nat × Int → Nat → Fin 3

/-- Whether the spare hogel of a glyph or symbol that R241 centres in an odd remainder stands before it. -/
opaque centreLow : Bool

/-- The column of a breaker symbol in its cell, which R241 does not say: cell width, symbol width. -/
opaque breakerLeft : Nat → Nat → Nat

/-- What host memory holds, which the host decides: the byte at a bus address that the n-th draw reads (R134). -/
opaque hostByte : Nat → Nat → Byte

/-- The candidate coding of a tile that the encoder in IS59 tries (R133): format, components G, R, B, A. -/
opaque encodeTile : Nat → List (List Nat) → List Byte

/-- A texel of an audit image that the composer has not written, or that lies outside the image in a tile (R205, R133
give none): record, place. -/
opaque auditPad : Nat → Nat → Nat

/-- Hearth's viewer position for blobs of one badge, from the camera poses it has measured (R381): which poses, badge height,
then port, X and Y of each blob. -/
opaque badgePosition : Nat → Nat → List (Nat × Nat × Nat) → Int × Nat × Nat

/-- Which blobs Hearth takes as one badge (R381): two blobs by port, X and Y. -/
opaque sameBadge : Nat × Nat × Nat → Nat × Nat × Nat → Bool

/-- Whether a new position is that of a viewer seen before, which the manual leaves to Hearth firmware (R381, R383): the
old position and the new one. -/
opaque sameViewer : Int × Nat × Nat → Int × Nat × Nat → Bool

/-- The direction table's verdict (R383): whether the central ray of a view, from some hogel of the output, passes
within the radius (mm) of a position; the table is the one built by the n-th pass. Output, n, u, v, radius. -/
opaque viewReaches : OutId → Nat → Nat → Nat → Nat → Int × Nat × Nat → Bool

/-- Whether a position on the edge of a desk area lies inside it (R388 gives the edges only). -/
opaque deskEdge : Bool

/-- What the image pipeline makes of a pixel (R378 names its settings and no arithmetic): the settings DT, WIDTH, BLACK,
WB_R, WB_B, WB_G and the gain, the frame's lines as received, x and y; the answer is R, G, B and luma on 16 bits. -/
opaque isp : List Nat → List (List Byte) → Nat → Nat → Nat × Nat × Nat × Nat

/-- The map bytes that the calibration agent builds from a pass (R400): the draw, output, 0 ray map or 1 uniformity map. -/
opaque builtMap : Nat → OutId → Nat → List Byte

/-- The glyphs of Cellar's ROM font message DISPLAY NOT VALID (R352): the level of a pixel of a panel of a given
size: width, height, pixel. -/
opaque romMessage : Nat → Nat → Nat → Nat

/-- The best VCOM that a calibration measures (R391). -/
opaque measuredVcom : Nat → Nat

/-- The digests of the boot ROM and of the Cellar ROM (R533). -/
opaque romDigest : Nat → List Byte

/-- How many bytes a journal entry of a kind takes (R565 gives its contents and no size): 0 point, 1 scene, 2 settings,
3 zone copy, 4 session, 5 checkpoint. -/
opaque journalBytes : Nat → Nat

/-- Traffic of a DRAM requester over the last 1 ms in 1/16 GB/s (R455), at a count of crystal cycles: the model moves
no traffic in time. -/
opaque bandwidth : Nat → Nat → Nat

/-- The neighbour refreshes that chance has brought by an instant, in crystal cycles (R447). -/
opaque neighbourRefreshes : Nat → Nat

/-- A place for the vendor-specific capability of R458 in configuration space, which the manual does not say. -/
opaque vsecPlace : Nat

/-- A place for the MSI-X capability in configuration space (R457). -/
opaque msixPlace : Nat

/-- A place for the PCI Express capability in configuration space (R457). -/
opaque pciePlace : Nat

/-- A place for the SR-IOV capability in configuration space (R457). -/
opaque sriovPlace : Nat

/-- Any other word of a function's configuration space, laid out by the PCIe specification. -/
opaque configSpace : Nat → Nat → Nat

end Sys2Proof.Config
end

