-- ==== Sys2Proof/Machine/Bytes.lean ====
section
/-! DEFINITION. Little-endian bytes, bit fields and modular numbers. -/
namespace Sys2Proof.Machine

/-! ### Bytes and fields (R8, 00 "Numbers and units") -/

/-- The number that little-endian bytes spell (R8). -/
def leNat : List Byte → Nat
  | [] => 0
  | b :: bs => b.toNat + 256 * leNat bs

/-- The low `n` bytes of a number, lowest first (R8). -/
def leBytes : Nat → Nat → List Byte
  | 0, _ => []
  | n + 1, w => BitVec.ofNat 8 w :: leBytes n (w / 256)

/-- `n` zero bytes. -/
def zeros (n : Nat) : List Byte := List.replicate n 0

/-- `len` bytes from an offset; bytes beyond the end read zero. -/
def bytesAt (bs : List Byte) (off len : Nat) : List Byte :=
  let t := (bs.drop off).take len
  t ++ zeros (len - t.length)

/-- The little-endian number of `len` bytes at an offset. -/
def nAt (bs : List Byte) (off len : Nat) : Nat := leNat (bytesAt bs off len)

/-- A list cut or padded with zeros to `n` bytes. -/
def fitTo (n : Nat) (bs : List Byte) : List Byte := bytesAt bs 0 n

/-- Bits `lo` to `lo + len - 1` of a number. -/
def fld (w lo len : Nat) : Nat := (w / 2 ^ lo) % 2 ^ len

/-- One bit of a number. -/
def bitOf (w n : Nat) : Bool := w / 2 ^ n % 2 == 1

/-- A number whose field is replaced. -/
def setFld (w lo len v : Nat) : Nat := w - fld w lo len * 2 ^ lo + v % 2 ^ len * 2 ^ lo

/-- 1 or 0. -/
def b2n (b : Bool) : Nat := if b then 1 else 0

/-- An n-bit two's complement number. -/
def sgn (n w : Nat) : Int := if w % 2 ^ n < 2 ^ (n - 1) then (w % 2 ^ n : Nat) else ((w % 2 ^ n : Nat) : Int) - 2 ^ n

/-- An integer in n-bit two's complement. -/
def unsgn (n : Nat) (i : Int) : Nat := (i % (2 ^ n : Nat)).toNat

/-- A counter of n bits that saturates. -/
def sat (n v : Nat) : Nat := min v (2 ^ n - 1)

/-- Numbers modulo 2^32 (R35). -/
def w32 (n : Nat) : Nat := n % 0x100000000

/-- R35: target n lies ahead of frame m. -/
def ahead (n m : Nat) : Bool :=
  let d := (n % 0x100000000 + 0x100000000 - m % 0x100000000) % 0x100000000
  1 ≤ d && d < 0x80000000

/-- Rounded-up division. -/
def cdiv (a b : Nat) : Nat := (a + b - 1) / b

end Sys2Proof.Machine
end

