-- ==== Sys2Proof/Machine/Keccak.lean ====
section
/-! DEFINITION. SHAKE256 and KMAC256 as FIPS 202 and SP 800-185 give them (R215, R481, R533, R538, R541 name them),
and the two cyclic redundancy checks of the manual (R89, R222). -/
namespace Sys2Proof.Machine

/-! ### Keccak-f[1600] -/

/-- A 64-bit lane. -/
abbrev KLane := BitVec 64

/-- Lane (x, y) of a state of 25 lanes. -/
def kLane (a : List KLane) (x y : Nat) : KLane := a.getD (x % 5 + 5 * (y % 5)) 0

/-- The rotation of lane (x, y), by index x + 5y. -/
def kRot : List Nat :=
  [0, 1, 62, 28, 27, 36, 44, 6, 55, 20, 3, 10, 43, 25, 39, 41, 45, 15, 21, 8, 18, 2, 61, 56, 14]

/-- The round constants. -/
def kRound : List KLane :=
  [0x1, 0x8082, 0x800000000000808A, 0x8000000080008000, 0x808B, 0x80000001, 0x8000000080008081, 0x8000000000008009,
   0x8A, 0x88, 0x80008009, 0x8000000A, 0x8000808B, 0x800000000000008B, 0x8000000000008089, 0x8000000000008003,
   0x8000000000008002, 0x8000000000000080, 0x800A, 0x800000008000000A, 0x8000000080008081, 0x8000000000008080,
   0x80000001, 0x8000000080008008]

/-- The column parities. -/
def kPar (a : List KLane) (x : Nat) : KLane :=
  kLane a x 0 ^^^ kLane a x 1 ^^^ kLane a x 2 ^^^ kLane a x 3 ^^^ kLane a x 4

/-- θ, by index. -/
def kTheta (a : List KLane) : List KLane :=
  let c := (List.range 5).map (kPar a)
  (List.range 25).map fun i =>
    a.getD i 0 ^^^ c.getD ((i + 4) % 5) 0 ^^^ (c.getD ((i + 1) % 5) 0).rotateLeft 1

/-- ρ and π: lane (y, 2x + 3y) takes the rotated lane (x, y). -/
def kRhoPi (a : List KLane) : List KLane :=
  (List.range 25).map fun i =>
    let y := i % 5
    let x := (i / 5 + 5 * 3 - 3 * y % 5) * 3 % 5
    (kLane a x y).rotateLeft (kRot.getD (x + 5 * y) 0)

/-- χ. -/
def kChi (a : List KLane) : List KLane :=
  (List.range 25).map fun i =>
    let x := i % 5
    let y := i / 5
    kLane a x y ^^^ (~~~ kLane a (x + 1) y &&& kLane a (x + 2) y)

/-- One round. -/
def kStep (a : List KLane) (rc : KLane) : List KLane :=
  match kChi (kRhoPi (kTheta a)) with
  | [] => []
  | l :: ls => (l ^^^ rc) :: ls

/-- The permutation. -/
def kPerm (a : List KLane) : List KLane := kRound.foldl kStep a

/-! ### Sponge of rate 136 -/

/-- The 17 lanes of a block of 136 bytes. -/
def kBlock (bs : List Byte) : List KLane :=
  (List.range 17).map fun i => BitVec.ofNat 64 (nAt bs (8 * i) 8)

/-- Takes blocks in, one per unit of fuel. -/
def kAbsorb : Nat → List KLane → List Byte → List KLane
  | 0, a, _ => a
  | n + 1, a, bs =>
    let b := kBlock bs ++ List.replicate 8 0
    kAbsorb n (kPerm (List.zipWith (· ^^^ ·) a b)) (bs.drop 136)

/-- The rate part of a state as bytes. -/
def kOut (a : List KLane) : List Byte := (a.take 17).flatMap fun l => leBytes 8 l.toNat

/-- Gives blocks out. -/
def kSqueeze : Nat → List KLane → List Byte
  | 0, _ => []
  | n + 1, a => kOut a ++ kSqueeze n (kPerm a)

/-- pad10*1 with its domain byte. -/
def kPad (suffix : Nat) (bs : List Byte) : List Byte :=
  let r := 136 - bs.length % 136
  if r = 1 then bs ++ [BitVec.ofNat 8 (suffix + 128)]
  else bs ++ [BitVec.ofNat 8 suffix] ++ zeros (r - 2) ++ [0x80]

/-- The sponge: `n` output bytes. -/
def sponge (suffix : Nat) (bs : List Byte) (n : Nat) : List Byte :=
  let p := kPad suffix bs
  (kSqueeze (cdiv n 136) (kAbsorb (p.length / 136) (List.replicate 25 0) p)).take n

/-- SHAKE256 (FIPS 202). -/
def shake256 (bs : List Byte) (n : Nat) : List Byte := sponge 0x1F bs n

/-! ### SP 800-185 -/

/-- How many bytes a number needs, at least one. -/
def byteCount (n : Nat) : Nat := max 1 (cdiv (Nat.log2 n + 1) 8)

/-- The big-endian bytes of a number. -/
def beBytes (len n : Nat) : List Byte := (leBytes len n).reverse

/-- left_encode. -/
def leftEncode (n : Nat) : List Byte := BitVec.ofNat 8 (byteCount n) :: beBytes (byteCount n) n

/-- right_encode. -/
def rightEncode (n : Nat) : List Byte := beBytes (byteCount n) n ++ [BitVec.ofNat 8 (byteCount n)]

/-- encode_string. -/
def encodeString (bs : List Byte) : List Byte := leftEncode (8 * bs.length) ++ bs

/-- bytepad to 136. -/
def bytePad (bs : List Byte) : List Byte :=
  let t := leftEncode 136 ++ bs
  t ++ zeros ((136 - t.length % 136) % 136)

/-- KMAC256 of key, message, customisation string, output bytes. -/
def kmac256 (key msg custom : List Byte) (n : Nat) : List Byte :=
  sponge 0x04
    (bytePad (encodeString [0x4B, 0x4D, 0x41, 0x43] ++ encodeString custom) ++ bytePad (encodeString key) ++ msg
      ++ rightEncode (8 * n)) n

/-- KMACXOF256 of key, message, customisation string, output bytes: the output length is not encoded. -/
def kmacXof256 (key msg custom : List Byte) (n : Nat) : List Byte :=
  sponge 0x04
    (bytePad (encodeString [0x4B, 0x4D, 0x41, 0x43] ++ encodeString custom) ++ bytePad (encodeString key) ++ msg
      ++ rightEncode 0) n

/-! ### Cyclic redundancy checks -/

/-- One bit into a reflected CRC-32 register (R89: the IEEE 802.3 polynomial). -/
def crc32Bit (c : Word) (b : Bool) : Word :=
  if c.getLsbD 0 ^^ b then (c >>> 1) ^^^ 0xEDB88320 else c >>> 1

/-- The bits of a byte, least significant first. -/
def byteBits (b : Byte) : List Bool := (List.range 8).map fun i => b.getLsbD i

/-- A CRC-32 register after more bits. -/
def crc32Bits (c : Word) (bits : List Bool) : Word := bits.foldl crc32Bit c

/-- A CRC-32 register after more bytes. -/
def crc32Bytes (c : Word) (bs : List Byte) : Word := bs.foldl (fun c b => crc32Bits c (byteBits b)) c

/-- CRC-32 (R89): initial value and final XOR of all ones. -/
def crc32 (bs : List Byte) : Word := ~~~ crc32Bytes 0xFFFFFFFF bs

/-- One bit into the CRC-16 of R222 (polynomial 0x1021, not reflected). -/
def crc16Bit (c : BitVec 16) (b : Bool) : BitVec 16 :=
  if c.msb ^^ b then (c <<< 1) ^^^ 0x1021 else c <<< 1

/-- CRC-16 (R222): initial value 0xFFFF, most significant bit of each byte first, no final XOR. -/
def crc16 (bs : List Byte) : Nat :=
  (bs.foldl (fun c b => (byteBits b).reverse.foldl crc16Bit c) (0xFFFF : BitVec 16)).toNat

end Sys2Proof.Machine
end

