-- ==== Sys2Proof/Machine/Mram.lean ====
section
/-! DEFINITION. MRAM records (R404 to R406), the key ladder, and the seals of Threshold's records (R513). -/
namespace Sys2Proof.Machine

/-! ### The format (R404, R405) -/

/-- One MRAM record copy (R404): SEQ, TIME, what its payload says, and the seal that follows CHECK where Threshold wrote
it (R513), empty otherwise. -/
structure Rec (α : Type) where
  seq  : Nat
  time : Nat
  val  : α
  mac  : List Byte
  deriving DecidableEq, Repr

/-- An alternating record: copies A and B, `none` where a copy is not valid (R406). -/
structure AB (α : Type) where
  a : Option (Rec α)
  b : Option (Rec α)
  deriving DecidableEq, Repr

/-- The 32 bytes before the payload (R404). -/
def recHeader (type seq time len : Nat) : List Byte :=
  leBytes 4 type ++ leBytes 2 1 ++ zeros 2 ++ leBytes 4 seq ++ leBytes 4 len ++ leBytes 8 time ++ zeros 8

/-- A record's bytes with its CHECK (R404). -/
def recBytes (type seq time : Nat) (payload : List Byte) : List Byte :=
  let body := recHeader type seq time payload.length ++ payload
  body ++ shake256 body 8

/-- Whether bytes hold a valid record of an area, CHECK included (R405): the seal apart. -/
def recValid (type slot : Nat) (bs : List Byte) : Bool :=
  let n := nAt bs 0xC 4
  nAt bs 0 4 == type && nAt bs 4 2 == 1 && nAt bs 6 2 == 0 && nAt bs 0x18 8 == 0 && n + 0x28 ≤ slot
  && n + 0x28 ≤ bs.length && bytesAt bs (0x20 + n) 8 == shake256 (bs.take (0x20 + n)) 8

/-! ### Copies A and B (R406) -/

/-- Copy A is newer than copy B (R406). -/
def recNewer {α : Type} (a b : Rec α) : Bool :=
  let d := (a.seq + 0x100000000 - b.seq) % 0x100000000
  1 ≤ d && d < 0x80000000

/-- The newest valid copy (R406). -/
def AB.newest {α : Type} (r : AB α) : Option (Rec α) :=
  match r.a, r.b with
  | some a, some b => if recNewer a b then some a else some b
  | some a, none => some a
  | none, b => b

/-- A write goes to the copy that does not hold the newest valid record, with the next SEQ, or SEQ 1 (R406); `mk` makes the
copy of its SEQ. -/
def AB.put {α : Type} (r : AB α) (mk : Nat → Rec α) : AB α :=
  match r.a, r.b with
  | none, none => { r with a := some (mk 1) }
  | some a, none => { r with b := some (mk ((a.seq + 1) % 0x100000000)) }
  | none, some b => { r with a := some (mk ((b.seq + 1) % 0x100000000)) }
  | some a, some b =>
    if recNewer a b then { r with b := some (mk ((a.seq + 1) % 0x100000000)) }
    else { r with a := some (mk ((b.seq + 1) % 0x100000000)) }

/-- A write of a record that bears no seal. -/
def AB.write {α : Type} (r : AB α) (time : Nat) (v : α) : AB α :=
  r.put fun q => { seq := q, time := time, val := v, mac := [] }

/-- While a copy is being written it is not valid (R405): the copy that does not hold the newest record. -/
def AB.spare {α : Type} (r : AB α) : AB α :=
  match r.a, r.b with
  | some a, some b => if recNewer a b then { r with b := none } else { r with a := none }
  | _, _ => r

/-! ### The key ladder and Threshold's seals (R513) -/

/-- The customisation strings "SEAL", "WRAP" and "REC". -/
def strSeal : List Byte := [0x53, 0x45, 0x41, 0x4C]
/-- "WRAP". -/
def strWrap : List Byte := [0x57, 0x52, 0x41, 0x50]
/-- "REC". -/
def strRec : List Byte := [0x52, 0x45, 0x43]

/-- The sealing key of a part: KMAC256 of its device secret with an empty input. -/
def sealingKey (serial : Nat) : List Byte := kmac256 (Config.deviceSecret serial) [] strSeal 32

/-- The wrap key of a part. -/
def wrapKey (serial : Nat) : List Byte := kmac256 (Config.deviceSecret serial) [] strWrap 32

/-- Bytes XORed with KMACXOF256 output under the wrap key: this both wraps and unwraps. R513 names no input and no
customisation string of that output (free values). -/
def wrapXor (serial : Nat) (bs : List Byte) : List Byte :=
  List.zipWith (· ^^^ ·) bs (kmacXof256 (wrapKey serial) Config.wrapInput Config.wrapCustom bs.length)

/-- The seal of a whole record. -/
def recSeal (serial : Nat) (bs : List Byte) : List Byte := kmac256 (sealingKey serial) bs strRec 16

/-- A record as Threshold writes it: sealed. -/
def sealRec {α : Type} (serial type : Nat) (pay : α → List Byte) (seq time : Nat) (v : α) : Rec α :=
  { seq := seq, time := time, val := v, mac := recSeal serial (recBytes type seq time (pay v)) }

/-- Whether a copy's seal is that of its bytes. -/
def Rec.sealOk {α : Type} (serial type : Nat) (pay : α → List Byte) (r : Rec α) : Bool :=
  r.mac == recSeal serial (recBytes type r.seq r.time (pay r.val))

/-- The copies whose seals hold: a copy whose seal fails is not valid. -/
def AB.sound {α : Type} (serial type : Nat) (pay : α → List Byte) (r : AB α) : AB α :=
  { a := r.a.filter (Rec.sealOk serial type pay), b := r.b.filter (Rec.sealOk serial type pay) }

/-- Threshold's write of an alternating record (R406, R513). -/
def AB.writeSealed {α : Type} (serial type : Nat) (pay : α → List Byte) (r : AB α) (time : Nat) (v : α) : AB α :=
  (r.sound serial type pay).put fun q => sealRec serial type pay q time v

end Sys2Proof.Machine
end

