-- ==== Sys2Proof/Machine/State.lean ====
section
/-! DEFINITION. The state of the DXN-7128 as plain data: every register, counter, queue, ring, pin and store
the manual gives the part, the two reason types of a step, and the state right after reset. -/
namespace Sys2Proof.Machine

/-- No command of this block ends in a fault: every row of the table has an effect, or leaves the state as it is
where its rule's condition does not hold (safe: nothing is claimed to stop). -/
inductive Fault where
  deriving DecidableEq, Repr

/-- Why a step has no meaning. -/
inductive Refusal where
  /-- Raised by `exec` alone, for a row that has no meaning yet (safe: the machine stops). -/
  | notModelled (mnemonic : String)
  deriving DecidableEq, Repr

/-- The two ordering variants (R2). -/
inductive Variant where
  | E2
  | E1
  deriving DecidableEq, Repr

/-- The 17 block windows, in the order of R459. -/
inductive Blk where
  | sys | scn | syn | cmp | tvr | sco | spl | lne | trm | cam | cal | blt | mem | sec | flt | rng | cpt
  deriving DecidableEq, Repr

/-- The words of a register set that differ from their reset values, by rising offset. -/
abbrev RegMap := List (Nat × Word)

/-- A sparse table: entries by rising key, none equal to the table's default. -/
abbrev Table (α : Type) := List (Nat × α)

/-! ### Doorways (01) -/

/-- What a commit aims at (R28). -/
inductive Target where
  | next
  | frame (o : OutId) (n : Nat)
  | sensor (n : Nat)
  deriving DecidableEq, Repr

/-- One pending copy of one block (R33): the commit that froze it, who issued it, the frozen words, what it aims at,
the output it named (UNIT), the outputs it has still to reach, the frame at whose CLOSE it was fixed on each output,
whether each output may take it yet (R44), whether it comes late there (R683), and the islands that a withheld copy
waits for (R42). -/
structure Pend where
  cid    : Nat
  issuer : Nat
  blk    : Blk
  port   : Nat
  target : Target
  due    : Nat
  words  : RegMap
  needA  : Bool
  needB  : Bool
  fixA   : Option Nat
  fixB   : Option Nat
  openA  : Bool
  openB  : Bool
  lateA  : Bool
  lateB  : Bool
  unit   : Nat
  waits  : List Nat
  deriving DecidableEq, Repr

/-- The live set of one block for one output (or camera port) in one landing (R11, R43), with its commit and the frame at
which that took effect (R26). -/
structure LiveSet where
  blk   : Blk
  out   : OutId
  port  : Nat
  cid   : Nat
  frame : Nat
  words : RegMap
  deriving DecidableEq, Repr

/-- One landing (R17, R26, R682). -/
structure Landing where
  present     : Bool
  powered     : Bool
  pllLocked   : Bool
  inProtocol  : Bool
  sets        : List LiveSet
  liveCommitA : Nat
  liveCommitB : Nat
  liveFrame   : Nat
  swapA       : Nat
  swapB       : Nat
  lockWins    : Nat
  lossCount   : Nat
  gated       : Bool
  lfsr        : Word
  deriving DecidableEq, Repr

/-- The doorway sequencer's record for one output (R37 to R39, R42): the latest CLOSE and SWAP issued, whether that
doorway is one both outputs share (R45, R254), and the islands reported late at it. -/
structure Door where
  closeN   : Nat
  closeClk : Nat
  closing  : Bool
  swapN    : Nat
  joint    : Bool
  late     : List Nat
  deriving DecidableEq, Repr

/-! ### Scenes (03) -/

/-- The header fields and coded bytes of one stored tile (R103), with the dynamic tables of its group (R101), the store
buffers that hold it and its tables, and its offset in the first of them (R128). -/
structure Tile where
  kind   : Nat
  relief : Int
  flags  : Nat
  sel    : List Nat
  clen   : List Nat
  body   : List Byte
  dyn    : List (List Nat)
  bufs   : List Nat
  off    : Nat
  deriving DecidableEq, Repr

/-- A defined plane (R95) and its tiles by linear index: those that are not empty, and empty ones that carry a relief
value (R97, R103). -/
structure Plane where
  num    : Nat
  fmt    : Nat
  filter : Bool
  rscale : Nat
  width  : Nat
  height : Nat
  disp   : Int
  tiles  : Table Tile
  deriving DecidableEq, Repr

/-- What an accepted packet does to a scene (R94, R95, R99, R100). -/
inductive SceneOp where
  | header (sceneId : Nat) (replace : Bool)
  | define (p : Plane)
  | clear (plane : Nat) (undefine : Bool)
  | tiles (plane fmt tx ty : Nat) (ts : List Tile)
  | mark
  | auth
  deriving DecidableEq, Repr

/-- An accepted packet of a scene commit: its sequence number, its effect, its buffers. -/
structure ScenePkt where
  seq  : Nat
  op   : SceneOp
  bufs : List Nat
  deriving DecidableEq, Repr

/-- A scene commit that is ingested and not yet live everywhere (R115 to R118). -/
structure SceneCommit where
  pkts   : List ScenePkt
  markSeq : Nat
  markId : Nat
  target : Target
  needA  : Bool
  needB  : Bool
  fixA   : Option Nat
  fixB   : Option Nat
  openA  : Bool
  openB  : Bool
  judged : Bool
  answered : Bool
  waits  : List Nat
  deriving DecidableEq, Repr

/-- A channel's stream as its latest completed SUBMIT_OPS left it, which a replay of Hearth returns to (R566, R575). -/
structure Answered where
  headerSeen : Bool
  lastSeq    : Nat
  skipping   : Bool
  authSkip   : Bool
  orphan     : Bool
  openPkts   : List ScenePkt
  covered    : Option (List Byte)
  session    : Nat
  deriving DecidableEq, Repr

/-- The SUBMIT_OPS in progress on a channel (R127, R482). -/
structure Submission where
  func      : Nat
  cmdId     : Nat
  respLen   : Nat
  respOk    : Bool
  total     : Nat
  pos       : Nat
  accepted  : Nat
  discarded : Nat
  cause     : Nat
  session   : Nat
  highSeq   : Nat
  hasTag    : Bool
  allOk     : Bool
  inOpen    : Nat
  deriving DecidableEq, Repr

/-- One content channel's stream, store chain and scenes (R91, R93, R115 to R137). On a ring's member (R605) `rxPos` is
the stream offset of the next byte, `rxBytes` a packet that is not whole yet, and `rxQueue` the whole ones that wait,
each with its MARK_BASE (an empty one is a DISCARD_OPEN); on the head `fwdPos` is the stream's length so far. -/
structure Channel where
  enabled   : Bool
  headerSeen : Bool
  lastSeq   : Nat
  skipping  : Bool
  authSkip  : Bool
  orphan    : Bool
  openPkts  : List ScenePkt
  covered   : Option (List Byte)
  session   : Nat
  pending   : List SceneCommit
  sceneA    : List Plane
  sceneB    : List Plane
  sceneIdA  : Nat
  sceneIdB  : Nat
  discarded : Nat
  pClamp    : Nat
  subs      : List Submission
  ans       : Answered
  paused    : Option (Nat × Nat × Nat)
  curBuf    : Option Nat
  curOff    : Nat
  fwdPos    : Nat
  rxPos     : Nat
  rxBytes   : List Byte
  rxQueue   : List (Nat × List Byte)
  deriving DecidableEq, Repr

/-! ### Bands, slices and frames (04, 05, 07) -/

/-- The rows of one plane that are expanded for the frame in preparation; plane 64 is the front plane (R139, R140). -/
structure CacheRows where
  frame : Nat
  chan  : Nat
  plane : Nat
  lo    : Int
  hi    : Int
  deriving DecidableEq, Repr

/-- One composed front plane row of a channel (R196, R198): texel codes as raw words, and its texel-layers (R199). -/
structure FrontRow where
  frame  : Nat
  chan   : Nat
  row    : Nat
  texels : List Nat
  load   : Nat
  deriving DecidableEq, Repr

/-- One band of one frame: the channels whose rows are expanded, whose front plane rows are composed and whose preparation
is complete, its cap and what is still to be dispatched (R138 to R142, R159, R165, R166). -/
structure Band where
  frame    : Nat
  y        : Nat
  expanded : List Nat
  prepDone : List Nat
  composed : List Nat
  cap      : Option Nat
  late     : List Nat
  spans    : List (Nat × Nat)
  undone   : Nat
  deriving DecidableEq, Repr

/-- A span on a slice (R156): output, frame, emitter row, first hogel, hogels, cap, dispatch instant. -/
structure Span where
  out   : OutId
  frame : Nat
  row   : Nat
  first : Nat
  len   : Nat
  cap   : Nat
  late  : List Nat
  since : Nat
  deriving DecidableEq, Repr

/-- A row of the ray row store (R156): its finished spans, each by its first hogel with its ray codes and views. -/
structure RowBuf where
  frame : Nat
  row   : Nat
  spans : List (Nat × List Nat)
  left  : Nat
  deriving DecidableEq, Repr

/-- A point table entry (R221): the owner's fields, then the runtime fields. -/
structure Point where
  id       : Nat
  session  : Nat
  style    : Nat
  cell     : Nat
  region   : Nat
  maxAge   : Nat
  limitLo  : Int
  limitHi  : Int
  received : Bool
  expired  : Bool
  srcInv   : Bool
  check    : Nat
  value    : Int
  birth    : Nat
  deriving DecidableEq, Repr

/-- A point as the renderer read it for one region (R234): the entry's number, the entry, and the state it was found in. -/
structure SnapPoint where
  index   : Nat
  point   : Point
  state   : Nat
  deriving DecidableEq, Repr

/-- What one region's drawing in one frame rests on, and its signatures (R202, R234, R246, R247). -/
structure RegionFrame where
  region : Nat
  frame  : Nat
  tEval  : Nat
  snap   : List SnapPoint
  sig    : Option Word
  expect : Option Word
  judged : Bool
  deriving DecidableEq, Repr

/-- Counters of a frame, in progress or the next one's, that become the last completed frame's at FRAME_END (R149, R181, R251). -/
structure FrameCounts where
  raysShed  : Nat
  depthOvf  : Nat
  bandsShed : Nat
  bandsRep  : Nat
  samples   : Nat
  stale     : Nat
  dash      : Nat
  notReady  : Bool
  reach     : Bool
  regionLate : Bool
  decoded   : Nat
  clampCh   : List Nat
  compLoad  : List (Nat × Nat)
  deriving DecidableEq, Repr

/-- The settings of one output, or of the whole panel in locked operation. -/
structure ModeCfg where
  hx    : Nat
  hy    : Nat
  w     : Nat
  h     : Nat
  div   : Nat
  ray24 : Bool
  rate  : Nat
  slots : Nat
  scale : Nat
  pmax  : Nat
  vmin  : Nat
  vmax  : Nat
  deriving DecidableEq, Repr

/-- What one frame of an output runs under (R41, R67, R87, R119): its mode with the live view division, its SYN set,
the effective slot codes and the slots that calibration lights with the phase of its pattern, each channel's scene and front plane
format, HDR_CH, the preparation budget, LOCKED, and the maps in use with the ramp between them (R399 to R401): w, or 256
where no ramp runs, the ray map bases, and the uniformity map bases and enables of formatters A and B; the mixed
replication groups (R84); and in a ring the wall hogel at which the tile begins (R586). -/
structure FrameInfo where
  frame  : Nat
  mode   : ModeCfg
  syn    : RegMap
  slots  : Table Nat
  lit    : List Nat
  pat    : Nat
  scenes : List (List Plane)
  ids    : List Nat
  fps    : List Nat
  hdr    : Nat
  budget : Nat
  locked : Bool
  ramp   : Nat
  rayOn  : Bool
  rayNew : Nat
  rayOld : Nat
  unifOn : List Bool
  unifNew : List Nat
  unifOld : List Nat
  source : Nat
  step   : Nat
  confl  : Nat
  ring   : Bool
  wx     : Nat
  wy     : Nat
  deriving DecidableEq, Repr

/-- One output: its timing generator, bands, row store, formatter and trusted-value status. `zone` is the live zone
copy; `frames` is what each frame still in work runs under, and `slots` and `lit` the slot table of the formatter's
frame (R67, R69). `elig` counts, for each slot, the frames in a row in which it was calibration-eligible guard (R394);
`invarRef` holds the first code seen of each hogel and channel of a safety region in the row being sent (R177). `teOpen` is the
instant at which the tearing-effect indication last began to permit a start and `band0At` that at which band 0 of a frame
was last prepared (R261); `echoSeen` is the latest frame number echoed (R249); `budget` is what is left of PREP_BUDGET, in crystal cycles (R165); `linkFree` is the instant at which the latest row sent leaves the
link, in eighths of a nanosecond (R158, R264), and `rowLag` the lag with which that row began, in crystal cycles. -/
structure Output where
  frameNum  : Nat
  inBlank   : Bool
  fsClk     : Nat
  feClk     : Nat
  blankUs   : Nat
  forced    : Bool
  held      : Bool
  tePin     : Bool
  teMsg     : Bool
  teAt      : Option Nat
  teOpen    : Nat
  band0At   : Nat
  teHeld    : Nat
  bands     : List Band
  prepFrame : Nat
  prepY     : Nat
  lastCap   : Nat
  budget    : Nat
  budgetOut : Bool
  cache     : List CacheRows
  front     : List FrontRow
  rows      : List RowBuf
  sendRow   : Nat
  crc       : Word
  crcBits   : List Bool
  blocks    : Nat
  linkFree  : Nat
  rowLag    : Nat
  frameCrc  : Option (Nat × Word)
  cur       : FrameCounts
  nxt       : FrameCounts
  last      : FrameCounts
  activeUs  : Nat
  periodUs  : Nat
  forcedStarts : Nat
  notReadyFr : Nat
  reachClamp : Nat
  slotConfl : Nat
  invarFail : Nat
  unifErr   : Nat
  unifLate  : Nat
  unifSkip  : List Nat
  invarBad  : List (Nat × Nat × Nat)
  regions   : List RegionFrame
  prevSigs  : List (Nat × Nat × Word)
  regionLate : Nat
  checkErr  : Nat
  sigMis    : Nat
  sigFreeze : Nat
  sigMissing : Nat
  echoFail  : Nat
  echoFrame : Nat
  echoBad   : Nat
  echoDue   : Option Nat
  echoSeen  : Option Nat
  frames    : List FrameInfo
  fresh     : Option Nat
  elig      : Table Nat
  invarRef  : List (Nat × Nat × Nat × Nat)
  zone      : Table Nat
  slots     : Table Nat
  lit       : List Nat
  verified  : Bool
  knownV    : Bool
  frameOk   : Bool
  endOk     : Bool
  activeAt  : Nat
  firstRun  : Bool
  deriving DecidableEq, Repr

/-! ### Panel links and lanes (07, 08) -/

/-- The link states of R301, in the order of its codes. -/
inductive LinkState where
  | disabled | reset | backchannel | blockLock | equalise | deskew | caps | verify | active | down
  deriving DecidableEq, Repr

/-- One panel link (R284, R288 to R292, R301). `bcFixed` counts backchannel headers corrected (R265); `startBlk`, `endBlk` and
`reqBlk` are the payloads of the latest FRAME_START, FRAME_END and REQUEST blocks sent since it began to train (R273, R277). -/
structure Link where
  st        : LinkState
  attempt   : Nat
  bcLock    : Bool
  phaseAt   : Nat
  downAt    : Nat
  panelRst  : Bool
  rstAt     : Option Nat
  psafe     : Bool
  caps      : Option (List Byte)
  capsReq   : Bool
  trainings : Nat
  drops     : Nat
  corrected : Nat
  hdrErr    : Nat
  eye       : List Nat
  bcErr     : Nat
  bcFixed   : Nat
  panelFaults : Nat
  panelFaultAt : Option Nat
  echoOk    : Bool
  deskews   : Nat
  verifyCrc : Word
  bcAt      : Nat
  trainAt   : Nat
  trainN    : Nat
  statusSt  : Nat
  startBlk  : List Byte
  endBlk    : List Byte
  reqBlk    : List Byte
  deriving DecidableEq, Repr

/-- One serial lane (R302, R325). `dfe` and `samp` are its receiver's tap weights, in hundredths of the main cursor, and
sampling phase, in 64ths of a unit interval (R312, R313; the steps are the model's, log entry 111). `cid` and `words` are the
LNE set it works under, and `next` one that came with its calibration and applies from its return (R323). -/
structure Lane where
  eye     : Nat
  preset  : Nat
  tried   : Nat
  ctle    : Nat
  dfe     : List Int
  samp    : Int
  st      : Nat
  calCount : Nat
  calAbort : Nat
  lockLoss : Nat
  lock    : Bool
  calAt   : Nat
  calTemp : Int
  calBegan : Nat
  due     : Bool
  recal   : Bool
  exiting : Bool
  cid     : Nat
  words   : RegMap
  next    : Option RegMap
  deriving DecidableEq, Repr

/-! ### Trusted values (06) and the owner package (16) -/

/-- One cell of a region (R238). -/
structure Cell where
  cx : Nat
  cy : Nat
  cw : Nat
  ch : Nat
  deriving DecidableEq, Repr

/-- One region record (R238). -/
structure Region where
  chan   : Nat
  out    : OutId
  x      : Nat
  y      : Nat
  w      : Nat
  h      : Nat
  cols   : List Nat
  cells  : List Cell
  deriving DecidableEq, Repr

/-- A glyph or symbol state: its code, size, advance and mask rows (R239, R528). -/
structure Glyph where
  code : Nat
  gw   : Nat
  gh   : Nat
  adv  : Nat
  mask : List Nat
  deriving DecidableEq, Repr

/-- An entry of the SOURCES section (R528). -/
structure SourceKey where
  key   : List Byte
  first : Nat
  last  : Nat
  chans : Nat
  deriving DecidableEq, Repr

/-- The rights of one function (R477, R528). -/
structure Rights where
  host   : Bool
  expert : Bool
  mask   : Nat
  deriving DecidableEq, Repr

/-- One MESSAGES entry: the image of plane M for SS3 or SS4 (R352, R528). -/
structure Message where
  st    : Nat
  w     : Nat
  h     : Nat
  image : List Byte
  deriving DecidableEq, Repr

/-- An owner package, read from its sections (R527, R528). `sigOk` and `claimOk` hold whether its own signature
and its CLAIM's certificate and token verify, facts about its bytes that a later check (R531) asks again. -/
structure Package where
  version  : Nat
  points   : Table Point
  regions  : Table Region
  palette  : List Nat
  glyphs   : List Glyph
  strings  : List (List (List Nat))
  scales   : List (Int × Int)
  symbols  : List (List Glyph)
  prot     : List Bool
  sources  : List SourceKey
  maints   : List (List Byte)
  rights   : List Rights
  locks    : List (Blk × Nat × Word)
  messages : List Message
  ownerKey : List Byte
  nextKey  : Option (List Byte)
  claim    : Bool
  sigOk    : Bool
  claimOk  : Bool
  digest   : List Byte
  raw      : List Byte
  deriving DecidableEq, Repr

/-- The payload of an owner package record (R530): the package's bytes. -/
def Package.payload (p : Package) : List Byte := p.raw

/-- One of the last 8 accepted updates of a session, with its receipt (R213). -/
structure Recent where
  seq     : Nat
  tag     : List Byte
  receipt : List Byte
  deriving DecidableEq, Repr

/-- An open session (R209). -/
structure Session where
  num     : Nat
  srcKey  : Nat
  updKey  : List Byte
  rcpKey  : List Byte
  opened  : Nat
  highSeq : Nat
  recent  : List Recent
  deriving DecidableEq, Repr

/-- An input on its way to the point path, in fetch order (R212, R502): an update of a SUBMIT_POINTS or a place
held by a queued OPEN_SESSION. -/
structure PointIn where
  func   : Nat
  ord    : Nat
  slot   : Nat
  update : List Byte
  openS  : Bool
  deriving DecidableEq, Repr

/-- A SUBMIT_POINTS that waits for its receipts (R482, R503); `relay` is the tag of one that a RELAY packet brought
(R606). -/
structure PointsCmd where
  relay    : Option Nat
  func     : Nat
  ord      : Nat
  entry    : SqEntry
  receipts : List (Option (List Byte))
  deriving DecidableEq, Repr

/-- Threshold's admission queue entry (R654). -/
structure Admit where
  func  : Nat
  entry : SqEntry
  deriving DecidableEq, Repr

/-! ### The letterbox (14) -/

/-- A completion entry in the host's completion ring, with the response bytes its command wrote (R468, R470). -/
structure CqEntry where
  cmdId   : Nat
  status  : Nat
  phase   : Bool
  respErr : Bool
  sqHead  : Nat
  retry   : Nat
  inl     : List Byte
  resp    : List Byte
  deriving DecidableEq, Repr

/-- An event entry in the host's event ring (R472). -/
structure EqEntry where
  event    : Nat
  phase    : Bool
  overflow : Bool
  seq      : Nat
  time     : Nat
  data     : List Byte
  deriving DecidableEq, Repr

/-- The letterbox of one function (R462 to R474). -/
structure Letterbox where
  present   : Bool
  sqEn      : Bool
  cqEn      : Bool
  eqEn      : Bool
  evMask    : Nat
  sqBase    : Nat
  sqSize    : Nat
  cqBase    : Nat
  cqSize    : Nat
  eqBase    : Nat
  eqSize    : Nat
  cqVec     : Nat
  eqVec     : Nat
  coalesce  : Nat
  sqHead    : Nat
  sqTail    : Nat
  cqTail    : Nat
  cqHead    : Nat
  eqTail    : Nat
  eqHead    : Nat
  cqPhase   : Bool
  eqPhase   : Bool
  eqDropped : Nat
  dbErr     : Nat
  evSeq     : Nat
  overflow  : Bool
  ready     : List SqEntry
  running   : Nat
  cq        : List CqEntry
  eq        : List EqEntry
  cqRaised  : Option Nat
  eqRaised  : Option Nat
  cqHeld    : Bool
  eqHeld    : Bool
  msix      : Table Word
  pba       : List Nat
  raised    : Table Nat
  deriving DecidableEq, Repr

/-! ### Cellar (17) -/

/-- One fault log entry (R563). -/
structure LogEntry where
  seq     : Nat
  cls     : Nat
  island  : Nat
  safe    : Nat
  esc     : Bool
  handled : Bool
  lifted  : Bool
  time    : Nat
  code    : Nat
  frame   : Nat
  detail  : Nat
  count   : Nat
  deriving DecidableEq, Repr

/-- A marking that Cellar forces on a region or a channel of an output, and the clean frames since (R548, R579). -/
structure Mark where
  out   : OutId
  unit  : Nat
  code  : Nat
  clean : Nat
  deriving DecidableEq, Repr

/-- A cause that keeps an output in SS3: its code, and whether only RECOVER lifts it (R579, R580). -/
structure Dark where
  out  : OutId
  code : Nat
  fc4  : Bool
  since : Nat
  deriving DecidableEq, Repr

/-- An FC3 recovery in progress (R572): the island, the code, its log entry, when its reset began, and how far it is.
`store` names a recovery of the point table, which resets no island. -/
structure Recovery where
  island   : Nat
  code     : Nat
  logSeq   : Nat
  resetAt  : Nat
  replayed : Bool
  rejoin   : Option (OutId × Nat)
  store    : Bool
  deriving DecidableEq, Repr

/-- The contents of a journal entry (R565). -/
inductive JEntry where
  | point (index : Nat) (value : Int) (birth flags session seq : Nat)
  | scene (chan seq len : Nat)
  | settings (cid : Nat) (blks : List Blk)
  | zone (o : OutId)
  | session (num : Nat) (opened : Bool) (time : Nat)
  | ckptStart (frame : Nat)
  | ckptDone (frame : Nat)
  deriving DecidableEq, Repr

/-- What a checkpoint captures (R568), and in which of the two slots of the Hearth region it stands: the pending and live sets of every landing, the scenes, the zone copies. -/
structure Checkpoint where
  frame    : Nat
  slot     : Nat
  pos      : Nat
  pend     : List Pend
  landings : List (List LiveSet)
  channels : List Channel
  zoneA    : Table Nat
  zoneB    : Table Nat
  deriving DecidableEq, Repr

/-- Cellar's fault log, forces, journal and checkpoints (R548 to R583). -/
structure Cellar where
  log       : List LogEntry
  logSeq    : Nat
  mirror    : List LogEntry
  fc2       : Nat
  fc3       : Nat
  fc4       : Nat
  escalations : Nat
  lastFc3   : Option Nat
  ss1       : List Mark
  ss2       : List Mark
  ss3       : List Dark
  ss4       : Bool
  liftAt    : Option Nat
  recov     : List Recovery
  outOfSvc  : List Nat
  faultIn   : Bool
  journal   : List (JEntry × Bool)
  jBytes    : Nat
  jPos      : Nat
  image     : Table (Int × Nat × Nat)
  ckptBusy  : Option Checkpoint
  ckptForced : Bool
  ckptTries : Nat
  ckpt      : Option Checkpoint
  ckptFrame : Nat
  forcedCkpt : Nat
  ss4Entries : Nat
  ss4Times  : List Nat
  viol      : List Nat
  violTotal : Nat
  lastUe    : Option Nat
  ctlRuns   : Bool
  heartbeat : Bool
  hbAt      : Nat
  safeLow   : Bool
  psafeAll  : Bool
  hearthAt  : Nat
  missFrames : List (OutId × Nat × Nat)
  deriving DecidableEq, Repr

/-! ### The Transom (09) -/

/-- What a Transom update is for (R343 to R360). -/
inductive TrKind where
  | host | toggle | message | release | balance | clear
  deriving DecidableEq, Repr

/-- One pixel's remaining drive codes, its target level, and its net drive in the current phase (R344, R355). -/
structure PixSeq where
  pix    : Nat
  codes  : List Nat
  target : Nat
  net    : Int
  deriving DecidableEq, Repr

/-- A running update (R344): its zone (16 for the whole panel), issuer, tag, pixels, the frames it has run, the frames
of its compensation phase, its range, and whether it runs its balancing phase (R355). -/
structure TrUpdate where
  zone   : Nat
  kind   : TrKind
  issuer : Nat
  tag    : Nat
  seqs   : List PixSeq
  frames : Nat
  compN  : Nat
  range  : Nat
  aborted : Bool
  deriving DecidableEq, Repr

/-- A host request of a zone (R341, R342): what completes it, its images, and the zone's rectangle when its load began. -/
structure TrReq where
  zone   : Nat
  issuer : Nat
  tag    : Nat
  cmdId  : Nat
  respLen : Nat
  respOk : Bool
  image  : Nat
  alt    : Option Nat
  rect   : Nat × Nat × Nat × Nat
  deriving DecidableEq, Repr

/-- The payload of a Transom ledger record (R356). -/
structure LedgerRec where
  planeD  : Table Nat
  ledger  : Table Int
  w       : Nat
  h       : Nat
  aborted : Nat
  deriving DecidableEq, Repr

/-- What the Transom bus carries while the gate scan of a frame stands at one line (R327 to R329): TR_GSP, high at line 0;
TR_GOE, low at a line that is skipped; TR_SOE and the pulse of TR_SLE, of a line that is written; and the bytes shifted on
TR_D, each with TR_SSP. -/
structure TrLine where
  gsp  : Bool
  goe  : Bool
  soe  : Bool
  sle  : Bool
  data : List (Bool × Byte)
  deriving DecidableEq, Repr

/-- The Transom engine and its store (R330 to R361). `bus` holds the lines of the latest frame that was scanned, from line
0; it is empty while the bus is idle. `reading` is the latest good reading of TR_NTC. -/
structure Transom where
  planeD    : Table Nat
  planeT    : Table Nat
  planeP    : Table Nat
  planeB    : Table Nat
  ledger    : Table Int
  driven    : Bool
  rails     : List Rail
  ramping   : Option Rail
  rampAt    : Nat
  falling   : Option Rail
  uncertain : Bool
  ntcFault  : Bool
  range     : Nat
  reading   : Option Int
  temp      : Int
  loading   : List TrReq
  pending   : List TrReq
  running   : List TrUpdate
  clears    : Nat
  balance   : Nat
  blinkB    : Nat
  toggleAt  : List (Nat × Nat)
  toggleDue : Nat
  hold      : Bool
  message   : Option Nat
  shown     : Option Nat
  release   : Bool
  powerLoss : Bool
  lossBal   : Bool
  abortedZ  : Nat
  flushing  : Option Nat
  updates   : Nat
  compPh    : Nat
  uncertN   : Nat
  railFaults : Nat
  pfAborts  : Nat
  frameAt   : Nat
  dirtied   : Bool
  vcomReq   : Bool
  vcomLeft  : Nat
  vcomRuns  : Nat
  vcomAborts : Nat
  vcomOpt   : Nat
  vcomAt    : Option Nat
  vcomTemp  : Int
  restoredSeq : Nat
  restoreWait : Bool
  railsSeen : Bool
  vcomStop  : Bool
  vcomTrim  : Nat
  bus       : List TrLine
  deriving DecidableEq, Repr

/-! ### Cameras (10) -/

/-- Linked values on their way into force (R371). -/
structure Linked where
  frame  : Nat
  expTag : Nat
  gain   : Nat
  unsure : Bool
  deriving DecidableEq, Repr

/-- A camera frame taken in, waiting or processed (R367, R375 to R378): its port and number, when its FS came, the live
set and the linked values in force on it, the lines received as payload bytes, how much of it lies in the port FIFO and
in the spill store (in which of the store's two places), whether no more of it comes and when that was, and its cause. -/
structure CamFrame where
  frame   : Nat
  port    : Nat
  startClk : Nat
  cfg     : RegMap
  expTag  : Nat
  gain    : Nat
  unsure  : Bool
  lines   : List (List Byte)
  fifo    : Nat
  spilled : Nat
  place   : Nat
  ended   : Bool
  endUs   : Nat
  cause   : Nat
  deriving DecidableEq, Repr

/-- An I2C transfer on a camera port's bus (R371, R372, R505): an entry of a write list (of the commit `list`, live at
sensor frame `frame`, whose linked values govern `target`), or a host transfer. -/
structure I2cJob where
  host    : Bool
  func    : Nat
  cmdId   : Nat
  respOk  : Bool
  respLen : Nat
  addr    : Nat
  wdata   : List Byte
  rlen    : Nat
  entry   : Nat
  list    : Nat
  frame   : Nat
  target  : Nat
  deriving DecidableEq, Repr

/-- One camera port (R363 to R387); `open_` is the number of the frame that is being received. -/
structure Camera where
  live     : RegMap
  sensor   : Nat
  rstLow   : Bool
  open_    : Option Nat
  waiting  : List CamFrame
  linked   : List Linked
  expTag   : Nat
  gain     : Nat
  bus      : List I2cJob
  trunc    : Nat
  spilledN : Nat
  early    : Nat
  ignored  : Nat
  cause    : Nat
  i2cErr   : Nat
  trigN    : Nat
  trigAt   : Option Nat
  lastDone : Option Nat
  deriving DecidableEq, Repr

/-- A blob entry of a statistics record (R380). -/
structure Blob where
  x    : Nat
  y    : Nat
  area : Nat
  peak : Nat
  edge : Bool
  deriving DecidableEq, Repr

/-- The blobs a processed tracking frame brought, for Hearth (R379, R381). -/
structure BlobSet where
  port  : Nat
  fsUs  : Nat
  feUs  : Nat
  trunc : Bool
  blobs : List Blob
  deriving DecidableEq, Repr

/-- A viewer position and when it was last seen or supplied (R381 to R383). -/
structure Viewer where
  x    : Int
  y    : Nat
  z    : Nat
  seen : Nat
  deriving DecidableEq, Repr

/-- Tracking (R381 to R386). -/
structure Tracking where
  viewers  : List Viewer
  blobs    : List BlobSet
  lastPos  : Nat
  lost     : Bool
  zoneA    : Option (Table Nat)
  zoneB    : Option (Table Nat)
  deriving DecidableEq, Repr

/-! ### Calibration (11) -/

/-- Ramp state of one output (R401, R409). -/
structure Ramp where
  pos    : Nat
  origin : Nat
  frame  : Nat
  changed : Bool
  source : Nat
  deriving DecidableEq, Repr

/-- A calibration step in progress (R394 to R397): its output, slot and group, the phase that is measured (1 to 4, or 5
when the step is to be abandoned at the next doorway), its first frame, the frames of a phase, when the step, the latest
phase of its frames and the phase before that one began, and the usable camera frames of the phase measured. -/
structure CalStep where
  out     : OutId
  slot    : Nat
  group   : List Nat
  phase   : Nat
  startF  : Nat
  frames  : Nat
  startClk : Nat
  phaseClk : Nat
  prevClk : Nat
  usable  : Nat
  deriving DecidableEq, Repr

/-- The calibration agent (R393 to R409). `dirs` counts the direction tables and camera poses that it has measured: the
latest are in use. -/
structure Calib where
  step      : Option CalStep
  curSlot   : Nat
  nextF     : Nat
  measured  : List Nat
  done      : Nat
  abandoned : Nat
  passes    : Nat
  building  : Bool
  rampA     : Ramp
  rampB     : Ramp
  optOut    : OutId
  dirs      : Nat
  capture   : List (List Nat)
  deriving DecidableEq, Repr

/-! ### Blitter (12) and memory (13) -/

/-- A queued list: function and address (R410). -/
structure BlitList where
  func : Nat
  addr : Nat
  deriving DecidableEq, Repr

/-- The blitter (R410 to R428). -/
structure Blitter where
  queue    : List BlitList
  lastFn   : Nat
  run      : Option BlitList
  noEvents : Bool
  staging  : List (List Byte)
  header   : List Byte
  liveWords : RegMap
  index    : Nat
  ran      : Nat
  firstBad : Option (Nat × Nat)
  stageBad : Bool
  done     : Nat
  ovl      : Nat
  faults   : Nat
  curFn    : Nat
  deriving DecidableEq, Repr

/-- Module DRAM, its status and the ECC counters (R429 to R455). -/
structure Dram where
  mem       : Table Byte
  st        : Nat
  corrected : Nat
  uncorr    : Nat
  sCorr     : Nat
  sUncorr   : Nat
  ueAddr    : Nat
  ueSrc     : Nat
  retrains  : Nat
  retrForced : Nat
  retrAt    : List Nat
  retrTemp  : List Int
  liveWords : RegMap
  blankDone : List Nat
  failed    : Bool
  badWords  : List Nat
  deriving DecidableEq, Repr

/-! ### Rings (18) -/

/-- One ring port (R589 to R595). `st`: 0 off, 1 block lock, 2 equalise, 3 deskew, 4 HELLO, 5 ACTIVE, 6 waiting after a
timeout, 7 refused. `hello` is the partner's HELLO of this attempt; `block` says that a port has had block lock since the
start (R646); `ctl` and `pkts` are the CONTROL blocks and packets sent; `group` is what has come of a RELAY group. -/
structure RingPort where
  st       : Nat
  phaseAt  : Nat
  retryAt  : Nat
  refused  : Bool
  hello    : Option (List Byte)
  hopNs    : Nat
  pingAt   : Nat
  txSeq    : Nat
  unacked  : List (Nat × List Byte)
  credits  : Nat
  ackAt    : Nat
  ackSent  : Nat
  rxSeq    : Nat
  ctl      : List (List Byte)
  pkts     : List (List Byte)
  deskews  : Nat
  block    : Bool
  sendSeq  : Nat
  group    : List Byte
  deriving DecidableEq, Repr

/-- A mirror group being received (R603). -/
structure MirrorGrp where
  cid   : Nat
  frame : Nat
  words : List (Blk × RegMap)
  deriving DecidableEq, Repr

/-- A relayed command the head waits for (R606, R607): the directions from which its packet has not returned, the
status of the controller that acted, and the response. -/
structure RelayCmd where
  func  : Nat
  entry : SqEntry
  tag   : Nat
  left  : List RPort
  status : Option Nat
  resp  : List Byte
  dev0  : Bool
  deriving DecidableEq, Repr

/-- A controller of the ring as the head enumerates it (R591, R596). -/
structure Member where
  id     : Nat
  hopNs  : Nat
  serial : Nat
  deriving DecidableEq, Repr

/-- A relayed command at a member, until it travels on (R212, R502, R606): the port it came by, and its packet's fields. -/
structure RelayIn where
  port    : RPort
  src     : Nat
  hops    : Nat
  op      : Nat
  status  : Nat
  tag     : Nat
  payload : List Byte
  resp    : List Byte
  deriving DecidableEq, Repr

/-- The ring (R584 to R612). `known`: a port has been ACTIVE since start; `enumed`: the head's first enumeration is done;
`enumE` and `enumW` are the entries of the enumeration in progress; `readyN` and `readyBack` are the READY that the head
waits for and the directions it has come back from; `readyHeld` are READY tokens that wait here; `startN` is the START
received: frame, due time in ns of Cellar time, FORCED; `headAt` is when this member last had word from the head;
`mirrorDone` and `relayDone` are what has been taken already from the other side. -/
structure Ring where
  east     : RingPort
  west     : RingPort
  known    : Bool
  enumed   : Bool
  devices  : Nat
  lMax     : Nat
  long     : Bool
  hopsE    : Nat
  hopsW    : Nat
  missed   : Nat
  ownId    : Nat
  retx     : Nat
  closed   : Bool
  enumAt   : Nat
  enumE    : Option (List Member)
  enumW    : Option (List Member)
  membersE : List Member
  membersW : List Member
  readyN   : Option Nat
  readyBack : List RPort
  readyHeld : List (RPort × List Byte)
  startN   : Option (Nat × Nat × Bool)
  lastStart : Option Nat
  headAt   : Nat
  isolated : Bool
  ownTiming : Bool
  mirror   : Option MirrorGrp
  mirrorDone : Option Nat
  relays   : List RelayCmd
  relayTag : Nat
  relayDone : List (Nat × Nat × List Byte)
  relayIn  : List RelayIn
  deriving DecidableEq, Repr

/-! ### Power, clocks and heat (19) -/

/-- One temperature sensor (R628 to R630). -/
structure Sensor where
  temp    : Int
  hist    : List Int
  same    : Nat
  medAt   : Int
  far     : Nat
  good    : Nat
  broken  : Bool
  noSample : Bool
  cal     : Bool
  rise    : Int
  deriving DecidableEq, Repr

/-- Supplies, start-up, power state and throttling (R618 to R657). `stdAt` is the frame at which a live POWER_STATE of 2 takes
effect, until it starts (R623). -/
structure Power where
  vauxValid  : Bool
  vauxMv     : Nat
  safeOutOff : Bool
  vmainValid : Bool
  vmainMv    : Nat
  offHold    : Bool
  powerFail  : Bool
  perst      : Bool
  perstApplied : Bool
  perstAt    : Nat
  startKind  : Nat
  rails      : Bool
  hearth     : Bool
  pkgChecked : Bool
  banksIn    : Bool
  endpoint   : Bool
  ready      : Bool
  readyUs    : Nat
  closed1    : Bool
  frame1Us   : Nat
  verifiedUs : Nat
  safeRel    : Bool
  thermWait  : Bool
  thermStop  : Bool
  admitOn    : Bool
  standby    : Nat
  stdFrames  : List OutId
  stdAt      : Option (OutId × Nat)
  stepReq    : Nat
  stepLive   : Nat
  stepA      : Nat
  stepB      : Nat
  graceEnd   : Option Nat
  stepAt     : Nat
  coolAt     : Option Nat
  reqs       : Nat
  enforced   : Nat
  startClk   : Nat
  vmainClk   : Nat
  lockout    : Bool
  deriving DecidableEq, Repr

/-! ### Threshold (16) and MRAM -/

/-- A stored firmware image (R516): what R517 asks of it. The certificate facts are kept for each root. -/
structure FwImage where
  version  : Nat
  secVer   : Nat
  variants : Nat
  layoutOk : Bool
  certOk0  : Bool
  certOk1  : Bool
  sigOk    : Bool
  digest   : List Byte
  raw      : List Byte
  deriving DecidableEq, Repr

/-- The payload of a firmware record (R519): the image's bytes. -/
def FwImage.payload (w : FwImage) : List Byte := w.raw

/-- The shutdown record's payload (R636). -/
structure Shutdown where
  cause   : Nat
  orderly : Nat
  sensor  : Nat
  step    : Nat
  temp    : Int
  rise    : Int
  time    : Nat
  frame   : Nat
  stops   : Nat
  deriving DecidableEq, Repr

/-- The payload of the calibration configuration record (R407), as far as the manual lets anything depend on it: the live
CAL set, the trim of the VCOM booster, and which direction tables and camera poses. -/
structure CalCfg where
  cal  : RegMap
  trim : Nat
  dirs : Nat
  deriving DecidableEq, Repr

/-- The MRAM records (R407, R545, R564, R581, R585, R636). `ident` is the identity record: certificate chain and wrapped
private keys. -/
structure Mram where
  calCfg   : AB CalCfg
  banks    : List (Nat × Rec (List Byte))
  ledger   : AB LedgerRec
  trmCfg   : AB RegMap
  marker   : AB Nat
  trCounts : Nat × Nat
  fw       : AB FwImage
  pkg      : AB Package
  owner    : AB (Option (List Byte) × Nat)
  tail     : AB (Nat × List Byte)
  mirror   : AB (List LogEntry)
  ss4      : AB (Nat × List Nat)
  ringId   : AB Nat
  shutdown : AB Shutdown
  logSeq   : Nat
  ident    : Option (Rec (List Byte × List Byte))
  deriving DecidableEq, Repr

/-- The payload of the identity record (R545): the certificate chain, then the wrapped private keys. -/
def identPayload (v : List Byte × List Byte) : List Byte := v.1 ++ v.2

/-- The payload of the owner state record (R545): COMMAND_COUNTER, then the owner key slot. The manual lays it out no
further (DESIGN CHOICE, log entry 103). -/
def ownerPayload (v : Option (List Byte) × Nat) : List Byte := leBytes 8 v.2 ++ v.1.getD []

/-- The payload of the audit chain tail (R545): SEGMENT, then the hash (DESIGN CHOICE, log entry 103). -/
def tailPayload (v : Nat × List Byte) : List Byte := leBytes 4 v.1 ++ v.2

/-- Fuses, identity and trust state (R511 to R546). -/
structure Trust where
  lifecycle : Nat
  identity  : Bool
  serial    : Nat
  chain     : List Byte
  root1     : Bool
  fusedVer  : Nat
  firmware  : Option FwImage
  bootCopy  : Nat
  fallback  : Bool
  bootId    : List Byte
  bootN     : Nat
  ownerKey  : Option (List Byte)
  counter   : Nat
  pkg       : Option Package
  pkgB      : Option Package
  pending   : Option Package
  pendDue   : Nat
  pendNeedB : Bool
  pendB     : Nat
  rewriting : Bool
  rewrRegs  : List Nat
  rewrPts   : List Nat
  undefine  : Bool
  liveUs    : Option Nat
  points    : Table Point
  regions   : Table Region
  sessions  : List Session
  opens     : List (Nat × Nat)
  admitQ     : List Admit
  admitBusy : Nat
  admitFn   : Nat
  pointQ    : List PointIn
  pointCmds : List PointsCmd
  accepted  : Nat
  stalePts  : Nat
  sweepUs   : Nat
  admitUs   : Nat
  pointUes  : Option Nat
  resBad    : List Nat
  msgSs3    : Option Message
  msgSs4    : Option Message
  deriving DecidableEq, Repr

/-! ### Audit capture (05, 16) -/

/-- A capture in progress of one channel (R204 to R208). -/
structure Capture where
  chan    : Nat
  out     : OutId
  frame   : Nat
  fmt     : Nat
  seq     : Nat
  scene   : Nat
  commit  : Nat
  time    : Nat
  forced  : Bool
  safe    : Bool
  w       : Nat
  h       : Nat
  ended   : Bool
  notReady : Bool
  rows    : List (Nat × List Nat)
  gen     : Nat
  deriving DecidableEq, Repr

/-- A chain of descriptors in host memory (R134 to R136): the bus address of its first descriptor (0: none is set), the
descriptor in use (0: none yet) with its buffer's ADDRESS, SIZE and bytes used, and whether the chain is exhausted. -/
structure Chain where
  head : Nat
  desc : Nat
  buf  : Nat
  size : Nat
  used : Nat
  out  : Bool
  deriving DecidableEq, Repr

/-- A run of frames of a channel that were not captured (R136, R208). -/
structure Gap where
  chan  : Nat
  port  : OutId
  cause : Nat
  first : Nat
  last  : Nat
  void  : Nat
  deriving DecidableEq, Repr

/-- The audit chain (R134 to R136, R204 to R208, R500, R540 to R544): the chain in use and the one set since, the number of
the chain in use among those set, earlier chains that captures still run into, the next RECORD_SEQ, captures and gaps, the
records begun since the latest seal with their bytes (none while unfinished or void), the records written whole, the writes
to host memory in order, records that wait behind a seal that is due, what the next chain start record's CAUSE is, the
RECORD_SEQ kept for a seal that waits, and the second that the latest seal closed. -/
structure Audit where
  chain    : Chain
  nextChain : Option Nat
  gen      : Nat
  older    : List (Nat × Chain)
  recSeq   : Nat
  caps     : List Capture
  gaps     : List Gap
  skipped  : List Nat
  layerErr : List Nat
  segment  : Nat
  firstSeq : Nat
  voids    : Nat
  prevHash : List Byte
  recs     : List (Nat × Option (List Byte))
  written  : List (List Byte)
  posted   : List (Nat × List Byte)
  behind   : List (Nat × Nat × List Byte)
  sealsLost : Nat
  startDue : Option Nat
  sealDue  : Option Nat
  sealSec  : Nat
  deriving DecidableEq, Repr

/-- Commits: the next commit ID, the pending copies in order of acceptance (R26, R33), and the set made live latest
of each block and output, which an island that rejoins takes over (R572). -/
structure Commits where
  nextId : Nat
  pend   : List Pend
  newest : List LiveSet
  doors  : List (OutId × Door)
  deriving DecidableEq, Repr

/-- The state of the block. `clk` counts periods of the 25 MHz crystal since VAUX became valid (R218, R670). -/
structure State where
  pending  : List Instr
  variant  : Variant
  clk      : Nat
  free     : Nat
  shadow   : List (Blk × RegMap)
  commits  : Commits
  landings : List Landing
  outA     : Output
  outB     : Output
  linkA    : Link
  linkB    : Link
  lanes    : List Lane
  slices   : List (Option Span)
  chans    : List Channel
  trust    : Trust
  boxes    : List Letterbox
  cellar   : Cellar
  transom  : Transom
  cams     : List Camera
  pipes    : List (Option CamFrame)
  track    : Tracking
  calib    : Calib
  blit     : Blitter
  dram     : Dram
  ring     : Ring
  sensors  : List Sensor
  power    : Power
  mram     : Mram
  audit    : Audit
  timeHi   : Nat
  lastRead : List Byte
  mgmtIdx  : Nat
  mgmtLatch : List Byte
  numVfs   : Nat
  vfEnable : Bool
  bars     : Table Word
  deriving DecidableEq, Repr

/-! ### Right after reset -/

/-- A landing right after reset (R26): islands of this variant exist, nothing is locked or in the protocol.
`POWERED` reads 1 (R26). -/
def Landing.reset (present : Bool) : Landing :=
  { present := present, powered := present, pllLocked := false, inProtocol := false, sets := [], liveCommitA := 0,
    liveCommitB := 0, liveFrame := 0, swapA := 0, swapB := 0, lockWins := 0, lossCount := 0, gated := false,
    lfsr := 0 }

/-- Whether an island exists on a variant (R3). -/
def Variant.hasIsland (v : Variant) (n : Nat) : Bool :=
  match v with
  | .E2 => n < 64
  | .E1 => n < 16 || (32 ≤ n && n < 43) || n == 44 || (46 ≤ n && n < 64)

/-- An empty frame's counters. -/
def FrameCounts.reset : FrameCounts :=
  { raysShed := 0, depthOvf := 0, bandsShed := 0, bandsRep := 0, samples := 0, stale := 0, dash := 0,
    notReady := false, reach := false, regionLate := false, decoded := 0, clampCh := [], compLoad := [] }

/-- An output right after reset: FRAME_NUM 0, in blanking (R262), cap 16 (R159). -/
def Output.reset : Output :=
  { frameNum := 0, inBlank := true, fsClk := 0, feClk := 0, blankUs := 0,
    forced := false, held := false, tePin := false, teMsg := false, teAt := none, teOpen := 0, band0At := 0, teHeld := 0,
    bands := [], prepFrame := 1, prepY := 0, lastCap := 16, budget := 0, budgetOut := false, cache := [],
    front := [], rows := [], sendRow := 0, crc := 0xFFFFFFFF, crcBits := [], blocks := 0, linkFree := 0, rowLag := 0, frameCrc := none,
    cur := .reset, nxt := .reset, last := .reset, activeUs := 0, periodUs := 0, forcedStarts := 0, notReadyFr := 0,
    reachClamp := 0, slotConfl := 0, invarFail := 0, unifErr := 0, unifLate := 0, unifSkip := [], invarBad := [], regions := [],
    prevSigs := [], regionLate := 0, checkErr := 0, sigMis := 0, sigFreeze := 0, sigMissing := 0, echoFail := 0,
    echoFrame := 0, echoBad := 0, echoDue := none, echoSeen := none, frames := [], fresh := none, elig := [],
    invarRef := [], zone := [], slots := [], lit := [],
    verified := false, knownV := false, frameOk := false, endOk := false, activeAt := 0, firstRun := true }

/-- A panel link right after reset: disabled, PANEL_RST low (R300), PSAFE asserted (R301). -/
def Link.reset : Link :=
  { st := .disabled, attempt := 0, bcLock := false, phaseAt := 0, downAt := 0, panelRst := true, rstAt := none,
    psafe := true, caps := none, capsReq := false, trainings := 0, drops := 0, corrected := 0,
    hdrErr := 0, eye := [], bcErr := 0, bcFixed := 0, panelFaults := 0, panelFaultAt := none, echoOk := false, deskews := 0,
    verifyCrc := 0, bcAt := 0, trainAt := 0, trainN := 0, statusSt := 0, startBlk := [], endBlk := [], reqBlk := [] }

/-- A lane right after reset: out of service, preset P4 (R325). -/
def Lane.reset : Lane :=
  { eye := 0, preset := 4, tried := 0, ctle := 0, dfe := [], samp := 0, st := 0, calCount := 0, calAbort := 0, lockLoss := 0,
    lock := false, calAt := 0, calTemp := 0, calBegan := 0, due := false, recal := false, exiting := false,
    cid := 0, words := [], next := none }

/-- No packet of a stream is answered. -/
def Answered.reset : Answered :=
  { headerSeen := false, lastSeq := 0, skipping := false, authSkip := false, orphan := false, openPkts := [],
    covered := none, session := 0xFFFF }

/-- A content channel right after reset: disabled, no plane defined (R137). -/
def Channel.reset : Channel :=
  { enabled := false, headerSeen := false, lastSeq := 0, skipping := false, authSkip := false, orphan := false, openPkts := [], covered := none,
    session := 0xFFFF, pending := [], sceneA := [], sceneB := [], sceneIdA := 0, sceneIdB := 0, discarded := 0,
    pClamp := 0, subs := [], ans := .reset, paused := none, curBuf := none, curOff := 0, fwdPos := 0,
    rxPos := 0, rxBytes := [], rxQueue := [] }

/-- A letterbox page right after reset (R462): every ring disabled. The MSI-X table is the PCIe specification's. -/
def Letterbox.reset (present : Bool) : Letterbox :=
  { present := present, sqEn := false, cqEn := false, eqEn := false, evMask := 0, sqBase := 0, sqSize := 0,
    cqBase := 0, cqSize := 0, eqBase := 0, eqSize := 0, cqVec := 0, eqVec := 0, coalesce := 0, sqHead := 0,
    sqTail := 0, cqTail := 0, cqHead := 0, eqTail := 0, eqHead := 0, cqPhase := true, eqPhase := true,
    eqDropped := 0, dbErr := 0, evSeq := 0, overflow := false, ready := [], running := 0, cq := [], eq := [],
    cqRaised := none, eqRaised := none, cqHeld := false, eqHeld := false, msix := [], pba := [], raised := [] }

/-- Cellar right after reset: held in reset, SAFE_OUT driven low, HEARTBEAT low (R551, R619). -/
def Cellar.reset : Cellar :=
  { log := [], logSeq := 0, mirror := [], fc2 := 0, fc3 := 0, fc4 := 0, escalations := 0, lastFc3 := none, ss1 := [],
    ss2 := [], ss3 := [], ss4 := false, liftAt := none, recov := [], outOfSvc := [],
    faultIn := false, journal := [], jBytes := 0, jPos := 0, image := [], ckptBusy := none, ckptForced := false, ckptTries := 0,
    ckpt := none, ckptFrame := 0, forcedCkpt := 0, ss4Entries := 0, ss4Times := [], viol := [0, 0, 0, 0, 0, 0],
    violTotal := 0, lastUe := none, ctlRuns := false, heartbeat := false, hbAt := 0, safeLow := true,
    psafeAll := true, hearthAt := 0, missFrames := [] }

/-- The Transom engine right after reset (R361): off, range 3. -/
def Transom.reset : Transom :=
  { planeD := [], planeT := [], planeP := [], planeB := [], ledger := [], driven := false, rails := [],
    ramping := none, rampAt := 0, falling := none, uncertain := false, ntcFault := false, range := 3, reading := none, temp := 0, loading := [], pending := [], running := [], clears := 0, balance := 0,
    blinkB := 0, toggleAt := [], toggleDue := 0, hold := true, message := none, shown := none, release := false,
    powerLoss := false, lossBal := false, abortedZ := 0, flushing := none, updates := 0, compPh := 0, uncertN := 0,
    railFaults := 0, pfAborts := 0, frameAt := 0, dirtied := false, vcomReq := false, vcomLeft := 0, vcomRuns := 0,
    vcomAborts := 0, vcomOpt := 0, vcomAt := none, vcomTemp := 0, restoredSeq := 0, restoreWait := false, railsSeen := false, vcomStop := false, vcomTrim := 0, bus := [] }

/-- A camera port right after reset (R366, R387): CAMn_RST low, PORT_EN live at 0. -/
def Camera.reset : Camera :=
  { live := [], sensor := 0, rstLow := true, open_ := none, waiting := [], linked := [], expTag := 0,
    gain := 256, bus := [], trunc := 0, spilledN := 0, early := 0, ignored := 0, cause := 0, i2cErr := 0, trigN := 0,
    trigAt := none, lastDone := none }

/-- Tracking right after reset. -/
def Tracking.reset : Tracking :=
  { viewers := [], blobs := [], lastPos := 0, lost := false, zoneA := none, zoneB := none }

/-- No ramp has run (R409). -/
def Ramp.reset : Ramp := { pos := 0, origin := 0, frame := 0, changed := false, source := 0 }

/-- The calibration agent right after reset (R409). -/
def Calib.reset : Calib :=
  { step := none, curSlot := 0, nextF := 0, measured := [], done := 0, abandoned := 0, passes := 0,
    building := false, rampA := .reset, rampB := .reset, optOut := .A, dirs := 0, capture := [] }

/-- The blitter right after reset (R428): idle. -/
def Blitter.reset : Blitter :=
  { queue := [], lastFn := 31, run := none, noEvents := false, staging := [], header := [], liveWords := [], index := 0, ran := 0, firstBad := none, stageBad := false, done := 0, ovl := 0,
    faults := 0, curFn := 0 }

/-- Module DRAM right after reset: in training, every byte as R441 will write it. -/
def Dram.reset : Dram :=
  { mem := [], st := 0, corrected := 0, uncorr := 0, sCorr := 0, sUncorr := 0, ueAddr := 0, ueSrc := 0,
    retrains := 0, retrForced := 0, retrAt := List.replicate 8 0, retrTemp := List.replicate 8 0,
    liveWords := [], blankDone := [], failed := false, badWords := [] }

/-- A ring port right after reset. -/
def RingPort.reset : RingPort :=
  { st := 0, phaseAt := 0, retryAt := 0, refused := false, hello := none, hopNs := 0,
    pingAt := 0, txSeq := 0, unacked := [], credits := 0, ackAt := 0, ackSent := 0, rxSeq := 0, ctl := [], pkts := [],
    deskews := 0, block := false, sendSeq := 0, group := [] }

/-- The ring right after reset (R612): one controller, this one. -/
def Ring.reset (id : Nat) : Ring :=
  { east := .reset, west := .reset, known := false, enumed := false, devices := 1, lMax := 0, long := false, hopsE := 0, hopsW := 0,
    missed := 0, ownId := id, retx := 0, closed := false, enumAt := 0, enumE := none, enumW := none, membersE := [],
    membersW := [], readyN := none, readyBack := [], readyHeld := [], startN := none, lastStart := none, headAt := 0,
    isolated := false, ownTiming := false, mirror := none, mirrorDone := none, relays := [], relayTag := 0,
    relayDone := [], relayIn := [] }

/-- A temperature sensor right after reset (R639). -/
def Sensor.reset : Sensor :=
  { temp := 0, hist := [], same := 0, medAt := 0, far := 0, good := 0, broken := false, noSample := true,
    cal := false, rise := 0 }

/-- Supplies and power state right after reset: VAUX and VMAIN not valid, no letterbox ready. -/
def Power.reset : Power :=
  { vauxValid := false, vauxMv := 0, safeOutOff := false, vmainValid := false, vmainMv := 0, offHold := false,
    powerFail := false, perst := true, perstApplied := false, perstAt := 0, startKind := 0, rails := false, hearth := false, pkgChecked := false, banksIn := false, endpoint := false, ready := false,
    readyUs := 0, closed1 := false, frame1Us := 0, verifiedUs := 0, safeRel := false, thermWait := false,
    thermStop := false, admitOn := false, standby := 0, stdFrames := [], stdAt := none, stepReq := 0, stepLive := 0, stepA := 0,
    stepB := 0, graceEnd := none, stepAt := 0, coolAt := none, reqs := 0, enforced := 0, startClk := 0,
    vmainClk := 0, lockout := false }

/-- A factory firmware image: what Izrun ships, which R517 accepts on either variant. -/
def FwImage.factory : FwImage :=
  { version := 0x01000000, secVer := 0, variants := 3, layoutOk := true, certOk0 := true, certOk1 := true,
    sigOk := true, digest := List.replicate 64 0, raw := [] }

/-- An alternating record of which neither copy is valid (R406). -/
def AB.blank {α : Type} : AB α := { a := Option.none, b := Option.none }

/-- MRAM as delivered: the firmware record and no other (R521, R545). -/
def Mram.factory : Mram :=
  { calCfg := .blank, banks := [], ledger := .blank, trmCfg := .blank, marker := .blank, trCounts := (0, 0),
    fw := { a := some (sealRec 1 0x41 FwImage.payload 1 0 FwImage.factory), b := Option.none }, pkg := .blank,
    owner := .blank, tail := .blank, mirror := .blank, ss4 := .blank, ringId := .blank, shutdown := .blank, logSeq := 0,
    ident := some (sealRec 1 0x40 identPayload 1 0 (List.replicate 14040 0, wrapXor 1 (Config.identityPrivate 1))) }

/-- Trust state as delivered: PROVISIONED (R521), no owner. -/
def Trust.factory : Trust :=
  { lifecycle := 1, identity := true, serial := 1, chain := List.replicate 14040 0, root1 := false, fusedVer := 0,
    firmware := none, bootCopy := 0, fallback := false, bootId := List.replicate 32 0, bootN := 0, ownerKey := none,
    counter := 0, pkg := none, pkgB := none, pending := none, pendDue := 0, pendNeedB := false, pendB := 0, rewriting := false,
    rewrRegs := [], rewrPts := [], undefine := false, liveUs := none, points := [], regions := [], sessions := [], opens := [],
    admitQ := [], admitBusy := 0, admitFn := 31, pointQ := [], pointCmds := [], accepted := 0, stalePts := 0, sweepUs := 0, admitUs := 0,
    pointUes := none, resBad := [], msgSs3 := none, msgSs4 := none }

/-- A chain as SET_AUDIT_CHAIN names it: no descriptor has been read. Until one is set, the chain is exhausted (R500). -/
def Chain.at (head : Nat) : Chain := { head := head, desc := 0, buf := 0, size := 0, used := 0, out := head == 0 }

/-- The audit chain right after reset: no chain, segment 0 (R500, R545). -/
def Audit.reset : Audit :=
  { chain := Chain.at 0, nextChain := none, gen := 0, older := [], recSeq := 0, caps := [], gaps := [],
    skipped := [0, 0, 0, 0], layerErr := [0, 0, 0, 0], segment := 0, firstSeq := 0, voids := 0,
    prevHash := List.replicate 64 0, recs := [], written := [], posted := [], behind := [], sealsLost := 0, startDue := none, sealDue := none, sealSec := 0 }

/-- The state right after reset: a delivered DXN-7128-E2 without power, whose next event is VAUX becoming valid
(R640). Every register reads its reset value; nothing waits in the queue. -/
def State.reset : State :=
  { pending := [], variant := .E2, clk := 0, free := 0, shadow := [],
    commits := { nextId := 1, pend := [], newest := [],
                 doors := [(.A, { closeN := 0, closeClk := 0, closing := false, swapN := 0, joint := false, late := [] }),
                           (.B, { closeN := 0, closeClk := 0, closing := false, swapN := 0, joint := false, late := [] })] },
    landings := (List.range 64).map fun n => Landing.reset (Variant.E2.hasIsland n),
    outA := .reset, outB := .reset, linkA := .reset, linkB := .reset, lanes := List.replicate 50 .reset,
    slices := List.replicate 32 none, chans := List.replicate 4 .reset, trust := .factory,
    boxes := (List.range 32).map fun f => Letterbox.reset (f == 0), cellar := .reset, transom := .reset,
    cams := List.replicate 4 .reset, pipes := [none, none], track := .reset, calib := .reset, blit := .reset,
    dram := .reset, ring := .reset 0, sensors := List.replicate 68 .reset, power := .reset, mram := .factory,
    audit := .reset, timeHi := 0, lastRead := [], mgmtIdx := 0, mgmtLatch := [], numVfs := 0,
    vfEnable := false, bars := [] }

end Sys2Proof.Machine
end

