-- ==== Sys2Proof/Machine/RegTable.lean ====
section
/-! DEFINITION. The register tables of the 17 block windows: which bits of each word are writable, write-only or
read-only, and the reset values of the writable ones. -/
namespace Sys2Proof.Machine

/-- A run of `count` words from `base`, `stride` bytes apart, laid out alike: the bits that are RW, their reset
values, the bits that are WO, and whether the word holds read-only fields. -/
structure RegRun where
  base   : Nat
  stride : Nat
  count  : Nat
  rw     : Nat
  reset  : Nat
  wo     : Nat
  ro     : Bool
  deriving DecidableEq, Repr

/-- A run of RW words. -/
def rwRun (base stride count rw reset : Nat) : RegRun := ⟨base, stride, count, rw, reset, 0, false⟩
/-- A run of read-only words. -/
def roRun (base stride count : Nat) : RegRun := ⟨base, stride, count, 0, 0, 0, true⟩
/-- A run of write-only words. -/
def woRun (base stride count wo : Nat) : RegRun := ⟨base, stride, count, 0, 0, wo, false⟩

/-- A base register pair: address bits [31:6], then [34:32] (R182). -/
def baseRun (off : Nat) : List RegRun := [rwRun off 4 1 0xFFFFFFC0 0, rwRun (off + 4) 4 1 0x7 0]

/-- SYS: start-up (R657), landing status (R26), surface pools (R456). -/
def sysRuns (v : Variant) : List RegRun :=
  [roRun 0x100 4 5, roRun 0x400 4 256,
   rwRun 0x800 4 1 0x01FF01FF (if v = .E2 then 36 + 284 * 65536 else 26 + 134 * 65536),
   rwRun 0x804 4 31 0x01FF01FF 0]

/-- SCN (R137). -/
def scnRuns (v : Variant) : List RegRun :=
  [rwRun 0x0 4 4 0xBF 0, rwRun 0x10 4 1 0xFFFF (if v = .E2 then 2048 else 1024), roRun 0x14 4 1, roRun 0x20 4 18]

/-- SYN without the ray transfer tables (R73, R181). -/
def synRuns : List RegRun :=
  [rwRun 0x0 4 2 0x7F7 0x3C0, rwRun 0x8 4 2 0x1FFF03FF 0x01000040, roRun 0x10 4 1, rwRun 0x20 4 1 0xF 0,
   rwRun 0x24 4 1 0x03FF03FF 0x00640064, roRun 0x80 4 16, rwRun 0x10000 4 1024 0x03FF03FF 0]

/-- One host layer record (R185): L0's ENABLE ignores writes. -/
def layerRuns (c l : Nat) : List RegRun :=
  let b := 0x1000 + 0x100 * c + 0x20 * l
  [if l = 0 then rwRun b 4 1 0xFF7E 0x0003 else rwRun b 4 1 0xFF7F 0xFF02,
   rwRun (b + 4) 4 1 0xFFFFFFFF 0, rwRun (b + 8) 4 1 0xFFFFFFFF 0x00010001, rwRun (b + 0xC) 4 1 0xFFFFFFC0 0,
   rwRun (b + 0x10) 4 1 0x7 0, rwRun (b + 0x14) 4 1 0xFFFFF 0x40, rwRun (b + 0x18) 4 1 0x3FFFFFFF 0x3FFFFFFF]

/-- CMP (R185, R201). -/
def cmpRuns : List RegRun :=
  [rwRun 0x0 0x10 4 0xF07 0x100, rwRun 0x4 0x10 4 0x03FF0003 0x03000000, rwRun 0x8 0x10 4 0xFFFF07FF 0x44000400,
   roRun 0x100 0x10 4, roRun 0x104 0x10 4]
  ++ (List.range 4).flatMap fun c => (List.range 7).flatMap fun l => layerRuns c l

/-- TVR (R251). -/
def tvrRuns : List RegRun := [roRun 0x0 4 8, roRun 0x40 4 6, roRun 0x60 4 6]

/-- SCO (R60, R62, R64, R182, R262, R388). -/
def scoRuns : List RegRun :=
  [rwRun 0x0 4 1 0x1F 0, rwRun 0x4 4 2 0xFFFFFFFF 0x07D000C8, roRun 0x10 4 3, roRun 0x20 4 3,
   rwRun 0x100 8 2 0xFF 0x7F, rwRun 0x104 8 2 0xFFFFFFFF 0x08700780, rwRun 0x110 4 1 0x3 0, roRun 0x114 4 2]
  ++ baseRun 0x200 ++ baseRun 0x208 ++ baseRun 0x210 ++ baseRun 0x218 ++
  [rwRun 0x220 4 1 0xF 0, roRun 0x224 4 2, rwRun 0x900 4 1 0xFFFF0003 0x07D00000,
   rwRun 0x904 4 1 0xFFFFFFFF 0x04E20096, rwRun 0x920 0x10 16 0xFFFFFFFF 0, rwRun 0x924 0x10 16 0xFFFFFFFF 0,
   rwRun 0x928 0x10 16 0x3 0, rwRun 0x1000 4 512 0x7 0x4]

/-- SPL (R301). -/
def splRuns : List RegRun :=
  [roRun 0x0 4 13, roRun 0x100 4 13, rwRun 0x800 4 1 0xF 0x3, rwRun 0x804 4 1 0xFFFF 0x1030, woRun 0x808 4 1 0x3]

/-- LNE (R324, R325). -/
def lneRuns : List RegRun :=
  [rwRun 0x0 0x20 4 0x3FFF 0x33AC, rwRun 0x4 0x20 4 0x1FF 0x1F0, rwRun 0x8 0x20 4 0x3FF 0x11E, woRun 0xC 0x20 4 0x1,
   roRun 0x100 0x10 50, roRun 0x104 0x10 50, roRun 0x108 0x10 50]

/-- TRM (R361). -/
def trmRuns : List RegRun :=
  [rwRun 0x0 4 1 0x1 0, rwRun 0x4 4 1 0x03FF0FFF 0, rwRun 0x8 4 1 0x1FF 150, rwRun 0xC 4 1 0x1F7FFF 0x1800C0,
   rwRun 0x10 4 1 0x7FFF 1000, rwRun 0x14 4 1 0xFFFFFFFF 0x0F0A0500, rwRun 0x18 4 1 0xFFFFFF 0x1E1914,
   rwRun 0x20 8 16 0x03FF0FFF 0, rwRun 0x24 8 16 0x83FF0FFF 0, roRun 0x100 4 5,
   rwRun 0x10000 4 272 0xFFFFFFFF 0xFFFFFFFF]

/-- One camera port's records (R387). -/
def camRuns (n : Nat) : List RegRun :=
  let b := 0x100 * n
  [rwRun b 4 1 0x7FFF 0x18, rwRun (b + 4) 4 1 0x1FFF1FFF 0x04B00780, rwRun (b + 8) 4 1 0xFF7F03FF 0x0A000064,
   rwRun (b + 0xC) 4 1 0xFFFFF 16667, rwRun (b + 0x10) 4 1 0xFFFFF 0]
  ++ baseRun (b + 0x14) ++ baseRun (b + 0x1C) ++
  [rwRun (b + 0x24) 4 1 0xFFF 64, rwRun (b + 0x28) 4 1 0x0FFF0FFF 0x01000100, rwRun (b + 0x2C) 4 1 0xFFF 256,
   rwRun (b + 0x30) 4 1 0x0FFFFFFF 0x01000000, rwRun (b + 0x34) 4 1 0xF 0, rwRun (b + 0x40) 8 8 0x1FFFF 0,
   rwRun (b + 0x44) 8 8 0xFFFF 0, rwRun (b + 0x80) 4 1 0x3FF 768, rwRun (b + 0x84) 4 1 0xFFFFFFFF 0x10000004,
   roRun (b + 0xC0) 4 4]

/-- CAL (R409). -/
def calRuns : List RegRun :=
  ((List.range 2).flatMap fun o =>
    let b := 0x40 * o
    [rwRun b 4 1 0x3 0] ++ baseRun (b + 4) ++ baseRun (b + 0xC) ++ baseRun (b + 0x14) ++ baseRun (b + 0x1C)
    ++ [rwRun (b + 0x24) 4 1 0xFF 192, roRun (b + 0x28) 4 2])
  ++ [rwRun 0x100 4 1 0x1F 0x10, rwRun 0x104 4 1 0x03FF03FF 0x020001E0, rwRun 0x108 4 1 0xFF 24, roRun 0x180 4 5]

/-- BLT (R428). -/
def bltRuns : List RegRun := [rwRun 0x0 4 1 0x1 1, rwRun 0x4 4 1 0x1FF 320, roRun 0x100 4 4]

/-- MEM (R455). -/
def memRuns : List RegRun :=
  [rwRun 0x0 4 1 0x7FF 0x4FA, rwRun 0x4 4 1 0xFF 24, rwRun 0x8 4 1 0x1FF 64, roRun 0x100 4 10, roRun 0x140 4 11]

/-- SEC (R546). -/
def secRuns : List RegRun := [roRun 0x0 4 21, roRun 0x80 4 16]

/-- FLT (R583). -/
def fltRuns : List RegRun := [rwRun 0x0 4 1 0x1 1, roRun 0x100 4 9]

/-- RNG (R612). -/
def rngRuns : List RegRun :=
  [rwRun 0x0 4 1 0x7 3, rwRun 0x4 4 1 0xFFFF 1, rwRun 0x8 4 1 0xFFFF 0x0101, roRun 0x100 4 6,
   rwRun 0x1000 4 256 0xFFFFFFFF 0]

/-- CPT (R639). -/
def cptRuns : List RegRun :=
  [rwRun 0x0 4 1 0x3 0, rwRun 0x4 4 1 0x7FFF 2000, rwRun 0x8 4 1 0xFFFFFFFF 0x5A5A0001, rwRun 0xC 4 1 0x1 1,
   roRun 0x100 4 7, roRun 0x200 4 68, roRun 0x400 4 64]

/-- The register runs of a block window (R459). -/
def regRuns (v : Variant) : Blk → List RegRun
  | .sys => sysRuns v
  | .scn => scnRuns v
  | .syn => synRuns
  | .cmp => cmpRuns
  | .tvr => tvrRuns
  | .sco => scoRuns
  | .spl => splRuns
  | .lne => lneRuns
  | .trm => trmRuns
  | .cam => (List.range 4).flatMap camRuns
  | .cal => calRuns
  | .blt => bltRuns
  | .mem => memRuns
  | .sec => secRuns
  | .flt => fltRuns
  | .rng => rngRuns
  | .cpt => cptRuns

/-- Whether a run holds the word at an offset. -/
def RegRun.holds (r : RegRun) (off : Nat) : Bool :=
  r.base ≤ off && (off - r.base) % r.stride == 0 && (off - r.base) / r.stride < r.count

/-- The run that defines the word at an offset of a window, if any (R12). -/
def findRun (v : Variant) (b : Blk) (off : Nat) : Option RegRun := (regRuns v b).find? (·.holds off)

/-- The smallest input value that R154 maps to index i, in units of 2^-15 (R181). -/
def rttInput (i : Nat) : Nat :=
  if i < 128 then i else (64 + (i - 128) % 64) * 2 ^ ((i - 128) / 64) * 2

/-- The reset value of a ray transfer table entry (R181): the ramp `min(1023, ⌊1023·v + 0.5⌋)`. -/
def rttReset (i : Nat) : Nat := min 1023 ((1023 * rttInput i * 2 + 32768) / 65536)

/-- The reset value of the word at an offset (R10, R181). -/
def resetWord (v : Variant) (b : Blk) (off : Nat) : Word :=
  match findRun v b off with
  | none => 0
  | some r =>
    if b = .syn ∧ 0x10000 ≤ off then
      let k := ((off - 0x10000) / 4) % 512
      BitVec.ofNat 32 (rttReset (2 * k) + rttReset (2 * k + 1) * 65536)
    else BitVec.ofNat 32 r.reset

end Sys2Proof.Machine
end

