-- ==== Sys2Proof/Machine/Ops.lean ====
section
/-! DEFINITION. The named operations the meanings are written with: sparse tables in canonical form,
the parts of the state, and time. -/
namespace Sys2Proof

/-- The other output. -/
def OutId.other : OutId → OutId
  | .A => .B
  | .B => .A

/-- The port number of a ring port (R302). -/
def RPort.no : RPort → Nat
  | .east => 2
  | .west => 3

/-- The other ring port. -/
def RPort.other : RPort → RPort
  | .east => .west
  | .west => .east

/-- 0 for output A, 1 for output B (R490). -/
def OutId.num : OutId → Nat
  | .A => 0
  | .B => 1

end Sys2Proof

namespace Sys2Proof.Machine

/-! ### Sparse tables in canonical form -/

/-- The entry at a key, or the table's default. -/
def tget {α : Type} (d : α) : Table α → Nat → α
  | [], _ => d
  | (k, v) :: t, n => if n = k then v else tget d t n

/-- The entry at a key, if one is listed. -/
def tfind {α : Type} : Table α → Nat → Option α
  | [], _ => none
  | (k, v) :: t, n => if n = k then some v else tfind t n

/-- Lists an entry at its place among rising keys. -/
def tput {α : Type} : Table α → Nat → α → Table α
  | [], n, v => [(n, v)]
  | (k, w) :: t, n, v =>
    if n < k then (n, v) :: (k, w) :: t else if n = k then (n, v) :: t else (k, w) :: tput t n v

/-- Drops the entry at a key. -/
def tdel {α : Type} (t : Table α) (n : Nat) : Table α := t.filter fun e => e.1 ≠ n

/-- Writes a table: an entry equal to the default is not listed. -/
def tset {α : Type} [DecidableEq α] (d : α) (t : Table α) (n : Nat) (v : α) : Table α :=
  if v = d then tdel t n else tput t n v

/-- Keys strictly rising, all above a bound. -/
def risingFrom {α : Type} : Option Nat → Table α → Bool
  | _, [] => true
  | lo, (k, _) :: t => (match lo with | none => true | some l => l < k) && risingFrom (some k) t

/-- The canonical form of a table with a default: keys rising and no entry equal to the default. -/
def tableWf {α : Type} [DecidableEq α] (d : α) (t : Table α) : Bool :=
  risingFrom none t && t.all fun e => e.2 ≠ d

/-! ### Memory (R441: unlisted module DRAM reads as zeroing left it) -/

/-- The canonical form of module memory. -/
abbrev Memory.wf (m : Table Byte) : Bool := tableWf (0 : Byte) m

/-- One byte of module memory. -/
def memGet (m : Table Byte) (a : Nat) : Byte := tget 0 m a

/-- A write of one byte. -/
def memSet (m : Table Byte) (a : Nat) (b : Byte) : Table Byte := tset 0 m a b

/-- `n` bytes from an address. -/
def memRead (m : Table Byte) (a n : Nat) : List Byte := (List.range n).map fun i => memGet m (a + i)

/-- A write of bytes from an address. -/
def memWrite : Table Byte → Nat → List Byte → Table Byte
  | m, _, [] => m
  | m, a, b :: bs => memWrite (memSet m a b) (a + 1) bs

/-! ### Parts of the state -/

/-- The output a field value names (R490). -/
def outOf (n : Nat) : OutId := if n = 0 then .A else .B

/-- The outputs of a variant (R2). -/
def State.outs (s : State) : List OutId := if s.variant = .E2 then [.A, .B] else [.A]

/-- An output. -/
def State.out (s : State) : OutId → Output
  | .A => s.outA
  | .B => s.outB

/-- Replaces an output. -/
def State.setOut (s : State) (o : OutId) (v : Output) : State :=
  match o with
  | .A => { s with outA := v }
  | .B => { s with outB := v }

/-- Updates an output. -/
def State.modOut (s : State) (o : OutId) (f : Output → Output) : State := s.setOut o (f (s.out o))

/-- A panel link. -/
def State.link (s : State) : OutId → Link
  | .A => s.linkA
  | .B => s.linkB

/-- Updates a panel link. -/
def State.modLink (s : State) (o : OutId) (f : Link → Link) : State :=
  match o with
  | .A => { s with linkA := f s.linkA }
  | .B => { s with linkB := f s.linkB }

/-- A letterbox. -/
def State.box (s : State) (f : Nat) : Letterbox := s.boxes.getD f (Letterbox.reset false)

/-- Updates a letterbox. -/
def State.modBox (s : State) (f : Nat) (g : Letterbox → Letterbox) : State := { s with boxes := s.boxes.modify f g }

/-- A channel. -/
def State.chan (s : State) (c : Nat) : Channel := s.chans.getD c .reset

/-- Updates a channel. -/
def State.modChan (s : State) (c : Nat) (g : Channel → Channel) : State := { s with chans := s.chans.modify c g }

/-- A landing. -/
def State.landing (s : State) (n : Nat) : Landing := s.landings.getD n (Landing.reset false)

/-- Updates a landing. -/
def State.modLanding (s : State) (n : Nat) (g : Landing → Landing) : State :=
  { s with landings := s.landings.modify n g }

/-- A lane. -/
def State.lane (s : State) (n : Nat) : Lane := s.lanes.getD n .reset

/-- Updates a lane. -/
def State.modLane (s : State) (n : Nat) (g : Lane → Lane) : State := { s with lanes := s.lanes.modify n g }

/-- A camera port. -/
def State.cam (s : State) (n : Nat) : Camera := s.cams.getD n .reset

/-- Updates a camera port. -/
def State.modCam (s : State) (n : Nat) (g : Camera → Camera) : State := { s with cams := s.cams.modify n g }

/-- A temperature sensor. -/
def State.sensor (s : State) (n : Nat) : Sensor := s.sensors.getD n .reset

/-- Updates a sensor. -/
def State.modSensor (s : State) (n : Nat) (g : Sensor → Sensor) : State := { s with sensors := s.sensors.modify n g }

/-- Updates Cellar's part. -/
def State.modCellar (s : State) (g : Cellar → Cellar) : State := { s with cellar := g s.cellar }

/-- Updates the Transom engine. -/
def State.modTrm (s : State) (g : Transom → Transom) : State := { s with transom := g s.transom }

/-- Updates Threshold's part. -/
def State.modTrust (s : State) (g : Trust → Trust) : State := { s with trust := g s.trust }

/-- Updates the supplies. -/
def State.modPower (s : State) (g : Power → Power) : State := { s with power := g s.power }

/-- Updates the audit chain. -/
def State.modAudit (s : State) (g : Audit → Audit) : State := { s with audit := g s.audit }

/-- Updates the blitter. -/
def State.modBlit (s : State) (g : Blitter → Blitter) : State := { s with blit := g s.blit }

/-- Updates module DRAM. -/
def State.modDram (s : State) (g : Dram → Dram) : State := { s with dram := g s.dram }

/-- Updates the ring. -/
def State.modRing (s : State) (g : Ring → Ring) : State := { s with ring := g s.ring }

/-- A ring port. -/
def State.rport (s : State) : RPort → RingPort
  | .east => s.ring.east
  | .west => s.ring.west

/-- Updates a ring port. -/
def State.modRport (s : State) (p : RPort) (g : RingPort → RingPort) : State :=
  match p with
  | .east => { s with ring := { s.ring with east := g s.ring.east } }
  | .west => { s with ring := { s.ring with west := g s.ring.west } }

/-- A doorway record. -/
def State.door (s : State) (o : OutId) : Door :=
  ((s.commits.doors.find? fun d => d.1 == o).map (·.2)).getD { closeN := 0, closeClk := 0, closing := false, swapN := 0, joint := false, late := [] }

/-- Updates a doorway record. -/
def State.modDoor (s : State) (o : OutId) (g : Door → Door) : State :=
  { s with commits := { s.commits with doors := s.commits.doors.map fun d => if d.1 = o then (d.1, g d.2) else d } }

/-- The package whose resources an output draws with: output B keeps the old one until its own doorway (R530). -/
def State.pkgFor (s : State) (o : OutId) : Option Package :=
  if o = .B ∧ s.trust.pendNeedB = true then s.trust.pkgB else s.trust.pkg

/-- The region records in force on an output: output B keeps those of the package before until its own doorway (R530). -/
def State.regionsOn (s : State) (o : OutId) : Table Region :=
  (if o = .B ∧ s.trust.pendNeedB = true then (s.trust.pkgB.map (·.regions)).getD [] else s.trust.regions).filter
    fun e => e.2.out == o

/-- Every region record in force, by output. -/
def State.allRegions (s : State) : Table Region := s.regionsOn .A ++ s.regionsOn .B

/-- A region record in force on an output. -/
def State.regionOf (s : State) (o : OutId) (r : Nat) : Option Region := tfind (s.regionsOn o) r

/-! ### Frames of an output -/

/-- What frame n of an output runs under. -/
def Output.info (x : Output) (n : Nat) : Option FrameInfo := x.frames.find? (·.frame == n)

/-- Whether a band is in work. -/
def Output.band (x : Output) (f y : Nat) : Option Band := x.bands.find? fun b => b.frame == f && b.y == y

/-- Updates a band. -/
def Output.modBand (x : Output) (f y : Nat) (g : Band → Band) : Output :=
  { x with bands := x.bands.map fun b => if b.frame = f ∧ b.y = y then g b else b }

/-- The frame period in crystal cycles, rounded up. -/
def ModeCfg.period (m : ModeCfg) : Nat := cdiv 25000000 m.rate

/-- The numerator of A in crystal cycles over `rate` (R158): A = 25 × (10^6 − VBLANK_MIN × rate) / rate. -/
def ModeCfg.active (m : ModeCfg) : Nat := 25 * (1000000 - m.vmin * m.rate)

/-- Pacing time of emitter row k after FRAME_START in crystal cycles, rounded up. -/
def ModeCfg.paceOf (m : ModeCfg) (k : Nat) : Nat := cdiv (k * m.active) (m.rate * (m.h * m.hy))

/-- Emitter rows of a frame. -/
def ModeCfg.emRows (m : ModeCfg) : Nat := m.h * m.hy

/-- FRAME_START of a frame: the one in progress, or the earliest instant at which R161's conditions 1 and 2 let the
next one start. -/
def Output.startOf (x : Output) (frame : Nat) : Nat :=
  if frame = x.frameNum then x.fsClk
  else
    let p := match x.info x.frameNum with
      | none => (0, 0)
      | some i => (i.mode.period, i.mode.vmin)
    if x.inBlank then max (x.fsClk + p.1) (x.feClk + 25 * p.2) else x.fsClk + p.1

/-- Whether an island takes work: it is there, on and locked, in service, and no recovery of it waits for its replay
(R24, R572, R573). Work for any other waits. -/
def State.works (s : State) (n : Nat) : Bool :=
  let l := s.landing n
  l.present && l.powered && l.pllLocked && !(s.cellar.outOfSvc.contains n)
  && s.cellar.recov.all fun r => r.store || r.island != n || r.replayed

/-! ### Time (R218) and values left open -/

/-- Cellar time in microseconds (R218): 25 cycles of the crystal each. -/
def State.us (s : State) : Nat := s.clk / 25

/-- Moves the clock on to an instant, never back. -/
def State.atClk (s : State) (n : Nat) : State := { s with clk := max s.clk n }

/-- Moves the clock on to a Cellar time in microseconds. -/
def State.atUs (s : State) (n : Nat) : State := s.atClk (25 * n)

/-- One cycle of the 25 MHz crystal while Cellar runs; nothing moves while Cellar is held in reset (R218, R619). -/
def idle (s : State) : State := if s.power.vauxValid then { s with clk := s.clk + 1 } else s

/-- Counts one value that the manual leaves open as drawn. -/
def State.drawn (s : State) : State := { s with free := s.free + 1 }

/-- The next open value below a bound. -/
def State.freeBelow (s : State) (bound : Nat) : Nat := Config.freeValue s.free % bound

end Sys2Proof.Machine
end

