-- ==== Sys2Proof/Machine/Float.lean ====
section
/-! DEFINITION. IEEE 754 binary32 arithmetic on values that are not negative, with round to nearest even (R150, R197),
and binary16 patterns. -/
namespace Sys2Proof.Machine

/-- A binary32 value m × 2^e. Every value of the ray and composition rules is 0 or more, and none is subnormal. -/
structure F32 where
  m : Nat
  e : Int
  deriving DecidableEq, Repr

/-- 2^k of a non-negative integer, 1 otherwise. -/
def pow2 (k : Int) : Nat := 2 ^ k.toNat

/-- The 24-bit value nearest to (n / d) × 2^e; ties go to the even one. -/
def F32.round (n d : Nat) (e : Int) : F32 :=
  if n = 0 then { m := 0, e := 0 }
  else
    let s := 26 + Nat.log2 d - Nat.log2 n
    let n' := n * 2 ^ s
    let q := n' / d
    let k := Nat.log2 q + 1 - 24
    let half := 2 ^ k / 2
    let r := q % 2 ^ k
    let up := half < r || (r == half && 0 < k && (n' % d != 0 || q / 2 ^ k % 2 == 1))
    { m := q / 2 ^ k + b2n up, e := e - s + k }

/-- A whole number. -/
def F32.ofNat (n : Nat) : F32 := F32.round n 1 0

/-- A ratio of whole numbers, rounded. -/
def F32.ratio (n d : Nat) : F32 := F32.round n d 0

/-- Sum. -/
def F32.add (a b : F32) : F32 :=
  let e := min a.e b.e
  F32.round (a.m * pow2 (a.e - e) + b.m * pow2 (b.e - e)) 1 e

/-- Difference, 0 where it would be negative. -/
def F32.sub (a b : F32) : F32 :=
  let e := min a.e b.e
  F32.round (a.m * pow2 (a.e - e) - b.m * pow2 (b.e - e)) 1 e

/-- Product. -/
def F32.mul (a b : F32) : F32 := F32.round (a.m * b.m) 1 (a.e + b.e)

/-- Quotient; 0 where the divisor is 0. -/
def F32.div (a b : F32) : F32 := if b.m = 0 then { m := 0, e := 0 } else F32.round a.m b.m (a.e - b.e)

/-- a ≤ b. -/
def F32.le (a b : F32) : Bool :=
  let e := min a.e b.e
  a.m * pow2 (a.e - e) ≤ b.m * pow2 (b.e - e)

/-- The smaller value. -/
def F32.min (a b : F32) : F32 := if a.le b then a else b

/-- ⌊a⌋. -/
def F32.floor (a : F32) : Nat := if 0 ≤ a.e then a.m * pow2 a.e else a.m / pow2 (-a.e)

/-- Zero, one half, one. -/
def F32.zero : F32 := { m := 0, e := 0 }
def F32.half : F32 := { m := 1, e := -1 }
def F32.one : F32 := { m := 1, e := 0 }

/-- ⌊v × M + 0.5⌋ in binary32. -/
def F32.code (v : F32) (full : Nat) : Nat := ((v.mul (F32.ofNat full)).add F32.half).floor

/-- A binary16 pattern within 0 to `hi`: NaN and negative values are 0, infinity and larger values are `hi` (R153). -/
def half16 (w : Nat) (hi : F32) : F32 :=
  let ex := fld w 10 5
  let man := fld w 0 10
  if ex = 31 ∧ man ≠ 0 then F32.zero
  else if bitOf w 15 then F32.zero
  else if ex = 31 then hi
  else
    let v : F32 := if ex = 0 then { m := man, e := -24 } else { m := 1024 + man, e := (ex : Int) - 25 }
    v.min hi

/-- A code that may lie one from the binary32 result (R150, R197), within 0 to full scale. -/
def slackCode (base full : Nat) (slack : Fin 3) : Nat := min full (base + slack.val - 1)

end Sys2Proof.Machine
end

