-- ==== Sys2Proof/Machine/Regs.lean ====
section
/-! DEFINITION. Shadow and live register sets: where each block's sets are held, how a word of them is read, and how
a write sets the shadow (R10 to R12, R43, R461, R682). -/
namespace Sys2Proof.Machine

/-! ### Words of a set -/

/-- A word of a set: the listed one, or its reset value. -/
def regGet (v : Variant) (b : Blk) (m : RegMap) (off : Nat) : Nat :=
  ((tfind m off).getD (resetWord v b off)).toNat

/-- A set with one word replaced; a word at its reset value is not listed. -/
def regSet (v : Variant) (b : Blk) (m : RegMap) (off : Nat) (w : Word) : RegMap := tset (resetWord v b off) m off w

/-- The shadow set of a block. -/
def State.shadowOf (s : State) (b : Blk) : RegMap := ((s.shadow.find? fun e => e.1 == b).map (·.2)).getD []

/-- Replaces the shadow set of a block; blocks at reset are not listed. -/
def State.setShadow (s : State) (b : Blk) (m : RegMap) : State :=
  let rest := s.shadow.filter fun e => e.1 ≠ b
  { s with shadow := if m = [] then rest else rest ++ [(b, m)] }

/-- A shadow word. -/
def State.sh (s : State) (b : Blk) (off : Nat) : Nat := regGet s.variant b (s.shadowOf b) off

/-- Replaces a shadow word. -/
def State.setSh (s : State) (b : Blk) (off w : Nat) : State :=
  s.setShadow b (regSet s.variant b (s.shadowOf b) off (BitVec.ofNat 32 w))

/-! ### Block windows (R459) -/

/-- The block windows in the order of their numbers. -/
def allBlks : List Blk :=
  [.sys, .scn, .syn, .cmp, .tvr, .sco, .spl, .lne, .trm, .cam, .cal, .blt, .mem, .sec, .flt, .rng, .cpt]

/-- The block of a window number. -/
def blkOf (n : Nat) : Option Blk := allBlks[n]?

/-- The window number of a block. -/
def Blk.num (b : Blk) : Nat := allBlks.idxOf b

/-- Doorway kinds (R27), with the codes of R495. -/
inductive DoorKind where
  | f | l | sf | u | t
  deriving DecidableEq, Repr

/-- The code of a doorway kind (R495). -/
def DoorKind.code : DoorKind → Nat
  | .f => 0
  | .l => 1
  | .sf => 2
  | .u => 3
  | .t => 4

/-- The doorway kind of a block (R27); SEC has none. -/
def Blk.kind : Blk → Option DoorKind
  | .blt => some .l
  | .cam => some .sf
  | .trm => some .u
  | .lne | .mem => some .t
  | .sec => none
  | _ => some .f

/-- The landings that hold a block's sets (R682). -/
def Blk.holders : Blk → List Nat
  | .sys => [62, 63]
  | .scn => [32, 33, 34, 35]
  | .syn => List.range 32 ++ [62]
  | .cmp => [36, 37, 38, 39]
  | .tvr => [40, 41]
  | .sco => [42, 43, 44, 45]
  | .spl => [44, 45]
  | .lne => [44, 45, 46, 47]
  | .trm => [61]
  | .cam => [55, 56, 57]
  | .cal => [42, 43]
  | .blt => [58]
  | .mem => [49, 50, 51, 52]
  | .sec => []
  | .flt => [54]
  | .rng => [46, 47]
  | .cpt => [62]

/-- Whether a block's landings keep one live set for each output (R682). -/
def Blk.both (b : Blk) : Bool := b == .syn || b == .scn || b == .cmp || b == .tvr

/-- Whether a block has landings of one output each (R682). -/
def Blk.perOut (b : Blk) : Bool := b == .sco || b == .spl || b == .cal

/-- The outputs at whose doorway a landing swaps a block: both, or its own. A device-wide block (SYS, FLT, RNG, CPT)
keeps one set, kept as output A's, and swaps it at the doorway of the output that its commit named. -/
def landingServes (b : Blk) (isl : Nat) : List OutId :=
  if b.both then [.A, .B] else if b.perOut then (if isl = 42 ∨ isl = 44 then [.A] else [.B]) else [.A, .B]

/-- The landing whose live set stands for a block on an output when a live offset is read. -/
def Blk.reader : Blk → OutId → Nat
  | .sys, _ => 62
  | .scn, _ => 32
  | .syn, _ => 62
  | .cmp, _ => 36
  | .tvr, _ => 40
  | .sco, .A => 42
  | .sco, .B => 43
  | .spl, .A => 44
  | .spl, .B => 45
  | .lne, .A => 44
  | .lne, .B => 45
  | .trm, _ => 61
  | .cam, _ => 57
  | .cal, .A => 42
  | .cal, .B => 43
  | .blt, _ => 58
  | .mem, _ => 49
  | .sec, _ => 60
  | .flt, _ => 54
  | .rng, _ => 46
  | .cpt, _ => 62

/-- FLOOR of an island (R18, R26). -/
def islandFloor (n : Nat) : Nat :=
  if n < 32 then 3 else if n < 42 then 2 else if n < 46 then 4 else if n < 49 then 0 else if n < 53 then 1
  else if n < 55 then 7 else if n < 57 then 2 else if n = 57 then 0 else if n < 60 then 2 else 7

/-- RISER of an island (R18, R26): 1 for the safety-and-trust riser. -/
def islandRiser (n : Nat) : Nat := if n = 40 ∨ n = 41 ∨ n = 53 ∨ n = 54 ∨ n = 60 ∨ n = 61 then 1 else 0

/-! ### Live sets -/

/-- The live set of a block for an output in a landing. -/
def Landing.liveSet (l : Landing) (b : Blk) (o : OutId) : Option LiveSet :=
  l.sets.find? fun e => e.blk == b && e.out == o

/-- The words of a live set that differ from reset. -/
def Landing.liveWords (l : Landing) (b : Blk) (o : OutId) : RegMap := ((l.liveSet b o).map (·.words)).getD []

/-- Replaces a live set of a landing by one that took effect at frame n. -/
def Landing.setLiveAt (l : Landing) (n : Nat) (b : Blk) (o : OutId) (cid : Nat) (m : RegMap) : Landing :=
  { l with sets := (l.sets.filter fun e => !(e.blk == b && e.out == o))
                    ++ [{ blk := b, out := o, port := 0, cid := cid, frame := n, words := m }] }

/-- Replaces a live set of a landing at a doorway that is no frame's (R26: LIVE_FRAME reads zero there). -/
def Landing.setLive (l : Landing) (b : Blk) (o : OutId) (cid : Nat) (m : RegMap) : Landing := l.setLiveAt 0 b o cid m

/-- The live words of a block for an output in one landing; blocks off the landings' frame path keep theirs beside
the unit that works under them. -/
def State.liveMap (s : State) (isl : Nat) (b : Blk) (o : OutId) : RegMap :=
  match b with
  | .blt => s.blit.liveWords
  | .mem => s.dram.liveWords
  | _ => (s.landing isl).liveWords b o

/-- A live word of a landing. -/
def State.lvAt (s : State) (isl : Nat) (b : Blk) (o : OutId) (off : Nat) : Nat :=
  regGet s.variant b (s.liveMap isl b o) off

/-- A live word in the set that stands for its block on an output. -/
def State.lv (s : State) (b : Blk) (o : OutId) (off : Nat) : Nat := s.lvAt (b.reader o) b o off

/-- HEAD, live. -/
def State.headBit (s : State) : Bool := bitOf (s.lv .rng .A 0) 2

/-- Whether this controller is the head of a ring with members. -/
def State.isHead (s : State) : Bool := s.headBit && 1 < s.ring.devices

/-- A member of a ring (R584 and the paragraph behind R588): HEAD is 0 and a port has become ACTIVE since start. -/
def State.isMember (s : State) : Bool := !s.headBit && s.ring.known

/-- A live word of a camera port's record, by its offset in the CAM window. -/
def State.lvCam (s : State) (port off : Nat) : Nat := regGet s.variant .cam (s.cam port).live off

/-- A live word of the scanout timing of an output: SCO in the SPL output's landing (IS44, IS45). -/
def State.tim (s : State) (o : OutId) (off : Nat) : Nat :=
  s.lvAt (match o with | .A => 44 | .B => 45) .sco o off

/-- LOCKED, live (R252). -/
def State.locked (s : State) : Bool := s.variant == .E2 && bitOf (s.tim .A 0) 0

/-- The output whose settings govern an output: A in locked operation (R60, R72, R252). -/
def State.eff (s : State) (o : OutId) : OutId := if s.locked then .A else o

/-- LINK_EN, live (R301). -/
def State.linkEn (s : State) (o : OutId) : Bool :=
  (o == .A || s.variant == .E2) && bitOf (s.lv .spl o 0x800) o.num

/-- The bits of a word that belong to output B where the other bits serve A or both (R11, R301, R64, R262). -/
def outBMask : Blk → Nat → Nat
  | .spl, 0x800 => 0xA
  | .sco, 0x110 => 0x2
  | .sco, 0x0 => 0x18
  | .sco, 0x220 => 0xA
  | .syn, 0x24 => 0x03FF0000
  | _, _ => 0

/-- Whether a whole word belongs to output B (R11): output B's mode, planes, ray transfer table, blanking, geometry, maps,
slots. -/
def outBWord (b : Blk) (off : Nat) : Bool :=
  match b with
  | .syn => off == 0x4 || off == 0xC || (0x10800 ≤ off && off < 0x11000)
  | .sco => off == 0x8 || off == 0x108 || off == 0x10C || off == 0x208 || off == 0x20C || off == 0x218 || off == 0x21C
      || (0x1400 ≤ off && off < 0x1800)
  | .cal => 0x40 ≤ off && off < 0x80
  | _ => false

/-! ### Owner locks (R461, R528) and writes -/

/-- The locked bits of a shadow word, from the live owner package. -/
def State.lockMask (s : State) (b : Blk) (off : Nat) : Nat :=
  match s.trust.pkg with
  | none => 0
  | some p => p.locks.foldl (fun a e => if e.1 = b ∧ e.2.1 = off then a ||| e.2.2.toNat else a) 0

/-- The bits of a word that belong to islands which a variant has not: on an E1, output B's formatter and SPL output
(R3, R25). They read zero and ignore writes. -/
def Variant.absentBits (v : Variant) (b : Blk) (off : Nat) : Nat :=
  match v with
  | .E2 => 0
  | .E1 =>
    if b.perOut then (if outBWord b off then 0xFFFFFFFF else outBMask b off)
    else if b = .lne ∧ 0x20 ≤ off ∧ off < 0x40 then 0xFFFFFFFF else 0

/-- The RW bits of a word on a variant. -/
def RegRun.rwOn (r : RegRun) (v : Variant) (b : Blk) (off : Nat) : Nat := r.rw &&& (0xFFFFFFFF - v.absentBits b off)

/-- Whether writes of a word are ignored for a reason of its own: a slot entry of an output whose shadow ZONED bit
is 1 (R65), or SOURCE and the bank bases while AUTO_APPLY is live at 1 (R400). -/
def State.writeIgnored (s : State) (b : Blk) (off : Nat) : Bool :=
  (b == .cal && off < 0x80 && off % 0x40 < 0x24 && bitOf (s.lv .cal .A 0x100) 1) ||
  b == .sco && ((0x1000 ≤ off && off < 0x1400 && bitOf (s.sh .sco 0x110) 0)
    || (0x1400 ≤ off && off < 0x1800 && bitOf (s.sh .sco 0x110) 1))

/-- The RW bits of a word take the value written, locked bits and reserved bits keep theirs (R10, R12, R461). -/
def mergeWrite (old new rw locked : Nat) : Nat := old &&& (0xFFFFFFFF - (rw &&& (0xFFFFFFFF - locked)))
  ||| (new &&& (rw &&& (0xFFFFFFFF - locked)))

/-- A write of a defined shadow word, its RW fields only. -/
def State.writeWord (s : State) (b : Blk) (off w : Nat) : State :=
  match findRun s.variant b off with
  | none => s
  | some r =>
    if r.rw = 0 ∨ s.writeIgnored b off = true then s
    else s.setSh b off (mergeWrite (s.sh b off) w (r.rwOn s.variant b off) (s.lockMask b off))

end Sys2Proof.Machine
end

