-- ==== Sys2Proof/Machine/Post.lean ====
section
/-! DEFINITION. What the controller writes to a host: completion entries, event entries, and the vectors it raises for
them (R468 to R474, R509, R510). -/
namespace Sys2Proof.Machine

/-! ### Rights (R477) -/

/-- The rights of a function: the live owner package's, or those of R477 while none is live. -/
def State.rights (s : State) (f : Nat) : Rights :=
  match s.trust.pkg with
  | some p => p.rights.getD f { host := false, expert := false, mask := 0 }
  | none =>
    if f = 0 then { host := true, expert := true, mask := 0x1FFFF } else { host := false, expert := false, mask := 0 }

/-! ### Vectors (R474) -/

/-- The MSI-X mask bit of a vector: bit 0 of its Vector Control word, set at reset. -/
def Letterbox.masked (b : Letterbox) (v : Nat) : Bool := bitOf ((tfind b.msix (16 * v + 12)).getD 1).toNat 0

/-- Sends a vector, or leaves it pending while it is masked. -/
def Letterbox.fire (b : Letterbox) (v : Nat) : Letterbox :=
  if b.masked v then { b with pba := if v ∈ b.pba then b.pba else b.pba ++ [v] }
  else { b with raised := tset 0 b.raised v (tget 0 b.raised v + 1) }

/-- Completion entries that the host has not returned. -/
def Letterbox.cqHeldN (b : Letterbox) : Nat := if b.cqSize = 0 then 0 else (b.cqTail + b.cqSize - b.cqHead) % b.cqSize

/-- Event entries that the host has not returned. -/
def Letterbox.eqHeldN (b : Letterbox) : Nat := if b.eqSize = 0 then 0 else (b.eqTail + b.eqSize - b.eqHead) % b.eqSize

/-- Whether a vector is raised at once at a time in µs: no coalescing, an empty ring before the posting, or a whole
interval since the last raise (R474). -/
def vectorDue (coalesce now : Nat) (last : Option Nat) (wasEmpty : Bool) : Bool :=
  coalesce == 0 || wasEmpty || (match last with | none => true | some t => t + min coalesce 1000 ≤ now)

/-- Raises the completion vector, or holds it back for VECTOR_COALESCE_EXPIRY. -/
def Letterbox.raiseCq (b : Letterbox) (now : Nat) (wasEmpty : Bool) : Letterbox :=
  if vectorDue b.coalesce now b.cqRaised wasEmpty then { b.fire b.cqVec with cqRaised := some now, cqHeld := false }
  else { b with cqHeld := true }

/-- Raises the event vector, or holds it back. -/
def Letterbox.raiseEq (b : Letterbox) (now : Nat) (wasEmpty : Bool) : Letterbox :=
  if vectorDue b.coalesce now b.eqRaised wasEmpty then { b.fire b.eqVec with eqRaised := some now, eqHeld := false }
  else { b with eqHeld := true }

/-! ### Ring entries (R8, R468, R472) -/

/-- The 32 bytes of a completion entry (R468). -/
def CqEntry.bytes (e : CqEntry) : List Byte :=
  leBytes 4 e.cmdId ++ leBytes 2 e.status ++ leBytes 2 (b2n e.phase + 2 * b2n e.respErr) ++ leBytes 2 e.sqHead ++ zeros 2
  ++ leBytes 4 e.retry ++ fitTo 16 e.inl

/-- The 32 bytes of an event entry (R472). -/
def EqEntry.bytes (e : EqEntry) : List Byte :=
  leBytes 2 e.event ++ leBytes 2 (b2n e.phase + 2 * b2n e.overflow) ++ leBytes 4 e.seq ++ leBytes 8 e.time ++ fitTo 16 e.data

/-- What host memory holds of a completion that the host has not returned: its entry at CQ_BASE (R468, R469). -/
def Letterbox.cqSlot (b : Letterbox) (i : Nat) : Option (Nat × List Byte) :=
  (b.cq[i]?).map fun e => (b.cqBase + 32 * ((b.cqHead + i) % b.cqSize), e.bytes)

/-- The same of an event (R472). -/
def Letterbox.eqSlot (b : Letterbox) (i : Nat) : Option (Nat × List Byte) :=
  (b.eq[i]?).map fun e => (b.eqBase + 32 * ((b.eqHead + i) % b.eqSize), e.bytes)

/-! ### Events (R472, R473) -/

/-- Posts or drops one event of a function: EVENT_SEQ counts it either way; a full ring drops it (R469, R472). -/
def Letterbox.postEvent (b : Letterbox) (now code : Nat) (data : List Byte) : Letterbox :=
  if !b.eqEn then b
  else if b.eqHeldN + 1 ≥ b.eqSize then
    { b with evSeq := w32 (b.evSeq + 1), eqDropped := sat 16 (b.eqDropped + 1), overflow := true }
  else
    let e : EqEntry := { event := code, phase := b.eqPhase, overflow := b.overflow, seq := b.evSeq, time := now,
                         data := fitTo 16 data }
    let t := (b.eqTail + 1) % b.eqSize
    let b' := { b with eq := b.eq ++ [e], eqTail := t, eqPhase := if t = 0 then !b.eqPhase else b.eqPhase,
                       evSeq := w32 (b.evSeq + 1), overflow := false }
    b'.raiseEq now (b.eqHeldN == 0)

/-- Raises an event that reports on a command, or on a channel, to one function (R473). -/
def State.event (s : State) (f code : Nat) (data : List Byte) : State :=
  s.modBox f fun b => b.postEvent s.us code data

/-- Raises a device-wide event: to the PF, and to each VF that holds RIGHT_HOST, where the area bit is set (R473). -/
def State.eventAll (s : State) (code : Nat) (data : List Byte) : State :=
  { s with boxes := s.boxes.mapIdx fun f b =>
      if bitOf b.evMask (code / 256 % 16) && (f == 0 || (s.rights f).host) then b.postEvent s.us code data else b }

/-! ### Completions (R468 to R470) -/

/-- Writes the completion of a command of a function: the response goes to the buffer where RESP_LEN is non-zero and
into INLINE_RESP otherwise. While CQ_EN is 0 it is discarded, and so is that of a command fetched before CQ_EN was last
cleared, which bears a mark: its CMD_ID beyond 32 bits (R464). -/
def Letterbox.postCompletion (b : Letterbox) (now cmdId status retry respLen : Nat) (respOk : Bool) (resp : List Byte) :
    Letterbox :=
  let b := { b with running := b.running - 1 }
  if !b.cqEn || b.cqSize == 0 || 0x100000000 ≤ cmdId then b
  else
    let e : CqEntry :=
      { cmdId := cmdId, status := status, phase := b.cqPhase, respErr := respLen != 0 && !respOk, sqHead := b.sqHead,
        retry := retry, inl := if respLen = 0 then fitTo 16 resp else zeros 16,
        resp := if respLen = 0 then [] else resp.take respLen }
    let t := (b.cqTail + 1) % b.cqSize
    let b' := { b with cq := b.cq ++ [e], cqTail := t, cqPhase := if t = 0 then !b.cqPhase else b.cqPhase }
    b'.raiseCq now (b.cqHeldN == 0)

/-- CMD_ID of a submission entry, with the mark of one whose completion is discarded: a byte behind its 64. -/
def entryId (e : SqEntry) : Nat := nAt e.raw 4 4 + (if 64 < e.raw.length then 0x100000000 else 0)

/-- Marks a CMD_ID, and an entry, as that of a command whose completion is discarded (R464). -/
def muteId (n : Nat) : Nat := if n < 0x100000000 then n + 0x100000000 else n

/-- The same mark on an entry. -/
def muteEntry (e : SqEntry) : SqEntry := if 64 < e.raw.length then e else { e with raw := fitTo 64 e.raw ++ zeros 1 }

/-- Writes the completion of a command whose submission entry is at hand. -/
def State.complete (s : State) (f : Nat) (e : SqEntry) (status retry : Nat) (resp : List Byte) : State :=
  s.modBox f fun b =>
    b.postCompletion s.us (entryId e) status retry (nAt e.raw 0x14 4) e.respOk resp

/-! ### Status codes (R475) -/

/-- OK. -/
def stOk : Nat := 0x0000
/-- OK_DEFERRED. -/
def stDeferred : Nat := 0x0001
/-- BUSY_RETRY. -/
def stBusyRetry : Nat := 0x0100
/-- QUEUE_FULL. -/
def stQueueFull : Nat := 0x0101
/-- BAD_OPCODE. -/
def stBadOpcode : Nat := 0x0200
/-- BAD_LENGTH. -/
def stBadLength : Nat := 0x0201
/-- BAD_FIELD. -/
def stBadField : Nat := 0x0202
/-- NO_RESOURCE. -/
def stNoResource : Nat := 0x0400
/-- FAULT_STATE. -/
def stFaultState : Nat := 0x0500
/-- REPLAYING. -/
def stReplaying : Nat := 0x0501
/-- OVERLAP_REJECTED. -/
def stOverlap : Nat := 0x0600
/-- NOT_READY. -/
def stNotReady : Nat := 0x0700

end Sys2Proof.Machine
end

