-- ==== Sys2Proof/Machine/Cellar.lean ====
section
/-! DEFINITION. Cellar: what it forces, what it logs, and how a fault is handled from its detection on (R547 to R583);
taking a fault is the ONE operation `State.fault`. -/
namespace Sys2Proof.Machine

/-- Updates MRAM. -/
def State.modMram (s : State) (g : Mram → Mram) : State := { s with mram := g s.mram }

/-- The firmware records whose seals hold (R513, R545). -/
def State.fwRecs (s : State) : AB FwImage := s.mram.fw.sound s.trust.serial 0x41 FwImage.payload

/-- The owner package records whose seals hold. -/
def State.pkgRecs (s : State) : AB Package := s.mram.pkg.sound s.trust.serial 0x50 Package.payload

/-- The owner state records whose seals hold. -/
def State.ownerRecs (s : State) : AB (Option (List Byte) × Nat) := s.mram.owner.sound s.trust.serial 0x51 ownerPayload

/-- The audit chain tails whose seals hold. -/
def State.tailRecs (s : State) : AB (Nat × List Byte) := s.mram.tail.sound s.trust.serial 0x53 tailPayload

/-- Threshold writes the owner state record: key slot and COMMAND_COUNTER (R513, R545). -/
def State.writeOwner (s : State) (key : Option (List Byte)) (counter : Nat) : State :=
  s.modMram fun m => { m with owner := m.owner.writeSealed s.trust.serial 0x51 ownerPayload s.us (key, counter) }

/-- The identity record, where its seal holds (R545). -/
def State.identRec (s : State) : Option (Rec (List Byte × List Byte)) :=
  s.mram.ident.filter (Rec.sealOk s.trust.serial 0x40 identPayload)

/-- The identity private keys, unwrapped from MRAM (R513); none once the key ladder is disabled (R523). -/
def State.identityKeys (s : State) : List Byte :=
  if s.trust.lifecycle = 3 then []
  else match s.identRec with | none => [] | some r => wrapXor s.trust.serial r.val.2

/-! ### Safe states in force (R548, R554) -/

/-- The most severe safe state that Cellar forces on anything an output shows, 0 to 4. -/
def State.safeOf (s : State) (o : OutId) : Nat :=
  let c := s.cellar
  if c.ss4 then 4 else if c.ss3.any (·.out == o) then 3 else if c.ss2.any (·.out == o) then 2
  else if c.ss1.any (·.out == o) then 1 else 0

/-- Whether a region of an output is forced to SS1. -/
def State.ss1On (s : State) (o : OutId) (r : Nat) : Bool := s.cellar.ss1.any fun m => m.out == o && m.unit == r

/-- Whether a channel of an output is forced to SS2. -/
def State.ss2On (s : State) (o : OutId) (c : Nat) : Bool := s.cellar.ss2.any fun m => m.out == o && m.unit == c

/-- Forces a marking, or takes its detection as recurred (R579). -/
def addMark (ms : List Mark) (o : OutId) (u code : Nat) : List Mark :=
  (ms.filter fun m => !(m.out == o && m.unit == u && m.code == code)) ++ [{ out := o, unit := u, code := code, clean := 0 }]

/-- Forces SS3 on an output for a cause. -/
def addDark (ds : List Dark) (o : OutId) (code : Nat) (fc4 : Bool) (now : Nat) : List Dark :=
  (ds.filter fun d => !(d.out == o && d.code == code && d.fc4 == fc4)) ++
    [{ out := o, code := code, fc4 := fc4, since := now }]

/-! ### PSAFE (R297) -/

/-- Whether the panel's latest CAPS advertises a FLAGS bit (R284). -/
def State.capFlag (s : State) (o : OutId) (n : Nat) : Bool :=
  match (s.link o).caps with
  | none => false
  | some c => bitOf (nAt c 3 1) n

/-- Whether a cause of R297 holds on an output. Entering and holding STANDBY is one more (R623). -/
def State.psafeCause (s : State) (o : OutId) : Bool :=
  s.cellar.psafeAll || s.cellar.ss4 || s.cellar.ss3.any (·.out == o)
  || (s.link o).st != .active || (s.locked && (s.linkA.st != .active || s.linkB.st != .active))
  || (s.out o).held || bitOf (s.lv .spl o 0x800) (2 + o.num)
  || (s.capFlag o 3 && !(s.link o).echoOk) || !(s.out o).verified
  || s.power.standby == 2 || s.power.standby == 3

/-- Asserts PSAFE of each output on which a cause holds; only a FRAME_START releases it (R297). -/
def State.drivePsafe (s : State) : State :=
  let a := s.psafeCause .A
  let b := s.psafeCause .B
  { s with linkA := { s.linkA with psafe := s.linkA.psafe || a }, linkB := { s.linkB with psafe := s.linkB.psafe || b } }

/-! ### The Transom's Cellar messages (R352) -/

/-- Requests the rails, which starts with VGL (R332, R343); nothing happens while they are up or coming up, or while
the Transom is off or in the power-loss procedure. -/
def Transom.requestRails (t : Transom) (now : Nat) (enabled : Bool) : Transom :=
  if t.powerLoss || !enabled || t.rails ≠ [] || t.ramping.isSome || t.falling.isSome then t
  else { t with ramping := some .vgl, rampAt := now }

/-- TR_EN, live. -/
def State.trEn (s : State) : Bool := bitOf (s.lv .trm .A 0) 0

/-- Cellar forces a message (R352): 3 the SS3 message, 4 DISPLAY NOT VALID. The hold is set at once. A more severe
message replaces a less severe one; none starts in the power-loss procedure (R355). -/
def State.forceMessage (s : State) (m : Nat) : State :=
  if s.transom.powerLoss then s
  else
    let t := s.transom
    let cur := t.message.getD 0
    { s with transom := { t with hold := true, release := false, message := some (max cur m) }.requestRails s.clk s.trEn }

/-- Cellar releases its hold of the Transom (R354, R580, R650): when no SS3 or SS4 is in force and SAFE_OUT has been
released. -/
def State.releaseHold (s : State) : State :=
  if s.cellar.ss4 || !s.cellar.ss3.isEmpty || !s.power.safeRel || !s.transom.hold || s.transom.powerLoss then s
  else { s with transom := { s.transom with release := true, message := none }.requestRails s.clk s.trEn }

/-! ### The fault log (R559, R563, R564) -/

/-- Appends an entry to the ring of 256. -/
def logAppend (l : List LogEntry) (e : LogEntry) : List LogEntry := (l ++ [e]).drop ((l.length + 1) - 256)

/-- The bytes of a log entry (R563). -/
def LogEntry.bytes (e : LogEntry) : List Byte :=
  leBytes 4 e.seq ++ leBytes 1 e.cls ++ leBytes 1 e.island ++ leBytes 1 e.safe
  ++ leBytes 1 (b2n e.esc + 2 * b2n e.handled + 4 * b2n e.lifted) ++ leBytes 8 e.time ++ leBytes 4 e.code
  ++ leBytes 4 e.frame ++ leBytes 4 e.detail ++ leBytes 2 e.count ++ zeros 2

/-- The payload of the shutdown record (R636). -/
def Shutdown.payload (r : Shutdown) : List Byte :=
  leBytes 1 r.cause ++ leBytes 1 r.orderly ++ leBytes 1 r.sensor ++ leBytes 1 r.step ++ leBytes 2 (unsgn 16 r.temp)
  ++ leBytes 2 (unsgn 16 r.rise) ++ leBytes 8 r.time ++ leBytes 4 r.frame ++ leBytes 4 r.stops ++ zeros 16

/-- The bytes of an unsealed copy (R404). -/
def copyBytes {α : Type} (type : Nat) (pay : α → List Byte) (r : Option (Rec α)) : Option (List Byte) :=
  r.map fun r => recBytes type r.seq r.time (pay r.val) ++ r.mac

/-- One of the two copies. -/
def AB.copy {α : Type} (r : AB α) (b : Bool) : Option (Rec α) := if b then r.b else r.a

/-- What MRAM holds of a record whose payload the manual lays out, and of Threshold's records, by TYPE and copy, with its
seal (R404, R407, R513, R545): the bytes in the order of R8. -/
def State.recImage (s : State) (type : Nat) (b : Bool) : Option (List Byte) :=
  let m := s.mram
  match type with
  | 0x32 => copyBytes type (leBytes 4) (m.marker.copy b)
  | 0x40 => copyBytes type identPayload m.ident
  | 0x41 => copyBytes type FwImage.payload (m.fw.copy b)
  | 0x50 => copyBytes type Package.payload (m.pkg.copy b)
  | 0x51 => copyBytes type ownerPayload (m.owner.copy b)
  | 0x53 => copyBytes type tailPayload (m.tail.copy b)
  | 0x60 => copyBytes type (fun l => l.flatMap LogEntry.bytes) (m.mirror.copy b)
  | 0x80 => copyBytes type Shutdown.payload (m.shutdown.copy b)
  | _ => none

/-- Marks entries of the log. -/
def State.modLog (s : State) (p : LogEntry → Bool) (g : LogEntry → LogEntry) : State :=
  s.modCellar fun c => { c with log := c.log.map fun e => if p e then g e else e }

/-! ### SS4 (R550, R581, R686) -/

/-- Every letterbox page returns to its reset values; commands fetched end without completions, and events not yet
posted are discarded (R686). -/
def State.boxesReset (s : State) : State :=
  { s with boxes := s.boxes.map fun b => Letterbox.reset b.present,
           power := { s.power with ready := false, readyUs := s.power.readyUs } }

/-- Drops commands in progress, which end without completions (R485, R686). -/
def State.dropCommands (s : State) : State :=
  { s with chans := s.chans.map fun c => { c with subs := [] },
           trust := { s.trust with admitQ := [], pointCmds := [], pointQ := [] },
           ring := { s.ring with relays := [] },
           transom := { s.transom with loading := [] },
           cams := s.cams.map fun c => { c with bus := c.bus.filter fun j => !j.host } }

/-- A span at its place among a band's pending ones, in pacing order (R156). -/
def putSpan (sp : Nat × Nat) : List (Nat × Nat) → List (Nat × Nat)
  | [] => [sp]
  | e :: es => if sp.1 < e.1 ∨ sp.1 = e.1 ∧ sp.2 < e.2 then sp :: e :: es else e :: putSpan sp es

/-- A slice is reset: the span that it had not completed is pending again (R157). -/
def State.requeue (s : State) (slice : Nat) : State :=
  match s.slices.getD slice none with
  | none => s
  | some p =>
    { s.modOut p.out (fun x => x.modBand p.frame (p.row / ((x.info p.frame).elim 1 (·.mode.hy))) fun b =>
        { b with spans := putSpan (p.row, p.first) b.spans }) with slices := s.slices.set slice none }

/-- Switches off every domain but those listed; their sensors give no samples (R628). -/
def State.domainsOff (s : State) (keep : List Nat) : State :=
  let s := (List.range 32).foldl (fun a k => if k ∈ keep then a else a.requeue k) s
  { s with landings := s.landings.mapIdx fun n l =>
      if n ∈ keep then l
      else { l with powered := false, pllLocked := false, inProtocol := false, lockWins := 0 },
           sensors := s.sensors.mapIdx fun n x =>
      if n ∈ keep ∨ 64 ≤ n then x else { x with noSample := true, hist := [], rise := 0, same := 0, far := 0 } }

/-- A ring port that is off: nothing is kept of its link. -/
def RingPort.stop (r : RingPort) : RingPort :=
  { r with st := 0, hello := none, unacked := [], credits := 0, group := [], refused := false }

/-- A panel link whose island has no power or is reset: nothing is kept of its training, and
PANEL_RST is low (R669). -/
def Link.off (l : Link) : Link :=
  { l with st := .disabled, attempt := 0, bcLock := false, rstAt := none, panelRst := true, panelFaultAt := none,
           startBlk := [] }

/-- The SPL output of an island is reset with its island's domain (R572): its link is lost, with PSAFE asserted, and its lanes
carry nothing until it trains again. -/
def State.splReset (s : State) (isl : Nat) : State :=
  if isl = 44 ∨ isl = 45 then
    let o := outOf (isl - 44)
    let mine := fun (n : Nat) => n / 16 == o.num && n < 32 || n == 32 + o.num
    let gone := fun (l : Lane) => { l with st := 0, lock := false, exiting := false }
    let s := { s with lanes := s.lanes.mapIdx fun n l => if mine n then gone l else l }
    ((s.modLink o Link.off).modOut o fun x => { x with frameOk := false, echoDue := none }).drivePsafe
  else s

/-- What the display islands hold is lost with their power or their reset: bands and rows in work, slices, links, camera
frames, ring ports. -/
def State.unpowered (s : State) : State :=
  let o := fun (x : Output) =>
    { x with inBlank := true, bands := [], cache := [], front := [], rows := [], echoDue := none, frameOk := false,
             teAt := none, teMsg := false }
  { s with outA := o s.outA, outB := o s.outB, linkA := s.linkA.off, linkB := s.linkB.off,
           lanes := s.lanes.map fun l => { l with st := 0, lock := false, exiting := false },
           slices := s.slices.map fun _ => none, pipes := s.pipes.map fun _ => none,
           cams := s.cams.map fun c => { c with open_ := none, waiting := [], bus := [] },
           ring := { s.ring with east := s.ring.east.stop, west := s.ring.west.stop } }

/-- Entry into SS4 (R550): every force line asserted, SAFE_OUT low, HEARTBEAT stopped, every domain but PD58 (and the
always-on one) off, no letterbox READY, the PCIe link down. `message` is false where R620 gives no Transom message;
`counts` says whether the entry counts towards the limit of R581. -/
def State.enterSs4 (s : State) (message counts : Bool) : State :=
  if s.cellar.ss4 then s
  else
    let times := if counts then s.cellar.ss4Times ++ [s.us] else s.cellar.ss4Times
    let recent := times.filter fun t => s.us < t + 600000000
    let n := sat 16 (s.cellar.ss4Entries + 1)
    let s := { s with cellar := { s.cellar with ss4 := true, psafeAll := true, safeLow := true, heartbeat := false,
                                                ss4Entries := n, ss4Times := recent },
                      power := { s.power with lockout := s.power.lockout || (counts && 3 ≤ recent.length),
                                              endpoint := false, ready := false, rails := false, hearth := false,
                                              standby := 0 },
                      mram := { s.mram with ss4 := s.mram.ss4.write s.us (n, recent) } }
    let s := s.dropCommands.boxesReset
    let s := ((s.domainsOff [54, 61]).unpowered).drivePsafe
    if message then s.forceMessage 4 else s

/-! ### Taking a fault -/

/-- The safe state that a fault forces (R562). -/
inductive Force where
  | none
  | ss1 (o : OutId) (r : Nat)
  | ss1Out (o : OutId)
  | ss1Chan (c : Nat)
  | ss1All
  | ss1Regions (rs : List Nat)
  | ss2 (c : Nat)
  | ss3 (o : OutId)
  | ss3All
  | ss3Quiet
  | ss4
  | ss4Off
  deriving DecidableEq, Repr

/-- What a detector reports: code, class, island (255 where none is concerned), DETAIL, and the safe state forced. -/
structure FaultIn where
  code   : Nat
  cls    : Nat
  island : Nat
  detail : Nat
  force  : Force
  deriving DecidableEq, Repr

/-- The number of a safe state (R563). -/
def Force.level : Force → Nat
  | .none => 0
  | .ss1 _ _ | .ss1Out _ | .ss1Chan _ | .ss1All | .ss1Regions _ => 1
  | .ss2 _ => 2
  | .ss3 _ | .ss3All | .ss3Quiet => 3
  | .ss4 | .ss4Off => 4

/-- Whether a fault of class FC3 or FC4 is being handled (R557). -/
def State.handling (s : State) : Bool := s.cellar.recov ≠ [] || s.cellar.ss3.any (·.fc4)

/-- The regions of the live package that satisfy a test, with their outputs. -/
def State.regionsWhere (s : State) (p : Nat → Region → Bool) : List (OutId × Nat) :=
  (s.allRegions.filter fun e => p e.1 e.2).map fun e => (e.2.out, e.1)

/-- Forces SS1 on regions. -/
def State.mark1 (s : State) (rs : List (OutId × Nat)) (code : Nat) : State :=
  s.modCellar fun c => { c with ss1 := rs.foldl (fun ms r => addMark ms r.1 r.2 code) c.ss1 }

/-- Forces SS3 on outputs, with the SS3 message on the Transom unless a power-fail indication forced it (R548). -/
def State.dark (s : State) (os : List OutId) (code : Nat) (fc4 message : Bool) : State :=
  let s := (s.modCellar fun c => { c with ss3 := os.foldl (fun ds o => addDark ds o code fc4 s.us) c.ss3 }).drivePsafe
  if message then s.forceMessage 3 else s

/-- The markings of SS1 and SS2 that a safe state puts on regions and channels. -/
def State.mark (s : State) (f : Force) (code : Nat) : State :=
  match f with
  | .ss1 o r => s.mark1 [(o, r)] code
  | .ss1Out o => s.mark1 (s.regionsWhere fun _ g => g.out == o || s.locked) code
  | .ss1Chan c => s.mark1 (s.regionsWhere fun _ g => g.chan == c) code
  | .ss1All => s.mark1 (s.regionsWhere fun _ _ => true) code
  | .ss1Regions rs => s.mark1 (s.regionsWhere fun n _ => n ∈ rs) code
  | .ss2 c => s.modCellar fun l => { l with ss2 := s.outs.foldl (fun ms o => addMark ms o c code) l.ss2 }
  | _ => s

/-- Forces a safe state at detection (R556); FC4 darkens every output (R555). -/
def State.force (s : State) (f : Force) (code cls : Nat) : State :=
  let t := s.mark f code
  match f with
  | .ss3 o => if cls = 4 then t.dark s.outs code true true else t.dark [o] code false true
  | .ss3All => t.dark s.outs code (cls == 4) true
  | .ss3Quiet => t.dark s.outs code (cls == 4) false
  | .ss4 => t.enterSs4 true true
  | .ss4Off => t.enterSs4 true false
  | _ => if cls = 4 then t.dark s.outs code true true else t

/-- The islands of an island's power domain (R17). -/
def domainOf (isl : Nat) : List Nat :=
  if isl = 40 ∨ isl = 41 then [40, 41] else if isl = 55 ∨ isl = 56 then [55, 56] else if isl = 62 ∨ isl = 63 then [62, 63]
  else [isl]

/-- A domain is switched on: its PLL begins a lock sequence, with the dither generator loaded (R617). -/
def Landing.relock (l : Landing) (seed isl : Nat) : Landing :=
  { l with inProtocol := false, powered := true, pllLocked := false, lockWins := 0, gated := false,
           lfsr := BitVec.ofNat 32 (seed ^^^ (isl * 0x01010101)) }

/-- What a recovery of Hearth leaves of a channel: a SUBMIT_OPS in progress has no effect (R575), and no packet of it is
replayed (R576). -/
def Channel.toAnswered (k : Channel) : Channel :=
  if k.subs = [] then k
  else
    let a := k.ans
    { k with subs := [], paused := none, headerSeen := a.headerSeen, lastSeq := a.lastSeq, skipping := a.skipping,
             authSkip := a.authSkip, orphan := a.orphan, openPkts := a.openPkts, covered := a.covered,
             session := a.session, pending := k.pending.filter (·.answered) }

/-- Each SUBMIT_OPS in progress completes with REPLAYING (R575). -/
def State.interruptHearth (s : State) : State :=
  let s := (s.chans.flatMap (·.subs)).foldl (fun (a : State) b =>
    a.modBox b.func fun x => x.postCompletion a.us b.cmdId stReplaying 0 b.respLen b.respOk (zeros 56)) s
  { s with chans := s.chans.map Channel.toAnswered }

/-- The first two steps of an FC3 recovery (R572): the island leaves the doorway protocol and its domain is switched
off and on again. -/
def State.startRecovery (s : State) (isl code seq : Nat) (store : Bool) : State :=
  let s := s.modCellar fun c =>
    { c with recov := c.recov ++ [{ island := isl, code := code, logSeq := seq, resetAt := s.us,
                                    replayed := false, rejoin := none, store := store }] }
  if store then s
  else
    let s := (domainOf isl).foldl (fun (a : State) k =>
      ((a.requeue k).splReset k).modLanding k fun l => l.relock (s.lv .cpt .A 8) k) s
    if isl = 53 then s.interruptHearth else s

/-- Whether a class and island start a recovery: an existing island, or the point table as a store. Faults of an SPL
output's link retrain instead (R562), and are handled until the link is ACTIVE again. -/
def recoverable (x : FaultIn) (cls : Nat) : Bool :=
  (cls == 3 || cls == 4) && (x.island < 64 || x.code == 0x406) && x.island != 54 && x.code != 0xE08 && x.force != .ss4

/-- Whether a recovery resets no island: the point table (0x0406), a KMAC engine (0x0407), a link (0x0505, 0x0601). -/
def isStore (code : Nat) : Bool := code == 0x406 || code == 0x407 || code == 0x505 || code == 0x601

/-- Whether a safe state other than the SS3 of fault 0x0E09 is forced on an output (R647). -/
def State.safeBut (s : State) (o : OutId) : Bool :=
  s.cellar.ss4 || s.cellar.ss3.any (fun d => d.out == o && d.code != 0xE09) || s.cellar.ss2.any (·.out == o)
  || s.cellar.ss1.any (·.out == o)

/-- The safe state of an island's row of R562, for a fault of the island that has no row of its own. -/
def State.islandForce (s : State) (isl : Nat) : Force :=
  if 36 ≤ isl ∧ isl ≤ 39 then .ss2 (isl - 36)
  else if isl = 40 ∨ isl = 41 then
    .ss1Regions ((s.allRegions.filter fun e => e.1 % 2 == isl - 40).map (·.1))
  else if isl = 44 ∨ isl = 45 then .ss3 (outOf (isl - 44))
  else if 49 ≤ isl ∧ isl ≤ 52 then .ss3All
  else if isl = 54 ∨ isl = 60 then .ss4
  else .none

/-- Whether the safe state of a log entry is still in force: a marking or a cause of its code is; of a region's fault, on
that region; of an output's link, on that output. -/
def Cellar.inForce (c : Cellar) (e : LogEntry) : Bool :=
  if e.safe = 4 then c.ss4
  else
    (c.ss1 ++ c.ss2).any (fun m => m.code == e.code && (e.island != 255 || m.unit == e.detail % 4096))
    || c.ss3.any fun d => d.code == e.code && d.fc4 == (e.cls == 4) && (e.island / 2 != 22 || d.out.num == e.island % 2 || d.fc4)

/-- The log notes which safe states have been lifted; handling of an FC4 fault ends there (R557, R563). -/
def State.noteLifts (s : State) : State :=
  s.modLog (fun e => e.safe ≠ 0 && !e.lifted && !s.cellar.inForce e) fun e =>
    { e with lifted := true, handled := e.handled || e.cls == 4 }

/-- A frame in which a safe state is forced is no verified frame (R647). -/
def State.spoilFrames (s : State) : State :=
  let f := fun (o : OutId) (x : Output) => { x with frameOk := x.frameOk && !s.safeBut o }
  { s with outA := f .A s.outA, outB := f .B s.outB }

/-- The class of a report while another fault of FC3 or FC4 is handled: one higher (R557). -/
def State.classUp (s : State) (x : FaultIn) : Nat := if s.handling then x.cls + 1 else x.cls

/-- A second FC3 fault within one second is FC4 (R558). -/
def State.quick (s : State) (x : FaultIn) : Bool :=
  s.classUp x == 3 && (match s.cellar.lastFc3 with | none => false | some t => s.us < t + 1000000)

/-- The class after R557, R558 and R574; 5 is beyond FC4. -/
def State.classOf (s : State) (x : FaultIn) : Nat :=
  if s.quick x || (s.classUp x == 3 && s.cellar.ckptForced) then 4 else s.classUp x

/-- The safe state forced: SS4 beyond FC4. -/
def State.forceOf (s : State) (x : FaultIn) : Force := if 4 < s.classOf x then .ss4 else x.force

/-- SAFE of the log entry (R563). -/
def State.levelOf (s : State) (x : FaultIn) : Nat :=
  let l := (s.forceOf x).level
  if l = 4 then 4 else if min (s.classOf x) 4 = 4 then max 3 l else l

/-- The recent FC0 or FC1 entry that a report repeats (R563). -/
def State.repeated (s : State) (x : FaultIn) : Option LogEntry :=
  if s.classOf x ≤ 1 then
    s.cellar.log.find? fun e => e.code == x.code && e.island == x.island && s.us < e.time + 1000000
  else none

/-- The log entry of a report (R563). -/
def State.entryOf (s : State) (x : FaultIn) : LogEntry :=
  { seq := s.cellar.logSeq, cls := min (s.classOf x) 4, island := x.island, safe := s.levelOf x,
    esc := min (s.classOf x) 4 != x.cls, handled := min (s.classOf x) 4 ≤ 2, lifted := false, time := s.us, code := x.code,
    frame := s.outA.frameNum, detail := x.detail, count := 1 }

/-- The entry in the log, the counters (R508, R559) and, from FC3, the mirror in MRAM (R564). -/
def State.enterLog (s : State) (x : FaultIn) : State :=
  let c := s.cellar
  let e := s.entryOf x
  let m := (c.mirror ++ [e]).drop (c.mirror.length + 1 - 1024)
  { s with
    cellar := { c with log := logAppend c.log e, logSeq := w32 (c.logSeq + 1),
                       fc2 := if e.cls = 2 then sat 16 (c.fc2 + 1) else c.fc2,
                       fc3 := if e.cls = 3 then sat 16 (c.fc3 + 1) else c.fc3,
                       fc4 := if e.cls = 4 then sat 16 (c.fc4 + 1) else c.fc4,
                       escalations := if s.handling || s.quick x then sat 16 (c.escalations + 1) else c.escalations,
                       lastFc3 := if s.classUp x = 3 then some s.us else c.lastFc3,
                       mirror := if e.cls ≥ 3 then m else c.mirror },
    mram := { s.mram with logSeq := w32 (c.logSeq + 1),
                          mirror := if e.cls ≥ 3 then s.mram.mirror.write s.us m else s.mram.mirror } }

/-- Taking a fault (R555 to R559, R562 to R564): the class; one more COUNT of a recent FC0 or FC1 entry, or the log entry,
the mirror and the FAULT event; the safe state forced at detection; and for FC3 and FC4 the recovery. -/
def State.fault (s : State) (x : FaultIn) : State :=
  let cls := min (s.classOf x) 4
  match s.repeated x with
  | some e =>
    ((s.modLog (fun g => g.seq == e.seq) fun g => { g with count := sat 16 (g.count + 1) }).force (s.forceOf x) x.code
      cls).spoilFrames
  | none =>
    let e := s.entryOf x
    let t := (((s.enterLog x).eventAll 0x8D00
      (leBytes 1 cls ++ leBytes 1 x.island ++ leBytes 1 e.safe ++ zeros 1 ++ leBytes 4 e.seq ++ leBytes 4 x.code
        ++ leBytes 4 e.frame)).force (s.forceOf x) x.code cls).spoilFrames
    if recoverable x cls ∧ s.classOf x ≤ 4 then t.startRecovery x.island x.code e.seq (isStore x.code) else t

/-- FAULT_IN_EN, live. -/
def State.faultInEn (s : State) : Bool := bitOf (s.lv .flt .A 0) 0

/-- Fault 0x0E06, unless it is in force already. -/
def State.faultInFault (s : State) : State :=
  if s.cellar.ss3.any fun d => d.code == 0xE06 then s
  else s.fault { code := 0xE06, cls := 4, island := 255, detail := 0, force := .ss3All }

/-- The detection of 0x0E06 ends now: the 1 s of R580 counts from here. -/
def State.faultInSeen (s : State) : State :=
  s.modCellar fun c => { c with ss3 := c.ss3.map fun d => if d.code = 0xE06 then { d with since := s.us } else d }

/-! ### The Attic journal (R565 to R571) -/

/-- The kind number of a journal entry, for its size. -/
def JEntry.kind : JEntry → Nat
  | .point .. => 0
  | .scene .. => 1
  | .settings .. => 2
  | .zone .. => 3
  | .session .. => 4
  | .ckptStart .. | .ckptDone .. => 5

/-- Appends an entry. -/
def State.jAppend (s : State) (e : JEntry) (answered : Bool) : State :=
  s.modCellar fun c =>
    { c with journal := c.journal ++ [(e, answered)], jBytes := c.jBytes + Config.journalBytes e.kind,
             jPos := c.jPos + 1 }

/-- Whether the journal has room (R567, R571): 8 MiB of SRAM and the 512 MiB overflow ring. -/
def State.journalRoom (s : State) : Bool := s.cellar.jBytes < 520 * 1048576

/-- A checkpoint begins (R568), in the slot that does not hold the newest complete one: it captures the copies and sets of every landing, the scenes and the zone copies. -/
def State.ckptStart (s : State) (frame : Nat) (forced : Bool) : State :=
  let c : Checkpoint := { frame := frame, slot := 1 - (s.cellar.ckpt.map (·.slot)).getD 1, pos := s.cellar.jPos, pend := s.commits.pend, landings := s.landings.map (·.sets),
                          channels := s.chans, zoneA := s.outA.zone, zoneB := s.outB.zone }
  (s.jAppend (.ckptStart frame) true).modCellar fun l =>
    { l with ckptBusy := some c, ckptForced := forced, ckptTries := 0,
             forcedCkpt := if forced then sat 16 (l.forcedCkpt + 1) else l.forcedCkpt }

/-- A forced checkpoint begins at once (R574). -/
def State.forceCkpt (s : State) : State := s.ckptStart s.outA.frameNum true

/-- Records an input in the order of acceptance; `answered` as R566 marks it. An entry that leaves the journal no room
forces a checkpoint (R571). -/
def State.journal (s : State) (e : JEntry) (answered : Bool) : State :=
  let t := s.jAppend e answered
  if t.journalRoom || t.cellar.ckptForced then t else t.forceCkpt

/-! ### Violations (R479, R508) -/

/-- Counts a violation of a kind, 0 to 5 in the order of R508. -/
def State.violate (s : State) (k : Nat) : State :=
  s.modCellar fun c => { c with viol := c.viol.modify k fun n => w32 (n + 1),
                                violTotal := (c.violTotal + 1) % 0x10000000000000000 }

/-- Whether a replay of a kind runs (R575): of an island, or of the point table. -/
def State.replaying (s : State) (p : Recovery → Bool) : Bool := s.cellar.recov.any p

end Sys2Proof.Machine
end

