-- ==== Sys2Proof/Machine/Flags.lean ====
section
/-! DEFINITION. The validity rules: whether settings that would be live are valid (R59, R71, R74 to R80, R183, R186,
R195, R228, R255 to R258, R324, R337, R340, R362, R374, R387, R402, R428, R433 to R437, R455, R612, R639), and the
status bits that report them (R73). -/
namespace Sys2Proof.Machine

/-- Settings under judgement: the word of a block at an offset, for an output. -/
abbrev Settings := OutId → Blk → Nat → Nat

/-! ### Budget modes (02) -/

/-- LOCKED in the settings (R262). -/
def Settings.locked (g : Settings) : Bool := bitOf (g .A .sco 0) 0

/-- The mode that an output's settings give (R60, R73, R262). -/
def Settings.mode (g : Settings) (o : OutId) : ModeCfg :=
  let n := o.num
  let geom := g o .sco (0x100 + 8 * n)
  let grid := g o .sco (0x104 + 8 * n)
  let m := g o .syn (4 * n)
  let p := g o .syn (8 + 4 * n)
  let b := g o .sco (4 + 4 * n)
  { hx := fld geom 0 4 + 1, hy := fld geom 4 4 + 1, w := fld grid 0 16, h := fld grid 16 16, div := fld m 0 2,
    ray24 := bitOf m 2, rate := fld m 4 7, slots := fld p 0 9, scale := fld p 9 1, pmax := fld p 16 13,
    vmin := fld b 0 16, vmax := fld b 16 16 }

/-- Physical emitters (E of 02). -/
def ModeCfg.emitters (m : ModeCfg) : Nat := m.w * m.h * m.hx * m.hy

/-- Views for each computed one: 1, 2 or 4. -/
def ModeCfg.share (m : ModeCfg) : Nat := if m.div = 0 then 1 else if m.div = 1 then 2 else 4

/-- Bits of a ray on the link. -/
def ModeCfg.rayBits (m : ModeCfg) : Nat := if m.ray24 then 24 else 30

/-- R71: the view division that a footprint allows. -/
def divAllowed (hx hy div : Nat) : Bool :=
  match div with
  | 0 => true
  | 1 => hx % 2 == 0
  | 2 => hx % 2 == 0 && hy % 2 == 0
  | _ => false

/-- R59, R79: geometry within the limits. -/
def ModeCfg.geomOk (m : ModeCfg) (locked : Bool) : Bool :=
  4 ≤ m.hx && 4 ≤ m.hy && 1 ≤ m.w && 1 ≤ m.h && m.w * m.hx ≤ (if locked then 61440 else 30720)
  && m.h * m.hy ≤ 17280 && (!locked || m.w % 2 == 0)

/-- No reserved encoding or out-of-range value in MODE and PLANE_RES (R73, R79). -/
def ModeCfg.codesOk (m : ModeCfg) : Bool :=
  m.div ≠ 3 && 24 ≤ m.rate && m.rate ≤ 120 && m.slots ≤ 256 && m.pmax ≤ 4096

/-- Used slot entries hold no reserved code (R61, R62). -/
def slotsOk (g : Settings) (o : OutId) (m : ModeCfg) : Bool :=
  (List.range m.hy).all fun v => (List.range m.hx).all fun u =>
    g o .sco (0x1000 + 0x400 * o.num + 4 * (16 * v + u)) % 8 ≤ 5

/-- R74: rays per second of a mode, times the share. -/
def ModeCfg.rays (m : ModeCfg) : Nat := m.emitters * m.rate / m.share

/-- R75: payload bits of a frame for an emitter count. -/
def ModeCfg.payload (m : ModeCfg) (e : Nat) (replicate : Bool) : Nat :=
  if replicate && m.div ≠ 0 then e / m.share * m.rayBits else e * m.rayBits

/-- R75: the payload fits the active period at 16 lanes of 64 Gb/s and 256 of 264 bits. -/
def ModeCfg.linkOk (m : ModeCfg) (e : Nat) (replicate : Bool) : Bool :=
  let v := max 200 m.vmin
  v * m.rate < 1000000 &&
    m.payload e replicate * 264 * m.rate * 1000000 ≤ 1024000000000 * 256 * (1000000 - v * m.rate)

/-- R76: plane cache bytes of an output's planes. -/
def ModeCfg.cacheBytes (m : ModeCfg) : Nat :=
  (m.slots + 4) * (m.w * (1 + m.scale)) * 4 * ((1 + m.scale) * (2 * cdiv (m.pmax * (m.hy - 1)) 512 + 4))

/-- The hogel grid height that frames and band schedules use. -/
def ModeCfg.rows (m : ModeCfg) : Nat := m.h

/-! ### The panel rule (R78, R285) -/

/-- A byte field of an output's latest CAPS. -/
def State.cap (s : State) (o : OutId) (off len : Nat) : Nat :=
  match (s.link o).caps with
  | none => 0
  | some c => nAt c off len

/-- Whether CAPS advertises the geometry, rate and ray format of a mode, for a grid width. -/
def State.capsAllow (s : State) (o : OutId) (m : ModeCfg) (w : Nat) : Bool :=
  s.cap o 2 1 == (m.hx - 1) + 16 * (m.hy - 1) && s.cap o 4 2 == w && s.cap o 6 2 == m.h
  && s.cap o 8 1 ≤ m.rate && m.rate ≤ s.cap o 9 1 && bitOf (s.cap o 3 1) (if m.ray24 then 1 else 0)

/-- Whether the panel rule applies to an output: its panel has sent CAPS, in locked operation both panel ports (R78). -/
def State.panelIn (s : State) (locked : Bool) (o : OutId) : Bool :=
  if locked then s.linkA.caps.isSome && s.linkB.caps.isSome else (s.link o).caps.isSome

/-- Whether the geometry, rate and ray format of a mode are among those advertised (R78, R285); an output to which the
rule does not apply passes. -/
def State.panelOk (s : State) (locked : Bool) (o : OutId) (m : ModeCfg) : Bool :=
  !s.panelIn locked o ||
    (if locked then
      s.capsAllow .A m (s.cap .A 4 2) && s.capsAllow .B m (s.cap .B 4 2) && s.cap .A 4 2 + s.cap .B 4 2 == m.w
    else s.capsAllow o m m.w)

/-- Whether an output's frames use REPLICATE blocks when the view division is not all views (R75, R83). In locked
operation each link has its own panel port. -/
def State.replicates (s : State) (o : OutId) : Bool := s.capFlag o 2

/-- R78: fewer views stand on a panel without REPLICATE support only under the link rule for every emitter; in locked
operation each link carries half of the hogel columns. -/
def State.viewsOk (s : State) (locked : Bool) (o : OutId) (m : ModeCfg) : Bool :=
  m.div == 0 || s.replicates o || m.linkOk (if locked then m.emitters / 2 else m.emitters) false

/-- The panel rule's failing points on an output, in the order of PANEL_CAPABILITY's FAIL (R298, R510). -/
def State.panelFail (s : State) (locked : Bool) (o : OutId) (m : ModeCfg) : Nat :=
  if !s.panelIn locked o then 0
  else
    let w := if locked then s.cap .A 4 2 + s.cap .B 4 2 else s.cap o 4 2
    b2n (!(s.cap o 2 1 == (m.hx - 1) + 16 * (m.hy - 1) && w == m.w && s.cap o 6 2 == m.h))
    + 2 * b2n (!(s.cap o 8 1 ≤ m.rate && m.rate ≤ s.cap o 9 1))
    + 4 * b2n (!bitOf (s.cap o 3 1) (if m.ray24 then 1 else 0))
    + 8 * b2n (!s.viewsOk locked o m)

/-- R78 whole, for an output and a mode. -/
def State.panelPasses (s : State) (locked : Bool) (o : OutId) (m : ModeCfg) : Bool :=
  !s.panelIn locked o || s.panelOk locked o m && s.viewsOk locked o m

/-! ### The status word of R73 -/

/-- The outputs that have settings of their own: both on an E2 with independent outputs. -/
def State.ownOuts (s : State) (locked : Bool) : List OutId := if locked || s.variant == .E1 then [.A] else [.A, .B]

/-- RAYS_FAIL (R74). -/
def State.raysFail (s : State) (g : Settings) : Bool :=
  let t := ((s.ownOuts g.locked).map fun o => (g.mode o).emitters * (g.mode o).rate * (4 / (g.mode o).share)).sum
  4 * (if s.variant = .E2 then 76800000000 else 38400000000) < t

/-- The link rule fails on an output (R75); in locked operation each link carries half of the hogel columns. -/
def State.linkFail (s : State) (g : Settings) (o : OutId) : Bool :=
  if s.variant = .E1 ∧ o = .B then false
  else
    let m := g.mode (if g.locked then .A else o)
    let e := if g.locked then m.emitters / 2 else m.emitters
    !m.linkOk e (s.replicates o)

/-- The plane cache rule fails (R76). -/
def State.cacheFail (s : State) (g : Settings) : Bool :=
  100663296 < ((s.ownOuts g.locked).map fun o => (g.mode o).cacheBytes).sum

/-- The panel rule fails on an output (R78). -/
def State.panelFails (s : State) (g : Settings) (o : OutId) : Bool :=
  !(s.variant == .E1 && o == .B) && !s.panelPasses g.locked o (g.mode (if g.locked then .A else o))

/-- GROUP_FAIL (R71) on an output. -/
def groupFail (g : Settings) (o : OutId) : Bool := !divAllowed (g.mode o).hx (g.mode o).hy (g.mode o).div

/-- ENCODING_FAIL (R73, R79) on an output; an E1 refuses LOCKED (R5). -/
def State.encodingFail (s : State) (g : Settings) (o : OutId) : Bool :=
  !(g.mode o).codesOk || !(g.mode o).geomOk g.locked || !slotsOk g o (g.mode o) || (s.variant == .E1 && g.locked)

/-- The outputs whose own settings are judged where some are reached (R80): in locked operation output A's are the whole
panel's (R72). -/
def State.judged (s : State) (locked : Bool) (os : List OutId) : List OutId := if locked then [.A] else os.filter s.outs.contains

/-- R79 for the outputs that a commit reaches (R80): in locked operation for the whole panel. -/
def State.modesValid (s : State) (g : Settings) (os : List OutId) : Bool :=
  let own := s.judged g.locked os
  let links := if g.locked then s.outs else own
  !s.raysFail g && links.all (fun o => !s.linkFail g o && !s.panelFails g o) && !s.cacheFail g
  && own.all fun o => !groupFail g o && !s.encodingFail g o

/-! ### SCO and SPL (R182, R228, R255 to R258, R301, R388, R433, R435) -/

/-- LOCK_PAIR (R255). -/
def State.lockPair (s : State) : Bool :=
  match s.linkA.caps, s.linkB.caps with
  | some a, some b =>
    s.linkA.st == .active && s.linkB.st == .active && bytesAt a 0xC 8 == bytesAt b 0xC 8
    && nAt a 1 1 % 2 == 0 && nAt b 1 1 % 2 == 1
  | _, _ => false

/-- R257 for an output: its blanking under the frame rate that governs it. -/
def Settings.blankOk (g : Settings) (o : OutId) : Bool :=
  let m := g.mode o
  200 ≤ m.vmin && m.vmin ≤ m.vmax && m.vmax ≤ 500000 / (g.mode (if g.locked then .A else o)).rate

/-- R258 for an output: its TE source, in locked operation output A's, is not reserved, and the latest CAPS of its panel
advertises it. -/
def State.teOk (s : State) (g : Settings) (o : OutId) : Bool :=
  let e := if g.locked then OutId.A else o
  let src := fld (g e .sco 0) (1 + 2 * e.num) 2
  src ≤ 2 && (src == 0 || (s.link o).caps.isNone || s.capFlag o (3 + src))

/-- Whether a region lies in a hogel grid of its output; in a ring, wholly within one tile of the wall (R225, R228,
R587). -/
def State.regionFits (s : State) (d : Nat × Nat) (g : Region) : Bool :=
  if s.isHead || s.isMember then
    let cols := fld (s.lv .rng .A 8) 0 8
    let rows := fld (s.lv .rng .A 8) 8 8
    g.x / max 1 d.1 == (g.x + g.w - 1) / max 1 d.1 && g.y / max 1 d.2 == (g.y + g.h - 1) / max 1 d.2
    && g.x + g.w ≤ cols * d.1 && g.y + g.h ≤ rows * d.2
  else g.x + g.w ≤ d.1 && g.y + g.h ≤ d.2

/-- R228: every defined region lies in the hogel grid of its output where the commit reaches it, and names output B only
with independent outputs. -/
def State.regionsOk (s : State) (g : Settings) (os : List OutId) : Bool :=
  [OutId.A, OutId.B].all fun o =>
    match s.pkgFor o with
    | none => true
    | some p => (p.regions.filter (·.2.out == o)).all fun e =>
      let m := g.mode o
      (o ∉ os || s.regionFits (m.w, m.h) e.2) && (o == .A || !g.locked)

/-- A 35-bit base of a register pair (R182). -/
def Settings.base (g : Settings) (o : OutId) (b : Blk) (off : Nat) : Nat :=
  g o b off / 64 * 64 + fld (g o b (off + 4)) 0 3 * 0x100000000

/-- The end of the data space (R432). -/
def State.dataEnd (s : State) : Nat := if s.variant = .E2 then 0x700000000 else 0x380000000

/-- The first address that is neither the journal overflow ring nor the Hearth region (R434). -/
def freeStart : Nat := 0x40000000

/-- R433, R435: an extent lies in the data space and outside the journal overflow ring and the Hearth region. -/
def State.extentOk (s : State) (base len : Nat) : Bool := freeStart ≤ base && base + len ≤ s.dataEnd

/-- Row pitch of a ray map (R168). -/
def rayPitch (w : Nat) : Nat := cdiv (4 * w) 64 * 64

/-- Bytes of a ray map (R183). -/
def ModeCfg.rayMapLen (m : ModeCfg) : Nat := rayPitch m.w * m.h

/-- Bytes of a uniformity map's table (R173, R183); in locked operation each formatter uses its half. -/
def ModeCfg.unifLen (m : ModeCfg) (locked : Bool) : Nat :=
  4 * (cdiv ((if locked then m.w / 2 else m.w) * m.hx) 64 * cdiv (m.h * m.hy) 64)

/-- The offset of the ray map base that a SOURCE selects, in CAL (1, 2) or SCO (0) (R399). -/
def rayBaseAt (o : OutId) (src : Nat) : Blk × Nat :=
  if src = 0 then (.sco, 0x200 + 8 * o.num) else (.cal, 0x40 * o.num + 4 + 8 * (src - 1))

/-- The offset of the uniformity map base that a SOURCE selects. -/
def unifBaseAt (o : OutId) (src : Nat) : Blk × Nat :=
  if src = 0 then (.sco, 0x210 + 8 * o.num) else (.cal, 0x40 * o.num + 0x14 + 8 * (src - 1))

/-- SOURCE in the settings (R399, R409): output A's in locked operation. -/
def Settings.source (g : Settings) (o : OutId) : Nat :=
  let o := if g.locked then .A else o
  fld (g o .cal (0x40 * o.num)) 0 2

/-- UNIF_EN of an output's formatter in the settings: in locked operation each formatter keeps its own (R173, R182). -/
def Settings.unifEn (g : Settings) (o : OutId) : Bool := bitOf (g o .sco 0x220) (2 + o.num)

/-- R183, R433, R435: the maps in use lie where they may. `origins` are the selections from which ramps run; SCO's bases
are in use only while SOURCE is 0. -/
def State.mapsOk (s : State) (g : Settings) (o : OutId) (origins : List Nat) : Bool :=
  let lk := g.locked
  let e := if lk then .A else o
  let m := g.mode e
  (g.source o :: origins.filter (· ≠ 0)).all fun src =>
    (!bitOf (g e .sco 0x220) e.num || (let p := rayBaseAt e src; s.extentOk (g.base e p.1 p.2) m.rayMapLen))
    && (!g.unifEn o || (let p := unifBaseAt o src; s.extentOk (g.base o p.1 p.2) (m.unifLen lk)))

/-- The ranges of the tracking registers (R388). -/
def Settings.trackOk (g : Settings) (o : OutId) : Bool :=
  let a := g o .sco 0x900
  let b := g o .sco 0x904
  100 ≤ fld a 16 16 && fld a 16 16 ≤ 30000 && 50 ≤ fld b 0 16 && fld b 0 16 ≤ 1000

/-- The ranges of SPL's thresholds (R301). -/
def Settings.splOk (g : Settings) (o : OutId) : Bool := 1 ≤ fld (g o .spl 0x804) 0 8 && 1 ≤ fld (g o .spl 0x804) 8 8

/-- The origin of the ramp running on an output (R401, R403). -/
def State.rampOf (s : State) (o : OutId) : Ramp :=
  match o with
  | .A => s.calib.rampA
  | .B => s.calib.rampB

/-- The origin SOURCE of a ramp that still runs. -/
def State.rampOrigin (s : State) (o : OutId) : Option Nat :=
  let r := s.rampOf (s.eff o)
  if 1 ≤ r.pos ∧ r.pos < 256 then some r.origin else none

/-- The changes of SOURCE on an output that are live or pending, in order: each with its frame and the selection that it
leaves (R401, R402). -/
def State.sourceMoves (s : State) (o : OutId) : List (Nat × Nat) :=
  let r := s.rampOf o
  let pends := s.commits.pend.filter fun p => p.blk == .cal && (match o with | .A => p.needA | .B => p.needB)
  (pends.foldl (fun (a : Nat × List (Nat × Nat)) p =>
    let src := fld (regGet s.variant .cal p.words (0x40 * o.num)) 0 2
    if src = a.1 then a else (src, a.2 ++ [(p.due, a.1)]))
    (r.source, if r.changed then [(r.frame, r.origin)] else [])).2

/-- The selections from which a ramp runs on an output at a frame (R401). -/
def State.rampsAt (s : State) (o : OutId) (n : Nat) : List Nat :=
  ((s.sourceMoves (s.eff o)).filter fun m => (n + 0x100000000 - m.1) % 0x100000000 < 255).map (·.2)

/-- Every rule on SYN, SCO and SPL together, for the outputs reached and the frame aimed at (R79, R80, R183, R228, R255,
R257, R258, R388). -/
def State.scanValid (s : State) (g : Settings) (os : List OutId) (due : Nat) (scoNamed : Bool) : Bool :=
  let all := if g.locked then s.outs else os.filter s.outs.contains
  s.modesValid g os && (s.judged g.locked os).all (fun o => g.splOk o)
  && (!scoNamed ||
      (all.all (fun o => g.blankOk o && s.teOk g o && s.mapsOk g o (s.rampsAt o due))
       && (s.judged g.locked os).all (fun o => g.trackOk o) && s.regionsOk g all && (!g.locked || s.lockPair)))

/-! ### CMP (R185, R186, R195, R201) -/

/-- Texel bytes of a layer FORMAT (R186). -/
def texelBytes (fmt : Nat) : Nat := [4, 4, 2, 1, 8].getD fmt 0

/-- R195: a finite binary16 pattern from 1.0 to 64.0. -/
def srcPeakOk (h : Nat) : Bool := 0x3C00 ≤ h && h ≤ 0x5400

/-- The channel control record (R201) holds no reserved encoding or out-of-range value, and R195 holds. -/
def chanOk (w : Nat → Nat) (c : Nat) : Bool :=
  let a := w (0x10 * c)
  let b := w (0x10 * c + 4)
  let d := w (0x10 * c + 8)
  1 ≤ fld a 8 4 && fld a 8 4 ≤ 10 && 512 ≤ fld d 0 11 && fld d 0 11 ≤ 1024
  && (fld b 0 2 < 2 || fld b 16 10 < fld d 0 11) && srcPeakOk (fld d 16 16)

/-- R186: a layer that the composer would read. -/
def State.layerOk (s : State) (locked : Bool) (w : Nat → Nat) (c l : Nat) : Bool :=
  let b := 0x1000 + 0x100 * c + 0x20 * l
  let k := w b
  let on := (l == 0 || bitOf k 0) && fld k 8 8 != 0
  let fmt := fld k 3 3
  let width := fld (w (b + 8)) 0 16
  let height := fld (w (b + 8)) 16 16
  let base := w (b + 0xC) / 64 * 64 + fld (w (b + 0x10)) 0 3 * 0x100000000
  let pitch := fld (w (b + 0x14)) 0 20
  !on || (fmt ≤ 4 && fld k 1 2 ≠ 0 && 1 ≤ width && width ≤ 32768 && 1 ≤ height && height ≤ 32768
    && pitch % 64 == 0 && width * texelBytes fmt ≤ pitch && s.extentOk base (pitch * height)
    && (s.variant == .E2 || locked || fld k 1 2 == 1))

/-- The rules on a commit that names CMP; CAP_OUT names no output B on an E1 (R5). -/
def State.cmpValid (s : State) (locked : Bool) (w : Nat → Nat) : Bool :=
  (List.range 4).all fun c => chanOk w c && (s.variant == .E2 || !bitOf (w (0x10 * c)) 2) && (List.range 7).all fun l => s.layerOk locked w c l

/-! ### The other windows -/

/-- SCN (R137, R436). `pools` are the live or pending pools, as (start, length). -/
def State.scnValid (s : State) (w : Nat → Nat) (pools : List (Nat × Nat)) : Bool :=
  let n := fld (w 0x10) 0 16
  16 ≤ n && n ≤ (if s.variant = .E2 then 4096 else 2048)
  && pools.all fun p => p.2 == 0 || p.1 + p.2 ≤ s.dataEnd - n * 4194304

/-- The pooled space's start (R434). -/
def State.poolStart (s : State) : Nat := if s.variant = .E2 then 0x90000000 else 0x68000000

/-- A pool of the SYS window (R456). -/
def poolOf (w : Nat → Nat) (f : Nat) : Nat × Nat :=
  (fld (w (0x800 + 4 * f)) 0 9 * 0x4000000, fld (w (0x800 + 4 * f)) 16 9 * 0x4000000)

/-- SYS (R437): pools in the pooled space, below the scene store in use and the one to be live, and apart. -/
def State.sysValid (s : State) (w : Nat → Nat) (storeLow floor : Nat) : Bool :=
  let ps := ((List.range 32).map (poolOf w)).filter fun p => p.2 ≠ 0
  ps.all (fun p => s.poolStart ≤ p.1 && p.1 + p.2 ≤ min storeLow floor)
  && (List.range ps.length).all fun i => (List.range i).all fun j =>
      let p := ps.getD i (0, 0)
      let q := ps.getD j (0, 0)
      p.1 + p.2 ≤ q.1 || q.1 + q.2 ≤ p.1

/-- LNE (R324). -/
def lneValid (w : Nat → Nat) : Bool :=
  (List.range 4).all fun p =>
    fld (w (0x20 * p + 4)) 0 4 ≤ fld (w (0x20 * p + 4)) 4 4 && 1 ≤ fld (w (0x20 * p + 8)) 0 8

/-- The drive codes of a waveform entry up to its end (R336). -/
def wfCodes (w : Nat → Nat) (base : Nat) : List Nat :=
  ((List.range 32).map fun f => fld (w (base + 4 * (f / 16))) (2 * (f % 16)) 2).takeWhile (· ≠ 3)

/-- Net drive of codes: VSH frames minus VSL frames (R336). -/
def netDrive (cs : List Nat) : Int := (cs.count 1 : Int) - cs.count 2

/-- R337: a clear entry drives at least 8 frames of VSH before the first VSL, then at least 8 of VSL, to a net of zero. -/
def clearOk (cs : List Nat) : Bool :=
  let pre := cs.takeWhile (· ≠ 2)
  netDrive cs == 0 && 8 ≤ pre.count 1 && (cs.drop pre.length).count 1 == 0 && 8 ≤ cs.count 2

/-- A signed byte threshold TH1 to TH7 (R361). -/
def trmTh (w : Nat → Nat) (k : Nat) : Int :=
  sgn 8 (fld (w (0x14 + 4 * ((k - 1) / 4))) (8 * ((k - 1) % 4)) 8)

/-- A zone's rectangle: x, y, width, height (R340). -/
def zoneRect (w : Nat → Nat) (z : Nat) : Nat × Nat × Nat × Nat :=
  (fld (w (0x20 + 8 * z)) 0 12, fld (w (0x20 + 8 * z)) 16 10, fld (w (0x24 + 8 * z)) 0 12, fld (w (0x24 + 8 * z)) 16 10)

/-- Two rectangles share a pixel. -/
def rectsMeet (a b : Nat × Nat × Nat × Nat) : Bool :=
  a.1 < b.1 + b.2.2.1 && b.1 < a.1 + a.2.2.1 && a.2.1 < b.2.1 + b.2.2.2 && b.2.1 < a.2.1 + a.2.2.2

/-- R340: used zones lie in the panel, on columns that are multiples of 16, apart from each other. -/
def zonesOk (w : Nat → Nat) : Bool :=
  let tw := fld (w 4) 0 12
  let th := fld (w 4) 16 10
  let used := ((List.range 16).map (zoneRect w)).filter fun r => r.2.2.1 ≠ 0
  used.all (fun r => r.1 % 16 == 0 && r.2.2.1 % 16 == 0 && 1 ≤ r.2.2.2 && r.2.2.2 ≤ 640 && r.1 + r.2.2.1 ≤ tw
    && r.2.1 + r.2.2.2 ≤ th)
  && (List.range used.length).all fun i => (List.range i).all fun j =>
      !rectsMeet (used.getD i (0, 0, 0, 0)) (used.getD j (0, 0, 0, 0))

/-- TRM (R337, R340, R361, R362). -/
def trmValid (w : Nat → Nat) : Bool :=
  let tw := fld (w 4) 0 12
  let th := fld (w 4) 16 10
  let thr := fld (w 0xC) 0 15
  let cm := fld (w 0xC) 16 5
  let bl := fld (w 0x10) 0 15
  tw % 16 == 0 && 16 ≤ tw && tw ≤ 2560 && 1 ≤ th && th ≤ 640 && fld (w 8) 0 9 ≤ 300 && 16 ≤ thr && 1 ≤ cm && cm ≤ 24
  && 1000 ≤ bl && bl ≤ 30000 && zonesOk w
  && (List.range 6).all (fun k => trmTh w (k + 1) < trmTh w (k + 2))
  && (List.range 128).all (fun i =>
      let cs := wfCodes w (0x10000 + 8 * i)
      (i / 4 % 4 ≠ i % 4 || cs == []) && -8 ≤ netDrive cs && netDrive cs ≤ 8)
  && (List.range 8).all fun k => clearOk (wfCodes w (0x10400 + 8 * k))

/-- Bits of a pixel of DT. -/
def pixelBits (dt : Nat) : Nat := [8, 10, 12, 16].getD dt 8

/-- Bytes of a frame in the spill store, to a multiple of 4096 (R376). -/
def spillSize (w h dt : Nat) : Nat := cdiv (cdiv (w * h * pixelBits dt) 8) 4096 * 4096

/-- A camera port's records (R374, R387, R433): `w` reads the words to be live, `live` those live now, by offset in the
port's block. -/
def State.camValid (s : State) (w live : Nat → Nat) : Bool :=
  let a := w 0
  let base := fun off => w off / 64 * 64 + fld (w (off + 4)) 0 3 * 0x100000000
  let fixedBits := 0x39FE
  let changes := (a &&& fixedBits) != (live 0 &&& fixedBits) || w 4 != live 4 || w 0x14 != live 0x14
    || w 0x18 != live 0x18
  fld a 2 2 ≠ 3 && fld a 4 3 ≤ 3 && fld a 11 3 ≤ 4 && 64 ≤ fld (w 4) 0 13 && fld (w 4) 0 13 ≤ 4096
  && 64 ≤ fld (w 4) 16 13 && fld (w 4) 16 13 ≤ 4096 && 1 ≤ fld (w 8) 0 10 && fld (w 8) 0 10 ≤ 1000
  && 1 ≤ fld (w 8) 24 8 && 1000 ≤ fld (w 0xC) 0 20 && fld (w 0xC) 0 20 ≤ 1000000
  && fld (w 0x10) 0 20 < fld (w 0xC) 0 20 && base 0x14 % 4096 == 0 && base 0x1C % 4096 == 0
  && base 0x14 + 2 * spillSize (fld (w 4) 0 13) (fld (w 4) 16 13) (fld a 4 3) ≤ s.dataEnd && base 0x1C + 98304 ≤ s.dataEnd
  && fld (w 0x34) 0 4 ≤ 8 && fld (w 0x84) 0 16 ≤ fld (w 0x84) 16 16
  && (!changes || !bitOf a 0 || !bitOf (live 0) 0)

/-- CAL's ranges (R409), the first case of R402. -/
def calRanges (w : Nat → Nat) (os : List OutId) : Bool :=
  os.all (fun o => fld (w (0x40 * o.num)) 0 2 ≠ 3 && 1 ≤ fld (w (0x40 * o.num + 0x24)) 0 8
    && fld (w (0x40 * o.num + 0x24)) 0 8 ≤ 192)
  && 100 ≤ fld (w 0x104) 0 10 && fld (w 0x104) 0 10 ≤ 500 && 1 ≤ fld (w 0x104) 16 10 && 1 ≤ fld (w 0x108) 0 8
  && fld (w 0x108) 0 8 ≤ 168

/-- The words that hold the uniformity base of an output's calibration bank. -/
def bankUnif (w : Nat → Nat) (o : OutId) (k : Nat) : List Nat :=
  [w (0x40 * o.num + 0x14 + 8 * k), w (0x40 * o.num + 0x18 + 8 * k)]

/-- The words that hold the bases of a calibration bank: in locked operation the ray map's of output A and the uniformity
maps' of both halves (R399). -/
def bankWords (w : Nat → Nat) (locked : Bool) (o : OutId) (k : Nat) : List Nat :=
  [w (0x40 * o.num + 4 + 8 * k), w (0x40 * o.num + 8 + 8 * k)] ++ bankUnif w o k
  ++ (if locked then bankUnif w .B k else [])

/-- R402 for one output, in locked operation for output A: no change of SOURCE within 256 frames of the latest, live or
pending, and none of the bases of the selected bank, or of one from which a ramp runs. `was` reads what would be live
without this commit. -/
def State.calChangeOk (s : State) (w was : Nat → Nat) (locked : Bool) (o : OutId) (due : Nat) : Bool :=
  let src := fun (r : Nat → Nat) => fld (r (0x40 * o.num)) 0 2
  let keeps := fun k => k == 0 || bankWords w locked o (k - 1) == bankWords was locked o (k - 1)
  (src w == src was || match (s.sourceMoves o).getLast? with
    | none => true
    | some m => 256 ≤ (due + 0x100000000 - m.1) % 0x100000000)
  && keeps (src was) && (s.rampsAt o due).all keeps

/-- BLT (R428). -/
def bltValid (w : Nat → Nat) : Bool := 16 ≤ fld (w 4) 0 9 && fld (w 4) 0 9 ≤ 320

/-- MEM (R455). -/
def memValid (w : Nat → Nat) : Bool :=
  50 ≤ fld (w 0) 0 10 && fld (w 0) 0 10 ≤ 1000 && 1 ≤ fld (w 4) 0 8 && fld (w 4) 0 8 ≤ 168 && 16 ≤ fld (w 8) 0 9
  && fld (w 8) 0 9 ≤ 416

/-- RNG (R612): ranges, and no DEVICE_ID or tile position given to two entries. -/
def rngValid (w : Nat → Nat) : Bool :=
  let cols := fld (w 8) 0 8
  let rows := fld (w 8) 8 8
  let ts := ((List.range 256).map fun k => w (0x1000 + 4 * k)).filter fun t => fld t 0 16 ≠ 0
  1 ≤ cols && 1 ≤ rows && ts.all (fun t => fld t 16 8 < cols && fld t 24 8 < rows)
  && (ts.map fun t => fld t 0 16).Nodup && (ts.map fun t => fld t 16 16).Nodup

/-- CPT (R639). -/
def cptValid (w : Nat → Nat) : Bool :=
  fld (w 0) 0 2 % 2 == 0 && 100 ≤ fld (w 4) 0 15 && fld (w 4) 0 15 ≤ 30000

/-- The status word of SYN at 0x0_0010 (R73): bits 0 to 9 for settings, and the live throttle step. -/
def State.synStatus (s : State) (g : Settings) (step : Nat) : Nat :=
  let lk := g.locked
  let rays := s.raysFail g
  let la := s.linkFail g .A
  let lb := s.linkFail g .B
  let cache := s.cacheFail g
  let pa := s.panelFails g .A || s.outA.held
  let pb := s.panelFails g .B || s.outB.held
  let own := s.judged lk s.outs
  let grp := own.any (groupFail g)
  let enc := own.any (s.encodingFail g)
  b2n (s.scanValid g s.outs (w32 (s.outA.frameNum + 1)) true) + 2 * b2n rays + 4 * b2n la + 8 * b2n lb + 16 * b2n cache
  + 32 * b2n (cache && !lk && s.variant == .E2) + 64 * b2n pa + 128 * b2n pb + 256 * b2n grp + 512 * b2n enc
  + 1024 * (step % 4)

end Sys2Proof.Machine
end

