-- ==== Sys2Proof/Machine/Commit.lean ====
section
/-! DEFINITION. Commits: acceptance (R28 to R36, R44, R490, R491, R495 to R497, R604, R683), and what a landing does
with the pending copies at its doorway (R37 to R45). -/
namespace Sys2Proof.Machine

/-! ### Pending copies -/

/-- Whether a copy has still to reach an output. -/
def Pend.needs (p : Pend) : OutId → Bool
  | .A => p.needA
  | .B => p.needB

/-- The frame at whose CLOSE a copy was fixed on an output. -/
def Pend.fixed (p : Pend) : OutId → Option Nat
  | .A => p.fixA
  | .B => p.fixB

/-- Whether an output may take a copy (R44). -/
def Pend.opens (p : Pend) : OutId → Bool
  | .A => p.openA
  | .B => p.openB

/-- Whether a copy has been fixed on no output yet. -/
def Pend.unfixed (p : Pend) : Bool := p.fixA.isNone && p.fixB.isNone

/-- The pending copies of a block (for CAM, of a port), in order of acceptance. -/
def State.pendsOf (s : State) (b : Blk) (port : Nat) : List Pend :=
  s.commits.pend.filter fun p => p.blk == b && p.port == port

/-- PENDING of a landing (R26): the most copies that any one block it holds, or any one camera port, has pending. -/
def State.pendingOf (s : State) (isl : Nat) : Nat :=
  ((allBlks.filter fun b => isl ∈ b.holders).flatMap fun b =>
    (List.range 4).map fun p => (s.pendsOf b p).length).foldl max 0

/-- The settings that a commit's snapshots, the latest pending copies and the live sets give (R80). -/
def State.settings (s : State) (snaps : List (Blk × RegMap)) (reach : OutId → Blk → Bool) : Settings := fun o b off =>
  match snaps.find? fun e => e.1 == b && reach o b with
  | some e => regGet s.variant b e.2 off
  | none =>
    match (s.pendsOf b 0).reverse.find? fun p => p.needs o || !b.both && !b.perOut with
    | some p => regGet s.variant b p.words off
    | none => s.lv b o off

/-- The current shadow sets as settings (R73). -/
def State.shadowSettings (s : State) : Settings := fun _ b off => s.sh b off

/-- The live sets as settings. -/
def State.liveSettings (s : State) : Settings := fun o b off => s.lv b o off

/-! ### Acceptance -/

/-- A commit as a command asks for it: the issuer, the blocks, for CAM the ports, TARGET_KIND, OUTPUT, TARGET; `whole`
says that it reaches the whole panel, because it makes LOCKED 1 (R254). -/
structure CommitReq where
  issuer : Nat
  blks   : List Blk
  ports  : List Nat
  kind   : Nat
  out    : OutId
  target : Nat
  whole  : Bool := false
  deriving DecidableEq, Repr

/-- What acceptance answers: the status, RETRY_AFTER, the response of R495, the events to post behind the completion,
and the state. -/
structure CommitRes where
  status : Nat
  retry  : Nat
  resp   : List Byte
  evs    : List (Nat × Nat × List Byte)
  st     : State
  deriving DecidableEq, Repr

/-- The DATA of a DOORWAY event (R510). -/
def doorwayData (cid frame kind unit flags by_ : Nat) : List Byte :=
  leBytes 4 cid ++ leBytes 4 frame ++ leBytes 1 kind ++ leBytes 1 unit ++ leBytes 1 flags ++ zeros 1 ++ leBytes 4 by_

/-- The frame number of an output (R262); in locked operation the shared counter is output A's (R45). -/
def State.frameOf (s : State) (o : OutId) : Nat := (s.out (s.eff o)).frameNum

/-- The frame of an output's next doorway: the first whose CLOSE has not been issued (R36). -/
def State.nextFrame (s : State) (o : OutId) : Nat := w32 ((s.door (s.eff o)).closeN + 1)

/-- Whether the blocks mirrored to a ring's members are named by a commit on the head (R603, R604). -/
def Blk.mirrored (b : Blk) : Bool := b == .syn || b == .scn || b == .sco || b == .rng

/-- Two targets are the same doorway (R33, R683). A next-doorway copy that is not fixed yet falls at its outputs' next
CLOSE: the spec does not say whether a frame-number target of that frame is the same doorway; here it is, on an output
that the copy has to reach (DESIGN CHOICE, log entry 93). -/
def State.sameDoor (s : State) (t : Target) (p : Pend) : Bool :=
  match t, p.target with
  | .next, .next => true
  | .frame o n, .frame o' n' => s.eff o == s.eff o' && n == n'
  | .frame o n, .next => n == s.nextFrame o && (!p.blk.perOut || p.needs (s.eff o))
  | .sensor n, .sensor n' => n == n'
  | .sensor n, .next => n == w32 ((s.cam p.port).sensor + 1)
  | _, _ => false

/-- A target lies before a pending copy's (R34, R683): on the same counter only. -/
def State.liesBefore (s : State) (t : Target) (p : Pend) : Bool :=
  match t, p.target with
  | .frame o n, .frame o' n' => s.eff o == s.eff o' && ahead n' n
  | .sensor n, .sensor n' => ahead n' n
  | _, _ => false

/-- The outputs that a copy of a block has to reach: both for the blocks that serve both; in locked operation, or where
the commit brings it, both for the blocks with landings of one output each; else the output named; device-wide blocks
keep one set, swapped at the doorway of the output named. -/
def State.reachOf (s : State) (r : CommitReq) (b : Blk) : Bool × Bool :=
  let o := r.out
  if b.both then (true, s.variant == .E2)
  else if b.perOut then (if s.locked || r.whole then (true, true) else (o == .A, o == .B))
  else (o == .A || s.locked, o == .B && !s.locked)

/-- Whether a commit's copy of a block reaches an output. -/
def State.reaches (s : State) (r : CommitReq) (o : OutId) (b : Blk) : Bool :=
  match o with
  | .A => (s.reachOf r b).1
  | .B => (s.reachOf r b).2

/-- A commit that makes LOCKED 1 is for the whole panel, and its frame number is output A's (R254). -/
def State.framed (s : State) (r : CommitReq) : CommitReq :=
  if s.variant = .E2 ∧ s.locked = false ∧ .sco ∈ r.blks ∧ bitOf (s.sh .sco 0) 0 = true then
    { r with out := .A, whole := true }
  else r

/-- One block's (or port's) place among the pending copies (R33, R34, R36, R683). -/
inductive Place where
  | refuse (status : Nat)
  | append (t : Target)
  | replace (old : Pend)
  deriving DecidableEq, Repr

/-- Where a new copy of a block goes. -/
def State.placeOf (s : State) (b : Blk) (port : Nat) (t : Target) : Place :=
  let ps := s.pendsOf b port
  let us := ps.filter (·.unfixed)
  match t with
  | .next =>
    match us.reverse with
    | u :: _ => .replace u
    | [] => if 2 ≤ ps.length then .refuse stBusyRetry else .append .next
  | _ =>
    if ps.any (s.liesBefore t) then .refuse stBadField
    else match us.find? (s.sameDoor t) with
      | some u => .replace u
      | none => if 2 ≤ ps.length then .refuse stBusyRetry else .append t

/-- The words that a commit freezes of a block: the whole shadow set, or for CAM the port's records (R30, R496). -/
def State.freeze (s : State) (b : Blk) (port : Nat) : RegMap :=
  if b = .cam then (s.shadowOf .cam).filter fun e => e.1 / 0x100 == port else s.shadowOf b

/-- The live or pending pools of every function, and those a snapshot would make live (R436). -/
def State.allPools (s : State) : List (Nat × Nat) :=
  let of := fun (m : RegMap) => (List.range 32).map (poolOf fun off => regGet s.variant .sys m off)
  (of ((s.landing 62).liveWords .sys .A)) ++ ((s.pendsOf .sys 0).flatMap fun p => of p.words)

/-- STORE_BUFFERS live (R137). -/
def State.storeBuffers (s : State) : Nat := fld (s.lv .scn .A 0x10) 0 16

/-- The lowest address of the live scene store (R436). -/
def State.storeLow (s : State) : Nat := s.dataEnd - s.storeBuffers * 4194304

/-- Store buffers that a channel uses: those that its live scenes, its pending scene commits and its open one have
contents in (R128). A buffer's number is its distance from the end of the data space. -/
def Channel.usedBufs (c : Channel) : List Nat :=
  let ofPkts := fun (ps : List ScenePkt) => ps.flatMap (·.bufs)
  let ofScene := fun (sc : List Plane) => sc.flatMap fun p => p.tiles.flatMap fun t => t.2.bufs
  (ofPkts c.openPkts ++ (c.pending.flatMap fun k => ofPkts k.pkts) ++ ofScene c.sceneA ++ ofScene c.sceneB).eraseDups

/-- Store buffers in use. -/
def State.usedBufs (s : State) : List Nat := (s.chans.flatMap Channel.usedBufs).eraseDups

/-- Buffers of the pool that hold nothing in use, lowest number first: the order in which they are taken is the model's
(DESIGN CHOICE, log entry 97). -/
def State.poolFree (s : State) : List Nat :=
  let used := s.usedBufs
  (List.range s.storeBuffers).filter fun b => !(b ∈ used)

/-- Bytes of a store buffer. -/
def storeBuf : Nat := 4194304

/-- The buffers of a chain that hold `len` bytes from an offset behind the start of its first buffer. -/
def bufsOf (bufs : List Nat) (off len : Nat) : List Nat :=
  (bufs.take ((off + len - 1) / storeBuf + 1)).drop (off / storeBuf)

/-- The current buffer of a channel's chain; it has gone back to the pool once nothing of the channel is in it. -/
def Channel.tailBuf (k : Channel) : Option Nat := k.curBuf.filter fun b => k.usedBufs.contains b

/-- Where `len` bytes go in a channel's chain: the buffers, the current buffer and the offset behind; `none` when the
pool has too few. A packet takes the pool's free buffers from the highest address down, and takes none while the pool has
fewer than the packet needs (DESIGN CHOICE, log entries 97 and 98). -/
def State.storePlace (s : State) (c len : Nat) : Option (List Nat × Nat × Nat) :=
  let k := s.chan c
  let cur := k.tailBuf
  let room := match cur with | none => 0 | some _ => storeBuf - k.curOff
  match cur, decide (len ≤ room) with
  | some b, true => some ([b], b, k.curOff + len)
  | _, _ =>
    let need := cdiv (len - room) storeBuf
    let new := s.poolFree.take need
    if new.length < need then none
    else some ((match cur with | some b => if room = 0 then [] else [b] | none => []) ++ new, new.getLastD 0,
               len - room - (need - 1) * storeBuf)

/-- Whether a channel's ingest is paused for store space now: it goes on as soon as the pool has what it needs (R129). -/
def State.pausedNow (s : State) (c : Nat) : Bool :=
  match (s.chan c).paused with
  | none => false
  | some k => (s.storePlace c k.2.2).isNone

/-- Pauses that freed buffers have ended are over, before the buffers are taken again. -/
def State.endPauses (s : State) : State :=
  { s with chans := s.chans.mapIdx fun c k => { k with paused := if s.pausedNow c then k.paused else none } }

/-- STORE_FLOOR (R436, R455): the lowest store buffer in use, in 4 MiB units, or the store's lowest address. -/
def State.storeFloor (s : State) : Nat :=
  (s.usedBufs.map fun b => s.dataEnd / 4194304 - 1 - b).foldl min (s.storeLow / 4194304)

/-- The validity rules of each named block (R80 and the chapters of the blocks), for each output the commit reaches. -/
def State.commitValid (s : State) (r : CommitReq) (due : Nat) : Bool :=
  let snaps := r.blks.map fun b => (b, s.freeze b 0)
  let g := s.settings snaps (s.reaches r)
  let was := s.settings [] fun _ _ => false
  let word := fun (b : Blk) (off : Nat) => s.sh b off
  let os := [OutId.A, OutId.B].filter fun o => s.outs.contains o && r.blks.any (s.reaches r o)
  let own := s.judged g.locked os
  let scan := !(r.blks.any fun b => b == .syn || b == .sco || b == .spl) || s.scanValid g os due (.sco ∈ r.blks)
  scan
  && (!(.cmp ∈ r.blks) || s.cmpValid g.locked (word .cmp))
  && (!(.scn ∈ r.blks) || s.scnValid (word .scn) s.allPools)
  && (!(.sys ∈ r.blks) || s.sysValid (word .sys) s.storeLow (s.storeFloor * 4194304))
  && (!(.lne ∈ r.blks) || lneValid (word .lne))
  && (!(.trm ∈ r.blks) || trmValid (word .trm))
  && (!(.cam ∈ r.blks) || r.ports.all fun p =>
        s.camValid (fun off => s.sh .cam (0x100 * p + off)) (fun off => s.lvCam p (0x100 * p + off)))
  && (!(.cal ∈ r.blks) ||
        (calRanges (word .cal) s.outs && own.all (fun o => s.calChangeOk (word .cal) (was o .cal) g.locked o due)
         && (if g.locked then s.outs else os).all fun o =>
              s.mapsOk g o (s.rampsAt o due ++ if g.source o = was.source o then [] else [was.source o])))
  && (!(.blt ∈ r.blks) || bltValid (word .blt))
  && (!(.mem ∈ r.blks) || memValid (word .mem))
  && (!(.rng ∈ r.blks) || rngValid (word .rng))
  && (!(.cpt ∈ r.blks) || cptValid (word .cpt))
  -- R402's last case: no SCO map base in use moves while a ramp from SOURCE 0 runs
  && (!(.sco ∈ r.blks) || own.all fun o =>
        !(s.rampsAt o due).contains 0 ||
          ([0x200 + 8 * o.num, 0x204 + 8 * o.num] ++
            (if g.locked then [0x210, 0x214, 0x218, 0x21C] else [0x210 + 8 * o.num, 0x214 + 8 * o.num])).all fun off =>
              s.sh .sco off == was o .sco off)

/-- Copies of a commit for each block, or each port of CAM. -/
def CommitReq.units (r : CommitReq) : List (Blk × Nat) :=
  r.blks.flatMap fun b => if b = .cam then r.ports.map fun p => (b, p) else [(b, 0)]

/-- The target that a request names, after R604's rule for the head of a ring. -/
def State.targetOf (s : State) (r : CommitReq) : Target :=
  if r.kind = 1 then .frame r.out r.target else if r.kind = 2 then .sensor r.target
  else if s.isHead && r.blks.any (·.mirrored) then .frame .A (w32 (s.frameOf .A + 2)) else .next

/-- A pending copy's target lies behind another target on its counter; a next-doorway target is the next frame. -/
def State.liesAfter (s : State) (t : Target) (p : Pend) : Bool :=
  match t, p.target with
  | .next, .frame o n => ahead n (s.nextFrame o)
  | .frame o n, .frame o' n' => s.eff o == s.eff o' && ahead n' n
  | _, _ => false

/-- The pending copy whose target a frame commit with target "next doorway" takes (R34): the latest accepted among the
blocks it names. A commit has one target (R28), and no block's may decrease, so a later one on that counter goes first. -/
def State.lender (s : State) (r : CommitReq) : Option Pend :=
  match (s.commits.pend.filter fun p => p.unfixed && p.blk.kind == some .f && r.blks.contains p.blk).reverse with
  | [] => none
  | p :: ps => some (ps.foldl (fun a q => if s.liesAfter a.target q then q else a) p)

/-- DUE of a copy (R495, R683). -/
def State.dueOf (s : State) (k : DoorKind) (r : CommitReq) (t : Target) (pl : Place) : Nat :=
  match pl with
  | .replace p => (match t with | .next => p.due | .frame _ n => n | .sensor n => n)
  | _ =>
    match k, t with
    | .f, .frame _ n => n
    | .f, _ => if s.power.standby = 3 ∧ .cpt ∈ r.blks then w32 (s.outA.frameNum + 1) else s.nextFrame r.out
    | .sf, .sensor n => n
    | .sf, _ => w32 ((s.cam (r.ports.headD 0)).sensor + 1)
    | _, _ => 0xFFFFFFFF

/-- Whether a named target can still be met (R35, R604). -/
def State.targetOpen (s : State) (r : CommitReq) : Bool :=
  match r.kind with
  | 1 =>
    ahead r.target (s.frameOf r.out) && ahead r.target (s.door (s.eff r.out)).closeN
    && (!(s.isHead && r.blks.any (·.mirrored)) || !ahead (w32 (s.frameOf .A + 2)) r.target)
  | 2 => ahead r.target (s.cam (r.ports.headD 0)).sensor
  | _ => true

/-- A new copy of a commit for a block or port: its words are frozen (R30), its target and DUE are given. -/
def State.copyOf (s : State) (r : CommitReq) (cid : Nat) (t : Target) (b : Blk) (port : Nat) (tg : Target) (due unit : Nat) :
    Pend :=
  let q := s.reachOf r b
  let isF := b.kind == some .f
  let other := match t with | .next => true | _ => s.locked
  let named := match t with | .frame o _ => o | _ => r.out
  { cid := cid, issuer := r.issuer, blk := b, port := port, target := tg, due := due, words := s.freeze b port,
    needA := if isF then q.1 else true, needB := isF && q.2, fixA := none, fixB := none,
    openA := other || named == .A || !b.both, openB := other || named == .B || !b.both,
    lateA := false, lateB := false, unit := unit, waits := [] }

/-- A copy that stands in place of another goes to every output the other had to reach: in a block with landings of one
output each, the outputs of both (R33, R34, R44). -/
def Pend.reaching (c old : Pend) : Pend :=
  { c with needA := c.needA || old.blk.perOut && old.needA, needB := c.needB || old.blk.perOut && old.needB }

/-- A copy that shares the doorways of another. In a block with landings of one output each, an output that the other
copy did not have to reach opens for this one as the other output does under R44. -/
def Pend.sharing (c old : Pend) : Pend :=
  let opens := fun (o : OutId) => match c.target with
    | .frame q _ => q == o || (c.openA && c.openB)
    | _ => true
  { c with openA := if c.blk.perOut then opens .A else c.openA || old.blk.both && old.openA,
           openB := if c.blk.perOut then opens .B else c.openB || old.blk.both && old.openB,
           lateA := old.lateA, lateB := old.lateB, waits := old.waits }

/-- The copy that a commit puts at its place: with a `lend`er, or in place of a next-doorway copy, it shares that one's
doorways. -/
def State.newCopy (s : State) (r : CommitReq) (cid due : Nat) (t : Target) (lend : Option Pend) (b : Blk) (port : Nat)
    (at_ : Place) : Pend :=
  let like := fun (p : Pend) => (s.copyOf r cid t b port p.target p.due p.unit).sharing p
  let keep := fun (c : Pend) => match at_ with | .replace old => c.reaching old | _ => c
  match lend, at_ with
  | some p, _ => keep (like p)
  | none, .replace old =>
    if t = .next then keep (like old) else keep { s.copyOf r cid t b port t due r.out.num with waits := old.waits }
  | none, .append tg => s.copyOf r cid t b port tg due r.out.num
  | none, .refuse _ => s.copyOf r cid t b port t due r.out.num

/-- One copy's effect on the list of pending copies, which stands in order of acceptance. -/
def State.putCopy (s : State) (r : CommitReq) (cid due : Nat) (t : Target) (lend : Option Pend) (b : Blk) (port : Nat) :
    State :=
  let at_ := s.placeOf b port t
  let new := s.newCopy r cid due t lend b port at_
  match at_ with
  | .refuse _ => s
  | .append _ => { s with commits := { s.commits with pend := s.commits.pend ++ [new] } }
  | .replace old =>
    { s with commits := { s.commits with pend := (s.commits.pend.filter fun p => p ≠ old) ++ [new] } }

/-- The next commit ID (R26): after 0xFFFF_FFFF comes 1. -/
def nextCid (n : Nat) : Nat := if n ≥ 0xFFFFFFFF then 1 else n + 1

/-- The events of commits whose every copy has been replaced (R33, R497). -/
def replacedEvents (old new : List Pend) (cid : Nat) : List (Nat × Nat × List Byte) :=
  let gone := (old.filter fun p => !(new.any fun q => q.cid == p.cid)).foldl
    (fun (a : List Pend) p => if a.any fun q => q.cid == p.cid then a else a ++ [p]) []
  gone.map fun p =>
    (p.issuer, 0x8100, doorwayData p.cid 0 (((p.blk.kind).map DoorKind.code).getD 0) p.unit 2 cid)

/-- R5: a command that names output B, or locked operation, on an E1. -/
def State.noOutB (s : State) (o : OutId) : Bool := s.variant == .E1 && o == .B

/-- The doorway that a commit's blocks share (R29); none where they share none. -/
def CommitReq.doorKind (r : CommitReq) : Option DoorKind :=
  match r.blks.map Blk.kind with
  | [] => none
  | k :: ks => if ks.any (· ≠ k) then none else k

/-- The pending copy that lends a commit its doorways (R34), if one does. -/
def State.lendOf (s : State) (r : CommitReq) (kind : DoorKind) : Option Pend :=
  if s.targetOf r = .next ∧ kind = .f then s.lender r else none

/-- The target that a commit takes. -/
def State.takenTarget (s : State) (r : CommitReq) (kind : DoorKind) : Target :=
  match s.lendOf r kind with
  | some p => p.target
  | none => s.targetOf r

/-- Where each copy of a commit goes. -/
def State.places (s : State) (r : CommitReq) (kind : DoorKind) : List Place :=
  r.units.map fun u => s.placeOf u.1 u.2 (s.takenTarget r kind)

/-- DUE of a commit (R495). -/
def State.takenDue (s : State) (r : CommitReq) (kind : DoorKind) : Nat :=
  match s.lendOf r kind with
  | some p => p.due
  | none => s.dueOf kind r (s.takenTarget r kind) ((s.places r kind).headD (.append (s.takenTarget r kind)))

/-- UNIT of a commit (R495, R510). -/
def State.takenUnit (s : State) (r : CommitReq) (kind : DoorKind) : Nat :=
  match kind with
  | .f => (match s.lendOf r .f with | some p => p.unit | none => r.out.num)
  | .sf => r.ports.headD 0
  | _ => 0

/-- RETRY_AFTER of a third commit (R33): the time to the next doorway of its blocks in milliseconds, rounded up. The next
frame doorway is reckoned at the FRAME_START that R161's first two conditions give; before the first frame, and for the
doorways that a sensor, a list, an update or a window brings, the time is open (log entry 94). -/
def State.retryMs (s : State) (r : CommitReq) (kind : DoorKind) : Nat :=
  let x := s.out (s.eff r.out)
  if kind = .f ∧ x.frameNum ≠ 0 then max 1 (cdiv (x.startOf (w32 (x.frameNum + 1)) - s.clk) 25000)
  else 1 + s.freeBelow 0xFFFFFFFE

/-- Why a commit is not accepted, its own conditions in order: the status and RETRY_AFTER. -/
def State.refused (s : State) (r : CommitReq) (kind : DoorKind) : Option (Nat × Nat) :=
  if (r.kind = 1 ∧ kind ≠ .f) ∨ (r.kind = 2 ∧ (kind ≠ .sf ∨ r.ports.length ≠ 1)) ∨ 2 < r.kind then some (stBadField, 0)
  else if (kind = .sf ∧ r.ports = []) ∨ (kind ≠ .sf ∧ r.ports ≠ []) then some (stBadField, 0)
  else if s.noOutB r.out then some (stBadField, 0)
  else if !s.commitValid r (s.takenDue r kind) then some (stBadField, 0)
  else if (s.places r kind).any (· == .refuse stBadField) then some (stBadField, 0)
  else if !s.targetOpen r then some (stNotReady, 0)
  else if (s.places r kind).any (· == .refuse stBusyRetry) then some (stBusyRetry, s.retryMs r kind)
  else if .cpt ∈ r.blks ∧ (s.power.standby = 2 ∨ s.power.standby = 4) then some (stBusyRetry, 100)
  else none

/-- A camera port that a commit enables leaves its reset (R366). -/
def State.camRelease (s : State) (p : Nat) : State :=
  if bitOf (s.sh .cam (0x100 * p)) 0 then s.modCam p fun c => { c with rstLow := false } else s

/-- An accepted commit: one copy for each block, the next commit ID, the journal's settings entry (R565). -/
def State.enter (s : State) (r : CommitReq) (kind : DoorKind) : State :=
  let cid := s.commits.nextId
  let s1 := r.units.foldl
    (fun a u => a.putCopy r cid (s.takenDue r kind) (s.takenTarget r kind) (s.lendOf r kind) u.1 u.2) s
  let s2 := { s1 with commits := { s1.commits with nextId := nextCid cid } }
  let s3 := s2.journal (.settings cid r.blks) true
  if kind = .sf then r.ports.foldl State.camRelease s3 else s3

/-- A commit's acceptance (R28 to R36, R483, R484, R491), with the response of R495. A refused one has no effect. -/
def State.accept (s : State) (r : CommitReq) : CommitRes :=
  let r := s.framed r
  match r.doorKind with
  | none => { status := stBadField, retry := 0, resp := [], evs := [], st := s }
  | some kind =>
    match s.refused r kind with
    | some e => { status := e.1, retry := e.2, resp := [], evs := [], st := if e.1 = stBusyRetry then s.drawn else s }
    | none =>
      let t := s.enter r kind
      { status := stDeferred, retry := 0,
        resp := leBytes 4 s.commits.nextId ++ leBytes 4 (s.takenDue r kind) ++ leBytes 1 kind.code
          ++ leBytes 1 (s.takenUnit r kind) ++ zeros 6,
        evs := replacedEvents s.commits.pend t.commits.pend s.commits.nextId, st := t }

/-! ### The frame doorway at a landing -/

/-- Whether a landing takes part in doorways (R26). -/
def State.inDoor (s : State) (n : Nat) : Bool := (s.landing n).present && (s.landing n).inProtocol

/-- The landings that must swap a copy on an output. -/
def State.holdersOn (s : State) (b : Blk) (o : OutId) : List Nat :=
  b.holders.filter fun n => s.inDoor n && o ∈ landingServes b n

/-- The frame at which a landing last swapped for an output. -/
def Landing.swapped (l : Landing) : OutId → Nat
  | .A => l.swapA
  | .B => l.swapB

/-- Keeps the newest set of a block and output, the latest made live last. -/
def putNewest (l : List LiveSet) (n : Nat) (b : Blk) (o : OutId) (cid : Nat) (m : RegMap) : List LiveSet :=
  (l.filter fun e => !(e.blk == b && e.out == o)) ++ [{ blk := b, out := o, port := 0, cid := cid, frame := n, words := m }]

/-- The copies fixed on an output whose every landing has swapped. -/
def State.arrived (s : State) (o : OutId) : List Pend :=
  s.commits.pend.filter fun p =>
    p.needs o && (match p.fixed o with
      | none => false
      | some n => (s.holdersOn p.blk o).all fun h => !ahead n ((s.landing h).swapped o))

/-- A copy that has reached an output. -/
def Pend.arrive (p : Pend) : OutId → Pend
  | .A => { p with needA := false }
  | .B => { p with needB := false }

/-- The live set that a landing keeps stands under the output it serves; device-wide sets stand under A. -/
def Blk.slot (b : Blk) (o : OutId) : OutId := if b.both || b.perOut then o else .A

/-- What follows the last landing's swap (R32, R42, R510): the copies that reached the output are live there; the
doorway event of each commit all of whose copies on the output are live goes to its issuer; copies with no output
left are dropped. `joint` is a doorway both outputs share: one event, when neither output is still to be reached. -/
def State.settle (s : State) (o : OutId) (joint : Bool) : State :=
  let done := s.arrived o
  let pend := s.commits.pend.map fun p => if p ∈ done then p.arrive o else p
  let newest := done.foldl (fun l p => putNewest l ((p.fixed o).getD 0) p.blk (p.blk.slot o) p.cid p.words) s.commits.newest
  let waits := fun (cid : Nat) => pend.any fun q => q.cid == cid && (q.needs o || joint && (q.needA || q.needB))
  let ends := (done.filter fun p => !waits p.cid).foldl
    (fun (a : List Pend) p => if a.any fun q => q.cid == p.cid then a else a ++ [p]) []
  let s1 := { s with commits := { s.commits with pend := pend.filter fun p => p.needA || p.needB, newest := newest } }
  ends.foldl (fun a p =>
    let n := (p.fixed o).getD 0
    let u := if joint then p.unit else o.num
    let late := (match o with | .A => p.lateA | .B => p.lateB) || ((joint || p.unit == o.num) && ahead n p.due)
    let a := if late && p.issuer == 32 && p.blk.mirrored then
        { a with ring := { a.ring with missed := w32 (a.ring.missed + 1) } }
      else a
    a.event p.issuer 0x8100 (doorwayData p.cid n 0 u (b2n late) 0)) s1

/-- A landing makes its pending copies of an output live (R40): in order of acceptance, the latest of a block last. -/
def Landing.takes (l : Landing) (isl : Nat) (o : OutId) (n : Nat) (ps : List Pend) : Landing :=
  let mine := ps.filter fun p => isl ∈ p.blk.holders && (p.fixed o).isSome && p.needs o && o ∈ landingServes p.blk isl
  let l := mine.foldl (fun (a : Landing) p => a.setLiveAt n p.blk (p.blk.slot o) p.cid p.words) l
  match mine.reverse with
  | [] => l
  | p :: _ =>
    match o with
    | .A => { l with liveCommitA := p.cid, liveFrame := n }
    | .B => if p.blk.both || p.blk.perOut then { l with liveCommitB := p.cid } else { l with liveCommitA := p.cid, liveFrame := n }

end Sys2Proof.Machine
end

