-- ==== Sys2Proof/Machine/Packets.lean ====
section
/-! DEFINITION. What a ring port sends: CONTROL blocks, packets within credits, and relayed commands
(R589 to R592, R606, R607). -/
namespace Sys2Proof.Machine

/-! ### Blocks and packets -/

/-- A CONTROL payload: 28 bytes and their CRC-32 (R267, R590). -/
def ctlBlock (body : List Byte) : List Byte :=
  let b := fitTo 28 body
  b ++ leBytes 4 (crc32 b).toNat

/-- Whether a 32-byte CONTROL payload carries its CRC (R267). -/
def ctlOk (b : List Byte) : Bool := b.length == 32 && nAt b 28 4 == (crc32 (b.take 28)).toNat

/-- Sends a CONTROL block, ahead of every waiting DATA block (R590). -/
def State.sendCtl (s : State) (p : RPort) (body : List Byte) : State :=
  s.modRport p fun r => { r with ctl := r.ctl ++ [ctlBlock body] }

/-- The length of a packet with a body: header, body, CRC, padded to a multiple of 32 (R591). -/
def packetLen (body : Nat) : Nat := cdiv (16 + body + 4) 32 * 32

/-- A packet's bytes (R591). -/
def packetOf (typ flags src dst hops seq : Nat) (body : List Byte) : List Byte :=
  let n := packetLen body.length
  let h := leBytes 1 typ ++ leBytes 1 flags ++ leBytes 2 src ++ leBytes 2 dst ++ leBytes 2 hops ++ leBytes 4 n
    ++ leBytes 4 seq
  let d := fitTo (n - 4) (h ++ body)
  d ++ leBytes 4 (crc32 d).toNat

/-- Whether a received packet's length and CRC hold (R591, R592). -/
def packetGood (p : List Byte) : Bool :=
  32 ≤ p.length && nAt p 8 4 == p.length && nAt p (p.length - 4) 4 == (crc32 (p.take (p.length - 4))).toNat

/-- The 32-byte units of a packet. -/
def packetUnits (p : List Byte) : Nat := cdiv p.length 32

/-- Sends waiting packets in order while the latest ACK's credits last (R592). -/
def pump : List (Nat × List Byte) → RingPort → RingPort
  | [], r => r
  | (q, p) :: rest, r =>
    if q = r.sendSeq ∧ packetUnits p ≤ r.credits then
      pump rest { r with sendSeq := w32 (r.sendSeq + 1), credits := r.credits - packetUnits p, pkts := r.pkts ++ [p] }
    else pump rest r

/-- A packet's place in a port's send order: the next PKT_SEQ, kept until an ACK covers it (R592). -/
def RingPort.enqueue (r : RingPort) (mk : Nat → List Byte) : RingPort :=
  let r := { r with unacked := r.unacked ++ [(r.txSeq, mk r.txSeq)], txSeq := w32 (r.txSeq + 1) }
  pump r.unacked r

/-- Whether a port is ACTIVE. -/
def RingPort.active (r : RingPort) : Bool := r.st == 5

/-- Sends a packet on a port, if it is ACTIVE; bit 0 of FLAGS says that it travels westward. -/
def State.sendPacket (s : State) (p : RPort) (typ flags src dst hops : Nat) (body : List Byte) : State :=
  if (s.rport p).active then
    s.modRport p fun r => r.enqueue fun q =>
      packetOf typ (setFld flags 0 1 (if p = .west then 1 else 0)) src dst hops q body
  else s

/-- Sends a packet in both directions. -/
def State.sendBoth (s : State) (typ flags dst : Nat) (body : List Byte) : State :=
  (s.sendPacket .east typ flags s.ring.ownId dst 0 body).sendPacket .west typ flags s.ring.ownId dst 0 body

/-- The directions in which packets leave. -/
def State.activePorts (s : State) : List RPort := [RPort.east, RPort.west].filter fun p => (s.rport p).active

/-! ### Relayed commands (R606) -/

/-- Bytes cut into pieces of at most `n`; at least one piece. -/
def pieces (n : Nat) (bs : List Byte) : List (List Byte) :=
  (List.range (max 1 (cdiv bs.length n))).map fun k => (bs.drop (n * k)).take n

/-- What one packet of the ring carries behind 16 bytes of its own header: R591's bound of 65,536 B leaves 65,500. -/
def fragments (bs : List Byte) : List (List Byte) := pieces 65500 bs

/-- Sends the RELAY packets of a command on a port: opcode, STATUS, tag and lengths stand in each, the payload and the
response area run through them, and the last carries LAST. -/
def State.sendRelay (s : State) (p : RPort) (returning : Bool) (src hops opcode status tag : Nat) (payload resp : List Byte) :
    State :=
  let h := leBytes 2 opcode ++ leBytes 2 status ++ leBytes 4 tag ++ leBytes 4 payload.length ++ leBytes 4 resp.length
  let fs := fragments (payload ++ resp)
  (List.range fs.length).foldl (fun a k =>
    a.sendPacket p 3 (2 * b2n returning + (if k + 1 = fs.length then 4 else 0)) src 0xFFFF hops (h ++ fs.getD k [])) s

/-- STATUS of a RELAY packet while no controller has acted. -/
def noneActed : Nat := 0xFFFF

/-- Relays a command of a function of the head, which waits until the packet is back from every direction. The response
area is the length that the command's entry gives. -/
def State.relaySend (s : State) (f : Nat) (e : SqEntry) (opcode : Nat) (payload : List Byte) (status : Nat)
    (resp : List Byte) (dev0 : Bool) : State :=
  let tag := s.ring.relayTag
  let n := nAt e.raw 0x14 4
  let area := fitTo (if n = 0 then 16 else min n 1048576) resp
  let s := s.modRing fun r =>
    { r with relayTag := w32 (tag + 1),
             relays := r.relays ++ [{ func := f, entry := e, tag := tag, left := s.activePorts,
                                      status := if dev0 then some status else none, resp := area, dev0 := dev0 }] }
  s.activePorts.foldl (fun a p => a.sendRelay p false s.ring.ownId 0 opcode noneActed tag payload area) s

/-- Whether the head of a ring hands commands on to the members (R606). -/
def State.relays (s : State) : Bool := s.isHead && s.activePorts != []

/-! ### Tokens (R597, R599) -/

/-- A TOKEN block. -/
def tokenBlock (kind origin frame delay elapsed flags hops : Nat) : List Byte :=
  leBytes 1 0x40 ++ leBytes 1 kind ++ leBytes 2 origin ++ leBytes 4 frame ++ leBytes 4 delay ++ leBytes 4 elapsed
  ++ leBytes 1 flags ++ zeros 1 ++ leBytes 2 hops

/-- The head sends READY(N) on both ports at its own CLOSE(N) (R599). -/
def State.sendReady (s : State) (n : Nat) : State :=
  if s.isHead then
    s.activePorts.foldl (fun a p => a.sendCtl p (tokenBlock 0 s.ring.ownId n 0 0 0 0))
      (s.modRing fun r => { r with readyN := some n, readyBack := [] })
  else s

end Sys2Proof.Machine
end

