-- ==== Sys2Proof/Machine/Blocks.lean ====
section
/-! DEFINITION. The blocks of a Swiup link: headers and how a receiver takes them, payloads of the blocks that the controller
sends, their bits on a lane and the training pattern (R263 to R268, R273, R276 to R281, R289, R303, R318). -/
namespace Sys2Proof.Machine

/-! ### Headers (R264, R265) -/

/-- The kinds of blocks. -/
inductive BlockKind where
  | row | replicate | control | frameStart | frameEnd | idle
  deriving DecidableEq, Repr

/-- Every kind. -/
def blockKinds : List BlockKind := [.row, .replicate, .control, .frameStart, .frameEnd, .idle]

/-- The codeword of a kind (R264). -/
def BlockKind.header : BlockKind → Nat
  | .row => 0x1E
  | .replicate => 0x2D
  | .control => 0x33
  | .frameStart => 0x4B
  | .frameEnd => 0x55
  | .idle => 0x66

/-- Whether a direction carries a kind (R264): the forward link all of them, the backchannel CONTROL and IDLE. -/
def BlockKind.carried (k : BlockKind) (forward : Bool) : Bool := forward || k == .control || k == .idle

/-- Whether a kind's payload ends with a CRC that its receiver checks (R267). -/
def BlockKind.hasCrc (k : BlockKind) : Bool := k == .control || k == .frameStart || k == .frameEnd

/-- In how many of its eight bits a header differs from another. -/
def headerDistance (a b : Nat) : Nat := ((List.range 8).filter fun i => bitOf a i != bitOf b i).length

/-- A received header: the kind it is taken as, and whether it was corrected; none is a header error (R265). -/
def classHeader (h : Nat) : Option (BlockKind × Bool) :=
  (blockKinds.find? fun k => headerDistance h k.header ≤ 1).map fun k => (k, headerDistance h k.header == 1)

/-- A ring lane's kinds (R589): DATA, with ROW's codeword, CONTROL and IDLE. -/
def ringKinds : List BlockKind := [.row, .control, .idle]

/-- A header received on a ring lane: any other kind's codeword is a header error (R265, R589). -/
def ringHeader (h : Nat) : Option (BlockKind × Bool) := (classHeader h).filter fun k => ringKinds.contains k.1

/-- The lane and the slot of block k of a ring port's stream (R589). -/
def ringPlace (k : Nat) : Nat × Nat := (k % 4, k / 4)

/-! ### Bits and symbols (R263, R266, R303, R318) -/

/-- The 264 bits of a block in the order in which they are sent (R263). -/
def blockBits (header : Nat) (payload : List Byte) : List Bool :=
  (List.range 8).map (bitOf header) ++ payload.flatMap fun b => (List.range 8).map (b.getLsbD ·)

/-- The scrambler x⁵⁸ + x³⁹ + 1 over payload bits, from the last 58 bits sent, the latest first (R266). -/
def scramble : List Bool → List Bool → List Bool
  | _, [] => []
  | st, b :: bs =>
    let y := b ^^ (st.getD 57 false ^^ st.getD 38 false)
    y :: scramble (y :: st.take 57) bs

/-- A PAM4 level of two bits, the first sent being the more significant (R303). -/
def pam4Level (hi lo : Bool) : Int := if hi then (if lo then 1 else 3) else (if lo then -1 else -3)

/-- The symbols of a run of bits on a PAM4 lane (R303). -/
def pam4Symbols : List Bool → List Int
  | a :: b :: bs => pam4Level a b :: pam4Symbols bs
  | _ => []

/-- The lock pattern of an exit from electrical idle: 8192 PAM4 symbols, or 4096 bits on an NRZ lane (R318). -/
def lockPattern (pam4 : Bool) : List Int :=
  if pam4 then (List.replicate 4096 [3, -3]).flatten else (List.replicate 2048 [1, 0]).flatten

/-- The lane and the payload slot of payload block k (R273). -/
def payloadPlace (k : Nat) : Nat × Nat := (k % 16, k / 16)

/-! ### Payloads -/

/-- What a FRAME_START block says (R279). -/
structure StartInfo where
  frame  : Nat
  blocks : Nat
  w      : Nat
  h      : Nat
  hx     : Nat
  hy     : Nat
  mode   : Nat
  rate   : Nat
  vmin   : Nat
  vmax   : Nat
  device : Nat
  deriving DecidableEq, Repr

/-- The FRAME_START payload (R279). -/
def StartInfo.payload (i : StartInfo) : List Byte :=
  ctlBlock (leBytes 4 i.frame ++ leBytes 4 i.blocks ++ leBytes 2 i.w ++ leBytes 2 i.h
    ++ leBytes 1 (i.hx - 1 + 16 * (i.hy - 1)) ++ leBytes 1 i.mode ++ leBytes 1 i.rate ++ zeros 1 ++ leBytes 2 i.vmin
    ++ leBytes 2 i.vmax ++ leBytes 2 i.device)

/-- The FRAME_END payload (R280). -/
def endPayload (frame blocks activeUs : Nat) : List Byte :=
  ctlBlock (leBytes 4 frame ++ leBytes 4 blocks ++ leBytes 4 activeUs)

/-- The DESKEW payload of a lane (R281). -/
def deskewPayload (lane count : Nat) : List Byte := ctlBlock (leBytes 1 1 ++ leBytes 1 lane ++ zeros 2 ++ leBytes 4 count)

/-- The REQUEST payload for a SUBTYPE (R277). -/
def requestPayload (sub : Nat) : List Byte := ctlBlock (leBytes 1 2 ++ leBytes 1 sub)

/-! ### The training pattern (R289) -/

/-- The next n bits of the PRBS31 sequence from a register, and the register after them. -/
def prbsStep : Nat → Nat → List Bool → Nat × List Bool
  | 0, r, bs => (r, bs.reverse)
  | n + 1, r, bs =>
    let b := bitOf r 30
    let f := bitOf r 30 ^^ bitOf r 27
    prbsStep n ((r * 2 + b2n f) % 0x80000000) (b :: bs)

/-- The product of two polynomials over GF(2) modulo x³¹ + x³ + 1, which the sequence obeys. -/
def prbsMul (a b : Nat) : Nat :=
  (List.range 31).foldr (fun i c =>
    let d := 2 * c
    let d := if bitOf d 31 then (d ^^^ 9) % 0x80000000 else d
    if bitOf b i then d ^^^ a else d) 0

/-- x to a power, by the power's bits. -/
def prbsPow : Nat → Nat → Nat → Nat
  | 0, _, _ => 1
  | n + 1, x, k =>
    let r := prbsPow n (prbsMul x x) (k / 2)
    if k % 2 = 1 then prbsMul r x else r

/-- The register of the sequence after k bits from all ones: bit 30 − j is bit k + j of the sequence. -/
def prbsAt (k : Nat) : Nat :=
  let p := prbsPow 64 2 k
  (List.range 31).foldl (fun r j =>
    let q := prbsMul p (2 ^ j)
    2 * r + ((List.range 31).filter (bitOf q)).length % 2) 0

/-- The bytes of a run of bits, each byte least significant bit first. -/
def bytesOfBits (n : Nat) (bs : List Bool) : List Byte :=
  (List.range n).map fun k => BitVec.ofNat 8 ((List.range 8).foldr (fun i a => 2 * a + b2n (bs.getD (8 * k + i) false)) 0)

/-- The TRAIN payload of a lane after n TRAIN blocks of its attempt. -/
def trainPayload (lane phase preset n : Nat) : List Byte :=
  ctlBlock (leBytes 1 0x10 ++ leBytes 1 lane ++ leBytes 1 phase ++ leBytes 1 preset
    ++ bytesOfBits 24 (prbsStep 192 (prbsAt (192 * n)) []).2)

/-- VERIFY_CRC over the patterns of 4096 slots of 16 lanes, after n TRAIN blocks on lanes 1 to 15; the REQUEST for CAPS has
taken the place of one on lane 0 (R277). -/
def verifyCrcFrom (n : Nat) : Word :=
  let first := prbsStep 192 (prbsAt (192 * (n - 1))) []
  let go := (List.range 4096).foldl (fun (a : Nat × List Bool × Word) _ =>
    let p := prbsStep 192 a.1 []
    (p.1, p.2, (List.range 15).foldl (fun c _ => crc32Bits c p.2) (crc32Bits a.2.2 a.2.1)))
    (first.1, first.2, 0xFFFFFFFF)
  ~~~ go.2.2

end Sys2Proof.Machine
end

