-- ==== Sys2Proof/Machine/Operands.lean ====
section
/-! DEFINITION. Every operand form of a host command: the submission entry, its payload and response, the authentication
trailer, and the checks of R475 in their order (R465 to R478, R487 to R493, R524 to R526, R575, R577, R624). -/
namespace Sys2Proof.Machine

/-! ### A submission entry (R465, R466) -/

/-- A fetched command: function and entry. -/
structure Cmd where
  f : Nat
  e : SqEntry
  deriving DecidableEq, Repr

/-- OPCODE. -/
def Cmd.opcode (c : Cmd) : Nat := nAt c.e.raw 0 2
/-- FLAGS. -/
def Cmd.flags (c : Cmd) : Nat := nAt c.e.raw 2 2
/-- CMD_ID. -/
def Cmd.cmdId (c : Cmd) : Nat := nAt c.e.raw 4 4
/-- DATA_ADDR. -/
def Cmd.dataAddr (c : Cmd) : Nat := nAt c.e.raw 8 8
/-- DATA_LEN. -/
def Cmd.dataLen (c : Cmd) : Nat := nAt c.e.raw 0x10 4
/-- RESP_LEN. -/
def Cmd.respLen (c : Cmd) : Nat := nAt c.e.raw 0x14 4
/-- RESP_ADDR. -/
def Cmd.respAddr (c : Cmd) : Nat := nAt c.e.raw 0x18 8
/-- INLINE. -/
def Cmd.inl (c : Cmd) : List Byte := bytesAt c.e.raw 0x20 32
/-- The payload: INLINE when DATA_LEN is 0, the DATA buffer otherwise (R466). -/
def Cmd.payload (c : Cmd) : List Byte := if c.dataLen = 0 then c.inl else fitTo c.dataLen (c.e.data.getD [])

/-- Rounded up to a multiple of 8. -/
def up8 (n : Nat) : Nat := cdiv n 8 * 8

/-- All bytes zero. -/
def allZero (bs : List Byte) : Bool := bs.all (· == 0)

/-! ### Cards (15) -/

/-- What a command card fixes for the checks: opcode, level, roles, the restriction to the PF, whether the rights are
judged without RIGHT_HOST, the body and response lengths, the payload rights and reserved fields. -/
structure Card where
  opcode   : Nat
  expert   : Bool
  host     : Bool
  owner    : Bool
  maint    : Bool
  pf       : Bool
  judged4  : Bool
  body     : List Byte → Nat
  resp     : List Byte → Nat
  rights   : State → Cmd → Bool
  reserved : List Byte → Bool
  journals : Bool

/-- A HOST card with a fixed body and response. -/
def hostCard (opcode body resp : Nat) (reserved : List Byte → Bool) : Card :=
  { opcode := opcode, expert := false, host := true, owner := false, maint := false, pf := false, judged4 := false,
    body := fun _ => body, resp := fun _ => resp, rights := fun _ _ => true, reserved := reserved, journals := false }

/-- Nothing reserved beyond what every card has. -/
def noReserved (_ : List Byte) : Bool := true

/-- Whether a card allows a role that its DATA buffer authenticates (R489). -/
def Card.trailed (k : Card) : Bool := k.owner || k.maint

/-! ### Trailers (R511, R524 to R526) -/

/-- The 72-byte message of R511: the domain, then the digest of the signed bytes. -/
def signedMsg (domain : List Byte) (bs : List Byte) : List Byte := domain ++ shake256 bs 64

/-- The ASCII bytes of the domains. -/
def domCommand : List Byte := [0x43, 0x4F, 0x4D, 0x4D, 0x41, 0x4E, 0x44, 0x31]
def domCertify : List Byte := [0x43, 0x45, 0x52, 0x54, 0x49, 0x46, 0x59, 0x31]
def domFw : List Byte := [0x46, 0x57, 0x49, 0x4D, 0x41, 0x47, 0x45, 0x31]
def domAttest : List Byte := [0x41, 0x54, 0x54, 0x45, 0x53, 0x54, 0x30, 0x31]
def domSeal : List Byte := [0x41, 0x55, 0x44, 0x53, 0x45, 0x41, 0x4C, 0x31]
def domPackage : List Byte := [0x50, 0x41, 0x43, 0x4B, 0x41, 0x47, 0x45, 0x31]
def domSession : List Byte := [0x53, 0x45, 0x53, 0x53, 0x49, 0x4F, 0x4E, 0x31]

/-- The length of the trailer of an OWNER or MAINTAINER command (R524). -/
def trailerLen : Nat := 1312

/-- Whether a command carries a trailer: DATA_LEN exceeds the body length (R489). -/
def Card.hasTrailer (k : Card) (c : Cmd) : Bool := k.trailed && up8 (k.body c.payload) < c.dataLen

/-- The body of a command that carries a trailer. -/
def Card.bodyOf (k : Card) (c : Cmd) : List Byte := c.payload.take (up8 (k.body c.payload))

/-- The trailer bytes. -/
def Card.trailerOf (k : Card) (c : Cmd) : List Byte := c.payload.drop (up8 (k.body c.payload))

/-- The key that a trailer names: the owner key slot's in OWNED, the package's own OWNER_KEY in PROVISIONED (`claimKey`,
R529), a maintainer key of the live package. -/
def State.trailerKey (s : State) (role slot : Nat) (claimKey : Option (List Byte)) : Option (List Byte) :=
  if role = 1 then
    if s.trust.lifecycle = 2 then s.trust.ownerKey else if s.trust.lifecycle = 1 then claimKey else none
  else if s.trust.lifecycle = 2 then (match s.trust.pkg with | none => none | some p => p.maints[slot]?) else none

/-- R525: a trailer authenticates its command. -/
def State.trailerOk (s : State) (k : Card) (c : Cmd) (claimKey : Option (List Byte)) : Bool :=
  let t := k.trailerOf c
  let role := nAt t 0 1
  let slot := nAt t 1 1
  let dev := nAt t 8 8
  t.length == trailerLen && ((role == 1 && k.owner) || (role == 3 && k.maint)) && (role == 3 || slot == 0)
  && slot < 8 && nAt t 2 2 == c.opcode && allZero (bytesAt t 4 4) && allZero (bytesAt t 0x18 8)
  && (if dev = 0 then k.opcode == 0x0C02 || k.opcode == 0x0C05
      else dev == s.trust.serial && s.trust.counter < nAt t 0x10 8)
  && (match s.trailerKey role slot claimKey with
      | none => false
      | some key => Config.falconVerify key (signedMsg domCommand (k.bodyOf c ++ t.take 0x20)) (t.drop 0x20))

/-- Threshold stores COUNTER before the command acts, unless DEVICE is 0 (R525, R526). -/
def State.storeCounter (s : State) (k : Card) (c : Cmd) : State :=
  let t := k.trailerOf c
  if k.hasTrailer c ∧ nAt t 8 8 ≠ 0 then
    { s with trust := { s.trust with counter := nAt t 0x10 8 } }.writeOwner s.trust.ownerKey (nAt t 0x10 8)
  else s

/-! ### Replay and outage (R575, R577, R624) -/

/-- The basic commands that commit (R491). -/
def basicCommits : List Nat := [0x201, 0x300, 0x400, 0x401, 0x600, 0x900, 0x901, 0xB01, 0xE00, 0xF00]

/-- The block windows that a BLOCK_MASK names. -/
def maskBlks (m : Nat) : List Blk := allBlks.filter fun b => bitOf m b.num

/-- R575: a command that completes with REPLAYING. -/
def State.replayHit (s : State) (c : Cmd) : Bool :=
  let op := c.opcode
  let p := c.payload
  let named := if op = 0x110 then maskBlks (nAt p 0 4) else []
  s.cellar.recov.any fun r =>
    !r.replayed &&
    (if r.code == 0x406 && r.store then op == 0x502
     else if r.store then false
     else if r.island = 53 then op == 0x200 || op == 0xC02 || op == 0x110 || op ∈ basicCommits
     else if 36 ≤ r.island ∧ r.island ≤ 39 then
       ((op == 0x400 || op == 0x401) && nAt p 0 1 == r.island - 36) || .cmp ∈ named
     else if r.island = 40 ∨ r.island = 41 then op == 0xC02
     else named.any fun b => r.island ∈ b.holders)

/-- The island that a command needs (R577). -/
def needsIsland (op : Nat) (p : List Byte) : List Nat :=
  if op = 0x700 then [61] else if op = 0x800 then [57] else if op = 0xA00 then [58]
  else if op = 0x400 ∨ op = 0x401 then [36 + nAt p 0 1] else if op = 0x402 then [59]
  else if op = 0x110 then (maskBlks (nAt p 0 4)).flatMap fun b => if b = .cam then [57] else if b.holders.length = 1 then b.holders else []
  else []

/-- Commands that act in STANDBY (R624): GET_ commands, SET_POWER, ATTEST, OPEN_SESSION, CLOSE_SESSION. -/
def standbyActs : List Nat :=
  [0x100, 0x101, 0x202, 0x301, 0x601, 0x701, 0x902, 0xB00, 0xC00, 0xD00, 0xE01, 0xF01, 0xF00, 0xC01, 0x500, 0x501]

/-! ### Results -/

/-- What a command's own conditions and effect answer: the status, RETRY_AFTER, the response, the events that follow
the completion, the state, and whether the completion comes later. -/
structure CmdRes where
  status : Nat
  retry  : Nat
  resp   : List Byte
  evs    : List (Nat × Nat × List Byte)
  later  : Bool
  st     : State
  deriving DecidableEq, Repr

/-- A command that completes OK with a response. -/
def CmdRes.ok (s : State) (resp : List Byte) : CmdRes :=
  { status := stOk, retry := 0, resp := resp, evs := [], later := false, st := s }

/-- A command that completes with a status and no effect. -/
def CmdRes.bad (s : State) (status : Nat) : CmdRes :=
  { status := status, retry := 0, resp := [], evs := [], later := false, st := s }

/-- A commit's result as a command's. -/
def CommitRes.cmd (r : CommitRes) : CmdRes :=
  { status := r.status, retry := r.retry, resp := r.resp, evs := r.evs, later := false, st := r.st }

/-! ### The checks of R475 -/

/-- Check 2: outside the function's rights on grounds that need no payload. -/
def State.check2 (s : State) (k : Card) (f : Nat) : Bool :=
  !k.trailed && !k.judged4
  && (!(s.rights f).host || (k.expert && !(s.rights f).expert) || (k.pf && f != 0))

/-- Check 3: the DATA buffer cannot be fetched, or a buffer address breaks R465. -/
def Cmd.check3 (c : Cmd) : Bool :=
  (c.dataLen != 0 && (c.e.data.isNone || c.dataAddr == 0)) || (c.respLen != 0 && c.respAddr == 0)
  || c.dataAddr % 8 != 0 || c.respAddr % 8 != 0

/-- Check 4: outside the function's rights once the payload is read. -/
def State.check4 (s : State) (k : Card) (c : Cmd) (claimKey : Option (List Byte)) : Bool :=
  if k.trailed then
    if k.hasTrailer c then !s.trailerOk k c claimKey
    else !(k.host && (s.rights c.f).host)
  else !k.rights s c

/-- Check 5: DATA_LEN, RESP_LEN or the payload length breaks R465, R466, R487 or the card. -/
def Card.check5 (k : Card) (c : Cmd) : Bool :=
  let n := k.body c.payload
  let want := if k.hasTrailer c then up8 n + trailerLen else up8 n
  let r := k.resp c.payload
  c.dataLen % 8 != 0 || 67108864 < c.dataLen || c.respLen % 8 != 0 || 1048576 < c.respLen
  || (if c.dataLen = 0 then 32 < n else c.dataLen != want)
  || (if c.respLen = 0 then 16 < r else c.respLen < up8 r)

/-- Check 6: a reserved field, flag or encoding is non-zero (R13). -/
def Card.check6 (k : Card) (c : Cmd) : Bool :=
  let n := k.body c.payload
  1 < c.flags || (c.dataLen != 0 && !allZero c.inl) || !allZero ((k.bodyOf c).drop n)
  || (c.dataLen == 0 && !allZero (c.inl.drop n)) || !k.reserved c.payload

/-- The form of every refusal for want of rights (R478): OK, a zero-filled response, one violation of a kind counted. -/
def silent (s : State) (k : Card) (c : Cmd) (kind : Nat) : CmdRes :=
  CmdRes.ok (s.violate kind) (zeros (if c.respLen = 0 then 16 else min c.respLen (k.resp c.payload)))

/-- The checks in their order, then the command's own conditions and effect (R475). `claimKey` is the key of R529 that
a trailer of a first claim is checked against. -/
def State.judge (s : State) (k : Card) (c : Cmd) (claimKey : Option (List Byte)) (act : State → Cmd → CmdRes) : CmdRes :=
  let vk := if k.opcode = 0x200 then 2 else 1
  if s.check2 k c.f then silent s k c vk
  else if c.check3 then .bad s stFaultState
  else if s.check4 k c claimKey then silent s k c vk
  else if k.check5 c then .bad s stBadLength
  else if k.check6 c then .bad s stBadField
  else if (s.power.standby = 3 ∨ s.power.standby = 2) ∧ k.opcode ∉ standbyActs then .bad s stNotReady
  else if s.replayHit c then .bad s stReplaying
  else if (needsIsland c.opcode c.payload).any (· ∈ s.cellar.outOfSvc) then .bad s stFaultState
  else
    let r := act (s.storeCounter k c) c
    if r.status = stOk ∨ r.status = stDeferred then r else { r with st := { s with free := r.st.free } }

/-! ### Fetching (R467, R469, R471) -/

/-- Whether a letterbox fetches its next entry: READY, both rings enabled, an entry ready, a completion entry free
(R469), and no FENCE waiting for an earlier command (R465). -/
def State.fetches (s : State) (f : Nat) : Option SqEntry :=
  let b := s.box f
  match b.ready with
  | [] => none
  | e :: _ =>
    if s.power.ready && b.present && b.sqEn && b.cqEn && b.cqHeldN + b.running + 1 < b.cqSize
        && (nAt e.raw 2 2 % 2 == 0 || b.running == 0) then some e
    else none

/-- The fetch of the entry at the head of a ring. -/
def State.pop (s : State) (f : Nat) : State :=
  s.modBox f fun b => { b with ready := b.ready.drop 1, running := b.running + 1,
                               sqHead := if b.sqSize = 0 then 0 else (b.sqHead + 1) % b.sqSize }

/-- The opcodes of the Command Reference. -/
def opcodes : List Nat :=
  [0x100, 0x101, 0x110, 0x111, 0x112, 0x200, 0x201, 0x202, 0x300, 0x301, 0x400, 0x401, 0x402, 0x500, 0x501, 0x502,
   0x600, 0x601, 0x602, 0x700, 0x701, 0x800, 0x801, 0x900, 0x901, 0x902, 0xA00, 0xB00, 0xB01, 0xC00, 0xC01, 0xC02,
   0xC03, 0xC04, 0xC05, 0xD00, 0xD01, 0xE00, 0xE01, 0xF00, 0xF01]

/-- Entries with an undefined opcode at the head of a ring complete with BAD_OPCODE (check 1 of R475). -/
def drainBad (f : Nat) : Nat → State → State
  | 0, s => s
  | n + 1, s =>
    match s.fetches f with
    | some e => if nAt e.raw 0 2 ∈ opcodes then s else drainBad f n ((s.pop f).complete f e stBadOpcode 0 [])
    | none => s

/-- Posts the events that follow a completion (R509). -/
def State.postAll (s : State) (evs : List (Nat × Nat × List Byte)) : State :=
  evs.foldl (fun a e => a.event e.1 e.2.1 e.2.2) s

/-- Ends a command: its completion, unless it comes later, then its events. -/
def CmdRes.finish (r : CmdRes) (c : Cmd) : State :=
  if r.later then r.st.postAll r.evs else (r.st.complete c.f c.e r.status r.retry r.resp).postAll r.evs

/-- One host command: the entry at the head of its ring is fetched when it is this command and may be fetched (also,
for one that journals, when the journal has room, R571); it is judged, acts and completes. The head of a ring relays one
whose trailer names another DEVICE, and completes one for DEVICE 0 when the ring has answered (R606, R607). Otherwise
nothing happens. -/
def State.command (s : State) (f : Nat) (k : Card) (claimKey : State → Cmd → Option (List Byte))
    (act : State → Cmd → CmdRes) : State :=
  match s.fetches f with
  | none => s
  | some e =>
    if nAt e.raw 0 2 ≠ k.opcode ∨ (k.journals && !s.journalRoom) = true then s
    else
      let c : Cmd := { f := f, e := e }
      let s1 := s.pop f
      let dev := nAt (k.trailerOf c) 8 8
      let s2 :=
        if s1.relays && k.hasTrailer c && !c.check3 && dev != s1.trust.serial then
          if dev = 0 then
            let r := s1.judge k c (claimKey s1 c) act
            (r.st.relaySend f e c.opcode c.payload r.status r.resp true).postAll r.evs
          else s1.relaySend f e c.opcode c.payload stOk [] false
        else (s1.judge k c (claimKey s1 c) act).finish c
      drainBad f (s2.box f).ready.length s2

/-- A command of a card without a claim. -/
def State.hostCommand (s : State) (f : Nat) (k : Card) (act : State → Cmd → CmdRes) : State :=
  s.command f k (fun _ _ => none) act

end Sys2Proof.Machine
end

