-- ==== Sys2Proof/Machine/RingOps.lean ====
section
/-! DEFINITION. Commits as commands make them, mirrored along a ring by its head, and relayed commands (R603 to R607,
R625). -/
namespace Sys2Proof.Machine

/-! ### Mirroring (R603) -/

/-- The words of a window that are mirrored. -/
def mirroredWord (b : Blk) (off : Nat) : Bool :=
  b.mirrored && !(b == .sco && 0x200 ≤ off && off < 0x220) && !(b == .rng && off < 8)

/-- The MIRROR packets of a commit, one for each mirrored block it names; the last carries LAST. -/
def State.mirrorOut (s : State) (blks : List Blk) (cid frame : Nat) : State :=
  let bs := blks.filter (·.mirrored)
  (List.range bs.length).foldl (fun a i =>
    let b := bs.getD i .syn
    let ws := (a.shadowOf b).filter fun e => mirroredWord b e.1
    let body := leBytes 1 b.num ++ zeros 3 ++ leBytes 4 cid ++ leBytes 4 frame ++ leBytes 4 ws.length
      ++ ws.flatMap fun e => leBytes 4 e.1 ++ leBytes 4 e.2.toNat
    a.sendBoth 2 (if i + 1 = bs.length then 4 else 0) 0xFFFF body) s

/-! ### Relayed commands (R606) -/

/-- Relays a command of the head's ring. -/
def State.relayOut (s : State) (c : Cmd) (status : Nat) (resp : List Byte) (dev0 : Bool) : State :=
  s.relaySend c.f c.e c.opcode c.payload status resp dev0

/-! ### Commits as commands make them -/

/-- The first address above the range that STANDBY retains (R450). -/
def Variant.retained : Variant → Nat
  | .E2 => 0x1C0000000
  | .E1 => 0xE0000000

/-- A channel whose store has been lost in STANDBY: no plane is defined, and the stream is as if just enabled (R451, R93). -/
def Channel.fresh (k : Channel) : Channel :=
  { k with headerSeen := false, skipping := false, authSkip := false, orphan := false, openPkts := [], covered := none,
           ans := .reset, pending := [], sceneA := [], sceneB := [], curBuf := none, curOff := 0 }

/-- The exit from STANDBY (R625, R450, R451): the domains are switched on, and DRAM leaves self-refresh, to be
initialised above the retained range. -/
def State.standbyExit (s : State) : State :=
  let top := s.variant.retained
  { s with power := { s.power with standby := 4 },
           landings := s.landings.mapIdx fun k l => if l.present && !l.powered then l.relock (s.lv .cpt .A 8) k else l,
           chans := s.chans.map Channel.fresh,
           dram := { s.dram with st := 1, mem := s.dram.mem.filter fun e => e.1 < top,
                                 badWords := s.dram.badWords.filter fun w => 8 * w < top } }

/-- Leaving or staying in STANDBY by a CPT commit (R625): it is live at its acceptance. -/
def State.standbyCommit (s : State) (cid : Nat) : State :=
  let m := s.shadowOf .cpt
  let n := w32 (s.outA.frameNum + 1)
  let s := s.modLanding 62 fun l => { l.setLiveAt n .cpt .A cid m with liveCommitA := cid, liveFrame := n }
  let s := { s with commits := { s.commits with pend := s.commits.pend.filter fun p => p.blk ≠ .cpt,
                                                newest := putNewest s.commits.newest n .cpt .A cid m } }
  if fld (s.lv .cpt .A 0) 0 2 = 0 then s.standbyExit else s

/-- A command's commit: acceptance, the mirror of R603 on a ring's head, and R625's acceptance in STANDBY. Basic
commands of a member's own functions that commit mirrored blocks are outside rights (R603). -/
def State.commitCmd (s : State) (r : CommitReq) : CmdRes :=
  let a := s.accept r
  if a.status ≠ stDeferred then a.cmd
  else
    let cid := nAt a.resp 0 4
    let s1 := if a.st.isHead ∧ (r.blks.any (·.mirrored)) = true then a.st.mirrorOut r.blks cid (nAt a.resp 4 4) else a.st
    if s.power.standby = 3 ∧ .cpt ∈ r.blks then
      let s2 := s1.standbyCommit cid
      { a.cmd with
        st := s2,
        evs := a.evs ++ [(r.issuer, 0x8100, doorwayData cid (nAt a.resp 4 4) 0 r.out.num 0 0)] }
    else { a.cmd with st := s1 }

/-- A basic command that commits (R491): its fields go into the shadow, and back out when the commit is refused. -/
def State.writeCommit (s : State) (w : State → State) (r : CommitReq) : CmdRes :=
  let a := (w s).commitCmd r
  if a.status = stDeferred then a else { a with st := { s with free := a.st.free } }

end Sys2Proof.Machine
end

