-- ==== Sys2Proof/Machine/Readback.lean ====
section
/-! DEFINITION. What a read of a block window returns: shadow words, status words and live words (R10 to R12, R25, R26,
R460, R461, and the register tables of the chapters), and a write through BAR2. -/
namespace Sys2Proof.Machine

/-! ### Quantities that status words report -/

/-- The throttle step live on either output (R86). -/
def State.stepLive (s : State) : Nat := max s.power.stepA s.power.stepB

/-- The view division of an output's latest frame (R87), or the committed one before any. -/
def State.divNow (s : State) (o : OutId) : Nat :=
  match (s.out o).frames.getLast? with
  | some d => d.mode.div
  | none => fld (s.lv .syn (s.eff o) (4 * (s.eff o).num)) 0 2

/-- The throttle threshold of a sensor in 1/16 °C (R629). -/
def throttleAt (n : Nat) : Int := if n < 64 then 1600 else 1520

/-- What a sensor reads as (R630). -/
def State.reading (s : State) (n : Nat) : Int :=
  if (s.sensor n).broken then throttleAt n + 80 else (s.sensor n).temp

/-- The rise of a sensor; 0 while it is broken (R630). -/
def State.riseOf (s : State) (n : Nat) : Int := if (s.sensor n).broken then 0 else (s.sensor n).rise

/-- The sensors that give samples. -/
def State.sampled (s : State) : List Nat := (List.range 68).filter fun n => !(s.sensor n).noSample

/-- The hottest sensor: the lowest number among the highest readings; sensor 0 when none gives samples. -/
def State.hottest (s : State) : Nat :=
  s.sampled.foldl (fun a n => if (s.sensor a).noSample || s.reading a < s.reading n then n else a) 0

/-- The largest rise (R639). -/
def State.largestRise (s : State) : Int :=
  match s.sampled with
  | [] => 0
  | n :: ns => ns.foldl (fun a k => max a (s.riseOf k)) (s.riseOf n)

/-- STATE of the CPT window (R639). -/
def State.powerState (s : State) : Nat :=
  if s.power.standby ≠ 0 then s.power.standby else if s.stepLive ≠ 0 then 1 else 0

/-- Grace time left in ms (R639). -/
def State.graceLeft (s : State) : Nat :=
  match s.power.graceEnd with
  | none => 0
  | some t => cdiv (t - s.us) 1000

/-- ENGINE of the TRM window (R361). -/
def State.engine (s : State) : Nat :=
  let t := s.transom
  if t.powerLoss then 6 else if !s.trEn then 0 else if t.balance ≠ 0 then 5 else if t.hold then 4
  else if t.ramping.isSome || t.falling.isSome then 2 else if t.rails = [] then 1 else 3

/-- A bit mask of zones. -/
def zoneMask (zs : List Nat) : Nat := (List.range 16).foldl (fun a z => if z ∈ zs then a + 2 ^ z else a) 0

/-- RUNNING_ZONES. -/
def State.runningZones (s : State) : Nat := zoneMask (s.transom.running.map (·.zone))

/-- PENDING_ZONES. -/
def State.pendingZones (s : State) : Nat := zoneMask (s.transom.pending.map (·.zone))

/-- LEDGER_PEAK: the largest absolute ledger value in the store. -/
def State.ledgerPeak (s : State) : Nat := s.transom.ledger.foldl (fun a e => max a e.2.natAbs) 0

/-- Whether a ramp is running on an output (R401). -/
def Ramp.running (r : Ramp) : Bool := 1 ≤ r.pos && r.pos < 256

/-- OPT_STATE (R409). The first of these that holds is the model's order where several do (DESIGN CHOICE, log entry 113). -/
def State.optState (s : State) : Nat :=
  if s.calib.step.isSome then 2 else if s.calib.building then 3
  else if s.calib.rampA.running || s.calib.rampB.running then 4
  else if bitOf (s.lv .cal .A 0x100) 0 then 1 else 0

/-- STATE of the BLT window (R428). -/
def State.bltState (s : State) : Nat :=
  if s.blit.run.isSome then 1 else if s.blit.queue ≠ [] && !bitOf (s.lv .blt .A 0) 0 then 2 else 0

/-- STATE of the RNG window (R612). -/
def State.ringState (s : State) : Nat :=
  let r := s.ring
  let en := fld (s.lv .rng .A 0) 0 2
  if en = 0 then 0 else if r.isolated then 5
  else if r.east.active || r.west.active then
    (if s.headBit && r.devices ≤ 1 then 2 else if r.closed then 3 else 4)
  else if r.east.refused || r.west.refused then 6
  else if s.headBit || r.known then 1 else 7

/-- The tile of this controller in the live tile table (R586). -/
def State.ownTile (s : State) : Option (Nat × Nat) :=
  ((List.range 256).map fun k => s.lv .rng .A (0x1000 + 4 * k)).findSome? fun t =>
    if fld t 0 16 = s.ring.ownId ∧ fld t 0 16 ≠ 0 then some (fld t 16 8, fld t 24 8) else none

/-- Distinct regions of an output in SS1 (R583). -/
def State.ss1Count (s : State) (o : OutId) : Nat :=
  ((s.cellar.ss1.filter fun m => m.out == o).map (·.unit)).eraseDups.length

/-- Channels of an output in SS2 as a mask. -/
def State.ss2Mask (s : State) (o : OutId) : Nat :=
  (List.range 4).foldl (fun a c => if s.ss2On o c then a + 2 ^ c else a) 0

/-- Whether a replay runs (R583). -/
def State.replayRuns (s : State) : Bool := s.cellar.recov.any fun r => !r.replayed

/-- The running firmware version as R458 lays it out. -/
def State.fwVersion (s : State) : Nat := match s.trust.firmware with | none => 0 | some f => f.version

/-- PACKAGE_VERSION of the live package. -/
def State.pkgVersion (s : State) : Nat := match s.trust.pkg with | none => 0 | some p => p.version

/-- INGEST of a channel (R137). -/
def State.ingest (s : State) (c : Nat) : Nat :=
  let k := s.chan c
  if !k.enabled then 5 else if k.skipping then 4 else if s.pausedNow c then 2
  else if 8 ≤ k.pending.length then 3 else if k.subs ≠ [] then 1 else 0

/-- FREE_BUFFERS (R137). -/
def State.freeBuffers (s : State) : Nat := s.poolFree.length

/-- Whether the live package protects a channel. -/
def State.protectedChan (s : State) (c : Nat) : Bool :=
  match s.trust.pkg with
  | none => false
  | some p => p.prot.getD c false

/-- LIVE_SCENE_ID: output A's. -/
def State.sceneId (s : State) (c : Nat) : Nat := (s.chan c).sceneIdA

/-- The current TE level of an output (R259, R260); with no source selected none permits, as TE_LEVEL reads 0 at reset (R262). -/
def State.teLevel (s : State) (o : OutId) : Bool :=
  match fld (s.tim (s.eff o) 0) (if s.eff o = .A then 1 else 3) 2 with
  | 1 => (s.out o).tePin
  | 2 => (s.out o).teMsg
  | _ => false

/-- Condition 4 of R161 for one output (R256, R258). -/
def State.tePermits (s : State) (o : OutId) : Bool :=
  let src := fld (s.tim (s.eff o) 0) (if s.eff o = .A then 1 else 3) 2
  (s.link o).st != .active || src == 0 || src == 3 || !s.capFlag o (3 + src) || s.teLevel o

/-- A state `t` after `s`: where condition 4 of R161 has come to hold, since when (R261). -/
def State.noteTe (s t : State) : State :=
  [OutId.A, OutId.B].foldl (fun (a : State) o =>
    if !s.tePermits o && a.tePermits o then a.modOut o fun x => { x with teOpen := a.clk } else a) t

/-- Whether output B's block reads zero: on an E1, or in locked operation (R181, R251). -/
def State.noB (s : State) : Bool := s.variant == .E1 || s.locked

/-! ### Status words by window -/

/-- SYS (R26, R657). -/
def State.roSys (s : State) (off : Nat) : Nat :=
  if 0x400 ≤ off ∧ off < 0x800 then
    let n := (off - 0x400) / 16
    let l := s.landing n
    match off % 16 / 4 with
    | 0 =>
      if l.present then
        b2n l.present + 2 * b2n l.powered + 4 * b2n l.pllLocked + 8 * b2n l.inProtocol + 16 * islandFloor n
        + 128 * islandRiser n + 256 * min 2 (s.pendingOf n)
      else 16 * islandFloor n + 128 * islandRiser n
    | 1 => l.liveCommitA
    | 2 => l.liveCommitB
    | _ => l.liveFrame
  else match off with
    | 0x100 => s.power.startKind + 4 * b2n s.power.closed1 + 8 * b2n s.outA.verified + 16 * b2n s.outB.verified
        + 32 * b2n s.power.safeRel + 64 * b2n s.power.thermWait
    | 0x104 => w32 s.power.readyUs
    | 0x108 => w32 s.power.frame1Us
    | 0x10C => w32 s.power.verifiedUs
    | 0x110 => s.trust.admitQ.length + 65536 * sat 16 s.trust.admitBusy
    | _ => 0

/-- SCN (R137). -/
def State.roScn (s : State) (off : Nat) : Nat :=
  if off = 0x14 then s.freeBuffers
  else if 0x20 ≤ off ∧ off < 0x30 then
    let c := (off - 0x20) / 4
    s.ingest c + 8 * min 8 (s.chan c).pending.length + 128 * b2n (s.protectedChan c)
  else if 0x30 ≤ off ∧ off < 0x40 then s.sceneId ((off - 0x30) / 4)
  else if 0x40 ≤ off ∧ off < 0x50 then (s.chan ((off - 0x40) / 4)).discarded
  else if 0x50 ≤ off ∧ off < 0x60 then (s.chan ((off - 0x50) / 4)).pClamp
  else if off = 0x60 then w32 (s.outA.last.decoded / 256)
  else if off = 0x64 then (if s.noB then 0 else w32 (s.outB.last.decoded / 256))
  else 0

/-- SYN (R73, R181). -/
def State.roSyn (s : State) (off : Nat) : Nat :=
  if off = 0x10 then s.synStatus s.shadowSettings s.stepLive
  else if 0x80 ≤ off ∧ off < 0xC0 then
    let o := outOf ((off - 0x80) / 0x20)
    let x := s.out o
    if o = .B ∧ s.noB = true then 0
    else match (off - 0x80) % 0x20 / 4 with
      | 0 => w32 x.last.raysShed
      | 1 => w32 x.last.depthOvf
      | 2 => sat 16 x.last.bandsShed + 65536 * sat 16 x.last.bandsRep
      | 3 => sat 20 x.activeUs
      | 4 => sat 20 x.periodUs
      | 5 => x.forcedStarts + 65536 * x.notReadyFr
      | 6 => x.reachClamp
      | _ => w32 (x.last.samples / 16)
  else 0

/-- Texel-layers composed for a channel (R201). -/
def State.compLoad (s : State) (c : Nat) : Nat :=
  let of := fun (o : OutId) => (((s.out o).last.compLoad.find? fun e => e.1 == c).map (·.2)).getD 0
  w32 ((if s.noB then of .A else of .A + of .B) / 256)

/-- CMP (R201). -/
def State.roCmp (s : State) (off : Nat) : Nat :=
  let c := (off - 0x100) / 0x10
  if off % 0x10 = 0 then s.compLoad c else s.audit.skipped.getD c 0 + 65536 * s.audit.layerErr.getD c 0

/-- TVR (R251). -/
def State.roTvr (s : State) (off : Nat) : Nat :=
  match off with
  | 0x0 => s.trust.points.length
  | 0x4 => (s.trust.pkg.map (·.regions.length)).getD 0
  | 0x8 => s.pkgVersion
  | 0xC => w32 s.trust.accepted
  | 0x10 => s.trust.stalePts
  | 0x14 => (s.trust.points.filter fun p => !p.2.received).length
  | 0x18 => w32 s.us
  | 0x1C => s.timeHi
  | _ =>
    let o := outOf ((off - 0x40) / 0x20)
    let x := s.out o
    if o = .B ∧ s.noB = true then 0
    else match (off - 0x40) % 0x20 / 4 with
      | 0 => sat 16 x.last.stale + 65536 * sat 16 x.last.dash
      | 1 => x.regionLate + 65536 * x.checkErr
      | 2 => x.sigMis + 65536 * x.sigFreeze
      | 3 => x.sigMissing + 65536 * x.echoFail
      | 4 => x.echoFrame
      | _ => b2n (s.capFlag o 3)

/-- SCO (R84, R181, R262). -/
def State.roSco (s : State) (off : Nat) : Nat :=
  if 0x10 ≤ off ∧ off < 0x30 then
    let o := outOf ((off - 0x10) / 0x10)
    if o = .B ∧ s.variant = .E1 then 0
    else
      let x := s.out (s.eff o)
      match off % 0x10 / 4 with
      | 0 => x.frameNum
      | 1 => sat 16 x.blankUs + 65536 * b2n (s.teLevel (s.eff o)) + 131072 * b2n x.inBlank
      | _ => x.teHeld
  else match off with
    | 0x114 => s.outA.slotConfl
    | 0x118 => s.outB.slotConfl
    | 0x224 => s.outA.invarFail + 65536 * s.outB.invarFail
    | 0x228 => s.outA.unifErr + 65536 * s.outB.unifErr
    | _ => 0

/-- SPL (R301). -/
def State.roSpl (s : State) (off : Nat) : Nat :=
  let o := outOf (off / 0x100)
  let l := s.link o
  if o = .B ∧ s.variant = .E1 then 0
  else match off % 0x100 / 4 with
    | 0 => l.st.ctorIdx + 16 * l.attempt + 64 * b2n l.bcLock + 128 * b2n (s.out o).held + 256 * b2n l.psafe
        + (if o = .A then 512 * b2n s.lockPair else 0)
    | 1 => s.cap o 2 1 + 256 * s.cap o 3 1 + 65536 * s.cap o 8 1 + 16777216 * s.cap o 9 1
    | 2 => s.cap o 4 2 + 65536 * s.cap o 6 2
    | 3 => s.cap o 0xA 2 + 65536 * (s.cap o 1 1 % 2) + 131072 * (s.cap o 1 1 / 2 % 2)
    | 4 => s.cap o 0xC 4
    | 5 => s.cap o 0x10 4
    | 6 => l.trainings + 65536 * l.drops
    | 7 => l.corrected + 65536 * l.hdrErr
    | 12 => l.bcErr + 65536 * l.panelFaults
    | k => if 8 ≤ k then leNat ((List.range 4).map fun i => BitVec.ofNat 8 (l.eye.getD (4 * (k - 8) + i) 0)) else 0

/-- Whether a lane transmits (R302). -/
def laneTx (n : Nat) : Bool := n < 32 || (34 ≤ n && n < 38) || (42 ≤ n && n < 46)

/-- Whether a lane exists on a variant (R302). -/
def Variant.hasLane (v : Variant) (n : Nat) : Bool :=
  n < 50 && (v == .E2 || !((16 ≤ n && n < 32) || n == 33))

/-- LNE (R325). -/
def State.roLne (s : State) (off : Nat) : Nat :=
  let n := (off - 0x100) / 0x10
  let l := s.lane n
  if !s.variant.hasLane n then 0
  else match off % 0x10 / 4 with
    | 0 => l.eye + (if laneTx n then 256 * l.preset else 2048 * l.ctle) + 65536 * l.st
    | 1 => l.calCount + 65536 * l.calAbort
    | _ => if laneTx n then 0 else l.lockLoss

/-- TRM (R361). -/
def State.roTrm (s : State) (off : Nat) : Nat :=
  let t := s.transom
  match off with
  | 0x100 => s.engine + 8 * b2n (t.rails.length == 5) + 16 * b2n t.uncertain + 32 * b2n t.ntcFault + 64 * t.range
      + 65536 * unsgn 8 t.temp
  | 0x104 => s.runningZones + 65536 * s.pendingZones
  | 0x108 => t.updates + 65536 * t.compPh
  | 0x10C => sat 16 s.ledgerPeak + 65536 * t.uncertN
  | _ => t.railFaults + 65536 * t.pfAborts

/-- CAM (R387). -/
def State.roCam (s : State) (off : Nat) : Nat :=
  let c := s.cam (off / 0x100)
  match off % 0x100 with
  | 0xC0 => c.sensor
  | 0xC4 => c.trunc + 65536 * c.spilledN
  | 0xC8 => c.early + 65536 * c.ignored
  | _ => c.cause + 65536 * c.i2cErr

/-- CAL (R409). -/
def State.roCal (s : State) (off : Nat) : Nat :=
  let c := s.calib
  match off with
  | 0x28 => c.rampA.pos + 512 * c.rampA.origin
  | 0x2C => c.rampA.frame
  | 0x68 => c.rampB.pos + 512 * c.rampB.origin
  | 0x6C => c.rampB.frame
  | 0x180 => s.optState + 256 * c.curSlot
  | 0x184 => c.done + 65536 * c.abandoned
  | 0x188 => c.measured.length + 65536 * c.passes
  | 0x18C => s.transom.vcomOpt + 65536 * s.transom.vcomRuns
  | 0x190 => s.transom.vcomAborts
  | _ => 0

/-- BLT (R428). -/
def State.roBlt (s : State) (off : Nat) : Nat :=
  let b := s.blit
  match off with
  | 0x100 => s.bltState + 256 * b.curFn + 65536 * b.index
  | 0x104 => b.done
  | 0x108 => b.ovl + 65536 * b.faults
  | _ => b.queue.length

/-- MEM (R455). Before the DRAM is trained there is no traffic and no neighbour refresh. -/
def State.roMem (s : State) (off : Nat) : Nat :=
  let d := s.dram
  if 0x140 ≤ off then (if d.st = 0 then 0 else Config.bandwidth ((off - 0x140) / 4) s.clk % 8192)
  else match off with
    | 0x100 => d.st
    | 0x104 => d.corrected
    | 0x108 => d.uncorr + 65536 * d.sUncorr
    | 0x10C => d.sCorr
    | 0x110 => fld d.ueAddr 6 26 * 64
    | 0x114 => fld d.ueAddr 32 3 + 256 * d.ueSrc
    | 0x118 => if d.st = 0 then 0 else Config.neighbourRefreshes s.clk % 0x100000000
    | 0x11C => d.retrains + 65536 * d.retrForced
    | 0x120 => s.outA.unifLate + 65536 * s.outB.unifLate
    | _ => s.storeFloor

/-- SEC (R546). -/
def State.roSec (s : State) (off : Nat) : Nat :=
  let t := s.trust
  if 0x80 ≤ off then
    (match t.ownerKey with | none => 0 | some k => nAt (shake256 k 64) (off - 0x80) 4)
  else if 0x10 ≤ off ∧ off < 0x30 then nAt t.bootId (off - 0x10) 4
  else match off with
    | 0x0 => t.lifecycle + 4 * b2n t.root1 + 8 * b2n (2 ≤ t.lifecycle)
    | 0x4 => t.fusedVer
    | 0x8 => s.fwVersion
    | 0xC => t.bootCopy + 2 * b2n t.fallback
    | 0x30 => w32 t.serial
    | 0x34 => t.serial / 0x100000000
    | 0x38 => w32 t.counter
    | 0x3C => t.counter / 0x100000000
    | 0x40 => t.sessions.length
    | 0x44 => (match t.pending with | none => 0 | some p => p.version)
    | 0x48 => (match t.pending with | none => 0 | some _ => t.pendDue)
    | 0x4C => w32 s.audit.segment
    | _ => s.audit.sealsLost

/-- FLT (R583). -/
def State.roFlt (s : State) (off : Nat) : Nat :=
  let c := s.cellar
  match off with
  | 0x100 => s.safeOf .A + 16 * s.safeOf .B + 256 * b2n s.replayRuns + 512 * b2n c.ckptBusy.isSome
  | 0x104 => c.logSeq
  | 0x108 => c.fc2 + 65536 * c.fc3
  | 0x10C => c.fc4 + 65536 * c.escalations
  | 0x110 => c.ckptFrame
  | 0x114 => sat 16 (c.jBytes / 1048576) + 65536 * c.forcedCkpt
  | 0x118 => c.ss4Entries
  | 0x11C => s.ss1Count .A + 65536 * s.ss1Count .B
  | _ => s.ss2Mask .A + 16 * s.ss2Mask .B

/-- RNG (R612). -/
def State.roRng (s : State) (off : Nat) : Nat :=
  let r := s.ring
  match off with
  | 0x100 => s.ringState
  | 0x104 => r.devices % 65536 + 65536 * sat 16 (r.lMax / 10)
  | 0x108 => r.hopsE + 65536 * r.hopsW
  | 0x10C => r.missed
  | 0x110 => r.ownId + (match s.ownTile with | none => 0 | some t => 65536 * t.1 + 16777216 * t.2)
  | _ => r.retx

/-- STOPS of the newest shutdown record. -/
def State.thermalStops (s : State) : Nat := match s.mram.shutdown.newest with | none => 0 | some r => r.val.stops

/-- CPT (R639). -/
def State.roCpt (s : State) (off : Nat) : Nat :=
  if 0x400 ≤ off then
    let l := s.landing ((off - 0x400) / 4)
    b2n l.gated + 65536 * l.lossCount
  else if 0x200 ≤ off then
    let n := (off - 0x200) / 4
    unsgn 16 (s.reading n) + 65536 * b2n (s.sensor n).broken + 131072 * b2n (s.sensor n).noSample
  else match off with
    | 0x100 => s.powerState + 8 * s.power.stepReq + 32 * s.stepLive
    | 0x104 => unsgn 16 (s.reading s.hottest) + 65536 * s.hottest
        + 16777216 * ((List.range 68).filter fun n => (s.sensor n).broken).length
    | 0x108 => unsgn 16 s.largestRise
    | 0x10C => s.graceLeft
    | 0x110 => sat 16 s.power.vmainMv + 65536 * sat 16 s.power.vauxMv
    | 0x114 => s.power.reqs + 65536 * s.power.enforced
    | _ => sat 16 s.thermalStops

/-- The current value of a word's read-only fields. -/
def State.roWord (s : State) (b : Blk) (off : Nat) : Nat :=
  match b with
  | .sys => s.roSys off
  | .scn => s.roScn off
  | .syn => s.roSyn off
  | .cmp => s.roCmp off
  | .tvr => s.roTvr off
  | .sco => s.roSco off
  | .spl => s.roSpl off
  | .lne => s.roLne off
  | .trm => s.roTrm off
  | .cam => s.roCam off
  | .cal => s.roCal off
  | .blt => s.roBlt off
  | .mem => s.roMem off
  | .sec => s.roSec off
  | .flt => s.roFlt off
  | .rng => s.roRng off
  | .cpt => s.roCpt off

/-! ### Live words (R11) -/

/-- Where the live sets begin in a window. -/
def liveBase : Nat := 0x80000

/-- A live slot entry: the effective code and CAL_LIT (R67). R67 speaks of used slots only; the entry of an unused slot
reads guard without CAL_LIT (DESIGN CHOICE, log entry 92). -/
def State.slotWord (s : State) (o : OutId) (k : Nat) : Nat :=
  if o = .B ∧ s.variant = .E1 then 0 else tget 4 (s.out o).slots k + 8 * b2n (decide (k ∈ (s.out o).lit))

/-- The live value of the word at a shadow offset (R11): each field from its own output's set, fields that serve both
from output A's; VIEW_DIV as R87 gives, and in locked operation output B's SOURCE as R409 gives. -/
def State.liveWord (s : State) (b : Blk) (off : Nat) : Nat :=
  match b with
  | .cam => s.lvCam (off / 0x100) off
  | .lne => s.lvAt (44 + off / 0x20 % 4) .lne .A off
  | .sec | .tvr => 0
  | _ =>
    if b = .sco ∧ 0x1000 ≤ off then s.slotWord (outOf ((off - 0x1000) / 0x400)) ((off - 0x1000) % 0x400 / 4)
    else
      let m := outBMask b off
      let w := if outBWord b off then s.lv b .B off
        else if m = 0 then s.lv b .A off
        else (s.lv b .A off &&& (0xFFFFFFFF - m)) ||| (s.lv b .B off &&& m)
      if b = .syn ∧ off = 0 then setFld w 0 2 (s.divNow .A)
      else if b = .syn ∧ off = 4 then setFld w 0 2 (s.divNow .B)
      else if b = .cal ∧ off = 0x40 ∧ s.locked = true then setFld w 0 2 (s.lv .cal .A 0)
      else w

/-! ### BAR2 (R459 to R461) -/

/-- The window and the offset in it that a BAR2 address names. -/
def barBlk (addr : Nat) : Option (Blk × Nat) := (blkOf (addr / 0x100000)).map fun b => (b, addr % 0x100000)

/-- What a read of an aligned word of a block window returns (R10, R11, R12). A field whose writes are ignored though it
is RW reads its fixed value (L0's ENABLE, R185); bits of absent islands read zero (R25). R11 gives no value for a status
field at its live offset: such a word reads 0 there, the SYN status word (R73) among them (DESIGN CHOICE, log entry 91). -/
def State.readWord (s : State) (b : Blk) (off : Nat) : Nat :=
  let sh := if off < liveBase then off else off - liveBase
  match findRun s.variant b sh with
  | none => 0
  | some r =>
    (if off < liveBase then
      w32 ((s.sh b off &&& r.rw) ||| (r.reset &&& (0xFFFFFFFF - r.rw)) ||| (if r.ro then s.roWord b off else 0))
    else if r.rw = 0 then 0
    else w32 (s.liveWord b sh)) &&& (0xFFFFFFFF - s.variant.absentBits b sh)

/-- Whether a function is granted a window. -/
def State.granted (s : State) (f : Nat) (b : Blk) : Bool := bitOf (s.rights f).mask b.num

/-- The bits of a word that writes may not change: locked by the live package, or mirrored on a member (R461, R603). -/
def State.heldBits (s : State) (b : Blk) (off : Nat) : Nat :=
  if s.isMember && mirroredWord b off then 0xFFFFFFFF else s.lockMask b off

/-- One 4-byte BAR2 write of a function (R461): a violation is counted where one of its cases holds; a word with
writable fields takes the write, its locked bits kept. -/
def State.writeBar2 (s : State) (f : Nat) (b : Blk) (off w : Nat) : State :=
  if !s.granted f b || liveBase ≤ off || b == .sec then s.violate 0
  else match findRun s.variant b off with
    | none => s.violate 0
    | some r =>
      let held := s.heldBits b off &&& r.rw
      let s1 := if (w &&& held) != (s.sh b off &&& held) then s.violate 0 else s
      if r.rw = 0 ∨ s.writeIgnored b off = true then s1
      else s1.setSh b off (mergeWrite (s.sh b off) w (r.rwOn s.variant b off) held)

end Sys2Proof.Machine
end

