-- ==== Sys2Proof/Machine/Links.lean ====
section
/-! DEFINITION. The panel links and their lanes: training, retraining, backchannel messages, electrical idle and lane
calibration (R249, R259 to R260, R276, R283 to R301, R306 to R325). -/
namespace Sys2Proof.Machine

/-! ### Lanes of a port -/

/-- The transmit lanes of a port: outputs A and B, ring east and west (R302, R324). -/
def txLanes (p : Nat) : List Nat :=
  if p < 2 then (List.range 16).map (· + 16 * p) else (List.range 4).map (· + (if p = 2 then 34 else 42))

/-- The port of a lane (R302, R324). -/
def lanePort (n : Nat) : Nat :=
  if n < 16 then 0 else if n < 32 then 1 else if n = 32 then 0 else if n = 33 then 1 else if n < 42 then 2 else 3

/-- The island of a lane's port. -/
def laneIsland (n : Nat) : Nat := 44 + lanePort n

/-- The backchannel lane of an output. -/
def bcLane (o : OutId) : Nat := 32 + o.num

/-- Every lane of a port. -/
def portLanes (p : Nat) : List Nat :=
  if p < 2 then txLanes p ++ [32 + p] else (List.range 8).map (· + (if p = 2 then 34 else 42))

/-- A word of the LNE set that a lane works under, of its port's words (R323, R324). -/
def State.laneWord (s : State) (n off : Nat) : Nat := regGet s.variant .lne (s.lane n).words (0x20 * lanePort n + off)

/-- The ring port of a port number. -/
def ringOf (p : Nat) : RPort := if p = 2 then .east else .west

/-- Whether a port's link or ring port is ACTIVE. -/
def State.portActive (s : State) (p : Nat) : Bool :=
  if p < 2 then (s.link (outOf p)).st == .active else (s.rport (ringOf p)).active

/-- Updates lanes. -/
def State.modLanes (s : State) (ns : List Nat) (g : Lane → Lane) : State := ns.foldl (fun a n => a.modLane n g) s

/-- Whether every transmit lane of a port carries blocks. -/
def State.lanesUp (s : State) (p : Nat) : Bool := (txLanes p).all fun n => (s.lane n).st == 1

/-- A DESKEW slot of a port (R276, R281, R589). -/
def State.deskew (s : State) (p k : Nat) : State :=
  if p < 2 then s.modLink (outOf p) fun l => { l with deskews := w32 (l.deskews + k) }
  else s.modRport (ringOf p) fun r => { r with deskews := w32 (r.deskews + k) }

/-! ### The training windows of LNE (R49, R323) -/

/-- The copies of LNE that every lane has had a window for, under them or under a later one, are live (R49, R510). -/
def State.lneSettle (s : State) : State :=
  let ps := s.pendsOf .lne 0
  let live := fun (p : Pend) => ((List.range 50).filter s.variant.hasLane).all fun n =>
    (ps.dropWhile fun q => q.cid != p.cid).any fun q => q.cid == (s.lane n).cid
  let done := ps.filter live
  let s1 := { s with commits := { s.commits with pend := s.commits.pend.filter fun p => !(p ∈ done),
                                                 newest := done.foldl (fun l p => putNewest l 0 .lne .A p.cid p.words)
                                                   s.commits.newest } }
  done.foldl (fun a p => a.event p.issuer 0x8100 (doorwayData p.cid 0 4 0 0 0)) s1

/-- The training window of lanes of a port: they take the latest pending LNE set, at a calibration for the time from their
return (R323). The port's landing, and so a live read, shows the latest set that any lane of the port has taken (DESIGN
CHOICE, log entry 109). -/
def State.lneWindow (s : State) (p : Nat) (ns : List Nat) (atReturn : Bool) : State :=
  match (s.pendsOf .lne 0).reverse with
  | [] => s
  | q :: _ =>
    let s1 := s.modLanes ns fun l =>
      { l with cid := q.cid, words := if atReturn then l.words else q.words, next := if atReturn then some q.words else none }
    let s1 := s1.modLanding (44 + p) fun l => { l.setLive .lne .A q.cid q.words with liveCommitA := q.cid }
    let ps := s1.commits.pend.map fun (r : Pend) => if r.blk = Blk.lne then { r with fixA := some 0 } else r
    State.lneSettle { s1 with commits := { s1.commits with pend := ps } }

/-! ### Electrical idle (R316, R318) -/

/-- The lanes of a port that is not enabled are in electrical idle, their receivers frozen. -/
def State.idlePort (s : State) (p : Nat) : State :=
  s.modLanes ((portLanes p).filter s.variant.hasLane) fun l => { l with st := 2, exiting := false, lock := false }

/-- The lanes of a port that trains: transmit lanes that carry no blocks begin the exit sequence (R318), and receive lanes
listen. -/
def State.wakePort (s : State) (p : Nat) : State :=
  (s.modLanes (txLanes p) fun l => { l with exiting := l.st != 1, tried := 0 }).modLanes
    ((portLanes p).filter fun n => !laneTx n) fun l => if l.st = 2 then { l with st := 0 } else l

/-! ### Lane calibration (R319 to R322) -/

/-- Ends a calibration without new values; the exit sequence follows (R320). -/
def State.abortCal (s : State) (n : Nat) : State :=
  if (s.lane n).st = 3 then
    s.modLane n fun l => { l with st := 0, exiting := true, calAbort := sat 16 (l.calAbort + 1) }
  else s

/-! ### Training (R288 to R291) -/

/-- The slots of a link in a time given in crystal cycles: 40 ns to a cycle, 4.125 ns to a slot. -/
def linkSlots (clk : Nat) : Nat := 320 * clk / 33

/-- How many TRAIN blocks lanes 1 to 15 have carried in the attempt (R289): a slot for each 4.125 ns since they began, less
the DESKEW slots. How slots lie within the crystal's cycles is free (log entry 89). -/
def State.trainSlots (s : State) (o : OutId) : Nat :=
  let l := s.link o
  linkSlots (s.clk - l.trainAt) + s.freeBelow 10 - (l.deskews + 0x100000000 - l.trainN) % 0x100000000

/-- PHASE of a TRAIN block in a state of the link (R288); 3 from deskewing to the CAPS, which the table numbers only by what
stands on its two sides (log entry 89). -/
def LinkState.trainPhase : LinkState → Nat
  | .equalise => 2
  | .deskew | .caps => 3
  | .verify => 4
  | _ => 1

/-- The TRAIN payload that lane l, 1 to 15, of a training link carries in the present slot (R289). -/
def State.trainBlock (s : State) (o : OutId) (l : Nat) : List Byte :=
  trainPayload l (s.link o).st.trainPhase (s.lane (16 * o.num + l)).preset (s.trainSlots o)

/-- Whether an output can train: LINK_EN live, its island powered, no SS4, not in STANDBY. -/
def State.mayTrain (s : State) (o : OutId) : Bool :=
  s.linkEn o && (s.landing (44 + o.num)).powered && !s.cellar.ss4 && s.power.standby != 3

/-- A training attempt begins (R288): PSAFE asserted; on attempts 2 and 3 PANEL_RST low, which also ends the panel's
backchannel. A backchannel that still has block lock ends the BACKCHANNEL phase at once. TRAIN blocks
run from now, or from when the lanes have left electrical idle. -/
def State.startAttempt (s : State) (o : OutId) (k : Nat) : State :=
  let s := ((txLanes o.num).foldl (fun a n => a.abortCal n) s).lneWindow o.num (portLanes o.num) false
  let s := (s.wakePort o.num).modLink o fun l =>
    { l with st := if k = 1 then (if l.bcLock then .blockLock else .backchannel) else .reset, attempt := k,
             bcLock := l.bcLock && k == 1, phaseAt := s.clk, panelRst := k != 1,
             rstAt := if k = 1 then none else some s.clk, trainings := sat 16 (l.trainings + 1), capsReq := false,
             trainAt := s.clk, trainN := l.deskews, bcAt := s.clk, startBlk := [], endBlk := [], reqBlk := [] }
  let s := if k = 1 then s else s.modLane (bcLane o) fun l => { l with st := 0, lock := false }
  (s.modOut o fun x => { x with frameOk := false }).drivePsafe

/-- A cycle of three attempts begins (R290). -/
def State.startCycle (s : State) (o : OutId) : State := if s.mayTrain o then s.startAttempt o 1 else s

/-- A training attempt ends without success (R288, R290). -/
def State.endAttempt (s : State) (o : OutId) : State :=
  let l := s.link o
  if l.attempt < 3 then s.startAttempt o (l.attempt + 1)
  else
    let s1 := s.modLink o fun l => { l with st := .down, downAt := s.clk, panelRst := false, rstAt := none }
    let s1 := (s1.modLanes (txLanes o.num) fun n => { n with st := 2 }).drivePsafe
    let s1 := s1.eventAll 0x8600 (leBytes 1 o.num ++ leBytes 1 l.st.ctorIdx ++ zeros 2 ++ leBytes 4 l.trainings)
    s1.fault { code := 0x602, cls := 2, island := 44 + o.num, detail := 16384 * o.num, force := .ss3 o }

/-- An ACTIVE link retrains from an attempt, with LINK_DROPS and the report to Cellar (R291). -/
def State.retrainLink (s : State) (o : OutId) (k code : Nat) : State :=
  if (s.link o).st = .active then
    let s := s.modLink o fun l => { l with drops := sat 16 (l.drops + 1) }
    let s := s.fault { code := code, cls := 3, island := 44 + o.num, detail := 16384 * o.num, force := .ss3 o }
    let t := s.modLink o fun l => { l with st := .backchannel }
    s.noteTe (if t.mayTrain o then t.startAttempt o k else t)
  else s

/-- Ends what a fault of an output's link forced: SS3 of its FC2 and FC3 faults, and the handling of the latter
(R557, R579); likewise SS3 of faults 0x0001 and 0x0003 of its island, whose row is the link's (R562). -/
def State.linkRestored (s : State) (o : OutId) : State :=
  let mine := fun (d : Dark) => d.out == o && !d.fc4 && [0x601, 0x602, 0x505, 0x1, 0x3].contains d.code
  let rec_ := fun (r : Recovery) => r.store && r.island == 44 + o.num && (r.code == 0x601 || r.code == 0x505)
  let seqs := (s.cellar.recov.filter rec_).map (·.logSeq)
  ((s.modLog (fun e => e.cls == 3 && e.seq ∈ seqs) fun e => { e with handled := true }).modCellar fun c =>
    { c with ss3 := c.ss3.filter fun d => !mine d, recov := c.recov.filter fun r => !rec_ r }).noteLifts.releaseHold

/-- R298: an output whose panel rule fails against the live mode after a retraining is held. -/
def State.holdCheck (s : State) (o : OutId) : State :=
  let g := s.liveSettings
  if s.panelFails g o then
    (s.modOut o fun x => { x with held := true }).eventAll 0x8601
      (leBytes 1 o.num ++ leBytes 1 (s.panelFail g.locked o (g.mode (s.eff o))) ++ zeros 2 ++ leBytes 4 (s.frameOf o))
  else s

/-- A link becomes ACTIVE (R288, R297, R298). -/
def State.linkUp (s : State) (o : OutId) : State :=
  let s := s.modLink o fun l => { l with st := .active, echoOk := false, panelRst := false }
  let s := s.modOut o fun x => { x with activeAt := s.us, echoBad := 0, echoDue := none }
  ((s.linkRestored o).holdCheck o).drivePsafe

/-! ### LINK_EN (R300, R316) -/

/-- LINK_EN of an output has become live at a value: 1 releases PANEL_RST for good and starts a cycle, 0 disables the
link. -/
def State.linkEnLive (s : State) (o : OutId) : State :=
  if s.linkEn o then
    if (s.link o).st = .disabled then
      (s.modLink o fun l => { l with panelRst := false }).startCycle o
    else s
  else if (s.link o).st = .disabled then s
  else
    let t := s.modLink o fun l =>
      { l with st := .disabled, attempt := 0, bcLock := false, rstAt := none, panelRst := false, startBlk := [] }
    let t := (t.modOut o fun x => { x with frameOk := false, echoDue := none }).idlePort o.num
    s.noteTe (t.linkRestored o).drivePsafe

/-! ### Backchannel messages (R283 to R287) -/

/-- Counts a backchannel block that is discarded (R286). -/
def State.bcDiscard (s : State) (o : OutId) : State := s.modLink o fun l => { l with bcErr := sat 16 (l.bcErr + 1) }

/-- A backchannel CONTROL block: heard only under block lock, discarded when its CRC fails; one of another SUBTYPE is
not this row's. -/
def State.bcRecv (s : State) (o : OutId) (sub : Nat) (b : List Byte) (k : State → State) : State :=
  if !(s.link o).bcLock then s
  else if !ctlOk b then s.bcDiscard o
  else if nAt b 0 1 ≠ sub then s
  else k (s.modLink o fun l => { l with bcAt := s.clk })

/-- The next phase of a training begins. -/
def State.phase (s : State) (o : OutId) (st : LinkState) : State := s.modLink o fun l => { l with st := st, phaseAt := s.clk }

/-- The preset that a lane's PRESET_ORDER gives at a place (R314, R324). -/
def State.presetAt (s : State) (n k : Nat) : Nat := fld (s.laneWord n 0) (3 * k) 3

/-- Every transmit lane of a port starts with its first preset (R314). -/
def State.firstPresets (s : State) (p : Nat) : State :=
  (txLanes p).foldl (fun a n => a.modLane n fun l => { l with preset := s.presetAt n 0, tried := 0 }) s

/-- A transmit lane whose margin is below EYE_MIN moves to its next preset, for PRESET_COUNT + 1 in all (R314, R315). -/
def State.nextPreset (s : State) (n least : Nat) : State :=
  let l := s.lane n
  if least ≤ l.eye ∨ fld (s.laneWord n 0) 12 2 ≤ l.tried then s
  else s.modLane n fun l => { l with tried := l.tried + 1, preset := s.presetAt n (l.tried + 1) }

/-- Asks the panel for a message (R277). -/
def State.request (s : State) (o : OutId) (sub : Nat) : State :=
  s.modLink o fun l => { l with reqBlk := requestPayload sub, capsReq := l.capsReq || sub == 0x20 }

/-- EYE_MIN, live (R301). -/
def State.eyeMin (s : State) (o : OutId) : Nat := fld (s.lv .spl o 0x804) 0 8

/-- TRAIN_REPORT (R288, R291). -/
def State.recvTrain (s : State) (o : OutId) (b : List Byte) : State :=
  s.bcRecv o 0x11 b fun s =>
    match (s.link o).st with
    | .blockLock =>
      if nAt b 2 2 = 0xFFFF then
        (s.phase o .equalise).firstPresets o.num
      else s
    | .deskew => if nAt b 4 1 = 1 then (s.phase o .caps).request o 0x20 else s
    | .verify =>
      if nAt b 1 1 ≠ 4 then s
      else if nAt b 8 4 = (s.link o).verifyCrc.toNat then s.linkUp o else s.endAttempt o
    | .active => s.retrainLink o 1 0x601
    | _ => s

/-- CAPS (R284, R288, R291). -/
def State.recvCaps (s : State) (o : OutId) (b : List Byte) : State :=
  s.bcRecv o 0x20 b fun s =>
    let asked := (s.link o).capsReq
    let s := s.noteTe (s.modLink o fun l => { l with caps := some b, capsReq := false })
    match (s.link o).st with
    | .caps => (s.drawn.phase o .verify).modLink o fun l => { l with verifyCrc := verifyCrcFrom (s.trainSlots o) }
    | .active => if asked then s else s.retrainLink o 1 0x601
    | _ => s

/-- LINK_QUALITY (R291, R314). -/
def State.recvQuality (s : State) (o : OutId) (b : List Byte) : State :=
  s.bcRecv o 0x33 b fun s =>
    let eye := (List.range 16).map fun i => nAt b (1 + i) 1
    let s := s.modLink o fun l => { l with eye := eye, corrected := nAt b 0x12 2, hdrErr := nAt b 0x14 2 }
    let s := (List.range 16).foldl (fun a i => a.modLane (16 * o.num + i) fun l => { l with eye := eye.getD i 0 }) s
    let low := eye.any (· < s.eyeMin o)
    match (s.link o).st with
    | .equalise =>
      if low then (txLanes o.num).foldl (fun a n => a.nextPreset n (s.eyeMin o)) s
      else (s.phase o .deskew).deskew o.num 8
    | .active =>
      if low ∨ fld (s.lv .spl o 0x804) 8 8 < nAt b 0x14 2 then s.retrainLink o 1 0x601 else s
    | _ => s

/-- STATUS (R287). -/
def State.recvStatus (s : State) (o : OutId) (b : List Byte) : State :=
  s.bcRecv o 0x32 b fun s =>
    let st := nAt b 1 1
    if st = 2 then
      (s.modLink o fun l => { l with statusSt := 2, panelFaults := sat 16 (l.panelFaults + 1), panelFaultAt := none }).fault
        { code := 0x603, cls := 2, island := 44 + o.num, detail := 16384 * o.num, force := .ss3 o }
    else s.modLink o fun l => { l with statusSt := st,
                                       panelFaultAt := if l.statusSt = 2 then some s.us else l.panelFaultAt }

/-- An echo that is not good (R249, R562): SS1 on the output's regions, and at the third frame in a row a retraining. -/
def State.badEcho (s : State) (o : OutId) (resolves : Bool) : State :=
  let n := (s.out o).echoBad + 1
  let s := s.modOut o fun x =>
    { x with echoFail := sat 16 (x.echoFail + 1), echoBad := n, echoDue := if resolves then none else x.echoDue,
             endOk := x.endOk && !resolves }
  let s := s.fault { code := 0x504, cls := 2, island := 44 + o.num, detail := 16384 * o.num, force := .ss1Out o }
  if n = 3 then s.retrainLink o 1 0x505 else s

/-- The regions of an output all judged for a frame (R647). -/
def State.allJudged (s : State) (o : OutId) (n : Nat) : Bool :=
  (s.out o).regions.all fun r => r.frame != n || r.judged

/-- A frame V is known to be verified (R647): the SS3 of 0x0E09 is lifted (R649). -/
def State.known (s : State) (o : OutId) : State :=
  ((s.modOut o fun x => { x with knownV := true }).modCellar fun c =>
    { c with ss3 := c.ss3.filter fun d => !(d.out == o && d.code == 0xE09 && !d.fc4) }).noteLifts.releaseHold

/-- The latest frame that has ended is known to be verified once its echo is good, or the panel sends none, and every
region that it drew has been judged (R647). -/
def State.tryKnown (s : State) (o : OutId) : State :=
  let x := s.out o
  match x.frameCrc with
  | none => s
  | some f => if x.endOk && (!s.capFlag o 3 || x.echoFrame == f.1) && s.allJudged o f.1 then s.known o else s

/-- A region of a frame that fails its comparison keeps the frame from being verified (R647). -/
def Output.spoil (x : Output) (frame : Nat) : Output :=
  { x with endOk := x.endOk && (match x.frameCrc with | none => true | some f => f.1 != frame) }

/-- Whether a frame number fails to advance past the latest one echoed (R249). -/
def Output.echoStale (x : Output) (n : Nat) : Bool := x.echoSeen.any fun m => !ahead n m

/-- CRC_ECHO (R249). A number that fails to advance, or that no frame sent carries, is bad; the echo of the frame that ended
last decides that frame's outcome, unless ECHO_TIMEOUT has counted it already, as it has for an earlier frame's
(DEDUCED, log entry 108). -/
def State.recvEcho (s : State) (o : OutId) (b : List Byte) : State :=
  s.bcRecv o 0x31 b fun s =>
    let x := s.out o
    let n := nAt b 4 4
    if (s.link o).st ≠ .active then s
    else if x.echoStale n then s.badEcho o false
    else match x.frameCrc with
      | none => s.badEcho o true
      | some f =>
        if ahead n f.1 then s.badEcho o true
        else
          let s := s.modOut o fun x => { x with echoSeen := some n }
          match x.echoDue with
          | none => s
          | some t =>
            if n ≠ f.1 then s
            else if s.us ≤ t ∧ nAt b 8 4 = f.2.toNat then
              ((s.modOut o fun x => { x with echoFrame := f.1, echoBad := 0, echoDue := none }).modLink o
                fun l => { l with echoOk := true }).tryKnown o
            else s.badEcho o true

/-! ### Rows -/

/-- RETRAIN for an output (R290, R291). -/
def State.writeRetrain (s : State) (o : OutId) : State :=
  if s.variant = .E1 ∧ o = .B then s
  else match (s.link o).st with
    | .active => s.retrainLink o 1 0x601
    | .disabled => s
    | _ => s.startCycle o

/-- TE_TIMEOUT (R260): 1 ms after the latest TE message the level is taken as hold. -/
def execTeTimeout (o : OutId) (s : State) : Host.Outcome State Fault Refusal :=
  .next (match (s.out o).teAt with
    | none => s
    | some t => (s.atClk (t + 25000)).modOut o fun x => { x with teMsg := false, teAt := none })

/-- TRAIN_REPORT (R288, R291). -/
def execTrainReport (o : OutId) (block : List Byte) (s : State) : Host.Outcome State Fault Refusal :=
  .next (s.recvTrain o block)

/-- CAPS (R284). -/
def execCapsMsg (o : OutId) (block : List Byte) (s : State) : Host.Outcome State Fault Refusal :=
  .next (s.recvCaps o block)

/-- CRC_ECHO (R249). -/
def execCrcEcho (o : OutId) (block : List Byte) (s : State) : Host.Outcome State Fault Refusal :=
  .next (s.recvEcho o block)

/-- STATUS (R287). -/
def execStatusMsg (o : OutId) (block : List Byte) (s : State) : Host.Outcome State Fault Refusal :=
  .next (s.recvStatus o block)

/-- LINK_QUALITY (R291, R314). -/
def execLinkQuality (o : OutId) (block : List Byte) (s : State) : Host.Outcome State Fault Refusal :=
  .next (s.recvQuality o block)

/-- BACKCHANNEL_LOSS (R286, R288, R291): 100 µs without a correct block. -/
def execBackchannelLoss (o : OutId) (s : State) : Host.Outcome State Fault Refusal :=
  let lost := fun (s : State) => (s.atClk ((s.link o).bcAt + 2500)).modLink o fun l => { l with bcLock := false }
  .next (match (s.link o).st with
    | .active => (lost s).retrainLink o 2 0x601
    | .blockLock | .equalise | .deskew | .caps | .verify => (lost s).endAttempt o
    | _ => s)

/-- ECHO_TIMEOUT (R249): no echo 2 ms after FRAME_END. -/
def execEchoTimeout (o : OutId) (s : State) : Host.Outcome State Fault Refusal :=
  .next (match (s.out o).echoDue with
    | none => s
    | some t => if (s.link o).st = .active then (s.atUs (t + 1)).badEcho o true else s)

/-- PANEL_FAULT_CLEAR (R562): STATE has read 0 or 1, and never 2, for 1 s. -/
def execPanelFaultClear (o : OutId) (s : State) : Host.Outcome State Fault Refusal :=
  .next (match (s.link o).panelFaultAt with
    | none => s
    | some t =>
      let s := (s.atUs (t + 1000000)).modLink o fun l => { l with panelFaultAt := none }
      (s.modCellar fun c => { c with ss3 := c.ss3.filter fun d => !(d.out == o && d.code == 0x603 && !d.fc4) }).noteLifts.releaseHold)

/-- The bound of the phase in progress, in crystal cycles (R288): none where no phase runs. -/
def Link.phaseBound (l : Link) : Option Nat :=
  match l.st with
  | .backchannel => some (if l.attempt = 1 then 500000 else 5000000)
  | .blockLock => some 250000
  | .equalise => some 1250000
  | .deskew => some 25000
  | .caps => some 125000
  | .verify => some 50000
  | _ => none

/-- TRAIN_PHASE_TIMEOUT (R288). -/
def execTrainPhaseTimeout (o : OutId) (s : State) : Host.Outcome State Fault Refusal :=
  .next (match (s.link o).phaseBound with
    | none => s
    | some n => (s.atClk ((s.link o).phaseAt + n)).endAttempt o)

/-- TRAIN_DESKEW_REPEAT (R288). -/
def execTrainDeskewRepeat (o : OutId) (s : State) : Host.Outcome State Fault Refusal :=
  .next (if (s.link o).st = .deskew then s.deskew o.num 8 else s)

/-- PANEL_RST_RELEASE (R288): after 1 ms low, and the BACKCHANNEL bound counts from then. -/
def execPanelRstRelease (o : OutId) (s : State) : Host.Outcome State Fault Refusal :=
  .next (match (s.link o).rstAt with
    | none => s
    | some t =>
      let s := s.atClk (t + 25000)
      s.modLink o fun l => { l with st := .backchannel, panelRst := false, rstAt := none, phaseAt := s.clk })

/-- LINK_RETRY_CYCLE (R290): a new cycle every 1 s while a link is DOWN. -/
def execLinkRetryCycle (o : OutId) (s : State) : Host.Outcome State Fault Refusal :=
  .next (if (s.link o).st = .down then (s.atClk ((s.link o).downAt + 25000000)).startCycle o else s)

/-- EI_EXIT_START (R317): at FRAME_END plus VBLANK_MIN minus 1 µs the idle forward lanes begin their exit. -/
def execEiExitStart (o : OutId) (s : State) : Host.Outcome State Fault Refusal :=
  .next (if (s.out o).inBlank && (s.link o).st == .active then
      let v := fld (s.tim (s.eff o) (4 + 4 * (s.eff o).num)) 0 16
      (s.atClk ((s.out o).feClk + 25 * (v - 1))).modLanes (txLanes o.num) fun l =>
        if l.st = 2 then { l with exiting := true } else l
    else s)

/-- EI_EXIT_DONE (R318, R276): the lane carries data, under the LNE set that came with its calibration (R323); once every lane
does, a DESKEW slot follows, and in training the TRAIN blocks. -/
def execEiExitDone (lane : Nat) (s : State) : Host.Outcome State Fault Refusal :=
  .next (if (s.lane lane).exiting && laneTx lane then
      let s := s.modLane lane fun l => { l with st := 1, exiting := false, words := l.next.getD l.words, next := none }
      let p := lanePort lane
      if !s.lanesUp p then s
      else
        let s := s.deskew p 1
        if p < 2 ∧ (s.link (outOf p)).st ≠ .active then
          s.modLink (outOf p) fun l => { l with trainAt := s.clk, trainN := l.deskews }
        else s
    else s)

/-- The eye margin of R309; a unit interval is 31.25 ps for PAM4 and 62.5 ps for NRZ. -/
def eyeMargin (pam4 : Bool) (m : Openings) : Nat :=
  min 255 (min (if m.href = 0 then 0 else 255 * m.h / m.href) (255 * m.w / (if pam4 then 3125 else 6250)))

/-- The bound of DFE tap k, counted from 0, in hundredths (R312). -/
def tapBound (k : Nat) : Int := if k = 0 then 50 else if k ≤ 2 then 25 else 10

/-- A value kept within a bound. -/
def clampInt (b v : Int) : Int := max (-b) (min b v)

/-- Whether a receiver adapts fully: in the phase of training in which it first gains block lock (R313). -/
def State.adaptsFully (s : State) (lane : Nat) : Bool :=
  if lane < 34 then (s.link (outOf (lane - 32))).st == .backchannel else (s.rport (ringOf (lanePort lane))).st == 1

/-- One step of adaptation from what a receiver holds to what it works out: full, or one unit of each value (R313; the size of
a small step is the model's, log entry 111). -/
def adapt (full : Bool) (old new : Int) : Int := if full then new else old + clampInt 1 (new - old)

/-- A receiver after an adaptation within the limits of R312; with DFE_EN at 0 every tap is zero. -/
def State.adapted (s : State) (lane : Nat) (q : Equaliser) : Lane :=
  let l := s.lane lane
  let w := s.laneWord lane 4
  let full := s.adaptsFully lane
  { l with
    ctle := max (fld w 0 4) (min (fld w 4 4) (adapt full l.ctle q.ctle).toNat),
    dfe := (List.range (if lane < 34 then 3 else 12)).map fun k =>
      if bitOf w 8 then clampInt (tapBound k) (adapt full (l.dfe.getD k 0) (q.taps.getD k 0)) else 0,
    samp := adapt full l.samp q.samp }

/-- A ring port that trains tells its partner what its receive lanes see, in a TRAIN_REPORT (R590, R594): LOCK_MASK, SKEW_OK,
which needs four locked lanes and is free beyond that, and the eye margins. -/
def State.ringTell (s : State) (lane : Nat) : State :=
  let p := lanePort lane
  let r := s.rport (ringOf p)
  if p < 2 ∨ r.st = 0 ∨ 3 < r.st then s
  else
    let rx := (portLanes p).filter fun n => !laneTx n
    let mask := rx.zipIdx.foldl (fun m k => m + b2n (s.lane k.1).lock * 2 ^ k.2) 0
    let skew := if mask = 15 then s.freeBelow 2 else 0
    s.drawn.sendCtl (ringOf p) (leBytes 1 0x11 ++ zeros 1 ++ leBytes 1 mask ++ leBytes 1 skew
      ++ rx.flatMap fun n => leBytes 1 (s.lane n).eye)

/-- EYE_REFRESH (R309, R310, R312, R313): a receive lane that has block lock, or still adapts fully towards it, measures its
openings and adapts; the reported margin lies within ±8 of that of R309, and where is free. -/
def execEyeRefresh (lane : Nat) (eye : Openings) (ctle : Equaliser) (s : State) : Host.Outcome State Fault Refusal :=
  .next (if laneTx lane || !s.variant.hasLane lane || (s.lane lane).st == 2 || !((s.lane lane).lock || s.adaptsFully lane) then s
    else
      let m := eyeMargin (34 ≤ lane) eye
      (s.drawn.modLane lane fun _ => { s.adapted lane ctle with eye := min 255 (m + s.freeBelow 17 - 8) }).ringTell lane)

/-- Whether R319 makes a lane eligible: CAL_INTERVAL has passed, or its island's temperature has changed by 5 °C. -/
def State.calElapsed (s : State) (lane : Nat) : Bool :=
  80 ≤ (s.reading (laneIsland lane) - (s.lane lane).calTemp).natAbs
  || (s.lane lane).calAt + 25000000 * fld (s.laneWord lane 8) 0 8 < s.clk

/-- LANE_CAL_DUE (R319): the lane becomes eligible. -/
def execLaneCalDue (lane : Nat) (s : State) : Host.Outcome State Fault Refusal :=
  let l := s.lane lane
  .next (if !laneTx lane || !s.variant.hasLane lane then s
    else if 80 ≤ (s.reading (laneIsland lane) - l.calTemp).natAbs then s.modLane lane fun l => { l with due := true }
    else (s.atClk (l.calAt + 25000000 * fld (s.laneWord lane 8) 0 8 + 1)).modLane lane
      fun l => { l with due := true })

/-- The output whose blanking a port's calibration falls in (R319). -/
def calOut (p : Nat) : OutId := if p = 1 then .B else .A

/-- Whether a lane may be calibrated now: marked by RECAL_NOW, or due, still eligible and CAL_EN live at 1 (R319). -/
def State.calEligible (s : State) (n : Nat) : Bool :=
  (s.lane n).recal || ((s.lane n).due && s.calElapsed n && bitOf (s.laneWord n 8) 8)

/-- The lane that a port calibrates next: the one calibrated longest ago among those eligible (R319). -/
def State.calLane (s : State) (p : Nat) : Option Nat :=
  ((txLanes p).filter s.calEligible).foldl (fun a n =>
    match a with
    | none => some n
    | some m => if (s.lane n).calAt < (s.lane m).calAt then some n else some m) none

/-- Whether this is the first slot after the DESKEW slot that follows FRAME_END (R320): 8.25 ns after it. -/
def State.calSlot (s : State) (port : Nat) : Bool :=
  let x := s.out (calOut port)
  x.inBlank && x.feClk != 0 && s.clk ≤ x.feClk + 1

/-- LANE_CAL_START (R319, R320, R323): one lane of a port in a blanking, in the slot of R320; its training window falls here. -/
def execLaneCalStart (port : Nat) (s : State) : Host.Outcome State Fault Refusal :=
  .next (if s.portActive port && s.calSlot port
        && (txLanes port).all (fun n => (s.lane n).calBegan < (s.out (calOut port)).feClk) then
      match s.calLane port with
      | none => s
      | some n => (s.lneWindow port [n] true).modLane n fun l => { l with st := 3, exiting := false, calBegan := s.clk }
    else s)

/-- LANE_CAL_DONE (R320): within 150 µs of the start; what has not completed by then is aborted. -/
def execLaneCalDone (lane : Nat) (s : State) : Host.Outcome State Fault Refusal :=
  .next (if (s.lane lane).st ≠ 3 then s
    else if (s.lane lane).calBegan + 3750 < s.clk then s.abortCal lane
    else s.modLane lane fun l => { l with st := 0, exiting := true, calCount := sat 16 (l.calCount + 1), calAt := s.clk,
                                          calTemp := s.reading (laneIsland lane), due := false, recal := false })

/-- LANE_CAL_ABORT (R320): 150 µs after the start. -/
def execLaneCalAbort (lane : Nat) (s : State) : Host.Outcome State Fault Refusal :=
  .next (if (s.lane lane).st = 3 then (s.atClk ((s.lane lane).calBegan + 3750)).abortCal lane else s)

/-- DESKEW_SLOT_DUE (R276, R589): 16,384 slots with every lane carrying a block have passed. -/
def execDeskewSlotDue (p : Nat) (s : State) : Host.Outcome State Fault Refusal :=
  .next (if s.portActive p && s.lanesUp p then s.deskew p 1 else s)

/-- BLOCK_LOCK_GAINED (R307, R288). -/
def execBlockLockGained (lane : Nat) (s : State) : Host.Outcome State Fault Refusal :=
  .next (if laneTx lane || !s.variant.hasLane lane || (s.lane lane).st == 2 then s
    else
      let s := s.modLane lane fun l => { l with st := 1, lock := true }
      if lane = 32 ∨ lane = 33 then
        let o := outOf (lane - 32)
        if (s.link o).st = .disabled then s
        else
          let s := s.modLink o fun l => { l with bcLock := true, bcAt := s.clk }
          if (s.link o).st = .backchannel then s.phase o .blockLock else s
      else s.ringTell lane)

/-- BLOCK_LOCK_LOST (R307, R562). -/
def execBlockLockLost (lane : Nat) (s : State) : Host.Outcome State Fault Refusal :=
  .next (if laneTx lane || !(s.lane lane).lock then s
    else
      let s := s.modLane lane fun l => { l with st := 0, lock := false, lockLoss := sat 16 (l.lockLoss + 1) }
      let s := if lane = 32 ∨ lane = 33 then s.modLink (outOf (lane - 32)) fun l => { l with bcLock := false } else s.ringTell lane
      s.fault { code := 0x701, cls := 1, island := laneIsland lane, detail := lane, force := .none })

/-- BACKCHANNEL_BLOCK_DISCARD (R265, R267, R286): a backchannel block as it arrives. A header error, or a failed CRC of a kind
that carries one, discards it; a header one bit off a codeword is taken as that and counted. -/
def execBackchannelBlockDiscard (o : BcBlock) (s : State) : Host.Outcome State Fault Refusal :=
  .next (if !(s.link o.out).bcLock then s
    else match classHeader o.header with
      | none => s.bcDiscard o.out
      | some (k, fixed) =>
        let s := if fixed then s.modLink o.out fun l => { l with bcFixed := l.bcFixed + 1 } else s
        if k.hasCrc && !ctlOk o.payload then s.bcDiscard o.out else s)

/-- RETRAIN_WRITE (R291, R301): a write of 1 to RETRAIN_A or RETRAIN_B through BAR2, under the grants of R461. -/
def execRetrainWrite (f : Nat) (word : Word) (s : State) : Host.Outcome State Fault Refusal :=
  .next (if !s.power.ready || !(s.box f).present then s
    else if !s.granted f .spl then s.violate 0
    else
      let s := if word.getLsbD 0 then s.writeRetrain .A else s
      if word.getLsbD 1 then s.writeRetrain .B else s)

/-- RECAL_NOW for a port (R324). -/
def State.markRecal (s : State) (p : Nat) : State :=
  s.modLanes ((txLanes p).filter s.variant.hasLane) fun l => { l with recal := true }

/-- RECAL_NOW (R324): a write of 1 through BAR2, under the grants of R461. -/
def execRecalNow (f port : Nat) (word : Word) (s : State) : Host.Outcome State Fault Refusal :=
  .next (if !s.power.ready || !(s.box f).present then s
    else if !s.granted f .lne then s.violate 0
    else if word.getLsbD 0 then s.markRecal port else s)

end Sys2Proof.Machine
end

