-- ==== Sys2Proof/Machine/Memory.lean ====
section
/-! DEFINITION. Module DRAM as its requesters reach it: bytes, error-correcting words, and uncorrectable errors
(R432, R438 to R441). -/
namespace Sys2Proof.Machine

/-! ### Reads and writes -/

/-- The uncorrectable 8-byte words that an extent touches (R438, R439). -/
def State.badIn (s : State) (a n : Nat) : List Nat := s.dram.badWords.filter fun w => 8 * w < a + n && a < 8 * w + 8

/-- Bytes from an address. -/
def State.dramGet (s : State) (a n : Nat) : List Byte := memRead s.dram.mem a n

/-- A write; each word that it covers whole gets fresh check bytes (R439, R440). -/
def State.dramPut (s : State) (a : Nat) (bs : List Byte) : State :=
  s.modDram fun d =>
    { d with mem := memWrite d.mem a bs,
             badWords := d.badWords.filter fun w => !(a ≤ 8 * w && 8 * w + 8 ≤ a + bs.length) }

/-- Counts uncorrectable errors that a requester met, in order (R439, R455). -/
def State.dramUe (s : State) (src : Nat) (ws : List Nat) : State :=
  ws.foldl (fun a w => a.modDram fun d => { d with uncorr := sat 16 (d.uncorr + 1), ueAddr := 8 * w, ueSrc := src }) s

end Sys2Proof.Machine
end

