-- ==== Sys2Proof/Machine/Codec.lean ====
section
/-! DEFINITION. The tile coding of the Opkuyr plane stream: code tables, component streams, predictors and texels
(R101, R103 to R113). -/
namespace Sys2Proof.Machine

/-- A texel by its component codes (R105). -/
structure Texel where
  r : Nat
  g : Nat
  b : Nat
  a : Nat
  deriving DecidableEq, Repr

/-- Transparent black. -/
def Texel.clear : Texel := { r := 0, g := 0, b := 0, a := 0 }

/-! ### Code tables (R101, R111 to R113) -/

/-- R113: the length that a rank receives. -/
def rankLen (k : Nat) : Nat :=
  if k = 0 then 2 else if k ≤ 2 then 3 else if k ≤ 5 then 4 else if k ≤ 9 then 5 else if k ≤ 16 then 6
  else if k ≤ 24 then 7 else 8

/-- The distance of two numbers. -/
def dist (a b : Nat) : Nat := (a - b) + (b - a)

/-- R113: the cost of a symbol in static table 4m + q. -/
def symCost (m q sym : Nat) : Nat :=
  if sym ≤ 16 then 2 * dist sym ([0, 2, 4, 7].getD m 0)
  else if q = 3 then 64 + (sym - 17) else 1 + 2 * dist (sym - 17) ([1, 5, 9].getD q 0)

/-- The 29 code lengths of a static table (R113). -/
def staticLens (t : Nat) : List Nat :=
  let cost := symCost (t / 4) (t % 4)
  (List.range 29).map fun s =>
    rankLen ((List.range 29).filter fun k => cost k < cost s || (cost k == cost s && k < s)).length

/-- The 29 code lengths of a dynamic table's 16 bytes (R101). -/
def dynLens (t : List Byte) : List Nat := (List.range 29).map fun i => fld (nAt t (i / 2) 1) (4 * (i % 2)) 4

/-- R101: the bits behind the last length are zero. -/
def dynZero (t : List Byte) : Bool := fld (nAt t 14 1) 4 4 == 0 && nAt t 15 1 == 0

/-- R112: one used symbol of length 1, or a complete set of lengths. -/
def lensValid (ls : List Nat) : Bool :=
  let used := ls.filter (· ≠ 0)
  used == [1] || (used.map fun l => 2 ^ (15 - l)).sum == 32768

/-- R111: the first code of a length. -/
def firstCode (ls : List Nat) : Nat → Nat
  | 0 => 0
  | l + 1 => (firstCode ls l + (if l = 0 then 0 else ls.count l)) * 2

/-- R111: length, code and symbol of every used symbol. -/
def codesOf (ls : List Nat) : List (Nat × Nat × Nat) :=
  let used := (List.range 29).filter fun s => ls.getD s 0 ≠ 0
  used.map fun s =>
    let l := ls.getD s 0
    (l, firstCode ls l + (used.filter fun k => k < s && ls.getD k 0 == l).length, s)

/-! ### Component streams (R109, R110) -/

/-- The bits of bytes, from bit 0 of each (R110). -/
def bitsOf (bs : List Byte) : List Bool := bs.flatMap fun b => (List.range 8).map fun i => b.getLsbD i

/-- Reads a prefix code, its most significant bit first: the symbol and the bits behind it. -/
def readSym (codes : List (Nat × Nat × Nat)) : Nat → Nat → Nat → List Bool → Option (Nat × List Bool)
  | 0, _, _, _ => none
  | _, _, _, [] => none
  | n + 1, len, code, b :: bs =>
    let l := len + 1
    let c := 2 * code + b2n b
    match codes.find? fun e => e.1 == l && e.2.1 == c with
    | some e => some (e.2.2, bs)
    | none => readSym codes n l c bs

/-- Extra bits, least significant first. -/
def readExtra : Nat → List Bool → Option (Nat × List Bool)
  | 0, bs => some (0, bs)
  | _, [] => none
  | n + 1, b :: bs =>
    match readExtra n bs with
    | none => none
    | some r => some (b2n b + 2 * r.1, r.2)

/-- The coded values z of a component, most recent first, until `left` of them are read; the bits left over. -/
def readZs (codes : List (Nat × Nat × Nat)) (n : Nat) : Nat → Nat → List Nat → List Bool → Option (List Nat × List Bool)
  | 0, left, acc, bs => if left = 0 then some (acc, bs) else none
  | fuel + 1, left, acc, bs =>
    if left = 0 then some (acc, bs)
    else match readSym codes 15 0 0 bs with
      | none => none
      | some (s, r) =>
        if s = 0 then readZs codes n fuel (left - 1) (0 :: acc) r
        else if s ≤ 16 then
          match readExtra (s - 1) r with
          | none => none
          | some (x, r2) => if n < s then none else readZs codes n fuel (left - 1) ((2 ^ (s - 1) + x) :: acc) r2
        else
          match readExtra (s - 16) r with
          | none => none
          | some (x, r2) =>
            let len := 2 ^ (s - 16) + x
            if left < len then none else readZs codes n fuel (left - len) (List.replicate len 0 ++ acc) r2

/-- A component stream's 4096 coded values: it ends in fewer than 8 padding bits, all zero (R110). -/
def readComp (codes : List (Nat × Nat × Nat)) (n : Nat) (bytes : List Byte) : Option (List Nat) :=
  match readZs codes n 4096 4096 [] (bitsOf bytes) with
  | none => none
  | some (zs, rest) => if rest.length < 8 && rest.all (· == false) then some zs.reverse else none

/-! ### Prediction (R107, R108) -/

/-- R107 for a texel with neighbours a to the left, b above, d above left. -/
def predict (p a b d : Nat) : Nat :=
  match p with
  | 0 => a
  | 1 => b
  | 2 => if max a b ≤ d then min a b else if d ≤ min a b then max a b else a + b - d
  | _ => (a + b) / 2

/-- R108: the residual modulo 2^n of a coded value. -/
def residual (n z : Nat) : Nat := if z % 2 = 0 then z / 2 else 2 ^ n - (z + 1) / 2

/-- A row from its coded values: `prev` holds the left texel and the one above it, `up` the rest of the row above. -/
def reconRow (n p : Nat) (top : Bool) : Option (Nat × Nat) → List Nat → List Nat → List Nat
  | _, _, [] => []
  | prev, up, z :: zs =>
    let b := up.headD 0
    let pr := match prev with
      | none => if top then 0 else b
      | some (a, d) => if top then a else predict p a b d
    let x := (pr + residual n z) % 2 ^ n
    x :: reconRow n p top (some (x, b)) up.tail zs

/-- Rows of 64 from coded values, one per unit of fuel. -/
def reconRows (n p : Nat) : Nat → Bool → List Nat → List Nat → List Nat
  | 0, _, _, _ => []
  | k + 1, top, up, zs =>
    let row := reconRow n p top none up (zs.take 64)
    row ++ reconRows n p k false row (zs.drop 64)

/-- A component's 4096 values. -/
def recon (n p : Nat) (zs : List Nat) : List Nat := reconRows n p 64 true [] zs

/-! ### Formats (R105, R106) -/

/-- The width of a component of a format, in the order G, R, B, A. -/
def compBits (fmt k : Nat) : Nat :=
  match fmt with
  | 0 => 8
  | 1 => if k = 3 then 2 else 10
  | _ => 16

/-- Raw tile bytes of a format. -/
def rawSize (fmt : Nat) : Nat := if fmt = 2 then 32768 else 16384

/-- The texel whose raw bytes stand at an offset. -/
def rawTexel (fmt : Nat) (bs : List Byte) (i : Nat) : Texel :=
  match fmt with
  | 0 => { r := nAt bs (4 * i) 1, g := nAt bs (4 * i + 1) 1, b := nAt bs (4 * i + 2) 1, a := nAt bs (4 * i + 3) 1 }
  | 1 =>
    let w := nAt bs (4 * i) 4
    { r := fld w 0 10, g := fld w 10 10, b := fld w 20 10, a := fld w 30 2 }
  | _ => { r := nAt bs (8 * i) 2, g := nAt bs (8 * i + 2) 2, b := nAt bs (8 * i + 4) 2, a := nAt bs (8 * i + 6) 2 }

/-- Splits bytes at the component lengths. -/
def splitComps : List Nat → List Byte → List (List Byte)
  | [], _ => []
  | n :: ns, bs => bs.take n :: splitComps ns (bs.drop n)

/-- PREDICTOR of a tile. -/
def Tile.predictor (t : Tile) : Nat := fld t.flags 3 2

/-- TRANSFORM of a tile. -/
def Tile.transform (t : Tile) : Bool := bitOf t.flags 2

/-- The code table that TABLE_SEL selects; `none` where the group has no such dynamic table (R103). -/
def Tile.lens (t : Tile) (k : Nat) : Option (List Nat) :=
  let sel := t.sel.getD k 0
  if bitOf sel 4 then t.dyn[sel % 16]? else some (staticLens (sel % 16))

/-- A component of a coded tile. -/
def Tile.comp (t : Tile) (fmt k : Nat) : Option (List Nat) :=
  match t.lens k with
  | none => none
  | some ls =>
    (readComp (codesOf ls) (compBits fmt k) ((splitComps t.clen t.body).getD k [])).map
      (recon (compBits fmt k) t.predictor)

/-- A texel's code from its coded component values (R106). -/
def untransform (fmt : Nat) (tr : Bool) (g r b a : Nat) : Texel :=
  let m := 2 ^ compBits fmt 0
  if tr then { r := (r + g) % m, g := g, b := (b + g) % m, a := a } else { r := r, g := g, b := b, a := a }

/-- The 4096 texels of a tile in raster order; `none` when it does not decode (R124). -/
def Tile.texels (fmt : Nat) (t : Tile) : Option (List Texel) :=
  match t.kind with
  | 0 =>
    match t.comp fmt 0, t.comp fmt 1, t.comp fmt 2, t.comp fmt 3 with
    | some g, some r, some b, some a =>
      some ((List.range 4096).map fun i =>
        untransform fmt t.transform (g.getD i 0) (r.getD i 0) (b.getD i 0) (a.getD i 0))
    | _, _, _, _ => none
  | 1 => some ((List.range 4096).map (rawTexel fmt t.body))
  | 2 => some (List.replicate 4096 .clear)
  | _ => none

/-! ### Tiles of a group (R100, R103, R104) -/

/-- A tile from its bytes in a group with dynamic tables. -/
def parseTile (dyn : List (List Nat)) (bs : List Byte) : Tile :=
  { kind := fld (nAt bs 0 1) 0 2, relief := sgn 8 (nAt bs 1 1), flags := nAt bs 0 1,
    sel := (List.range 4).map fun k => nAt bs (2 + k) 1,
    clen := (List.range 4).map fun k => nAt bs (8 + 2 * k) 2, body := bs.drop 16, dyn := dyn, bufs := [], off := 0 }

/-- R103, R104: the tile's header and length stand; TILE_LEN is the length of its bytes. -/
def tileForm (fmt : Nat) (bs : List Byte) : Bool :=
  let t := parseTile [] bs
  16 ≤ bs.length && t.kind ≠ 3 && t.flags / 32 == 0 && nAt bs 6 2 == 0
  && (match t.kind with
      | 0 => bs.length == 16 + t.clen.sum && t.clen.sum ≤ rawSize fmt && t.sel.all (· < 32)
             && !(t.transform && fmt == 2)
      | 1 => bs.length == 16 + rawSize fmt && t.clen.sum == 0
      | _ => bs.length == 16 && t.clen.sum == 0)

/-- Whether a coded tile's TABLE_SEL names dynamic tables that the group has (cause 0x0A). -/
def Tile.tablesPresent (t : Tile) : Bool := t.kind ≠ 0 || (List.range 4).all fun k => (t.lens k).isSome

end Sys2Proof.Machine
end

