-- ==== Sys2Proof/Machine/System.lean ====
section
/-! DEFINITION. The system commands: GET_INFO, GET_STATUS, COMMIT, WRITE_FIELDS, READ_FIELDS (R28, R494 to R499). -/
namespace Sys2Proof.Machine

/-- VARIANT (R458). -/
def Variant.code (v : Variant) : Nat := if v = .E2 then 0xE2 else 0xE1

/-- The live power state as GET_STATUS gives it (R494, R622). -/
def State.powerCode (s : State) : Nat := if fld (s.lv .cpt .A 0) 0 2 = 2 then 2 else if s.stepLive ≠ 0 then 1 else 0

/-- GET_INFO's response. -/
def State.infoResp (s : State) : List Byte :=
  leBytes 1 s.variant.code ++ leBytes 1 0xB0 ++ leBytes 1 s.trust.lifecycle ++ leBytes 1 s.numVfs
  ++ leBytes 4 s.fwVersion ++ leBytes 8 s.us

/-- GET_STATUS's response. -/
def State.statusResp (s : State) : List Byte :=
  leBytes 1 (s.safeOf .A) ++ leBytes 1 (s.safeOf .B) ++ leBytes 1 s.powerCode ++ leBytes 1 s.stepLive
  ++ leBytes 4 s.outA.frameNum ++ leBytes 4 s.outB.frameNum
  ++ leBytes 4 (b2n s.locked + 2 * b2n (s.linkA.st == .active) + 4 * b2n (s.linkB.st == .active) + 8 * b2n s.replayRuns)

/-- A GET_ command without payload: it has no effect and returns live values (R494). -/
def getCard (opcode resp : Nat) : Card := hostCard opcode 0 resp noReserved

/-- GET_INFO (R494). -/
def execGetInfo (f : Nat) (s : State) : Host.Outcome State Fault Refusal :=
  .next (s.hostCommand f (getCard 0x100 16) fun s _ => .ok s s.infoResp)

/-- GET_STATUS (R494). -/
def execGetStatus (f : Nat) (s : State) : Host.Outcome State Fault Refusal :=
  .next (s.hostCommand f (getCard 0x101 16) fun s _ => .ok s s.statusResp)

/-- An expert card. -/
def expertCard (opcode : Nat) (body resp : List Byte → Nat) (rights : State → Cmd → Bool) (reserved : List Byte → Bool) :
    Card :=
  { opcode := opcode, expert := true, host := true, owner := false, maint := false, pf := false, judged4 := false,
    body := body, resp := resp, rights := rights, reserved := reserved, journals := false }

/-- COMMIT's card: every window it names is granted (R476); reserved fields and encodings. -/
def commitCard : Card :=
  { expertCard 0x110 (fun _ => 16) (fun _ => 16)
      (fun s c => (maskBlks (nAt c.payload 0 4)).all (s.granted c.f))
      (fun p => nAt p 0 4 / 2 ^ 17 == 0 && nAt p 4 1 ≤ 2 && nAt p 5 1 ≤ 1 && nAt p 6 1 / 16 == 0 && nAt p 7 1 == 0
        && nAt p 12 4 == 0) with journals := true }

/-- The commit that COMMIT asks for (R28, R496). -/
def commitReq (f : Nat) (p : List Byte) : CommitReq :=
  { issuer := f, blks := maskBlks (nAt p 0 4), ports := (List.range 4).filter fun n => bitOf (nAt p 6 1) n,
    kind := nAt p 4 1, out := outOf (nAt p 5 1), target := nAt p 8 4 }

/-- COMMIT (R28 to R36). -/
def execCommit (f : Nat) (s : State) : Host.Outcome State Fault Refusal :=
  .next (s.hostCommand f commitCard fun s c => s.commitCmd (commitReq f c.payload))

/-- A BAR2 write that also acts where its field acts: RETRAIN, RECAL_NOW (R10, R301, R324). -/
def State.writeBar2Act (s : State) (f : Nat) (b : Blk) (off w : Nat) : State :=
  let s1 := s.writeBar2 f b off w
  if !s.granted f b then s1
  else if b = .spl ∧ off = 0x808 then
    let s2 := if bitOf w 0 then s1.writeRetrain .A else s1
    if bitOf w 1 then s2.writeRetrain .B else s2
  else if b = .lne ∧ off < 0x80 ∧ off % 0x20 = 0xC ∧ bitOf w 0 = true then s1.markRecal (off / 0x20)
  else s1

/-- The windows that the entries of WRITE_FIELDS (`e` 16) or READ_FIELDS (`e` 8) name are granted. -/
def State.fieldsGranted (s : State) (c : Cmd) (e : Nat) : Bool :=
  (List.range (nAt c.payload 0 2)).all fun k =>
    match blkOf (nAt c.payload (8 + e * k) 1) with
    | none => false
    | some b => s.granted c.f b

/-- Reserved fields of WRITE_FIELDS and READ_FIELDS. -/
def fieldsReserved (e : Nat) (p : List Byte) : Bool :=
  allZero (bytesAt p 2 6) && (List.range (nAt p 0 2)).all fun k =>
    allZero (bytesAt p (8 + e * k + 1) 3) && nAt p (8 + e * k + 4) 4 % 4 == 0 && nAt p (8 + e * k + 4) 4 < 0x100000

/-- Entry k of WRITE_FIELDS (R498). -/
def State.writeEntry (s : State) (f : Nat) (p : List Byte) (k : Nat) : State :=
  match blkOf (nAt p (8 + 16 * k) 1) with
  | none => s
  | some b =>
    let off := nAt p (8 + 16 * k + 4) 4
    let m := nAt p (8 + 16 * k + 8) 4
    let r := s.readWord b off
    s.writeBar2Act f b off ((r &&& (0xFFFFFFFF - m)) ||| (nAt p (8 + 16 * k + 12) 4 &&& m))

/-- WRITE_FIELDS's card. -/
def writeFieldsCard : Card :=
  expertCard 0x111 (fun p => 8 + 16 * nAt p 0 2) (fun _ => 0) (fun s c => s.fieldsGranted c 16) (fieldsReserved 16)

/-- WRITE_FIELDS (R498). -/
def execWriteFields (f : Nat) (s : State) : Host.Outcome State Fault Refusal :=
  .next (s.hostCommand f writeFieldsCard fun s c =>
      let n := nAt c.payload 0 2
      if n = 0 ∨ 256 < n then .bad s stBadField
      else .ok ((List.range n).foldl (fun a k => a.writeEntry f c.payload k) s) [])

/-- The VALUE of entry k of READ_FIELDS (R499). -/
def State.readEntry (s : State) (p : List Byte) (k : Nat) : List Byte :=
  match blkOf (nAt p (8 + 8 * k) 1) with
  | none => zeros 4
  | some b => leBytes 4 (s.readWord b (nAt p (8 + 8 * k + 4) 4))

/-- A BAR2 read of TIME_LO latches TIME_HI (R251). -/
def State.latchTime (s : State) : State := { s with timeHi := s.us / 0x100000000 }

/-- Entries act in order: a read of TIME_LO latches TIME_HI for the entries after it. -/
def readEntries (p : List Byte) : List Nat → State → List Byte → List Byte × State
  | [], s, acc => (acc, s)
  | k :: ks, s, acc =>
    let v := s.readEntry p k
    let s1 := if nAt p (8 + 8 * k) 1 = 4 ∧ nAt p (8 + 8 * k + 4) 4 = 0x18 then s.latchTime else s
    readEntries p ks s1 (acc ++ v)

/-- READ_FIELDS's card. -/
def readFieldsCard : Card :=
  expertCard 0x112 (fun p => 8 + 8 * nAt p 0 2) (fun p => up8 (4 * nAt p 0 2)) (fun s c => s.fieldsGranted c 8)
    (fieldsReserved 8)

/-- READ_FIELDS (R499). -/
def execReadFields (f : Nat) (s : State) : Host.Outcome State Fault Refusal :=
  .next (s.hostCommand f readFieldsCard fun s c =>
      let n := nAt c.payload 0 2
      if n = 0 ∨ 512 < n then .bad s stBadField
      else
        let r := readEntries c.payload (List.range n) s []
        .ok r.2 (fitTo (up8 (4 * n)) r.1))

/-- RETRAIN's card. -/
def retrainCard : Card := hostCard 0x602 1 0 fun p => nAt p 0 1 ≤ 1

/-- RETRAIN (R291): acts as a write of 1 to RETRAIN of an output. -/
def execRetrain (f : Nat) (s : State) : Host.Outcome State Fault Refusal :=
  .next (s.hostCommand f retrainCard fun s c =>
    let o := outOf (nAt c.payload 0 1)
    if s.noOutB o then .bad s stBadField else .ok (s.writeRetrain o) [])

end Sys2Proof.Machine
end

