-- ==== Sys2Proof/Machine/Registers.lean ====
section
/-! DEFINITION. Accesses that reach the block without a command: BAR0 and BAR2 writes, the doorbells, the ring enables,
reads that have an effect, vectors held back, and the management port (R251, R460 to R474, R677). -/
namespace Sys2Proof.Machine

/-- Whether a function's memory accesses reach the block: the endpoint is ready and the function exists. -/
def State.hostOk (s : State) (f : Nat) : Bool := s.power.endpoint && (s.box f).present

/-! ### BAR0 (R462, R463) -/

/-- A ring's base pair with one word replaced. -/
def setHalf (base off w : Nat) : Nat :=
  if off % 8 = 0 then base / 0x100000000 * 0x100000000 + w else base % 0x100000000 + w * 0x100000000

/-- The vectors of a function (R457). -/
def vectorsOf (f : Nat) : Nat := if f = 0 then 64 else 8

/-- A write of an MSI-X table word; unmasking a vector whose pending bit is set sends it (the PCIe specification). -/
def Letterbox.writeMsix (b : Letterbox) (f off w : Nat) : Letterbox :=
  let v := off / 16
  if vectorsOf f ≤ v then b
  else
    let k := off % 16
    let b1 := { b with msix := tset (if k = 12 then 1 else 0) b.msix off
                        (BitVec.ofNat 32 (if k = 12 then w % 2 else if k = 0 then w / 4 * 4 else w)) }
    if k = 12 ∧ w % 2 = 0 ∧ v ∈ b1.pba then
      { b1 with pba := b1.pba.filter (· ≠ v), raised := tset 0 b1.raised v (tget 0 b1.raised v + 1) }
    else b1

/-- A write of one word of the letterbox page; words with a row of their own act there. -/
def Letterbox.writeWord (b : Letterbox) (f off w : Nat) : Letterbox :=
  if off = 0x18 then { b with evMask := w % 65536 }
  else if off = 0x20 ∨ off = 0x24 then (if b.sqEn then b else { b with sqBase := setHalf b.sqBase off w })
  else if off = 0x28 then (if b.sqEn then b else { b with sqSize := w % 8192 })
  else if off = 0x30 ∨ off = 0x34 then (if b.cqEn then b else { b with cqBase := setHalf b.cqBase off w })
  else if off = 0x38 then (if b.cqEn then b else { b with cqSize := w % 8192 })
  else if off = 0x40 ∨ off = 0x44 then (if b.eqEn then b else { b with eqBase := setHalf b.eqBase off w })
  else if off = 0x48 then (if b.eqEn then b else { b with eqSize := w % 8192 })
  else if off = 0x50 then { b with cqVec := fld w 0 6, eqVec := fld w 8 6, coalesce := fld w 16 10 }
  else if 0x2000 ≤ off ∧ off < 0x2400 then b.writeMsix f (off - 0x2000) w
  else b

/-- What a read of an aligned word of a function's letterbox page returns (R10, R462): RW fields as last written, RO fields
their current values, WO and unlisted words zero. -/
def State.readPage (s : State) (f off : Nat) : Nat :=
  let b := s.box f
  let r := s.rights f
  match off with
  | 0x0 => 0x31525A49
  | 0x4 => f
  | 0x8 => b2n r.host + 2 * b2n r.expert
  | 0xC => r.mask % 0x20000
  | 0x10 => b2n b.sqEn + 2 * b2n b.cqEn + 4 * b2n b.eqEn
  | 0x14 => b2n s.power.ready + 2 * b2n (b.running != 0)
  | 0x18 => b.evMask
  | 0x20 => w32 b.sqBase
  | 0x24 => b.sqBase / 0x100000000
  | 0x28 => b.sqSize
  | 0x30 => w32 b.cqBase
  | 0x34 => b.cqBase / 0x100000000
  | 0x38 => b.cqSize
  | 0x40 => w32 b.eqBase
  | 0x44 => b.eqBase / 0x100000000
  | 0x48 => b.eqSize
  | 0x50 => b.cqVec + 256 * b.eqVec + 65536 * b.coalesce
  | 0x60 => b.sqHead
  | 0x64 => b.cqTail
  | 0x68 => b.eqTail
  | 0x6C => b.eqDropped + 65536 * b.dbErr
  | 0x3000 => (b.pba.filter fun v => v < 32 && v < vectorsOf f).foldl (fun a v => a ||| 2 ^ v) 0
  | 0x3004 => (b.pba.filter fun v => 32 ≤ v && v < vectorsOf f).foldl (fun a v => a ||| 2 ^ (v - 32)) 0
  | _ =>
    if 0x2000 ≤ off ∧ off < 0x2000 + 16 * vectorsOf f then
      ((tfind b.msix (off - 0x2000)).getD (if off % 16 = 12 then 1 else 0)).toNat
    else 0

/-- What a read of an aligned word through a BAR returns (R10, R25, R460 to R462): zero from a window not granted; none
where the access does not reach the block. -/
def State.readBar (s : State) (f bar off : Nat) : Option Nat :=
  if !s.hostOk f then none
  else if bar = 0 then some (s.readPage f off)
  else if bar = 2 then
    some (match barBlk off with | some (b, o) => if s.granted f b then s.readWord b o else 0 | none => 0)
  else none

/-- One word written through a BAR. -/
def State.writeBarWord (s : State) (f bar off w : Nat) : State :=
  if bar = 0 then s.modBox f fun b => b.writeWord f off w
  else if bar = 2 then
    if !s.power.ready then s
    else match barBlk off with
      | none => s.violate 0
      | some (b, o) =>
        if (b = .spl ∧ o = 0x808) ∨ (b = .lne ∧ o < 0x80 ∧ o % 0x20 = 0xC) then s else s.writeBar2 f b o w
  else s

/-- REGISTER_WRITE (R460 to R463): aligned accesses of 4 or 8 bytes, an 8-byte one as two to the lower address first. -/
def execRegisterWrite (f bar off : Nat) (data : List Byte) (s : State) : Host.Outcome State Fault Refusal :=
  .next (if !s.hostOk f then s
    else if data.length = 4 ∧ off % 4 = 0 then s.writeBarWord f bar off (leNat data)
    else if data.length = 8 ∧ off % 8 = 0 then
      (s.writeBarWord f bar off (nAt data 0 4)).writeBarWord f bar (off + 4) (nAt data 4 4)
    else s)

/-- EXPERT_WINDOW_READ_DENIED (R460, R461): each word read of an ungranted window reads zero and is a violation. -/
def execExpertWindowReadDenied (f off size : Nat) (s : State) : Host.Outcome State Fault Refusal :=
  .next (if !s.hostOk f then s
    else match barBlk off with
      | none => s
      | some (b, _) =>
        if s.granted f b then s
        else if size = 4 ∧ off % 4 = 0 then { s.violate 0 with lastRead := zeros 4 }
        else if size = 8 ∧ off % 8 = 0 then { (s.violate 0).violate 0 with lastRead := zeros 8 }
        else { s with lastRead := zeros size })

/-- TIME_LO_READ (R251, R461). -/
def execTimeLoRead (f : Nat) (s : State) : Host.Outcome State Fault Refusal :=
  .next (if !s.hostOk f then s
    else if s.granted f .tvr then { s.latchTime with lastRead := leBytes 4 (w32 s.us) }
    else { s.violate 0 with lastRead := zeros 4 })

/-! ### Doorbells (R469, R471) -/

/-- A doorbell that is ignored. -/
def State.badDoorbell (s : State) (f : Nat) : State := s.modBox f fun b => { b with dbErr := sat 16 (b.dbErr + 1) }

/-- Completes the undefined opcodes that the ring may now fetch. -/
def State.drain (s : State) (f : Nat) : State := drainBad f (s.box f).ready.length s

/-- An entry of zeros, which host memory is taken to hold where the doorbell brings none. -/
def blankEntry : SqEntry := { raw := zeros 64, data := none, respOk := true }

/-- SQ_TAIL (R471). -/
def execSqTail (f val : Nat) (entries : List SqEntry) (s : State) : Host.Outcome State Fault Refusal :=
  let b := s.box f
  .next (if !s.hostOk f then s
    else if !s.power.ready || !b.sqEn || b.sqSize ≤ val then s.badDoorbell f
    else
      let n := (val + b.sqSize - b.sqTail) % b.sqSize
      let es := (List.range n).map fun i => entries.getD i blankEntry
      (s.modBox f fun b => { b with ready := b.ready ++ es, sqTail := val }).drain f)

/-- CQ_HEAD (R469, R471). -/
def execCqHead (f val : Nat) (s : State) : Host.Outcome State Fault Refusal :=
  let b := s.box f
  .next (if !s.hostOk f then s
    else
      let n := (val + b.cqSize - b.cqHead) % b.cqSize
      if !s.power.ready || !b.cqEn || b.cqSize ≤ val || b.cqHeldN < n then s.badDoorbell f
      else (s.modBox f fun b => { b with cq := b.cq.drop n, cqHead := val }).drain f)

/-- EQ_HEAD (R471). -/
def execEqHead (f val : Nat) (s : State) : Host.Outcome State Fault Refusal :=
  let b := s.box f
  .next (if !s.hostOk f then s
    else
      let n := (val + b.eqSize - b.eqHead) % b.eqSize
      if !s.power.ready || !b.eqEn || b.eqSize ≤ val || b.eqHeldN < n then s.badDoorbell f
      else s.modBox f fun b => { b with eq := b.eq.drop n, eqHead := val })

/-! ### Ring enables (R463, R464) -/

/-- A ring SIZE: a power of two from 16 to 4096 (R462). -/
def ringSizeOk (n : Nat) : Bool := n ∈ [16, 32, 64, 128, 256, 512, 1024, 2048, 4096]

/-- Whether a ring's EN takes effect (R463). -/
def State.enOk (s : State) (base size : Nat) : Bool := s.power.ready && base % 4096 == 0 && ringSizeOk size

/-- SQ_EN (R463, R464). -/
def execSqEn (f : Nat) (on : Bool) (s : State) : Host.Outcome State Fault Refusal :=
  let b := s.box f
  .next (if !s.hostOk f then s
    else if !on then s.modBox f fun b => { b with sqEn := false }
    else if b.sqEn || !s.enOk b.sqBase b.sqSize then s
    else s.modBox f fun b => { b with sqEn := true, sqHead := 0, sqTail := 0, ready := [], dbErr := 0 })

/-- The commands of a function in flight lose their completions (R464). -/
def State.muteCommands (s : State) (f : Nat) : State :=
  { s with
    chans := s.chans.map fun k => { k with subs := k.subs.map fun b => if b.func = f then { b with cmdId := muteId b.cmdId } else b },
    trust := { s.trust with
      admitQ := s.trust.admitQ.map fun a => if a.func = f then { a with entry := muteEntry a.entry } else a,
      pointCmds := s.trust.pointCmds.map fun a => if a.func = f then { a with entry := muteEntry a.entry } else a },
    ring := { s.ring with relays := s.ring.relays.map fun a => if a.func = f then { a with entry := muteEntry a.entry } else a },
    transom := { s.transom with
      loading := s.transom.loading.map fun r => if r.issuer = f then { r with cmdId := muteId r.cmdId } else r },
    cams := s.cams.map fun c =>
      { c with bus := c.bus.map fun j => if j.host = true ∧ j.func = f then { j with cmdId := muteId j.cmdId } else j } }

/-- CQ_EN (R463, R464, R469). -/
def execCqEn (f : Nat) (on : Bool) (s : State) : Host.Outcome State Fault Refusal :=
  let b := s.box f
  .next (if !s.hostOk f then s
    else if !on then (if b.cqEn then s.muteCommands f else s).modBox f fun b => { b with cqEn := false }
    else if b.cqEn || !s.enOk b.cqBase b.cqSize then s
    else (s.modBox f fun b =>
      { b with cqEn := true, cqHead := 0, cqTail := 0, cqPhase := true, cq := [], cqHeld := false, dbErr := 0 }).drain f)

/-- EQ_EN (R463, R464). -/
def execEqEn (f : Nat) (on : Bool) (s : State) : Host.Outcome State Fault Refusal :=
  let b := s.box f
  .next (if !s.hostOk f then s
    else if !on then s.modBox f fun b => { b with eqEn := false }
    else if b.eqEn || !s.enOk b.eqBase b.eqSize then s
    else s.modBox f fun b =>
      { b with eqEn := true, eqHead := 0, eqTail := 0, eqPhase := true, eq := [], eqHeld := false, evSeq := 0,
               eqDropped := 0, overflow := false, dbErr := 0 })

/-! ### Vectors held back (R474) -/

/-- VECTOR_COALESCE_EXPIRY (R474). -/
def execVectorCoalesceExpiry (f : Nat) (ring : RingSel) (s : State) : Host.Outcome State Fault Refusal :=
  let b := s.box f
  let at_ := fun (t : Option Nat) => (t.getD 0) + min b.coalesce 1000
  .next (match ring with
    | .cq =>
      if b.cqHeld then
        let s := s.atUs (at_ b.cqRaised)
        s.modBox f fun b => { b.fire b.cqVec with cqRaised := some s.us, cqHeld := false }
      else s
    | .eq =>
      if b.eqHeld then
        let s := s.atUs (at_ b.eqRaised)
        s.modBox f fun b => { b.fire b.eqVec with eqRaised := some s.us, eqHeld := false }
      else s)

/-! ### The management port (R677) -/

/-- SAFE: the most severe safe state on any output. -/
def State.worstSafe (s : State) : Nat := s.outs.foldl (fun a o => max a (s.safeOf o)) 0

/-- The two-byte field that begins at an index, if one does. -/
def State.mgmtWord (s : State) (i : Nat) : Option Nat :=
  match i with
  | 0x4 => some (if s.power.vmainValid then unsgn 16 (s.reading s.hottest) else 0)
  | 0x6 => some (sat 16 s.power.vmainMv)
  | 0x8 => some (sat 16 s.power.vauxMv)
  | 0xA => some (s.cellar.logSeq % 65536)
  | _ => none

/-- One byte register. -/
def State.mgmtByte (s : State) (i : Nat) : Nat :=
  match i with
  | 0 => 0x71
  | 1 => s.variant.code
  | 2 => s.worstSafe + 8 * b2n (!s.cellar.safeLow) + 16 * b2n s.power.vmainValid + 32 * b2n s.power.offHold
  | _ => 0

/-- Reads bytes with auto-increment; the first byte of a two-byte field latches the whole field. -/
def mgmtRead : Nat → State → List Byte → State × List Byte
  | 0, s, acc => (s, acc)
  | n + 1, s, acc =>
    let i := s.mgmtIdx
    let next := (i + 1) % 256
    match s.mgmtWord i with
    | some w => mgmtRead n { s with mgmtIdx := next, mgmtLatch := leBytes 2 w } (acc ++ leBytes 1 w)
    | none =>
      let v := if 4 ≤ i ∧ i < 12 then nAt s.mgmtLatch 1 1 else s.mgmtByte i
      mgmtRead n { s with mgmtIdx := next } (acc ++ leBytes 1 v)

/-- MGMT_I2C_TRANSFER (R677): data bytes written are acknowledged and ignored. -/
def execMgmtI2cTransfer (index : Nat) (wdata : List Byte) (rlen : Nat) (s : State) : Host.Outcome State Fault Refusal :=
  let _ := wdata
  .next (if !s.cellar.ctlRuns then s
    else
      let r := mgmtRead rlen { s with mgmtIdx := index % 256 } []
      { r.1 with lastRead := r.2 })

end Sys2Proof.Machine
end

