-- ==== Sys2Proof/Machine/Scene.lean ====
section
/-! DEFINITION. Scenes: what packets do to them, the ingest of an OPS stream, the scene store, and the scene commands
(R89 to R100, R102, R114 to R130, R480 to R482, R605, R684, R685). -/
namespace Sys2Proof.Machine

/-! ### Planes and packets (R95 to R102) -/

/-- The plane of a number. -/
def planeOf (ps : List Plane) (n : Nat) : Option Plane := ps.find? (·.num == n)

/-- Puts a plane at its place among rising numbers. -/
def putPlane (ps : List Plane) (p : Plane) : List Plane :=
  ps.filter (fun q => q.num < p.num) ++ [p] ++ ps.filter (fun q => p.num < q.num)

/-- Tile columns (R102). -/
def Plane.tw (p : Plane) : Nat := cdiv p.width 64
/-- Tile rows (R102). -/
def Plane.th (p : Plane) : Nat := cdiv p.height 64

/-- An empty tile without a relief value, as a plane's tiles are before any is sent. -/
def Tile.blank (t : Tile) : Bool := t.kind == 2 && t.relief == 0

/-- Puts tiles at linear indices from `first`. -/
def putTiles : Table Tile → Nat → List Tile → Table Tile
  | t, _, [] => t
  | t, k, x :: xs => putTiles (if x.blank then tdel t k else tput t k x) (k + 1) xs

/-- What a packet does to a scene (R98 to R100). -/
def applyOp (ps : List Plane) (op : SceneOp) : List Plane :=
  match op with
  | .header .. | .mark | .auth => ps
  | .define p =>
    match planeOf ps p.num with
    | none => putPlane ps p
    | some q => putPlane ps { p with tiles := if q.fmt = p.fmt ∧ q.width = p.width ∧ q.height = p.height
                                              then q.tiles else [] }
  | .clear n undef =>
    if undef then (if n = 0xFF then [] else ps.filter (·.num != n))
    else ps.map fun q => if n = 0xFF ∨ q.num = n then { q with tiles := [] } else q
  | .tiles n _ tx ty ts =>
    match planeOf ps n with
    | none => ps
    | some q => putPlane ps { q with tiles := putTiles q.tiles (ty * q.tw + tx) ts }

/-- Whether a packet defines a plane. -/
def SceneOp.defines (op : SceneOp) (n : Nat) : Bool :=
  match op with
  | .define p => p.num == n
  | _ => false

/-- REPLACE of a scene commit (R94): the spec speaks of one SCENE_HEADER in it; of several, any may set it, and the last
gives SCENE_ID (DESIGN CHOICE, log entry 95). -/
def replaces (pkts : List ScenePkt) : Bool :=
  pkts.any fun k => match k.op with | .header _ r => r | _ => false

/-- A scene with a whole scene commit applied (R94, R115). -/
def applyCommit (ps : List Plane) (pkts : List ScenePkt) : List Plane :=
  let qs := pkts.foldl (fun a k => applyOp a k.op) ps
  if replaces pkts then qs.filter fun q => pkts.any fun k => k.op.defines q.num else qs

/-- The latest SCENE_ID of a commit. -/
def commitSceneId (pkts : List ScenePkt) (old : Nat) : Nat :=
  pkts.foldl (fun a k => match k.op with | .header i _ => i | _ => a) old

/-- R684: the first packet that a scene does not allow, with the cause. -/
def sceneFault : List Plane → List ScenePkt → Option (Nat × Nat)
  | _, [] => none
  | ps, k :: ks =>
    let bad : Option Nat := match k.op with
      | .clear n _ => if n ≠ 0xFF ∧ (planeOf ps n).isNone then some 8 else none
      | .tiles n fmt tx ty ts =>
        match planeOf ps n with
        | none => some 8
        | some q =>
          if q.tw ≤ tx ∨ q.tw * q.th < ty * q.tw + tx + ts.length then some 9 else if q.fmt ≠ fmt then some 0xB else none
      | _ => none
    match bad with
    | some c => some (c, k.seq)
    | none => sceneFault (applyOp ps k.op) ks

/-- Plane slots of a scene (R77, R119). -/
def planeSlots (ps : List Plane) : Nat := (ps.map fun p => if p.fmt = 2 then 2 else 1).sum

/-- Whether a scene commit has still to reach an output. -/
def SceneCommit.needs (k : SceneCommit) : OutId → Bool
  | .A => k.needA
  | .B => k.needB

/-- The scene that the packets of a channel refer to at ingest: output A's, with the pending commits, then the open one. -/
def Channel.view (k : Channel) : List Plane :=
  let base := (k.pending.filter (·.needA)).foldl (fun a c => applyCommit a c.pkts) k.sceneA
  k.openPkts.foldl (fun a p => applyOp a p.op) base

/-! ### Receipts (R480, R481) -/

/-- The ASCII bytes of RCP, OPS and PNT. -/
def csRcp : List Byte := [0x52, 0x43, 0x50]
def csOps : List Byte := [0x4F, 0x50, 0x53]
def csPnt : List Byte := [0x50, 0x4E, 0x54]

/-- The first 16 bytes of a KMAC256 of 256 bits. -/
def kmacTag (key msg custom : List Byte) : List Byte := (kmac256 key msg custom 32).take 16

/-- A receipt under a receipt key; a refused input's TAG is zero. -/
def receiptOf (key : Option (List Byte)) (session kind seq time : Nat) : List Byte :=
  let b := leBytes 2 session ++ leBytes 1 kind ++ zeros 5 ++ leBytes 8 seq ++ leBytes 8 time
  b ++ (match key with | none => zeros 16 | some k => kmacTag k (b ++ [1]) csRcp)

/-- An open session. -/
def State.sessionOf (s : State) (n : Nat) : Option Session := s.trust.sessions.find? (·.num == n)

/-- A receipt issued now. -/
def State.receipt (s : State) (session kind seq : Nat) (ok : Bool) : List Byte :=
  receiptOf (if ok then (s.sessionOf session).map (·.rcpKey) else none) session kind seq s.us

/-- Updates an open session. -/
def State.modSession (s : State) (n : Nat) (g : Session → Session) : State :=
  s.modTrust fun t => { t with sessions := t.sessions.map fun x => if x.num = n then g x else x }

/-! ### Checks at ingest (R126) -/

/-- TYPE of a packet. -/
def opsType (p : List Byte) : Nat := nAt p 0 1
/-- PACKET_SEQ. -/
def opsSeq (p : List Byte) : Nat := nAt p 8 4
/-- Whether R122 asks for a tag behind a packet. -/
def opsCovered (p : List Byte) : Bool := 2 ≤ opsType p && opsType p ≤ 5

/-- HCRC holds (R89). -/
def opsCrcOk (p : List Byte) : Bool := nAt p 12 4 == (crc32 (p.take 12 ++ zeros 4 ++ p.drop 16)).toNat

/-- Where the INDEX of a TILE_GROUP begins. -/
def tgIndex (p : List Byte) : Nat := 0x18 + 16 * nAt p 0x11 1
/-- TILE_LEN of each tile. -/
def tgLens (p : List Byte) : List Nat := (List.range (nAt p 0x12 2)).map fun t => nAt p (tgIndex p + 4 * t) 3
/-- Where the tiles begin. -/
def tgTiles (p : List Byte) : Nat := tgIndex p + 4 * nAt p 0x12 2

/-- LENGTH agrees with the packet's own fields (R90, R100). -/
def opsLenOk (p : List Byte) : Bool :=
  match opsType p with
  | 1 | 2 | 5 => p.length == 32
  | 4 => p.length == 24
  | 6 => p.length == 48
  | 3 =>
    0x18 ≤ p.length && tgTiles p ≤ p.length && p.length == up8 (tgTiles p + (tgLens p).sum)
  | _ => true

/-- The bytes of each tile of a group. -/
def cutTiles : List Nat → List Byte → List (List Byte)
  | [], _ => []
  | n :: ns, bs => bs.take n :: cutTiles ns (bs.drop n)

/-- The tiles of a group, as bytes. -/
def tgBytes (p : List Byte) : List (List Byte) := cutTiles (tgLens p) (p.drop (tgTiles p))

/-- The dynamic tables of a group, as bytes. -/
def tgTables (p : List Byte) : List (List Byte) := (List.range (nAt p 0x11 1)).map fun i => bytesAt p (0x18 + 16 * i) 16

/-- Cause 0x04: reserved fields, reserved encodings and ranges outside tiles and tables. -/
def opsFieldsOk (e1 locked : Bool) (p : List Byte) : Bool :=
  nAt p 3 1 == 0 &&
  match opsType p with
  | 1 => nAt p 0x14 1 < 2 && nAt p 0x15 1 == 0 && allZero (bytesAt p 0x18 8)
         && (nAt p 0x16 2 < 16384 || nAt p 0x16 2 == 0xFFFF)
  | 2 =>
    nAt p 0x10 1 < 64 && nAt p 0x11 1 < 3 && nAt p 0x12 1 < 8 && nAt p 0x13 1 == 0
    && 1 ≤ nAt p 0x14 2 && nAt p 0x14 2 ≤ 32768 && 1 ≤ nAt p 0x16 2 && nAt p 0x16 2 ≤ 32768
    && (sgn 16 (nAt p 0x18 2)).natAbs ≤ 4096 && allZero (bytesAt p 0x1A 6)
  | 3 =>
    nAt p 0x10 1 < 64 && nAt p 0x11 1 ≤ 4 && 1 ≤ nAt p 0x12 2 && nAt p 0x12 2 ≤ 256
    && (List.range (nAt p 0x12 2)).all (fun t => nAt p (tgIndex p + 4 * t + 3) 1 == 0)
    && allZero (p.drop (tgTiles p + (tgLens p).sum))
  | 4 => (nAt p 0x10 1 < 64 || nAt p 0x10 1 == 0xFF) && nAt p 0x11 1 < 2 && allZero (bytesAt p 0x12 6)
  | 5 =>
    nAt p 0x10 1 < 2 && allZero (bytesAt p 0x12 2) && allZero (bytesAt p 0x1C 4)
    && (nAt p 0x10 1 == 0 || locked || (nAt p 0x11 1 < 2 && !(e1 && nAt p 0x11 1 == 1)))
  | _ => allZero (bytesAt p 0x12 6)

/-- Causes 0x08 to 0x0B against the scene that a packet refers to (R98 to R104, R124); 0 for none. -/
def opsSceneCause (view : List Plane) (p : List Byte) : Nat :=
  match opsType p with
  | 4 => if nAt p 0x10 1 ≠ 0xFF ∧ (planeOf view (nAt p 0x10 1)).isNone then 8 else 0
  | 3 =>
    match planeOf view (nAt p 0x10 1) with
    | none => 8
    | some q =>
      let first := nAt p 0x16 2 * q.tw + nAt p 0x14 2
      if q.tw ≤ nAt p 0x14 2 ∨ q.tw * q.th < first + nAt p 0x12 2 then 9
      else
        let tabs := tgTables p
        let dyn := tabs.map dynLens
        let bs := tgBytes p
        if !(tabs.all dynZero && dyn.all lensValid && bs.all fun b => (parseTile dyn b).tablesPresent) then 0xA
        else if bs.all fun b => tileForm q.fmt b && ((parseTile dyn b).texels q.fmt).isSome then 0 else 0xB
  | _ => 0

/-- The cause of R126 that a packet meets first, or 0. A member judges neither channel nor sequence (R605). -/
def State.opsCause (s : State) (c : Nat) (member : Bool) (p : List Byte) : Nat :=
  let k := s.chan c
  if !opsLenOk p then 2
  else if !opsCrcOk p then 1
  else if opsType p = 0 ∨ 6 < opsType p ∨ nAt p 1 1 ≠ 1 then 3
  else if !opsFieldsOk (s.variant == .E1) s.locked p then 4
  else if !member && nAt p 2 1 != c then 5
  else if !member && opsType p != 1 && !k.headerSeen then 7
  else if !member && opsType p != 1 && opsSeq p != w32 (k.lastSeq + 1) then 6
  else opsSceneCause k.view p

/-- The tiles of a group, from where their bytes begin in the packet. -/
def placeTiles (bufs : List Nat) (off : Nat) (tables : List Nat) (dyn : List (List Nat)) : Nat → List (List Byte) → List Tile
  | _, [] => []
  | a, b :: bs =>
    let t := parseTile dyn b
    { t with bufs := (bufsOf bufs (off + a) b.length ++ if t.kind = 0 then tables else []).eraseDups,
             off := (off + a) % storeBuf } :: placeTiles bufs off tables dyn (a + b.length) bs

/-- The effect of a well-formed packet, with the buffers that hold it and its offset in the first. -/
def opsEffect (view : List Plane) (p : List Byte) (bufs : List Nat) (off : Nat) : SceneOp :=
  match opsType p with
  | 1 => .header (nAt p 0x10 4) (bitOf (nAt p 0x14 1) 0)
  | 2 =>
    .define { num := nAt p 0x10 1, fmt := nAt p 0x11 1, filter := bitOf (nAt p 0x12 1) 0, rscale := fld (nAt p 0x12 1) 1 2,
              width := nAt p 0x14 2, height := nAt p 0x16 2, disp := sgn 16 (nAt p 0x18 2), tiles := [] }
  | 3 =>
    match planeOf view (nAt p 0x10 1) with
    | none => .auth
    | some q =>
      .tiles q.num q.fmt (nAt p 0x14 2) (nAt p 0x16 2)
        (placeTiles bufs off (if tgTables p = [] then [] else bufsOf bufs off (tgTiles p)) ((tgTables p).map dynLens) (tgTiles p)
          (tgBytes p))
  | 4 => .clear (nAt p 0x10 1) (nAt p 0x11 1 == 1)
  | 5 => .mark
  | _ => .auth

/-! ### Ring forwarding (R605) -/

/-- The bytes of a SCENE packet's body. -/
def sceneBody (c flags base pos : Nat) (bs : List Byte) : List Byte :=
  leBytes 1 c ++ leBytes 1 flags ++ zeros 2 ++ leBytes 4 base ++ leBytes 8 pos ++ bs

/-- The head forwards an accepted packet. -/
def State.forwardOps (s : State) (c : Nat) (p : List Byte) : State :=
  if s.isHead then
    (fragments p).foldl (fun a f =>
      (a.sendBoth 1 0 0xFFFF (sceneBody c 0 (a.frameOf .A) (a.chan c).fwdPos f)).modChan c
        fun k => { k with fwdPos := k.fwdPos + f.length }) s
  else s

/-- The head tells the members that an open scene commit is discarded. -/
def State.forwardDiscard (s : State) (c : Nat) : State :=
  if s.isHead then s.sendBoth 1 0 0xFFFF (sceneBody c 1 (s.frameOf .A) (s.chan c).fwdPos []) else s

/-! ### Discards (R123, R125, R126) -/

/-- The function that a channel's events go to (R473). -/
def State.streamFunc (s : State) (c : Nat) : Nat := fld (s.lv .scn .A (4 * c)) 0 6

/-- STREAM_EN, live. -/
def State.streamEn (s : State) (c : Nat) : Bool := bitOf (s.lv .scn .A (4 * c)) 7

/-- Updates the submission in progress. -/
def Channel.modSub (k : Channel) (g : Submission → Submission) : Channel :=
  match k.subs with
  | [] => k
  | b :: bs => { k with subs := g b :: bs }

/-- OPS_ERROR (R510). -/
def State.opsError (s : State) (c cause seq n : Nat) : State :=
  s.event (s.streamFunc c) 0x8201 (leBytes 1 c ++ leBytes 1 cause ++ zeros 2 ++ leBytes 4 seq ++ leBytes 4 n)

/-- Whether a packet's effect is one that R122 covers. -/
def SceneOp.covered (op : SceneOp) : Bool :=
  match op with
  | .define _ | .clear .. | .tiles .. | .mark => true
  | _ => false

/-- Whether one of the latest `n` packets of a list is covered. -/
def coveredTail (ps : List ScenePkt) (n : Nat) : Bool := (ps.drop (ps.length - n)).any (·.op.covered)

/-- The open scene commit is dropped and the channel skips (R125). -/
def Channel.dropOpen (k : Channel) (auth : Bool) : Channel :=
  { k with openPkts := [], covered := none, orphan := false, skipping := true, authSkip := auth }

/-- A failed check, or `nfail` 0 where no packet at hand fails: the open commit and the failing packet are discarded,
counted, and reported once. -/
def State.failOps (s : State) (c cause seq nfail : Nat) (covered : Bool) : State :=
  let k := s.chan c
  let n := k.openPkts.length + nfail
  let s := s.modChan c fun k =>
    ({ k with discarded := sat 32 (k.discarded + n) }.modSub fun b =>
      { b with accepted := b.accepted - b.inOpen, discarded := b.discarded + b.inOpen + nfail, inOpen := 0,
               cause := if b.cause = 0 then cause else b.cause,
               allOk := b.allOk && !covered && !coveredTail k.openPkts b.inOpen }).dropOpen false
  (s.opsError c cause seq n).forwardDiscard c

/-- A packet breaks R122 (R123): discarded silently, one violation, reported as accepted. `n` is 1 where the packet at
hand breaks it, 0 where the one before does. -/
def State.breakAuth (s : State) (c n : Nat) : State :=
  ((s.violate 5).modChan c fun k =>
    (k.modSub fun b => { b with accepted := b.accepted + n, inOpen := 0, allOk := false }).dropOpen true).forwardDiscard c

/-- A packet met while skipping (R125, R123). -/
def State.skipOps (s : State) (c : Nat) (p : List Byte) (prot : Bool) : State :=
  let auth := (s.chan c).authSkip
  let s := s.modChan c fun k =>
    { k with discarded := if auth then k.discarded else sat 32 (k.discarded + 1) }.modSub fun b =>
      { b with accepted := if auth then b.accepted + 1 else b.accepted,
               discarded := if auth then b.discarded else b.discarded + 1, allOk := b.allOk && !opsCovered p }
  if opsType p = 5 ∧ opsLenOk p = true ∧ opsCrcOk p = true ∧ nAt p 1 1 = 1 then
    s.modChan c fun k => { k with skipping := false, authSkip := false, lastSeq := opsSeq p,
                                  covered := if prot then some p else none, orphan := prot }
  else s

/-! ### Acceptance (R115 to R122) -/

/-- The open packets become a scene commit that waits for its doorway (R114 to R117). `markBase` is the head's frame
number where the mark came over the ring. -/
def State.closeScene (s : State) (c : Nat) (m : List Byte) (markBase : Option Nat) : State :=
  let o := if s.locked then OutId.A else outOf (nAt m 0x11 1)
  let t : Target :=
    if nAt m 0x10 1 = 1 then .frame o (nAt m 0x14 4)
    else match markBase with
      | some b => .frame .A (w32 (b + 2))
      | none => if s.isHead then .frame .A (w32 (s.frameOf .A + 2)) else .next
  let free := match t with | .frame .. => s.locked | _ => true
  s.modChan c fun k =>
    let new : SceneCommit := { pkts := k.openPkts, markSeq := opsSeq m, markId := nAt m 0x18 4, target := t,
                               needA := true, needB := s.variant == .E2, fixA := none, fixB := none,
                               openA := free || (match t with | .frame o _ => o == .A | _ => true),
                               openB := free || (match t with | .frame o _ => o == .B | _ => true), judged := false, answered := false, waits := [] }
    Channel.modSub { k with openPkts := [], pending := k.pending ++ [new] } fun b => { b with inOpen := 0 }

/-- R122: a tag that covers a packet. -/
def State.opsTagOk (s : State) (c : Nat) (cov p : List Byte) : Bool :=
  let n := nAt p 0x10 2
  n == (s.chan c).session && n != 0xFFFF &&
  match s.sessionOf n with
  | none => false
  | some x =>
    x.highSeq < nAt p 0x18 8
    && (match s.trust.pkg with | none => false | some g => bitOf ((g.sources[x.srcKey]?).elim 0 (·.chans)) c)
    && bytesAt p 0x20 16 == kmacTag x.updKey (bytesAt p 0x18 8 ++ cov) csOps

/-- An accepted packet goes into the store and the journal and joins the open commit; a COMMIT_MARK, or in a protected
channel its tag, closes the commit. -/
def State.takeOps (s : State) (c : Nat) (p : List Byte) (prot : Bool) (markBase : Option Nat)
    (at_ : List Nat × Nat × Nat) : State :=
  let k := s.chan c
  let isTag := opsType p == 6
  let off := if (s.chan c).tailBuf = at_.1.head? then (s.chan c).curOff else 0
  let pkt : ScenePkt := { seq := opsSeq p, op := opsEffect k.view p at_.1 off, bufs := at_.1 }
  let orphanTag := prot && isTag && k.orphan
  let s := (s.endPauses.journal (.scene c (opsSeq p) p.length) false).modChan c fun k =>
    { k with openPkts := if orphanTag then k.openPkts else k.openPkts ++ [pkt], lastSeq := opsSeq p,
             headerSeen := true, session := if opsType p = 1 then nAt p 0x16 2 else k.session,
             covered := if prot && opsCovered p then some p else none, orphan := false,
             curBuf := some at_.2.1, curOff := at_.2.2, paused := none }.modSub fun b =>
      { b with accepted := b.accepted + 1, inOpen := if orphanTag then b.inOpen else b.inOpen + 1 }
  let s := if prot ∧ isTag = true then s.modSession (nAt p 0x10 2) fun x => { x with highSeq := nAt p 0x18 8 } else s
  match prot, isTag, k.covered with
  | true, true, some m =>
    if orphanTag then s
    else
      let s := (s.forwardOps c m).forwardOps c p
      if opsType m = 5 then s.closeScene c m markBase else s
  | true, _, _ => if opsCovered p then s else s.forwardOps c p
  | false, _, _ =>
    let s := s.forwardOps c p
    if opsType p = 5 then s.closeScene c p markBase else s

/-- The store pauses a channel (R129). -/
def State.pauseOps (s : State) (c : Nat) (p : List Byte) : State :=
  if s.pausedNow c then s
  else (s.modChan c fun k => { k with paused := some (s.us, opsSeq p, p.length) }).eventAll 0x8202
    (leBytes 1 c ++ zeros 3 ++ leBytes 2 s.storeBuffers)

/-- What ingest did with a packet: nothing yet, took it, or ended the submission with it. -/
inductive Ing where
  | waits
  | took
  | ends
  deriving DecidableEq, Repr

/-- One whole packet at ingest, not skipped. In a protected channel a packet that fails a check of R126 and also breaks
R122 is reported under R126 and counts no violation (DESIGN CHOICE, log entry 101). -/
def State.freshOps (s : State) (c : Nat) (p : List Byte) (prot member : Bool) (markBase : Option Nat) : State × Ing :=
  let cause := s.opsCause c member p
  if cause ≠ 0 then
    (s.failOps c cause (opsSeq p) 1 (opsCovered p || cause == 2), if cause = 2 then .ends else .took)
  else
    let k := s.chan c
    if prot && k.covered.isSome && !k.orphan && opsType p != 6 then
      let s := s.breakAuth c 0
      if opsType p = 1 then
        let s := s.modChan c fun k => { k with skipping := false, authSkip := false }
        match s.storePlace c p.length with
        | none => (s.pauseOps c p, .waits)
        | some at_ => (s.takeOps c p prot markBase at_, .took)
      else (s.skipOps c p prot, .took)
    else if prot && opsType p == 6 && !(match k.covered with | none => false | some m => s.opsTagOk c m p) then
      (s.breakAuth c 1, .took)
    else match s.storePlace c p.length with
      | none => (s.pauseOps c p, .waits)
      | some at_ => (s.takeOps c p prot markBase at_, .took)

/-- Whether a packet met while skipping ends the skip by being a SCENE_HEADER. -/
def headerPkt (p : List Byte) : Bool := opsType p == 1 && opsLenOk p && opsCrcOk p && nAt p 1 1 == 1

/-- One whole packet at ingest (R123 to R126). -/
def State.ingestOps (s : State) (c : Nat) (p : List Byte) (prot member : Bool) (markBase : Option Nat) : State × Ing :=
  let k := s.chan c
  if k.skipping && !headerPkt p then (s.skipOps c p prot, .took)
  else
    (s.modChan c fun k => { k with skipping := false, authSkip := false }).freshOps c p prot member markBase

/-! ### Submissions (R92, R127, R482) -/

/-- The response of SUBMIT_OPS. -/
def State.submitResp (s : State) (c : Nat) (b : Submission) : List Byte :=
  let k := s.chan c
  let ok := b.allOk && (k.covered.isNone || k.orphan)
  let rc := if s.protectedChan c then
      (if b.hasTag then s.receipt b.session 2 b.highSeq ok else receiptOf none 0 2 0 s.us)
    else zeros 40
  leBytes 4 b.accepted ++ leBytes 4 b.discarded ++ leBytes 1 b.cause ++ zeros 7 ++ rc

/-- What a channel has taken so far is answered (R566). -/
def Channel.answer (k : Channel) : Channel :=
  { k with ans := { headerSeen := k.headerSeen, lastSeq := k.lastSeq, skipping := k.skipping, authSkip := k.authSkip,
                    orphan := k.orphan, openPkts := k.openPkts, covered := k.covered, session := k.session },
           pending := k.pending.map fun p => { p with answered := true } }

/-- Completes the submission at the head of a channel's queue; its journal entries are answered with it (R566). -/
def State.endSub (s : State) (c status : Nat) : State :=
  match (s.chan c).subs with
  | [] => s
  | b :: bs =>
    let resp := if status = stOk then s.submitResp c b else zeros 56
    let s := s.modChan c fun k =>
      Channel.answer { k with subs := bs, paused := none }
    let s := s.modBox b.func fun x => x.postCompletion s.us b.cmdId status 0 b.respLen b.respOk resp
    s.modCellar fun l =>
      { l with journal := l.journal.map fun e => match e.1 with
                 | .scene n _ _ => if n = c then (e.1, true) else e
                 | _ => e }

/-- Completes submissions that have been read to their ends. -/
def State.subDone (s : State) (c : Nat) : State :=
  match (s.chan c).subs with
  | [] => s
  | b :: _ => if b.total ≤ b.pos then s.endSub c stOk else s

/-- Moves the submission in progress on. -/
def State.advance (s : State) (c n : Nat) : State := (s.modChan c fun k => k.modSub fun b => { b with pos := b.pos + n }).subDone c

/-- Notes an AUTH_TAG of the submission for its receipt (R482): the highest SEQUENCE. -/
def State.noteTag (s : State) (c : Nat) (p : List Byte) : State :=
  if opsType p = 6 ∧ p.length = 48 ∧ opsCrcOk p = true ∧ nAt p 1 1 = 1 then
    s.modChan c fun k => k.modSub fun b =>
      if b.hasTag ∧ nAt p 0x18 8 ≤ b.highSeq then b
      else { b with hasTag := true, highSeq := nAt p 0x18 8, session := nAt p 0x10 2 }
  else s

/-- A packet that cannot be framed, or whose read `failed`, ends the submission, as for cause 0x02 (R125, R127). Met while
the channel skips, it raises no event; it is the first cause met where none came before, unless R123 reports it as
accepted (DEDUCED, log entry 99). -/
def State.unframed (s : State) (c seq : Nat) (failed : Bool) : State :=
  let k := s.chan c
  if k.skipping then
    s.modChan c fun k =>
      { k with discarded := if k.authSkip then k.discarded else sat 32 (k.discarded + 1) }.modSub fun b =>
        { b with accepted := if k.authSkip then b.accepted + 1 else b.accepted,
                 discarded := if k.authSkip then b.discarded else b.discarded + 1, allOk := false,
                 cause := if b.cause = 0 ∧ (failed = true ∨ k.authSkip = false) then 2 else b.cause }
  else s.failOps c 2 seq 1 true

/-- Whether a channel takes the next packet of its submission in progress: it is enabled, fewer than 8 scene commits are
pending and the journal has room (R92, R118, R571). -/
def State.mayIngest (s : State) (c : Nat) : Bool :=
  let k := s.chan c
  match k.subs with
  | [] => false
  | b :: _ => k.enabled && k.pending.length < 8 && s.journalRoom && b.pos < b.total

/-- OPS_PACKET: the next packet of the submission in progress is ingested (R124 to R127). `bytes` are the submission's
bytes from its position on, as the DMA read brings them; a failed read brings its header only where 16 bytes
arrived; of fewer, PACKET_SEQ is reported as 0 (DESIGN CHOICE, log entry 100). -/
def State.opsPacket (s : State) (c : Nat) (bytes : List Byte) (readOk : Bool) : State :=
  let k := s.chan c
  match k.subs with
  | [] => s
  | b :: _ =>
    let left := b.total - b.pos
    if !s.mayIngest c then s
    else
      let n := nAt bytes 4 4
      if !readOk then
        (s.unframed c (if 16 ≤ bytes.length then opsSeq bytes else w32 (k.lastSeq + 1)) true).advance c left
      else if left < 16 ∨ n % 8 ≠ 0 ∨ n < 16 ∨ 16777216 < n ∨ left < n then
        -- fewer than 16 bytes left hold no PACKET_SEQ: 0 (DESIGN CHOICE, log entry 100)
        (s.unframed c (if left < 16 then 0 else opsSeq bytes) false).advance c left
      else
        let p := bytesAt bytes 0 n
        let r := (s.noteTag c p).ingestOps c p (s.protectedChan c) false none
        match r.2 with
        | .waits => r.1
        | .took => r.1.advance c n
        | .ends => r.1.advance c left

/-- STORE_PAUSE_TIMEOUT (R129): 250 ms after the pause began. On a ring's member the discard is fault 0x1005. -/
def execStorePauseTimeout (c : Nat) (s : State) : Host.Outcome State Fault Refusal :=
  .next (match (s.chan c).paused with
    | none => s
    | some (t, seq, len) =>
      if !s.pausedNow c then s else
      let s := (s.atUs (t + 250000)).modChan c fun k => { k with paused := none }
      let s := s.failOps c 0xD seq 1 true
      if (s.chan c).subs = [] then
        (s.modChan c fun k => { k with rxQueue := k.rxQueue.drop 1 }).fault
          { code := 0x1005, cls := 2, island := 255, detail := c, force := .none }
      else s.advance c len)

/-! ### Compaction (R128) -/

/-- Bytes that a tile takes in the store. -/
def Tile.storeLen (t : Tile) : Nat := 16 + t.body.length

/-- Bytes of a tile that lie in a buffer. -/
def Tile.bytesIn (t : Tile) (b : Nat) : Nat :=
  let head := min t.storeLen (storeBuf - t.off)
  if t.bufs[0]? = some b then head else if t.bufs[1]? = some b then t.storeLen - head else 0

/-- The tiles of live scenes of a channel. -/
def Channel.liveTiles (k : Channel) : List Tile :=
  ((k.sceneA ++ k.sceneB).flatMap fun p => p.tiles.map (·.2)).eraseDups

/-- Buffers less than half live that hold live tiles only. -/
def State.sparseBufs (s : State) : List Nat :=
  let open_ := s.chans.flatMap fun k => k.openPkts.flatMap (·.bufs) ++ k.pending.flatMap fun c => c.pkts.flatMap (·.bufs)
  let cur := s.chans.filterMap (·.curBuf)
  s.usedBufs.filter fun b =>
    !(b ∈ open_) && !(b ∈ cur)
    && ((s.chans.flatMap fun k => k.liveTiles.map (·.bytesIn b)).sum < storeBuf / 2)

/-- Replaces a tile in a scene. -/
def moveTile (ps : List Plane) (old new : Tile) : List Plane :=
  ps.map fun p => { p with tiles := p.tiles.map fun e => if e.2 = old then (e.1, new) else e }

/-- Moves one live tile of a channel to the end of its chain, when there is room. -/
def State.moveLive (s : State) (c : Nat) (t : Tile) : State :=
  match s.storePlace c t.storeLen with
  | none => s
  | some at_ =>
    let new := { t with bufs := at_.1, off := if (s.chan c).tailBuf = at_.1.head? then (s.chan c).curOff else 0 }
    s.endPauses.modChan c fun k =>
      { k with sceneA := moveTile k.sceneA t new, sceneB := moveTile k.sceneB t new, curBuf := some at_.2.1,
               curOff := at_.2.2 }

/-- STORE_COMPACTION (R128). -/
def execStoreCompaction (s : State) : Host.Outcome State Fault Refusal :=
  .next (if s.storeBuffers ≤ 8 * s.freeBuffers then s
    else
      let sparse := s.sparseBufs
      (List.range 4).foldl (fun a c =>
        ((a.chan c).liveTiles.filter fun t => t.bufs.any (· ∈ sparse)).foldl (fun b t => b.moveLive c t) a) s)

/-! ### Commands -/

/-- The function that a channel's live STREAM_FUNC names, or the PF (R492). -/
def State.holder (s : State) (f c : Nat) : Bool := f == 0 || (c < 4 && f == s.streamFunc c)

/-- SUBMIT_OPS's card: any function within R92. A member's channels take no submissions (R605). -/
def submitOpsCard : Card :=
  { hostCard 0x200 32 56 (fun p => allZero (bytesAt p 1 7) && allZero (bytesAt p 0x14 12)) with
    judged4 := true
    rights := fun s c => !s.isMember && (4 ≤ nAt c.payload 0 1 || c.f == s.streamFunc (nAt c.payload 0 1)) }

/-- SUBMIT_OPS (R92, R127). -/
def execSubmitOps (f : Nat) (s : State) : Host.Outcome State Fault Refusal :=
  .next (s.hostCommand f submitOpsCard fun s c =>
    let ch := nAt c.payload 0 1
    let len := nAt c.payload 0x10 4
    if 4 ≤ ch ∨ nAt c.payload 8 8 % 8 ≠ 0 ∨ len % 8 ≠ 0 ∨ len < 8 ∨ 67108864 < len then .bad s stBadField
    else if !(s.chan ch).enabled then .bad s stNotReady
    else
      let sub : Submission :=
        { func := f, cmdId := c.cmdId, respLen := c.respLen, respOk := c.e.respOk,
          total := len, pos := 0, accepted := 0, discarded := 0, cause := 0, session := 0, highSeq := 0,
          hasTag := false, allOk := true, inOpen := 0 }
      { CmdRes.ok (s.modChan ch fun k => { k with subs := k.subs ++ [sub] }) [] with later := true })

/-- The commit to a next frame doorway that a basic command makes. -/
def nextCommit (f : Nat) (blks : List Blk) (o : OutId) : CommitReq :=
  { issuer := f, blks := blks, ports := [], kind := 0, out := o, target := 0 }

/-- Whether a basic command that commits mirrored blocks may act on this controller (R603). -/
def State.mayMirror (s : State) (blks : List Blk) : Bool := !(s.isMember && blks.any (·.mirrored))

/-- SET_STREAM's card. -/
def setStreamCard : Card :=
  { hostCard 0x201 3 16 (fun p => nAt p 2 1 < 2) with
    rights := fun s c => s.holder c.f (nAt c.payload 0 1) && s.mayMirror [.scn], journals := true }

/-- SET_STREAM (R491, R492). -/
def execSetStream (f : Nat) (s : State) : Host.Outcome State Fault Refusal :=
  .next (s.hostCommand f setStreamCard fun s c =>
      let ch := nAt c.payload 0 1
      let fn := nAt c.payload 1 1
      if 4 ≤ ch ∨ s.numVfs < fn ∨ 31 < fn then .bad s stBadField
      else
        s.writeCommit (fun s => s.writeWord .scn (4 * ch) (fn + 128 * nAt c.payload 2 1)) (nextCommit f [.scn] .A))

/-- GET_SCENE's card. -/
def getSceneCard : Card := hostCard 0x202 1 13 noReserved

/-- GET_SCENE (R494). -/
def execGetScene (f : Nat) (s : State) : Host.Outcome State Fault Refusal :=
  .next (s.hostCommand f getSceneCard fun s c =>
    let ch := nAt c.payload 0 1
    if 4 ≤ ch then .bad s stBadField
    else
      .ok s (leBytes 4 (s.sceneId ch) ++ leBytes 4 (s.chan ch).discarded ++ leBytes 2 s.freeBuffers
        ++ leBytes 1 (s.ingest ch) ++ leBytes 1 (s.chan ch).pending.length
        ++ leBytes 1 (b2n (s.protectedChan ch) + 2 * b2n (s.streamEn ch))))

end Sys2Proof.Machine
end

