-- ==== Sys2Proof/Machine/Front.lean ====
section
/-! DEFINITION. The front plane: what a glyph renderer draws of a region, what a composer writes, and the region
signatures (R139, R184 to R203, R219, R233 to R247). -/
namespace Sys2Proof.Machine

/-! ### What a frame runs under -/

/-- The effective code of view (u, v) (R61, R67). -/
def FrameInfo.code (i : FrameInfo) (u v : Nat) : Nat := tget 4 i.slots (16 * v + u)

/-- The used slots of a footprint (R61). -/
def ModeCfg.usedSlots (m : ModeCfg) : List Nat :=
  (List.range m.hy).flatMap fun v => (List.range m.hx).map fun u => 16 * v + u

/-- Whether a channel has a used slot (R141, R244). -/
def FrameInfo.carries (i : FrameInfo) (c : Nat) : Bool := i.mode.usedSlots.any fun k => tget 4 i.slots k == c

/-- The channels that a frame carries. -/
def FrameInfo.chans (i : FrameInfo) : List Nat := (List.range 4).filter i.carries

/-- s = 1 + SCALE2X (R139). -/
def FrameInfo.s (i : FrameInfo) : Nat := 1 + i.mode.scale

/-- R_h (R139). -/
def FrameInfo.reach (i : FrameInfo) : Nat := cdiv (i.mode.pmax * (i.mode.hy - 1)) 512

/-- The texel rows that band y requires, from the first to one behind the last (R139). -/
def FrameInfo.need (i : FrameInfo) (y : Nat) : Int × Int :=
  ((i.s : Int) * ((y : Int) - i.reach), (i.s : Int) * ((y : Int) + i.reach + 2))

/-- The part of a row range that lies in a plane of `h` rows. -/
def clipRows (r : Int × Int) (h : Nat) : Nat × Nat := ((max 0 r.1).toNat, min h (max 0 r.2).toNat)

/-- Columns and rows of the front plane (R76, R187). -/
def FrameInfo.frontW (i : FrameInfo) : Nat := i.s * i.mode.w
def FrameInfo.frontH (i : FrameInfo) : Nat := i.s * i.mode.h

/-- A frame counts for the frame in progress, or for the one to come (R149, R181). -/
def Output.count (x : Output) (frame : Nat) (g : FrameCounts → FrameCounts) : Output :=
  if frame = x.frameNum ∧ x.inBlank = false then { x with cur := g x.cur } else { x with nxt := g x.nxt }

/-- The region frame of region r in frame n. -/
def Output.region (x : Output) (r n : Nat) : Option RegionFrame :=
  x.regions.find? fun g => g.region == r && g.frame == n

/-- Updates the region frame of region r in frame n. -/
def Output.modRegion (x : Output) (r n : Nat) (f : RegionFrame → RegionFrame) : Output :=
  { x with regions := x.regions.map fun g => if g.region = r ∧ g.frame = n then f g else g }

/-! ### Point states (R219 to R224, R233, R237) -/

/-- A counted age of an elapsed interval in µs (R219). -/
def counted (e : Nat) : Nat := e + cdiv e 8192

/-- FLAGS [2:0] of an entry. -/
def Point.flags (p : Point) : Nat := b2n p.received + 2 * b2n p.expired + 4 * b2n p.srcInv

/-- CHECK of an entry's runtime fields (R222). -/
def Point.crc (p : Point) : Nat := crc16 (leBytes 4 (unsgn 32 p.value) ++ leBytes 4 p.birth ++ leBytes 1 p.flags)

/-- Whether an entry passes its check. Runtime fields that are all 0, as R221 leaves them, stand. -/
def Point.checkOk (p : Point) : Bool :=
  p.check == p.crc || (p.check == 0 && p.value == 0 && p.birth == 0 && p.flags == 0)

/-- The display margin of a region in a frame (R235): A and t_band after R158 and R159. -/
def FrameInfo.margin (i : FrameInfo) (h : Nat) : Nat :=
  cdiv ((h + 8) * (1000000 - i.mode.vmin * i.mode.rate)) (i.mode.rate * i.mode.h) + i.budget

/-- The state of a point at t_eval (R233, R237): 0 never received, 1 stale, 2 fresh. -/
def Point.stateAt (p : Point) (t margin : Nat) : Nat :=
  let e := (t % 0x100000000 + 0x100000000 - p.birth) % 0x100000000
  if !p.checkOk then 1
  else if !p.received then 0
  else if p.expired || p.srcInv then 1
  else if 1000 * p.maxAge < counted e + margin then 1
  else 2

/-- The snapshot of a region (R234). -/
def State.snapshot (s : State) (r : Nat) (margin : Nat) : List SnapPoint :=
  (s.trust.points.filter fun e => e.2.region == r).map fun e =>
    { index := e.1, point := e.2, state := e.2.stateAt s.us margin }

/-! ### Drawing (R239 to R243, R245) -/

/-- A glyph of the atlas. -/
def Package.glyph (p : Package) (code : Nat) : Option Glyph := p.glyphs.find? (·.code == code)

/-- The advance of a glyph. -/
def Package.advance (p : Package) (code : Nat) : Nat := ((p.glyph code).map (·.adv)).getD 0

/-- A mask bit, the least significant bit leftmost (R528). -/
def Glyph.bit (g : Glyph) (x y : Nat) : Bool := x < g.gw && y < g.gh && bitOf (g.mask.getD y 0) x

/-- Where something of a size stands when it is centred in a space (R241). -/
def centred (space size : Nat) : Int := ((space : Int) - size + b2n Config.centreLow) / 2

/-- Whether a mask whose corner stands at (left, top) of a cell marks hogel (x, y) of it. -/
def Glyph.marks (g : Glyph) (left top : Int) (x y : Nat) : Bool :=
  left ≤ x && top ≤ y && g.bit ((x : Int) - left).toNat ((y : Int) - top).toNat

/-- Whether a text that begins at a column marks hogel (x, y) of a cell of height `ch`. -/
def Package.textMarks (p : Package) (ch : Nat) : Int → List Nat → Nat → Nat → Bool
  | _, [], _, _ => false
  | left, c :: cs, x, y =>
    (match p.glyph c with
     | none => false
     | some g => g.marks left (centred ch g.gh) x y)
    || p.textMarks ch (left + p.advance c) cs x y

/-- The width of a text. -/
def Package.textWidth (p : Package) (cs : List Nat) : Nat := (cs.map p.advance).sum

/-- The decimal digits of a number as glyph codes, at least `n` of them. -/
def digits (n v : Nat) : List Nat :=
  let ds := (Nat.toDigits 10 v).map (·.toNat)
  List.replicate (n - ds.length) 0x30 ++ ds

/-- VALUE / 10^arg as glyph codes (R241). -/
def numText (arg : Nat) (v : Int) : List Nat :=
  let ds := digits (arg + 1) v.natAbs
  let body := if arg = 0 then ds else ds.take (ds.length - arg) ++ [0x2E] ++ ds.drop (ds.length - arg)
  if v < 0 then 0x2D :: body else body

/-- Style and its argument (R221). -/
def Point.kind (p : Point) : Nat := p.style % 8
def Point.arg (p : Point) : Nat := p.style / 8 % 32

/-- Whether a numeric text is wider than its cell (R241). -/
def Package.overflows (p : Package) (pt : Point) (v : Int) (cw : Nat) : Bool :=
  pt.kind == 0 && cw < p.textWidth (numText pt.arg v)

/-- The alarm colour of a value, by its place in COLOURS (R242): 1 FG, 2 ALARM_LO, 3 ALARM_HI. -/
def Package.alarm (p : Package) (pt : Point) (v : Int) (cw : Nat) : Nat :=
  if pt.kind = 0 ∨ pt.kind = 2 then
    if p.overflows pt v cw then 3 else if v < pt.limitLo then 2 else if pt.limitHi < v then 3 else 1
  else
    let n := v.toNat
    if bitOf (unsgn 32 pt.limitHi % 65536) n then 3 else if bitOf (unsgn 32 pt.limitLo % 65536) n then 2 else 1

/-- Whether a style's drawing marks hogel (x, y) of a cell (R241). -/
def Package.styleMarks (p : Package) (pt : Point) (v : Int) (cw ch x y : Nat) : Bool :=
  match pt.kind with
  | 0 =>
    if p.overflows pt v cw then
      let a := max 1 (p.advance 0x23)
      p.textMarks ch 0 (List.replicate (cdiv cw a) 0x23) x y
    else
      let t := numText pt.arg v
      p.textMarks ch ((cw : Int) - p.textWidth t) t x y
  | 1 => p.textMarks ch 0 ((p.strings.getD pt.arg []).getD v.toNat []) x y
  | 2 =>
    let sc := p.scales.getD pt.arg (0, 1)
    let w := max sc.1 (min sc.2 v)
    (x : Int) < (cw : Int) * (w - sc.1) / (sc.2 - sc.1)
  | k =>
    match (p.symbols.getD pt.arg [])[v.toNat]? with
    | none => false
    | some g => g.marks (if k = 4 then centred cw g.gw else Config.breakerLeft cw g.gw) (centred ch g.gh) x y

/-- The three codes of a palette colour (R528). -/
def Package.colour (p : Package) (i : Nat) : Nat × Nat × Nat :=
  let w := p.palette.getD i 0
  (fld w 0 10, fld w 10 10, fld w 20 10)

/-- The codes halved (R240). -/
def halved (c : Nat × Nat × Nat) : Nat × Nat × Nat := (c.1 / 2, c.2.1 / 2, c.2.2 / 2)

/-- What hogel (x, y) of a cell shows, of an output's hogel (hx, hy) (R240). -/
def Package.cellColour (p : Package) (g : Region) (c : Cell) (pt : Option SnapPoint) (x y hx hy : Nat) :
    Nat × Nat × Nat :=
  let col := fun k => p.colour (g.cols.getD k 0)
  match pt with
  | none => col 0
  | some sp =>
    let q := sp.point
    match sp.state with
    | 0 =>
      let t := [0x2D, 0x2D, 0x2D]
      if p.textMarks c.ch (centred c.cw (p.textWidth t)) t x y then col 1 else col 0
    | 1 =>
      if (hx + hy) % 4 = 0 then col 4
      else if p.styleMarks q q.value c.cw c.ch x y then halved (col (p.alarm q q.value c.cw)) else col 0
    | _ => if p.styleMarks q q.value c.cw c.ch x y then col (p.alarm q q.value c.cw) else col 0

/-- Whether hogel (x, y) of an output lies in a region. -/
def Region.has (g : Region) (x y : Nat) : Bool := g.x ≤ x && x < g.x + g.w && g.y ≤ y && y < g.y + g.h

/-- Whether hogel (x, y) of an output lies on a region's border. -/
def Region.border (g : Region) (x y : Nat) : Bool := x == g.x || y == g.y || x + 1 == g.x + g.w || y + 1 == g.y + g.h

/-- The colour of a hogel of a region, and whether it carries the life mark (R240, R245). -/
def Package.regionColour (p : Package) (g : Region) (rf : RegionFrame) (x y : Nat) : (Nat × Nat × Nat) × Bool :=
  if g.border x y then (p.colour (g.cols.getD 5 0), true)
  else
    let k := g.cells.findIdx fun c =>
      c.cw ≠ 0 && g.x + c.cx ≤ x && x < g.x + c.cx + c.cw && g.y + c.cy ≤ y && y < g.y + c.cy + c.ch
    match g.cells[k]? with
    | none => (p.colour (g.cols.getD 0 0), false)
    | some c =>
      (p.cellColour g c (rf.snap.find? (·.point.cell == k)) (x - g.x - c.cx) (y - g.y - c.cy) x y, false)

/-- A palette code at full scale M (R243). -/
def scaleCode (c m : Nat) : Nat := (2 * c * m + 1023) / 2046

/-- A texel word of FP_FORMAT (R105, R196). -/
def packTexel (fp r g b a : Nat) : Nat :=
  if fp = 0 then r + 256 * g + 65536 * b + 16777216 * a else r + 1024 * g + 1048576 * b + 1073741824 * a

/-- Full-scale colour and alpha codes of FP_FORMAT (R196). -/
def fpFull (fp : Nat) : Nat := if fp = 0 then 255 else 1023
def fpAlpha (fp : Nat) : Nat := if fp = 0 then 255 else 3

/-- The L7 texel of a hogel of a region (R243, R245). -/
def Package.l7Texel (p : Package) (fp : Nat) (g : Region) (rf : RegionFrame) (x y : Nat) : Nat :=
  let c := p.regionColour g rf x y
  let m := fpFull fp
  let b := scaleCode c.1.2.2 m
  packTexel fp (scaleCode c.1.1 m) (scaleCode c.1.2.1 m) (if c.2 then setFld b 0 1 (rf.frame % 2) else b) (fpAlpha fp)

/-- The signature of R202 over texel words in hogel raster order. -/
def signature (ts : List Nat) : Word := crc32 (ts.flatMap fun t => leBytes 4 t)

/-- The hogels of a region in raster order. -/
def Region.hogels (g : Region) : List (Nat × Nat) :=
  (List.range g.h).flatMap fun y => (List.range g.w).map fun x => (g.x + x, g.y + y)

/-- The expectation of a region (R246). -/
def Package.expectation (p : Package) (fp : Nat) (g : Region) (rf : RegionFrame) : Word :=
  signature (g.hogels.map fun h => p.l7Texel fp g rf h.1 h.2)

/-! ### Host layers (R185 to R195) -/

/-- A premultiplied working pair (R189). -/
structure Pair where
  r : F32
  g : F32
  b : F32
  a : F32
  deriving DecidableEq, Repr

/-- The transparent pair. -/
def Pair.clear : Pair := { r := F32.zero, g := F32.zero, b := F32.zero, a := F32.zero }

/-- A straight pair becomes (c × a, a); a premultiplied component that exceeds a is taken as a (R189). -/
def Pair.of (straight : Bool) (r g b a : F32) : Pair :=
  if straight then { r := r.mul a, g := g.mul a, b := b.mul a, a := a }
  else { r := r.min a, g := g.min a, b := b.min a, a := a }

/-- The live channel and layer words of a composer. -/
abbrev CmpWords := Nat → Nat

/-- The tone curve of a channel (R193, R194). -/
def toneCurve (w : CmpWords) (c : Nat) (x : F32) : F32 :=
  let b := w (0x10 * c + 4)
  let d := w (0x10 * c + 8)
  let k := F32.ratio (fld b 16 10) 1024
  let p := F32.ratio (fld d 0 11) 1024
  let s := half16 (fld d 16 16) (F32.ofNat 65536)
  let x := x.min s
  let mode := if s.le p && 2 ≤ fld b 0 2 then 0 else fld b 0 2
  match mode with
  | 0 => x.min p
  | 1 => (x.mul p).div s
  | 2 => if x.le k then x else k.add (((x.sub k).mul (p.sub k)).div (s.sub k))
  | _ =>
    if x.le k then x
    else
      let t := (x.sub k).div (s.sub k)
      let v := (p.sub k).div (s.sub p)
      k.add ((p.sub k).mul ((t.mul (F32.one.add v)).div (t.add v)))

/-- A tone-mapped component: the curve acts on the straight value (R193). -/
def toned (w : CmpWords) (c : Nat) (straight : Bool) (v a : F32) : F32 :=
  if straight then (toneCurve w c v).mul a
  else if a.m = 0 then F32.zero else (toneCurve w c (v.div a)).mul a

/-- A surface texel's working pair from its bytes (R189). -/
def layerPair (w : CmpWords) (c fmt : Nat) (straight : Bool) (rgb : Nat) (bs : List Byte) : Pair :=
  match fmt with
  | 0 => Pair.of straight (F32.ratio (nAt bs 0 1) 255) (F32.ratio (nAt bs 1 1) 255) (F32.ratio (nAt bs 2 1) 255)
           (F32.ratio (nAt bs 3 1) 255)
  | 1 =>
    let v := nAt bs 0 4
    Pair.of straight (F32.ratio (fld v 0 10) 1023) (F32.ratio (fld v 10 10) 1023) (F32.ratio (fld v 20 10) 1023)
      (F32.ratio (fld v 30 2) 3)
  | 2 =>
    let v := nAt bs 0 2
    Pair.of false (F32.ratio (fld v 11 5) 31) (F32.ratio (fld v 5 6) 63) (F32.ratio (fld v 0 5) 31) F32.one
  | 3 => Pair.of true (F32.ratio (fld rgb 0 10) 1023) (F32.ratio (fld rgb 10 10) 1023) (F32.ratio (fld rgb 20 10) 1023)
           (F32.ratio (nAt bs 0 1) 255)
  | _ =>
    let big := F32.ofNat 65536
    let a := half16 (nAt bs 6 2) F32.one
    let v := fun k => toned w c straight (half16 (nAt bs (2 * k) 2) big) a
    { r := (v 0).min a, g := (v 1).min a, b := (v 2).min a, a := a }

/-- R190. -/
def Pair.scale (p : Pair) (alpha : Nat) : Pair :=
  let k := F32.ratio alpha 255
  { r := p.r.mul k, g := p.g.mul k, b := p.b.mul k, a := p.a.mul k }

/-- R191: a pair over what stands. -/
def Pair.atop (c p : Pair) : Pair :=
  let t := F32.one.sub p.a
  { r := p.r.add (t.mul c.r), g := p.g.add (t.mul c.g), b := p.b.add (t.mul c.b), a := p.a.add (t.mul c.a) }

/-- Whether the composer reads a layer for an output (R184, R186); in locked operation output A's bit decides. -/
def layerOn (w : CmpWords) (c l : Nat) (o : OutId) : Bool :=
  let k := w (0x1000 + 0x100 * c + 0x20 * l)
  (l == 0 || bitOf k 0) && fld k 8 8 != 0 && bitOf k (1 + o.num)

/-- The surface texel of a layer that covers front plane texel (i, j), if one does (R187): its address. -/
def layerAt (w : CmpWords) (c l i j : Nat) : Option Nat :=
  let b := 0x1000 + 0x100 * c + 0x20 * l
  let x := (i : Int) - sgn 16 (fld (w (b + 4)) 0 16)
  let y := (j : Int) - sgn 16 (fld (w (b + 4)) 16 16)
  if 0 ≤ x ∧ x < (fld (w (b + 8)) 0 16 : Int) ∧ 0 ≤ y ∧ y < (fld (w (b + 8)) 16 16 : Int) then
    some (w (b + 0xC) / 64 * 64 + fld (w (b + 0x10)) 0 3 * 0x100000000 + fld (w (b + 0x14)) 0 20 * y.toNat
      + texelBytes (fld (w b) 3 3) * x.toNat)
  else none

/-- One layer blended over what stands (R189 to R191, R200): the pair, whether it covers the texel, and the layer with
the uncorrectable words it met. -/
def State.blendLayer (s : State) (w : CmpWords) (c l : Nat) (o : OutId) (i j : Nat) (p : Pair) :
    Pair × Nat × List (Nat × Nat) :=
  if !layerOn w c l o then (p, 0, [])
  else match layerAt w c l i j with
    | none => (p, 0, [])
    | some a =>
      let b := 0x1000 + 0x100 * c + 0x20 * l
      let k := w b
      let n := texelBytes (fld k 3 3)
      let bad := s.badIn a n
      let q := if bad = [] then layerPair w c (fld k 3 3) (bitOf k 6) (w (b + 0x18)) (s.dramGet a n) else Pair.clear
      (p.atop (q.scale (fld k 8 8)), 1, bad.map fun x => (l, x))

/-- The texel word of a composed pair: the codes of R196 in binary32, each off by at most one (R197). -/
def Pair.texel (p : Pair) (fp : Nat) : Nat :=
  let ma := fpAlpha fp
  let m := fpFull fp
  let hi := (F32.ratio (p.a.code ma) ma).code m
  let val := fun (v : F32) => slackCode (min (v.code m) hi) m (Config.texelSlack (v.m, v.e) m)
  packTexel fp (val p.r) (val p.g) (val p.b) (slackCode (p.a.code ma) ma (Config.texelSlack (p.a.m, p.a.e) ma))

/-- The region of a channel that holds hogel (x, y) of an output; in locked operation all name output A (R228, R238). -/
def State.regionAt (s : State) (o : OutId) (c x y : Nat) : Option (Nat × Region) :=
  (s.regionsOn o).find? fun e => e.2.chan == c && e.2.has x y

/-- One front plane texel of a channel (R191, R192): its word, its texel-layers, and the errors met. -/
def State.frontTexel (s : State) (o : OutId) (info : FrameInfo) (c i j : Nat) : Nat × Nat × List (Nat × Nat) :=
  let w := fun off => s.lvAt (36 + c) .cmp o off
  let fp := fld (w (0x10 * c)) 0 1
  match s.regionAt o c (i / info.s) (j / info.s), s.pkgFor o with
  | some e, some p =>
    match (s.out o).region e.1 info.frame with
    | some rf => (p.l7Texel fp e.2 rf (i / info.s) (j / info.s), 1, [])
    | none => (0, 0, [])
  | _, _ =>
    let r := (List.range 7).foldl (fun (a : Pair × Nat × List (Nat × Nat)) l =>
      let b := s.blendLayer w c l o i j a.1
      (b.1, a.2.1 + b.2.1, a.2.2 ++ b.2.2)) (Pair.clear, 0, [])
    (r.1.texel fp, r.2.1, r.2.2)

/-- One composed row of a channel, with the errors met (R198, R200). -/
def State.frontRow (s : State) (o : OutId) (info : FrameInfo) (c j : Nat) : FrontRow × List (Nat × Nat) :=
  let ts := (List.range info.frontW).map fun i => s.frontTexel o info c i j
  ({ frame := info.frame, chan := c, row := j, texels := ts.map (·.1), load := (ts.map (·.2.1)).sum },
   ts.flatMap (·.2.2))

/-! ### Rows of a band -/

/-- The regions of a channel on an output that hogel row y crosses. -/
def State.regionsOnRow (s : State) (o : OutId) (c y : Nat) : List (Nat × Region) :=
  (s.regionsOn o).filter fun e => e.2.chan == c && e.2.y ≤ y && y < e.2.y + e.2.h

/-- The front plane rows that a channel still lacks of those band y requires. A row through a region that begins below
band y waits for the band that takes the region's snapshot (R139, R234; DEDUCED, log entry 102). -/
def State.rowsToCompose (s : State) (o : OutId) (info : FrameInfo) (y c : Nat) : List Nat :=
  let x := s.out o
  let r := clipRows (info.need y) info.frontH
  ((List.range (r.2 - r.1)).map (· + r.1)).filter fun j =>
    !(x.front.any fun f => f.frame == info.frame && f.chan == c && f.row == j)
    && (s.regionsOnRow o c (j / info.s)).all fun e => e.2.y ≤ y

/-- The front plane texel (i, j) of a channel in a frame, if its row has been composed. -/
def Output.frontAt (x : Output) (frame c i j : Nat) : Option Nat :=
  (x.front.find? fun f => f.frame == frame && f.chan == c && f.row == j).map fun f => f.texels.getD i 0

/-- The composer's signature of a region (R202). -/
def Output.composedSig (x : Output) (info : FrameInfo) (g : Region) : Word :=
  signature (g.hogels.map fun h => (x.frontAt info.frame g.chan (info.s * h.1) (info.s * h.2)).getD 0)

/-- Writes rows of a channel. -/
def State.composeRows (s : State) (o : OutId) (info : FrameInfo) (c : Nat) : List Nat → State → State × List (Nat × Nat)
  | [], t => (t, [])
  | j :: js, t =>
    let r := s.frontRow o info c j
    let u := s.composeRows o info c js (t.modOut o fun x => { x with front := x.front ++ [r.1] })
    (u.1, r.2 ++ u.2)

/-- Layer read errors of a band (R200, R439, R562): LAYER_ERR counts once for each layer. -/
def State.layerErrors (s : State) (o : OutId) (c : Nat) (errs : List (Nat × Nat)) : State :=
  let ls := (errs.map (·.1)).eraseDups
  let s := s.dramUe 1 (errs.map (·.2)).eraseDups
  ls.foldl (fun a _ =>
    (a.modAudit fun x => { x with layerErr := x.layerErr.modify c fun n => sat 16 (n + 1) }).fault
      { code := 0x301, cls := 2, island := 36 + c, detail := 4096 * c + 16384 * o.num, force := .none }) s

/-- Whether a landing works for a frame of an output: it has swapped to it (R40). -/
def State.worksFor (s : State) (isl : Nat) (o : OutId) (f : Nat) : Bool :=
  s.inDoor isl && (s.landing isl).swapped o == f

/-- Pacing time of a band (R158). -/
def Output.bandAt (x : Output) (i : FrameInfo) (b : Band) : Nat := x.startOf b.frame + i.mode.paceOf (b.y * i.mode.hy)

/-- Whether a channel's composer has a band in work that paces before an instant, on either output (R199). -/
def State.composesFirst (s : State) (c t : Nat) : Bool :=
  s.outs.any fun o =>
    let x := s.out o
    x.bands.any fun b => !(b.composed.contains c) &&
      match x.info b.frame with
      | none => false
      | some i => i.carries c && x.bandAt i b < t

/-- The composer's signature of a region is there (R203). One that comes after its deadline still stands for the frame
before the next (R247). -/
def Output.takeSig (x : Output) (r frame : Nat) (v : Word) : Output :=
  let late := x.regions.any fun g => g.region == r && g.frame == frame && g.judged
  { x.modRegion r frame (fun g => { g with sig := some v }) with
    prevSigs := if late then (x.prevSigs.filter fun p => p.1 != r) ++ [(r, frame, v)] else x.prevSigs }

/-- FRONT_PLANE_ROW (R198, R199, R202, R203): the composer of a channel writes the front plane rows that a band lacks, the
band that paces earliest first, and hands over the signature of each region whose last hogel row the band holds. `flip` stands for wrong bits in it. -/
def State.frontPlane (s : State) (o : OutId) (y c : Nat) (flip : Word) : State :=
  match (s.out o).bands.find? fun b => b.y == y && !(b.composed.contains c) with
  | none => s
  | some b =>
    match (s.out o).info b.frame with
    | none => s
    | some info =>
      if 4 ≤ c || !info.carries c || !s.worksFor (36 + c) o b.frame || s.composesFirst c ((s.out o).bandAt info b) then s
      else
        let r := s.composeRows o info c (s.rowsToCompose o info y c) s
        let t := r.1.modOut o fun x => x.modBand b.frame y fun k => { k with composed := k.composed ++ [c] }
        let t := (t.regionsOnRow o c y).foldl (fun (a : State) e =>
          if e.2.y + e.2.h = y + 1 then
            a.modOut o fun x => x.takeSig e.1 b.frame (x.composedSig info e.2 ^^^ flip)
          else a) t
        t.layerErrors o c r.2

/-- FRONT_PLANE_ROW (R198, R202, R203). -/
def execFrontPlaneRow (o : OutId) (y c : Nat) (flip : Word) (s : State) : Host.Outcome State Fault Refusal :=
  .next (s.frontPlane o y c flip)

/-! ### Expectations and comparison (R246, R247, R562) -/

/-- Whether the deadline of a region's signature and expectation has passed (R203, R246): preparation of the band that
holds its last hogel row is complete for its channel, or the frame has ended. -/
def State.sigDeadline (s : State) (o : OutId) (r frame : Nat) : Bool :=
  let x := s.out o
  match s.regionOf o r with
  | none => false
  | some g =>
    (match x.band frame (g.y + g.h - 1) with
     | none => false
     | some b => g.chan ∈ b.prepDone)
    || (x.frameNum == frame && x.inBlank) || ahead x.frameNum frame

/-- Whether a region is drawn by glyph renderer 1 (R246). -/
def rendererOf (r : Nat) : Nat := r % 2

/-- EXPECTATION_DONE (R246): the other renderer draws the region from the same snapshot, once, and delivers by the deadline; what
comes later is missing (R247). `flip` stands for wrong bits in what it delivers. -/
def execExpectationDone (o : OutId) (r : Nat) (flip : Word) (s : State) : Host.Outcome State Fault Refusal :=
  .next (match (s.out o).regions.find? fun g => g.region == r && g.expect.isNone && !g.judged with
    | none => s
    | some rf =>
      match s.regionOf o r, s.pkgFor o with
      | some g, some p =>
        if !s.inDoor (40 + (1 - rendererOf r)) || s.sigDeadline o r rf.frame then s
        else
          let fp := (((s.out o).info rf.frame).map fun i => i.fps.getD g.chan 0).getD 0
          s.modOut o fun x => x.modRegion r rf.frame fun k => { k with expect := some (p.expectation fp g rf ^^^ flip) }
      | _, _ => s)

/-- The channel of a region. -/
def State.chanOf (s : State) (o : OutId) (r : Nat) : Nat := ((s.regionOf o r).map (·.chan)).getD 0

/-- DETAIL of a region's fault (R563). -/
def State.regionDetail (s : State) (o : OutId) (r : Nat) : Nat := r % 4096 + 4096 * s.chanOf o r + 16384 * o.num

/-- Reports a mismatch (R562): the first of 0x0302, 0x0401 and 0x0404 that matches is what applies; 0x0302 stands
before 0x0401, and 0x0404 joins a 0x0401 that completes it. -/
def State.mismatch (s : State) (o : OutId) (r frame : Nat) : State :=
  let c := s.chanOf o r
  let old := s.cellar.missFrames
  let again := old.any fun m => m.1 == o && m.2.1 == r && w32 (m.2.2 + 1) == frame
  let two := old.any fun m => m.1 == o && m.2.2 == frame && m.2.1 != r && s.chanOf o m.2.1 == c
  let cross := old.any fun m =>
    m.1 == o && m.2.2 == frame && s.chanOf o m.2.1 != c && rendererOf m.2.1 == rendererOf r
  let s := (s.modOut o fun x => { x with sigMis := sat 16 (x.sigMis + 1) }).modCellar fun k =>
    { k with missFrames := old.filter (fun m => m.1 != o || m.2.2 == frame || w32 (m.2.2 + 1) == frame)
               ++ [(o, r, frame)] }
  let d := s.regionDetail o r
  if again || two then s.fault { code := 0x302, cls := 3, island := 36 + c, detail := d, force := .ss2 c }
  else
    let s := s.fault { code := 0x401, cls := 2, island := 255, detail := d, force := .ss1 o r }
    if cross then
      s.fault { code := 0x404, cls := 3, island := 40 + rendererOf r, detail := d,
                force := .ss1Regions ((s.allRegions.map (·.1)).filter fun n => rendererOf n == rendererOf r) }
    else s

/-- Whether a region has frozen (R247): the composer's signature of a frame equals that of the frame before. -/
def Output.frozen (x : Output) (rf : RegionFrame) : Bool :=
  match rf.sig with
  | none => false
  | some v => x.prevSigs.any fun p => p.1 == rf.region && w32 (p.2.1 + 1) == rf.frame && p.2.2 == v

/-- A region's frame has been judged; its signature stands for the next frame's. -/
def Output.closeRegion (x : Output) (rf : RegionFrame) : Output :=
  { x.modRegion rf.region rf.frame (fun g => { g with judged := true }) with
    prevSigs := match rf.sig with
      | none => x.prevSigs
      | some v => (x.prevSigs.filter fun p => p.1 != rf.region) ++ [(rf.region, rf.frame, v)] }

/-- The comparator judges a region's frame for a freeze, after `t` has judged the rest (R247). -/
def State.judgeFreeze (s t : State) (o : OutId) (rf : RegionFrame) : State :=
  if (s.out o).frozen rf then
    (t.modOut o fun x => { x with sigFreeze := sat 16 (x.sigFreeze + 1) }).fault
      { code := 0x402, cls := 2, island := 255, detail := s.regionDetail o rf.region, force := .ss1 o rf.region }
  else t.tryKnown o

/-- SIGNATURE_COMPARE (R247): once for each region and frame, when both values stand. -/
def State.compareSig (s : State) (o : OutId) (r : Nat) : State :=
  match (s.out o).regions.find? fun g => g.region == r && !g.judged && g.sig.isSome && g.expect.isSome with
  | none => s
  | some rf =>
    let t := s.modOut o (·.closeRegion rf)
    s.judgeFreeze (if rf.sig ≠ rf.expect then (t.modOut o (·.spoil rf.frame)).mismatch o r rf.frame else t) o rf

/-- SIGNATURE_COMPARE (R247). -/
def execSignatureCompare (o : OutId) (r : Nat) (s : State) : Host.Outcome State Fault Refusal :=
  .next (s.compareSig o r)

/-- SIGNATURE_DEADLINE (R247): a signature or an expectation that is not there by then is missing; a signature that is
there is still judged for a freeze. -/
def execSignatureDeadline (o : OutId) (r : Nat) (s : State) : Host.Outcome State Fault Refusal :=
  .next (match (s.out o).regions.find? fun g =>
      g.region == r && !g.judged && (g.sig.isNone || g.expect.isNone) && s.sigDeadline o r g.frame with
    | none => s
    | some rf =>
      s.judgeFreeze ((s.modOut o fun x => { (x.spoil rf.frame).closeRegion rf with sigMissing := sat 16 (x.sigMissing + 1) }).fault
        { code := 0x403, cls := 2, island := 255, detail := s.regionDetail o r, force := .ss1 o r }) o rf)

end Sys2Proof.Machine
end

