-- ==== Sys2Proof/Machine/Synth.lean ====
section
/-! DEFINITION. Band preparation, slices and spans, and the marching of a ray (R138 to R157, R159, R165, R166). -/
namespace Sys2Proof.Machine

/-! ### Waiting and lag (R158) -/

/-- The instant from which the formatter waits for the row that it sends next: its pacing time, and the row before has left
the link (R158). -/
def Output.waitFrom (x : Output) (m : ModeCfg) : Nat := max (x.fsClk + m.paceOf x.sendRow) (cdiv x.linkFree 320)

/-- The lag of an output in crystal cycles (R158): that of the row on the link, or of the row waited for. -/
def State.lag (s : State) (o : OutId) : Nat :=
  let x := s.out o
  match x.info x.frameNum with
  | none => 0
  | some i =>
    if x.inBlank then 0
    else if 320 * s.clk < x.linkFree then x.rowLag
    else if i.mode.emRows ≤ x.sendRow then 0
    else s.clk - (x.fsClk + i.mode.paceOf x.sendRow)

/-! ### Preparation of bands (R138 to R143, R234) -/

/-- Whether synthesis of a band is complete. -/
def Band.done (b : Band) : Bool := b.undone == 0

/-- The spans of a band (R156): emitter rows that are computed, in pieces of 64 hogels. With quarter views a pair of
rows is computed once (R152, R180). -/
def FrameInfo.spansOf (i : FrameInfo) (y : Nat) : List (Nat × Nat) :=
  let step := if i.mode.div = 2 then 2 else 1
  ((List.range i.mode.hy).filter fun e => e % step == 0).flatMap fun e =>
    (List.range (cdiv i.mode.w 64)).map fun k => (y * i.mode.hy + e, 64 * k)

/-- The heights of the planes that a channel needs rows of: its scene's planes and its front plane. -/
def FrameInfo.heights (i : FrameInfo) (c : Nat) : List (Nat × Nat) :=
  (64, i.frontH) :: ((i.scenes.getD c []).map fun p => (p.num, p.height))

/-- The hogel row at which a plane is sampled for a band: a wall row in a ring (R586); the front plane is the tile's. -/
def FrameInfo.planeY (i : FrameInfo) (plane y : Nat) : Nat := if plane = 64 then y else y + i.wy

/-- Rows of a plane that bands y0 to y1 require. -/
def FrameInfo.rowCount (i : FrameInfo) (plane y0 y1 h : Nat) : Nat :=
  let lo := (clipRows (i.need (i.planeY plane y0)) h).1
  let hi := (clipRows (i.need (i.planeY plane y1)) h).2
  hi - lo

/-- R140 for bands 0 to 2 of a frame: the rows fit in the window beside those that unfinished bands of the frame before
still require. -/
def Output.windowFits (x : Output) (i : FrameInfo) (y : Nat) : Bool :=
  let old := x.bands.filter fun b => b.frame != i.frame && !b.done
  match old with
  | [] => true
  | b :: _ =>
    match x.info b.frame with
    | none => true
    | some j =>
      let y0 := old.foldl (fun a k => min a k.y) b.y
      let y1 := old.foldl (fun a k => max a k.y) b.y
      i.chans.all fun c => (i.heights c).all fun p =>
        let was := ((j.heights c).find? fun q => q.1 == p.1 && j.carries c).elim 0 fun q => j.rowCount p.1 y0 y1 q.2
        was + i.rowCount p.1 0 y p.2 ≤ i.s * (2 * i.reach + 4)

/-- Whether preparation of the next band may start (R38, R140, R143), on landings that work for its frame (R40). -/
def State.mayPrep (s : State) (o : OutId) (i : FrameInfo) (y : Nat) : Bool :=
  let x := s.out o
  !ahead i.frame (w32 (x.frameNum + 1))
  && (62 :: (List.range 10).map (32 + ·)).all (fun k => !s.inDoor k || (s.landing k).swapped o == i.frame)
  && (if 3 ≤ y then (match x.band i.frame (y - 3) with | none => true | some b => b.done)
      else if x.fresh = some i.frame then x.bands.all fun b => b.frame == i.frame || b.done
      else x.windowFits i y)

/-- A region's snapshot, with what failing entries bring (R234, R237). -/
def State.takeSnapshot (s : State) (o : OutId) (i : FrameInfo) (r : Nat) (g : Region) : State :=
  let pts := s.trust.points.filter fun e => e.2.region == r
  let rf : RegionFrame := { region := r, frame := i.frame, tEval := s.us, snap := s.snapshot r (i.margin g.h), sig := none,
                            expect := none, judged := false }
  let s1 := s.modOut o fun x => { x with regions := x.regions ++ [rf] }
  (pts.filter fun e => !e.2.checkOk).foldl (fun a _ =>
    (a.modOut o fun x => { x with checkErr := sat 16 (x.checkErr + 1) }).fault
      { code := 0x405, cls := 2, island := 255, detail := s.regionDetail o r, force := .none }) s1

/-- BAND_PREP_START (R140, R234). -/
def State.prepStart (s : State) (o : OutId) (y : Nat) : State :=
  let x := s.out o
  match x.info x.prepFrame with
  | none => s
  | some i =>
    if x.prepY != y || i.mode.h ≤ y || !s.mayPrep o i y then s
    else
      let sp := i.spansOf y
      let b : Band := { frame := i.frame, y := y, expanded := [], prepDone := [], composed := [], cap := none, late := [], spans := sp,
                        undone := sp.length }
      let s := s.modOut o fun x =>
        { x with bands := x.bands ++ [b],
                 prepFrame := if y + 1 = i.mode.h then w32 (i.frame + 1) else x.prepFrame,
                 prepY := if y + 1 = i.mode.h then 0 else y + 1 }
      ((s.regionsOn o).filter fun e =>
          e.2.y == y && i.carries e.2.chan && s.inDoor (40 + rendererOf e.1)).foldl
        (fun (a : State) e => a.takeSnapshot o i e.1 e.2) s

/-- BAND_PREP_START (R140, R234). -/
def execBandPrepStart (o : OutId) (y : Nat) (s : State) : Host.Outcome State Fault Refusal := .next (s.prepStart o y)

/-- Bytes of a texel of a plane's format. -/
def planeTexel (fmt : Nat) : Nat := if fmt = 2 then 8 else 4

/-- The texel columns of a plane that a frame can sample: the tile's in a ring (R586). -/
def FrameInfo.cols (i : FrameInfo) (p : Plane) : Nat × Nat :=
  if i.ring then (min p.width (i.s * i.wx), min p.width (i.s * (i.wx + i.mode.w))) else (0, p.width)

/-- Bytes that expanding rows of a plane gives: the texels of tiles that are not empty (R137). -/
def Plane.expandedBytes (p : Plane) (cols : Nat × Nat) (lo hi : Nat) : Nat :=
  ((p.tiles.filter fun t => t.2.kind != 2).map fun t =>
    let ti := t.1 % p.tw
    let tj := t.1 / p.tw
    let w := min cols.2 (64 * ti + 64) - max cols.1 (64 * ti)
    let a := max lo (64 * tj)
    let b := min hi (min p.height (64 * tj + 64))
    (b - a) * w * planeTexel p.fmt).sum

/-- The rows of a plane that are expanded for a frame. -/
def Output.cached (x : Output) (frame c plane : Nat) : Option (Nat × Nat) :=
  (x.cache.find? fun r => r.frame == frame && r.chan == c && r.plane == plane).map fun r => (r.lo.toNat, r.hi.toNat)

/-- Extends the expanded rows of a plane. -/
def Output.expand (x : Output) (i : FrameInfo) (c y : Nat) (p : Plane) : Output :=
  let r := clipRows (i.need (i.planeY p.num y)) p.height
  let old := x.cached i.frame c p.num
  let lo := match old with | none => r.1 | some q => min q.1 r.1
  let hi := match old with | none => r.2 | some q => max q.2 r.2
  let from_ := match old with | none => r.1 | some q => max r.1 q.2
  let row : CacheRows := { frame := i.frame, chan := c, plane := p.num, lo := lo, hi := hi }
  let rest := x.cache.filter fun k => !(k.frame == i.frame && k.chan == c && k.plane == p.num)
  let x1 := { x with cache := rest ++ (if r.1 < r.2 || old.isSome then [row] else []) }
  x1.count i.frame fun f => { f with decoded := f.decoded + p.expandedBytes (i.cols p) from_ r.2 }

/-- The decoder lanes expand what a band requires of a channel's scene, once. -/
def Output.expandBand (x : Output) (i : FrameInfo) (b : Band) (c : Nat) : Output :=
  if ((x.band b.frame b.y).elim [] (·.expanded)).contains c then x
  else
    ((i.scenes.getD c []).foldl (fun a p => a.expand i c b.y p) x).modBand b.frame b.y fun k =>
      { k with expanded := k.expanded ++ [c] }

/-- The bands in work of an output that pace before an instant are expanded, in order. -/
def Output.serve (x : Output) (before : Nat → Bool) : Output :=
  x.bands.foldl (fun a b =>
    match a.info b.frame with
    | none => a
    | some i => if before (a.bandAt i b) then i.chans.foldl (·.expandBand i b) a else a) x

/-- The decoder lanes serve the bands in work that pace before an instant, on both outputs together (R142). -/
def State.serve (s : State) (before : Nat → Bool) : State :=
  (s.modOut .A (·.serve before)).modOut .B (·.serve before)

/-- The channels whose preparation of a band is not complete. -/
def Band.missing (b : Band) (i : FrameInfo) : List Nat := i.chans.filter fun c => !(b.prepDone.contains c)

/-- What the formatter has waited for a band whose preparation is complete now comes off the frame's budget (R165). -/
def Output.payWait (x : Output) (i : FrameInfo) (b : Band) (clk : Nat) : Output :=
  if x.inBlank || b.frame != x.frameNum || x.sendRow / i.mode.hy != b.y || ((x.band b.frame b.y).elim [0] (·.missing i)) != [] then x
  else
    let spent := clk - x.waitFrom i.mode
    { x with budget := x.budget - spent, budgetOut := x.budgetOut || x.budget ≤ spent && 0 < spent }

/-- BAND_PREP_DONE (R141): every row that a band requires of a channel is there, and before it those of the bands that
pace earlier (R142). -/
def execBandPrepDone (o : OutId) (y c : Nat) (s : State) : Host.Outcome State Fault Refusal :=
  .next (match (s.out o).bands.find? fun b => b.y == y && !(b.prepDone.contains c) with
    | none => s
    | some b =>
      match (s.out o).info b.frame with
      | none => s
      | some i =>
        if !i.carries c || !(b.composed.contains c) then s
        else
          (s.serve (· < (s.out o).bandAt i b)).modOut o fun x =>
            let x := { x with band0At := if y = 0 then s.clk else x.band0At }
            ((x.expandBand i b c).modBand b.frame y fun k => { k with prepDone := k.prepDone ++ [c] }).payWait i b s.clk)

/-- PREP_BUDGET_SPENT (R165): the formatter waits for a band whose preparation is incomplete until the budget is gone. -/
def execPrepBudgetSpent (o : OutId) (s : State) : Host.Outcome State Fault Refusal :=
  .next (
    let x := s.out o
    match x.info x.frameNum with
    | none => s
    | some i =>
      match x.band x.frameNum (x.sendRow / i.mode.hy) with
      | none => s
      | some b =>
        if x.inBlank || x.budgetOut || b.missing i == [] || b.cap.isSome then s
        else
          (s.atClk (x.waitFrom i.mode + x.budget)).modOut o fun x =>
            { x with budgetOut := true, budget := 0 })

/-- Band expansion comes before the decoding of a TILE_GROUP at ingest (R124, R142). -/
def State.beforeIngest (s : State) (p : List Byte) : State := if opsType p = 3 then s.serve fun _ => true else s

/-- OPS_PACKET (R124 to R127, R142). -/
def execOpsPacket (c : Nat) (bytes : List Byte) (readOk : Bool) (s : State) : Host.Outcome State Fault Refusal :=
  .next (if s.mayIngest c then (s.beforeIngest bytes).opsPacket c bytes readOk else s)

/-! ### Ray maps (R168 to R170, R401) -/

/-- A ray map record: OX, OY, ORIENT. -/
structure RayRec where
  ox : Int
  oy : Int
  orient : Nat
  deriving DecidableEq, Repr

/-- A record of a ray map as DRAM holds it. -/
def State.rayRecAt (s : State) (base w x y : Nat) : RayRec :=
  let v := leNat (s.dramGet (base + rayPitch w * y + 4 * x) 4)
  { ox := sgn 8 (fld v 0 8), oy := sgn 8 (fld v 8 8), orient := fld v 16 2 }

/-- R401's step from an origin to a new value. -/
def rampMix (a b : Int) (w : Nat) : Int := (a * (256 - (w : Int)) + b * w + 128) / 256

/-- The ray map record of a hogel in a frame, within a ramp as R401 gives. -/
def State.rayRec (s : State) (i : FrameInfo) (x y : Nat) : RayRec :=
  if !i.rayOn then { ox := 0, oy := 0, orient := 0 }
  else
    let new := s.rayRecAt i.rayNew i.mode.w x y
    if i.ramp < 256 then
      let old := s.rayRecAt i.rayOld i.mode.w x y
      { ox := rampMix old.ox new.ox i.ramp, oy := rampMix old.oy new.oy i.ramp, orient := old.orient }
    else new

/-- The view that the emitter at column eu, row ev shows (R169). -/
def RayRec.view (r : RayRec) (m : ModeCfg) (eu ev : Nat) : Nat × Nat :=
  (if bitOf r.orient 0 then m.hx - 1 - eu else eu, if bitOf r.orient 1 then m.hy - 1 - ev else ev)

/-! ### Sampling (R97, R144 to R146, R153, R166) -/

/-- A texel as a channel's working values. -/
def workPair (hdr : Bool) (fmt : Nat) (t : Texel) : Pair :=
  match fmt with
  | 0 => { r := F32.ratio t.r 255, g := F32.ratio t.g 255, b := F32.ratio t.b 255, a := F32.ratio t.a 255 }
  | 1 => { r := F32.ratio t.r 1023, g := F32.ratio t.g 1023, b := F32.ratio t.b 1023, a := F32.ratio t.a 3 }
  | _ =>
    let a := half16 t.a F32.one
    let hi := if hdr then a.mul (F32.ofNat 64) else a
    { r := half16 t.r hi, g := half16 t.g hi, b := half16 t.b hi, a := a }

/-- The tile listed where a texel of a plane lies. -/
def Plane.tileAt (p : Plane) (i j : Int) : Option Tile :=
  if 0 ≤ i ∧ 0 ≤ j ∧ i < p.width ∧ j < p.height then tfind p.tiles (j.toNat / 64 * p.tw + i.toNat / 64) else none

/-- Whether a texel is transparent by R146: outside the plane or in an empty tile. -/
def Plane.bare (p : Plane) (i j : Int) : Bool :=
  match p.tileAt i j with
  | none => true
  | some t => t.kind == 2

/-- A texel of a plane. -/
def Plane.texel (p : Plane) (i j : Int) : Texel :=
  match p.tileAt i j with
  | none => .clear
  | some t =>
    let k := j.toNat % 64 * 64 + i.toNat % 64
    if t.kind = 2 then .clear
    else if t.kind = 1 then rawTexel p.fmt t.body k else ((t.texels p.fmt).getD []).getD k .clear

/-- R97: the effective disparity at hogel (x, y), and whether it was clamped. -/
def Plane.disparityAt (p : Plane) (s x y pmax : Nat) : Int × Bool :=
  let r := match p.tileAt (s * x) (s * y) with
    | none => 0
    | some t => t.relief
  let d := p.disp + r * 2 ^ p.rscale
  let m := (pmax : Int)
  if m < d then (m, true) else if d < -m then (-m, true) else (d, false)

/-- A ray's place (R144): hogel (of the wall in a ring), twice the centred view coordinates, ray map offsets. -/
structure RayAt where
  x  : Nat
  y  : Nat
  u2 : Int
  v2 : Int
  ox : Int
  oy : Int
  deriving DecidableEq, Repr

/-- R144: sample position in 1/256 texel, and whether it was clamped: its rows, and in a ring its columns (R586). -/
def RayAt.pos (a : RayAt) (i : FrameInfo) (p : Int) : Int × Int × Bool :=
  let s := (i.s : Int)
  let xq := 256 * s * a.x + (s * p * (32 * a.u2 - a.ox) + 32) / 64
  let yq := 256 * s * a.y + (s * p * (32 * a.v2 - a.oy) + 32) / 64
  let lo := 256 * s * ((a.y : Int) - i.reach)
  let hi := 256 * s * ((a.y : Int) + i.reach)
  let c := min (max yq lo) hi
  let xc := if i.ring then min (max xq (256 * s * i.wx)) (256 * (s * (i.wx + i.mode.w) - 1)) else xq
  (xc, c, c != yq || xc != xq)

/-- A pair times a weight of 65,536. -/
def Pair.weigh (p : Pair) (w : Int) : Pair :=
  let k := F32.ratio w.toNat 65536
  { r := p.r.mul k, g := p.g.mul k, b := p.b.mul k, a := p.a.mul k }

/-- The sum of two pairs. -/
def Pair.plus (p q : Pair) : Pair := { r := p.r.add q.r, g := p.g.add q.g, b := p.b.add q.b, a := p.a.add q.a }

/-- The sample of a plane (R146): `none` where every texel that it reads is transparent. -/
def Plane.sample (p : Plane) (hdr : Bool) (xq yq : Int) : Option Pair :=
  if p.filter then
    let i := xq / 256
    let j := yq / 256
    let fx := xq % 256
    let fy := yq % 256
    let rd := fun (a b w : Int) => (workPair hdr p.fmt (p.texel a b)).weigh w
    if p.bare i j && p.bare (i + 1) j && p.bare i (j + 1) && p.bare (i + 1) (j + 1) then none
    else some ((((rd i j ((256 - fx) * (256 - fy))).plus (rd (i + 1) j (fx * (256 - fy)))).plus
      (rd i (j + 1) ((256 - fx) * fy))).plus (rd (i + 1) (j + 1) (fx * fy)))
  else
    let i := (xq + 128) / 256
    let j := (yq + 128) / 256
    if p.bare i j then none else some (workPair hdr p.fmt (p.texel i j))

/-- A front plane texel word as a texel. -/
def unpackTexel (fp w : Nat) : Texel :=
  if fp = 0 then { r := fld w 0 8, g := fld w 8 8, b := fld w 16 8, a := fld w 24 8 }
  else { r := fld w 0 10, g := fld w 10 10, b := fld w 20 10, a := fld w 30 2 }

/-- The rows of a channel's front plane that are composed in a frame. -/
def Output.frontRows (x : Output) (frame c : Nat) : List Nat :=
  (x.front.filter fun f => f.frame == frame && f.chan == c).map (·.row)

/-- The front plane row that stands for hogel row y (R166): its own, else the nearest composed before it, else after. -/
def Output.frontRowFor (x : Output) (frame c row : Nat) : Option Nat :=
  let rs := x.frontRows frame c
  if rs.contains row then some row
  else match rs.filter (· < row) with
    | r :: t => some (t.foldl max r)
    | [] => match rs with
      | r :: t => some (t.foldl min r)
      | [] => none

/-! ### Marching (R147 to R154) -/

/-- A march in progress. -/
structure March where
  col  : Pair
  n    : Nat
  cut  : Bool
  stop : Bool
  reach : Bool
  clamp : Bool
  deriving DecidableEq, Repr

/-- The next plane of a march that is not skipped. -/
def March.meet (m : March) (cap : Nat) (q : Pair) : March :=
  if m.n = cap then { m with cut := true, stop := true }
  else
    let t := F32.one.sub m.col.a
    let c : Pair := { r := m.col.r.add (t.mul q.r), g := m.col.g.add (t.mul q.g), b := m.col.b.add (t.mul q.b),
                      a := m.col.a.add (t.mul q.a) }
    { m with col := c, n := m.n + 1, stop := (F32.ratio 255 256).le c.a }

/-- One scene plane of a march. `rows` are the plane's expanded rows in a late band. -/
def March.plane (m : March) (cap : Nat) (i : FrameInfo) (hdr : Bool) (a : RayAt) (late : Bool)
    (rows : Option (Nat × Nat)) (p : Plane) : March :=
  if m.stop then m
  else
    let d := p.disparityAt i.s a.x a.y i.mode.pmax
    let q := a.pos i d.1
    let m := { m with reach := m.reach || q.2.2, clamp := m.clamp || d.2 }
    let need := clipRows (i.need a.y) p.height
    let full := match rows with
      | none => need.2 ≤ need.1
      | some r => need.2 ≤ need.1 || (r.1 ≤ need.1 && need.2 ≤ r.2)
    if late && !full then
      match rows with
      | none => m
      | some r =>
        match p.sample hdr q.1 (min (max q.2.1 (256 * (r.1 : Int))) (256 * ((r.2 : Int) - 1))) with
        | none => m
        | some v => m.meet cap v
    else match p.sample hdr q.1 q.2.1 with
      | none => m
      | some v => m.meet cap v

/-- The march of a ray of a channel (R147). -/
def State.march (s : State) (o : OutId) (i : FrameInfo) (c cap : Nat) (late : Bool) (a : RayAt) : March :=
  let x := s.out o
  let hdr := bitOf i.hdr c
  let fp := i.fps.getD c 0
  let m0 : March := { col := .clear, n := 0, cut := false, stop := false, reach := false, clamp := false }
  let m1 := match x.frontRowFor i.frame c (i.s * (a.y - i.wy)) with
    | none => m0
    | some r => m0.meet cap (workPair hdr fp (unpackTexel fp ((x.frontAt i.frame c (i.s * (a.x - i.wx)) r).getD 0)))
  (i.scenes.getD c []).foldl (fun m p => m.plane cap i hdr a late (x.cached i.frame c p.num) p) m1

/-- R154 for an SDR value. -/
def sdrCode (v : F32) (full : Nat) : Nat :=
  let k := v.code full
  if full < k then Config.rayOver (v.m, v.e) full % (full + 1) else slackCode k full (Config.raySlack (v.m, v.e) full)

/-- R154: index of the ray transfer table, and the fraction as numerator and denominator. -/
def rttIndex (v : F32) : Nat × Nat × Nat :=
  let v := v.min (F32.ofNat 64)
  if v.m = 0 then (0, 0, 1)
  else
    let l := Nat.log2 v.m
    let e := v.e + l
    if e < -8 then
      let k := -(v.e + 15)
      if k ≤ 0 then (v.m * pow2 (-k), 0, 1) else (v.m / pow2 k, v.m % pow2 k, pow2 k)
    else
      let x := 64 * (v.m - 2 ^ l)
      let i := 128 + 64 * (e + 8).toNat + x / 2 ^ l
      if 1023 < i then (1023, 0, 1) else (i, x % 2 ^ l, 2 ^ l)

/-- R154 for an HDR value, with the output's table. -/
def hdrCode (rtt : Nat → Nat) (v : F32) (ray24 : Bool) : Nat :=
  let q := rttIndex v
  let a := (rtt q.1 : Int)
  let d := (rtt (min (q.1 + 1) 1023) : Int) - a
  let k := (((2 * a + 1) * q.2.2 + 2 * q.2.1 * d) / (2 * q.2.2)).toNat
  let base := if ray24 then min 255 ((k + 2) / 4) else k
  let full := if ray24 then 255 else 1023
  slackCode base full (Config.raySlack (v.m, v.e) full)

/-- The live ray transfer table of an output in a slice (R154, R181). -/
def State.rtt (s : State) (i : FrameInfo) (o : OutId) (n : Nat) : Nat :=
  fld (regGet s.variant .syn i.syn (0x10000 + 0x800 * o.num + 4 * (n / 2))) (16 * (n % 2)) 10

/-- A ray as the row store holds it: three codes. -/
def packRay (r g b : Nat) : Nat := r + 1024 * g + 1048576 * b

/-- The codes of a march. -/
def State.rayCode (s : State) (o : OutId) (i : FrameInfo) (c : Nat) (m : March) : Nat :=
  let f := fun (v : F32) =>
    if bitOf i.hdr c then hdrCode (s.rtt i o) v i.mode.ray24 else sdrCode v (if i.mode.ray24 then 255 else 1023)
  packRay (f m.col.r) (f m.col.g) (f m.col.b)

/-- One replication group's ray of a hogel (R82, R144, R151, R152): its code, and its march where a channel has it. -/
def State.groupRay (s : State) (o : OutId) (i : FrameInfo) (cap : Nat) (late : List Nat) (x y : Nat)
    (r : RayRec) (gu gv : Nat) : Nat × Option (Nat × March) :=
  let m := i.mode
  let su := if m.div = 0 then 1 else 2
  let sv := if m.div = 2 then 2 else 1
  let c := i.code (su * gu) (sv * gv)
  if 4 ≤ c then (0, none)
  else
    let u2 : Int := (2 * su * gu + (su - 1) : Nat) - ((m.hx : Int) - 1)
    let v2 : Int := (2 * sv * gv + (sv - 1) : Nat) - ((m.hy : Int) - 1)
    let t := s.march o i c cap (late.contains c) { x := x + i.wx, y := y + i.wy, u2 := u2, v2 := v2, ox := r.ox, oy := r.oy }
    (s.rayCode o i c t, some (c, t))

/-- The rays of one hogel in one emitter row: a code for each emitter column, and the marches, one for each group. -/
def State.hogelRays (s : State) (o : OutId) (i : FrameInfo) (cap : Nat) (late : List Nat) (x row : Nat) :
    List Nat × List (Nat × March) :=
  let m := i.mode
  let y := row / m.hy
  let r := s.rayRec i x y
  let su := if m.div = 0 then 1 else 2
  let sv := if m.div = 2 then 2 else 1
  let v := (r.view m 0 (row % m.hy)).2
  let gs := (List.range (cdiv m.hx su)).map fun g => s.groupRay o i cap late x y r g (v / sv)
  ((List.range m.hx).map fun eu => ((gs[(r.view m eu 0).1 / su]?).map (·.1)).getD 0, gs.filterMap (·.2))

/-! ### Spans (R155 to R157, R159) -/

/-- Whether a band may be dispatched (R165): prepared, or its frame's budget is spent, or the frame started by force. -/
def Output.mayDispatch (x : Output) (i : FrameInfo) (b : Band) : Bool :=
  b.missing i == [] || (b.frame == x.frameNum && !x.inBlank && (x.budgetOut || x.forced))

/-- Whether a row has room in the ray row store (R156). -/
def Output.hasRoom (x : Output) (frame row : Nat) : Bool :=
  (x.rows.any fun r => r.frame == frame && r.row == row) || x.rows.length < 8

/-- The pending span of an output that a slice may take: the first of its bands in order, with its pacing time. A span that
was lost (R157) goes to a slice that has swapped since, too: it is computed under its own frame's settings (R41). -/
def State.candidate (s : State) (slice : Nat) (o : OutId) : Option (Nat × Band × Nat × Nat) :=
  let x := s.out o
  match x.bands.find? fun b => b.spans != [] with
    | none => none
    | some b =>
      match x.info b.frame, b.spans with
      | some i, sp :: _ =>
        if x.mayDispatch i b && x.hasRoom b.frame sp.1 && s.inDoor slice && !ahead b.frame ((s.landing slice).swapped o) then
          some (x.startOf b.frame + i.mode.paceOf sp.1, b, sp.1, sp.2)
        else none
      | _, _ => none

/-- The output whose candidate a slice takes: the earlier pacing time, output A's on a tie. -/
def State.chooseSpan (s : State) (slice : Nat) : Option (OutId × Band × Nat × Nat) :=
  match s.candidate slice .A, s.candidate slice .B with
  | some a, some b => if a.1 ≤ b.1 then some (.A, a.2) else some (.B, b.2)
  | some a, none => some (.A, a.2)
  | none, some b => some (.B, b.2)
  | none, none => none

/-- The cap of a band (R159). -/
def capOf (m : ModeCfg) (lag prev : Nat) : Nat :=
  if lag = 0 then min 16 (2 * prev)
  else if lag * (m.rate * m.h) ≤ m.active then max 4 (prev / 2)
  else 4

/-- SPAN_DISPATCH (R156, R159, R166): a free slice takes a span. -/
def State.dispatch (s : State) (slice : Nat) : State :=
  if (s.slices.getD slice none).isSome || s.slices.length ≤ slice || !s.inDoor slice then s
  else match s.chooseSpan slice with
    | none => s
    | some (o, b, row, first) =>
      match (s.out o).info b.frame with
      | none => s
      | some i =>
        let x := s.out o
        let cap := match b.cap with
          | some c => c
          | none => capOf i.mode (s.lag o) x.lastCap
        let miss := b.missing i
        let newLate := miss.filter fun c => !(b.late.contains c)
        let sp : Span := { out := o, frame := b.frame, row := row, first := first, len := min 64 (i.mode.w - first),
                           cap := cap, late := miss, since := s.clk }
        let buf : RowBuf := { frame := b.frame, row := row, spans := [], left := cdiv i.mode.w 64 }
        let t := s.modOut o fun x =>
          let held := x.rows.any fun r => r.frame == b.frame && r.row == row
          let x1 := { x with lastCap := if b.cap.isNone then cap else x.lastCap,
                             rows := if held then x.rows else x.rows ++ [buf] }
          let x2 := x1.count b.frame fun f =>
            { f with bandsShed := f.bandsShed + b2n (b.cap.isNone && cap < 16), bandsRep := f.bandsRep + newLate.length }
          x2.modBand b.frame b.y fun k => { k with cap := some cap, late := k.late ++ newLate, spans := k.spans.tail }
        { t with slices := t.slices.set slice (some sp) }

/-- SPAN_DISPATCH (R156, R159). -/
def execSpanDispatch (slice : Nat) (s : State) : Host.Outcome State Fault Refusal := .next (s.dispatch slice)

/-- Counts the marches of a span (R97, R144, R149). -/
def FrameCounts.marches (f : FrameCounts) (cap : Nat) (ms : List (Nat × March)) : FrameCounts :=
  let cuts := (ms.filter (·.2.cut)).length
  { f with raysShed := f.raysShed + (if cap < 16 then cuts else 0), depthOvf := f.depthOvf + (if cap < 16 then 0 else cuts),
           samples := f.samples + (ms.map (·.2.n)).sum, reach := f.reach || ms.any (·.2.reach),
           clampCh := (f.clampCh ++ ((ms.filter (·.2.clamp)).map (·.1))).eraseDups }

/-- The counts of a frame of an output. -/
def Output.counts (x : Output) (frame : Nat) : FrameCounts :=
  if frame = x.frameNum ∧ x.inBlank = false then x.cur else x.nxt

/-- SPAN_COMPLETE (R155): the span's rays go into the row store. -/
def State.spanDone (s : State) (slice : Nat) : State :=
  match s.slices.getD slice none with
  | none => s
  | some p =>
    match (s.out p.out).info p.frame with
    | none => { s with slices := s.slices.set slice none }
    | some i =>
      if !s.inDoor slice then s
      else
        let rs := (List.range p.len).map fun k => s.hogelRays p.out i p.cap p.late (p.first + k) p.row
        let codes := rs.flatMap (·.1)
        let ms := rs.flatMap (·.2)
        let was := (s.out p.out).counts p.frame
        let s1 := s.modOut p.out fun x =>
          let put := fun (r : RowBuf) =>
            if r.frame = p.frame ∧ r.row = p.row then
              { r with spans := r.spans ++ [(p.first, codes)], left := r.left - 1 }
            else r
          let x1 := { x with rows := x.rows.map put }
          (x1.count p.frame (·.marches p.cap ms)).modBand p.frame (p.row / i.mode.hy) fun b =>
            { b with undone := b.undone - 1 }
        let now := (s1.out p.out).counts p.frame
        let s2 := s1.modOut p.out fun x =>
          { x with reachClamp := if now.reach && !was.reach then sat 16 (x.reachClamp + 1) else x.reachClamp }
        let s3 := (now.clampCh.filter fun c => !(was.clampCh.contains c)).foldl
          (fun (a : State) c => a.modChan c fun k => { k with pClamp := sat 16 (k.pClamp + 1) }) s2
        { s3 with slices := s3.slices.set slice none }

/-- SPAN_COMPLETE (R155). -/
def execSpanComplete (slice : Nat) (s : State) : Host.Outcome State Fault Refusal := .next (s.spanDone slice)

/-- SPAN_WATCHDOG (R157, R562): 4 t_band after its dispatch a span is dispatched again and its slice is reset. -/
def execSpanWatchdog (slice : Nat) (s : State) : Host.Outcome State Fault Refusal :=
  .next (match s.slices.getD slice none with
    | none => s
    | some p =>
      match (s.out p.out).info p.frame with
      | none => s
      | some i =>
        ((s.atClk (p.since + cdiv (4 * i.mode.active) (i.mode.rate * i.mode.h))).fault
          { code := 0x201, cls := 3, island := slice, detail := slice, force := .none }).requeue slice)

end Sys2Proof.Machine
end

