-- ==== Sys2Proof/Machine/Package.lean ====
section
/-! DEFINITION. A package that becomes live at a doorway: the point table, the regions, the sessions that close, and the
not-ready marking while the table is rewritten (R221, R226, R227, R523, R530, R531). -/
namespace Sys2Proof.Machine

/-! ### What a style takes (R229) -/

/-- Whether a value is valid for a point's style. -/
def Package.valueOk (p : Package) (style : Nat) (v : Int) : Bool :=
  let arg := style / 8 % 32
  match style % 8 with
  | 1 => 0 ≤ v && v < (p.strings.getD arg []).length
  | 3 => 0 ≤ v && v ≤ 3
  | 4 => 0 ≤ v && v < (p.symbols.getD arg []).length
  | _ => true

/-! ### R226 -/

/-- A point entry with its owner fields alone: runtime fields at 0 (R221). -/
def Point.owner (q : Point) : Point :=
  { q with received := false, expired := false, srcInv := false, check := 0, value := 0, birth := 0 }

/-- The entry of a new package with the runtime fields that R226 keeps. -/
def Package.carry (p : Package) (q : Point) (old : Option Point) : Point :=
  match old with
  | none => q.owner
  | some r =>
    if r.id == q.id && r.session == q.session && p.valueOk q.style r.value then
      { q with received := r.received, expired := r.expired, srcInv := r.srcInv, check := r.check, value := r.value,
               birth := r.birth }
    else q.owner

/-- The point entries that differ between two tables, by index: in their owner fields, or because R226 clears them. -/
def changedPoints (old new : Table Point) : List Nat :=
  ((old.map (·.1)) ++ (new.map (·.1))).eraseDups.filter fun k =>
    tfind old k != tfind new k

/-- The regions that carry the not-ready marking while the table is rewritten (R227): those whose record changes, and
those that hold a point whose entry changes. -/
def changedRegions (oldR newR : Table Region) (oldP newP : Table Point) (pts : List Nat) : List Nat :=
  let byRec := ((oldR.map (·.1)) ++ (newR.map (·.1))).eraseDups.filter fun k => tfind oldR k != tfind newR k
  let byPt := pts.flatMap fun k =>
    (match tfind oldP k with | none => [] | some q => [q.region]) ++ (match tfind newP k with | none => [] | some q => [q.region])
  (byRec ++ byPt).eraseDups

/-- The entry of SOURCES under which a session of an old entry goes on (R531): one with the same key whose range holds it. -/
def Package.covers (p : Package) (old : Option SourceKey) (num : Nat) : Option Nat :=
  match old with
  | none => none
  | some k =>
    let i := p.sources.findIdx fun e => e.key == k.key && e.first ≤ num && num ≤ e.last
    if i < p.sources.length then some i else none

/-- The image that a package gives for a Cellar message (R352, R528). -/
def Package.message (p : Package) (st : Nat) : Option Message := p.messages.find? (·.st == st)

/-- Closes sessions, journalling each (R565). -/
def State.closeSessions (s : State) (gone : List Session) : State :=
  let s1 := s.modTrust fun t => { t with sessions := t.sessions.filter fun q => !(gone.any (·.num == q.num)) }
  gone.foldl (fun a q => a.journal (.session q.num false a.us) true) s1

/-- The regions that this controller draws: in a ring those of its tile, at the tile's hogels (R587). -/
def State.placed (s : State) (rs : Table Region) : Table Region :=
  if !s.isHead && !s.isMember then rs
  else match s.ownTile with
    | none => []
    | some t =>
      let w := fld (s.tim .A 0x104) 0 16
      let h := fld (s.tim .A 0x104) 16 16
      (rs.filter fun e => e.2.x / max 1 w == t.1 && e.2.y / max 1 h == t.2).map fun e =>
        (e.1, { e.2 with x := e.2.x - t.1 * w, y := e.2.y - t.2 * h })

/-! ### The doorways of a package (R530, R531, R523) -/

/-- The pending package becomes live at output A's doorway (R226, R227, R530, R531). -/
def State.packageLive (s : State) (p : Package) : State :=
  let t := s.trust
  let pts : Table Point := p.points.map fun e => (e.1, p.carry e.2 (tfind t.points e.1))
  let chP := changedPoints t.points pts
  let regs := s.placed p.regions
  let kept := t.sessions.filterMap fun q =>
    (p.covers ((t.pkg.map (·.sources)).bind (·[q.srcKey]?)) q.num).map fun i => { q with srcKey := i }
  let gone := t.sessions.filter fun q => !(kept.any (·.num == q.num))
  let keepB := t.pendB != 0 && !s.locked
  let s1 := s.modTrust fun t =>
    { t with pkg := some p, pkgB := if keepB then t.pkg else none, pending := none, pendNeedB := keepB,
             points := pts, regions := regs, rewriting := true, rewrPts := chP,
             rewrRegs := (t.rewrRegs ++ changedRegions t.regions regs t.points pts chP).eraseDups,
             liveUs := if t.liveUs.isNone then some s.us else t.liveUs, sessions := kept,
             msgSs3 := p.message 3, msgSs4 := p.message 4 }
  let s1 := s1.modCellar fun c => { c with image := c.image.filter fun e => (tfind pts e.1).any (·.received) }
  gone.foldl (fun a q => a.journal (.session q.num false a.us) true) s1

/-- Every point and region becomes undefined, and rights return to the defaults (R523). -/
def State.packageGone (s : State) : State :=
  (s.modCellar fun c => { c with image := [] }).modTrust fun t =>
    { t with pkg := none, pkgB := none, pending := none, pendNeedB := false, points := [], regions := [], undefine := false,
             rewriting := false, rewrRegs := [], rewrPts := [], msgSs3 := none, msgSs4 := none }

/-- What a doorway of an output does to the owner package: output A takes a package that is due; output B, with
independent outputs, takes it at the doorway that R44 gives. -/
def State.packageDoor (s : State) (o : OutId) (n : Nat) : State :=
  match o with
  | .A =>
    let s := if s.trust.undefine then s.packageGone else s
    match s.trust.pending with
    | none => s
    | some p => if ahead s.trust.pendDue n then s else s.packageLive p
  | .B =>
    if s.trust.pendB = 0 ∨ ahead s.trust.pendB n then s
    else s.modTrust fun t => { t with pendB := 0, pendNeedB := false, pkgB := none }

/-- Whether what an output's frames before N rest on has been drawn and compared, so that the definitions may change. -/
def Output.drawnBefore (x : Output) (n : Nat) : Bool :=
  x.regions.all fun r => r.frame == n || r.judged || (r.sig.isSome && r.expect.isSome)

/-- Whether a doorway of an output changes the owner's definitions. -/
def State.packageDue (s : State) (o : OutId) (n : Nat) : Bool :=
  match o with
  | .A => s.trust.undefine || (s.trust.pending.isSome && !ahead s.trust.pendDue n)
  | .B => s.trust.pendB != 0 && !ahead s.trust.pendB n

/-- The first doorway of output B whose CLOSE falls at or after output A's SWAP of the package's frame (R44, R530). -/
def State.packageNote (s : State) (n : Nat) : State :=
  if s.variant == .E2 && s.trust.pending.isSome && !ahead s.trust.pendDue n && !s.locked && s.trust.pendB == 0 then
    s.modTrust fun t => { t with pendB := w32 ((s.door .B).closeN + 1) }
  else s

end Sys2Proof.Machine
end

