-- ==== Sys2Proof/Machine/Frames.lean ====
section
/-! DEFINITION. What frame N of an output runs under, worked out at its doorway: the live view division, the effective
slot codes, the calibration step, the ramp, the scene commits that become live, the planes that are dropped (R66 to R70,
R81 to R87, R116 to R120, R143, R298, R394 to R401, R684, R685). -/
namespace Sys2Proof.Machine

/-! ### Which copies a CLOSE fixes -/

/-- Whether a target falls at CLOSE(n) of an output: it is next, or its frame has come on its own counter; on the other
output once the named output has swapped (R38, R44). -/
def State.targetDue (s : State) (t : Target) (o : OutId) (opens joint : Bool) (n : Nat) : Bool :=
  match t with
  | .next => true
  | .frame q m => if joint || s.eff q == o then !ahead m n else opens
  | .sensor _ => false

/-- Records the frame at whose CLOSE a copy is fixed. -/
def Pend.fix (p : Pend) (o : OutId) (n : Option Nat) : Pend :=
  match o with
  | .A => { p with fixA := n }
  | .B => { p with fixB := n }

/-- Marks a copy late on an output (R683). -/
def Pend.late (p : Pend) : OutId → Pend
  | .A => { p with lateA := true }
  | .B => { p with lateB := true }

/-- Fixes the pending copies of frame n in order of acceptance: behind an earlier copy of its block that is not due, a
copy waits (R683); withheld copies wait for their islands (R42). -/
def State.fixCopies (s : State) (o : OutId) (joint : Bool) (n : Nat) : List Blk → List Pend → List Pend
  | _, [] => []
  | held, p :: ps =>
    if p.blk.kind ≠ some .f ∨ p.needs o = false ∨ (p.fixed o).isSome = true then p :: s.fixCopies o joint n held ps
    else if p.waits ≠ [] ∨ s.targetDue p.target o (p.opens o) joint n = false then
      p :: s.fixCopies o joint n (p.blk :: held) ps
    else if p.blk ∈ held then p.late o :: s.fixCopies o joint n held ps
    else p.fix o (some n) :: s.fixCopies o joint n held ps

/-- The frame of an output's next CLOSE. -/
def State.nextClose (s : State) (o : OutId) : Nat := w32 ((s.door o).closeN + 1)

/-! ### Settings of the frame -/

/-- A word of the newest live set of a block, or its reset value. -/
def State.newestWord (s : State) (b : Blk) (o : OutId) (off : Nat) : Nat :=
  regGet s.variant b (((s.commits.newest.find? fun e => e.blk == b && e.out == b.slot o).map (·.words)).getD []) off

/-- The words of a block that frame N of an output runs under. -/
def State.frameMap (s : State) (o : OutId) (n : Nat) (b : Blk) : RegMap :=
  match s.commits.pend.reverse.find? fun p => p.blk == b && p.fixed o == some n with
  | some p => p.words
  | none => ((s.commits.newest.find? fun e => e.blk == b && e.out == b.slot o).map (·.words)).getD []

/-- The settings of frame N at a doorway of an output: the copies fixed for it, else the newest live sets (R40, R41). -/
def State.frameSettings (s : State) (o : OutId) (n : Nat) : Settings := fun o' b off =>
  match s.commits.pend.reverse.find? fun p =>
      p.blk == b && p.fixed (if b.both || b.perOut then o' else o) == some n with
  | some p => regGet s.variant b p.words off
  | none => s.newestWord b o' off

/-! ### Slots (R61, R66, R67, R82, R84, R86) -/

/-- The replication groups of a footprint under a view division (R82), as slots. -/
def groupsOf (hx hy div : Nat) : List (List Nat) :=
  match div with
  | 1 => (List.range hy).flatMap fun v => (List.range (hx / 2)).map fun k => [16 * v + 2 * k, 16 * v + 2 * k + 1]
  | 2 => (List.range (hy / 2)).flatMap fun m => (List.range (hx / 2)).map fun k =>
      [32 * m + 2 * k, 32 * m + 2 * k + 1, 32 * m + 16 + 2 * k, 32 * m + 17 + 2 * k]
  | _ => (List.range hy).flatMap fun v => (List.range hx).map fun u => [16 * v + u]

/-- Whether every code of a list is the same. -/
def allSame : List Nat → Bool
  | [] => true
  | c :: cs => cs.all (· == c)

/-- R84: a group that carries a channel and anything else is mixed. -/
def mixed (cs : List Nat) : Bool := cs.any (· < 4) && !allSame cs

/-- The code of a group under step 2 of R67: the code of its members, or guard. -/
def groupCode (cs : List Nat) : Nat := if allSame cs then cs.headD 4 else 4

/-- Step 1 of R67: the code that the selected copy gives a slot. -/
def slotStep1 (g : Settings) (o : OutId) (zone : Table Nat) (k : Nat) : Nat :=
  if bitOf (g o .sco 0x110) o.num then tget 4 zone k else g o .sco (0x1000 + 0x400 * o.num + 4 * k) % 8

/-- The groups that are mixed under a division. -/
def mixedGroups (code : Nat → Nat) (m : ModeCfg) (div : Nat) : List (List Nat) :=
  (groupsOf m.hx m.hy div).filter fun grp => mixed (grp.map code)

/-- R86: the live view division of an output: the largest at or above the committed one, up to the step's, that the
footprint allows and under which no group is mixed. -/
def liveDiv (code : Nat → Nat) (m : ModeCfg) (step : Nat) : Nat :=
  ((List.range 3).reverse.find? fun d =>
    m.div < d && d ≤ step && divAllowed m.hx m.hy d && (mixedGroups code m d).isEmpty).getD m.div

/-- The effective codes of the used slots (R67): a table that lists every code but guard. -/
def effectiveCodes (code : Nat → Nat) (m : ModeCfg) : Table Nat :=
  (groupsOf m.hx m.hy m.div).foldl (fun t grp =>
    let c := groupCode (grp.map code)
    grp.foldl (fun (t : Table Nat) k => tset 4 t k c) t) []

/-! ### The calibration step (R393 to R398) -/

/-- Whether optical calibration may run (R393). -/
def State.optOn (s : State) (g : Settings) : Bool :=
  let w := g .A .cal 0x100
  let p := fld w 2 2
  bitOf w 0 && bitOf (s.lvCam p (0x100 * p)) 0

/-- Frames of a phase (R395). -/
def phaseFrames (g : Settings) (rate : Nat) : Nat := max 1 (fld (g .A .cal 0x104) 0 10 * rate / 1000)

/-- The UNIF_EN of the outputs on which a step of an output lights its view (R393). -/
def calUnif (locked : Bool) (o : OutId) (unifOn : List Bool) : List Nat :=
  (if locked then unifOn else [unifOn.getD o.num false]).map b2n

/-- What of a frame's settings a step of an output depends on (R397). -/
def FrameInfo.calKey (i : FrameInfo) (o : OutId) : List Nat :=
  [i.mode.div, i.step, i.mode.hx, i.mode.hy, i.mode.w, i.mode.h, i.source, b2n i.rayOn] ++ calUnif i.locked o i.unifOn

/-- R397: whether a running step is abandoned at the doorway of frame n; `elig` are the codes of step 2. -/
def State.calAbandon (s : State) (g : Settings) (o : OutId) (n : Nat) (c : CalStep) (slots : Table Nat) (key : List Nat) :
    Bool :=
  let x := s.out o
  c.group.any (fun k => tget 4 slots k != 5)
  || (c.startF != n && c.startClk + 50000000 < x.startOf n)
  || (match x.frames.reverse.head? with | none => false | some i => i.calKey o != key)
  || s.safeOf o != 0 || (g.locked && s.safeOf .B != 0) || !bitOf (g .A .cal 0x100) 0 || c.phase == 5

/-- R394: the group with which the next step would start, in increasing slot number behind the previous step's. -/
def nextGroup (cal : Calib) (elig : Table Nat) (m : ModeCfg) : Option (List Nat) :=
  let ok := (groupsOf m.hx m.hy m.div).filter fun grp => grp.all fun k => 9 ≤ tget 0 elig k
  let key := fun (grp : List Nat) => grp.foldl min 256
  let first := cal.done == 0 && cal.abandoned == 0
  let pick := fun (l : List (List Nat)) =>
    l.foldl (fun (a : Option (List Nat)) grp => match a with | none => some grp | some b => if key grp < key b then some grp else a) none
  match pick (ok.filter fun grp => first || cal.curSlot < key grp) with
  | some grp => some grp
  | none => pick ok

/-- The step's part of a doorway: abandoned, gone on, or started; the slots lit and the phase of the pattern. -/
def State.calDoor (s : State) (g : Settings) (o : OutId) (n : Nat) (m : ModeCfg) (slots elig : Table Nat)
    (key : List Nat) : State × List Nat × Nat :=
  let cal := s.calib
  match cal.step with
  | some c =>
    if c.out ≠ o then (s, [], 0)
    else if c.phase ≠ 5 ∧ ahead n (w32 (c.startF + 4 * c.frames - 1)) then (s, [], 0)
    else if s.calAbandon g o n c slots key then
      ({ s with calib := { cal with step := none, abandoned := sat 16 (cal.abandoned + 1), nextF := w32 (n + 8) } }, [], 0)
    else (s, c.group, (n + 0x100000000 - c.startF) % 0x100000000 / c.frames + 1)
  | none =>
    let own := if g.locked || s.variant == .E1 then OutId.A else cal.optOut
    if own ≠ o || !s.optOn g || ahead cal.nextF n || cal.building || s.safeOf o != 0 then (s, [], 0)
    else match nextGroup cal elig m with
      | none => (s, [], 0)
      | some grp =>
        let c : CalStep := { out := o, slot := grp.foldl min 256, group := grp, phase := 1, startF := n,
                             frames := phaseFrames g m.rate, startClk := 0, phaseClk := 0, prevClk := 0, usable := 0 }
        ({ s with calib := { cal with step := some c, curSlot := c.slot } }, grp, 1)

/-! ### The ramp (R401) -/

/-- The ramp of an output at the doorway of frame n. -/
def Ramp.door (r : Ramp) (src n : Nat) : Ramp :=
  if src ≠ r.source then { pos := 1, origin := r.source, frame := n, changed := true, source := src }
  else if 1 ≤ r.pos ∧ r.pos < 256 then { r with pos := r.pos + 1 } else r

/-- Replaces an output's ramp. -/
def State.setRamp (s : State) (o : OutId) (r : Ramp) : State :=
  match o with
  | .A => { s with calib := { s.calib with rampA := r } }
  | .B => { s with calib := { s.calib with rampB := r } }

/-! ### Scenes (R116 to R120, R684) -/

/-- A channel's scene on an output. -/
def Channel.scene (k : Channel) : OutId → List Plane
  | .A => k.sceneA
  | .B => k.sceneB

/-- A channel's scene on an output, replaced. -/
def Channel.setScene (k : Channel) (o : OutId) (ps : List Plane) (id : Nat) : Channel :=
  match o with
  | .A => { k with sceneA := ps, sceneIdA := id }
  | .B => { k with sceneB := ps, sceneIdB := id }

/-- SCENE_ID on an output. -/
def Channel.idOn (k : Channel) : OutId → Nat
  | .A => k.sceneIdA
  | .B => k.sceneIdB

/-- The frame at which a scene commit is fixed on an output. -/
def SceneCommit.fixed (k : SceneCommit) : OutId → Option Nat
  | .A => k.fixA
  | .B => k.fixB

/-- Fixes the scene commits of a channel in mark order (R116, R117). -/
def State.fixScenes (s : State) (o : OutId) (joint : Bool) (n : Nat) : Bool → List SceneCommit → List SceneCommit
  | _, [] => []
  | held, k :: ks =>
    let opens := match o with | .A => k.openA | .B => k.openB
    if k.needs o = false ∨ (k.fixed o).isSome = true then k :: s.fixScenes o joint n held ks
    else if held = true ∨ k.waits ≠ [] ∨ s.targetDue k.target o opens joint n = false then k :: s.fixScenes o joint n true ks
    else (match o with | .A => { k with fixA := some n } | .B => { k with fixB := some n }) :: s.fixScenes o joint n held ks

/-- A scene commit that has reached an output. -/
def SceneCommit.arrive (k : SceneCommit) : OutId → SceneCommit
  | .A => { k with needA := false, judged := true }
  | .B => { k with needB := false, judged := true }

/-- Plane slots of every channel on an output. -/
def State.slotsTaken (s : State) (o : OutId) : Nat := (s.chans.map fun k => planeSlots (k.scene o)).sum

/-- The settings of frame n at an output's own doorway, as committed by now: copies fixed for it, those that its CLOSE
will fix, and the newest live sets. -/
def State.settingsBy (s : State) (o : OutId) (n : Nat) : Settings :=
  let ps := (s.fixCopies o false n [] s.commits.pend).filter fun p => p.needs o && (p.fixed o).isSome
  fun _ b off =>
    match ps.reverse.find? (·.blk == b) with
    | some p => regGet s.variant b p.words off
    | none => s.newestWord b o off

/-- A channel's scene on an output at the doorway of frame n, with the commits pending for it by then; of `upto`, those
marked before. -/
def State.sceneBy (s : State) (o : OutId) (n c : Nat) (upto : Option SceneCommit) : List Plane :=
  let k := s.chan c
  let ks := (s.fixScenes o false n false k.pending).filter fun q => q.needs o && (q.fixed o).isSome
  let ks := match upto with
    | none => ks
    | some u => ks.takeWhile fun q => q.markSeq != u.markSeq || q.pkts != u.pkts
  ks.foldl (fun a q => applyCommit a q.pkts) (k.scene o)

/-- Whether an output carries a channel in a slot table. -/
def carriesIn (slots : Table Nat) (m : ModeCfg) (c : Nat) : Bool := m.usedSlots.any fun k => tget 4 slots k == c

/-- R119 for the output whose doorway falls: the planes that will be defined. -/
def State.slotsHere (s : State) (o : OutId) (m : ModeCfg) (slots : Table Nat) (c : Nat) (pkts : List ScenePkt) : Bool :=
  let count := ((List.range 4).map fun i =>
    planeSlots (if i = c then applyCommit ((s.chan i).scene o) pkts else (s.chan i).scene o)).sum
  !carriesIn slots m c || count ≤ m.slots

/-- R119 for the other output: at the doorway at which the commit becomes live there (R44), under the settings committed
for it by now and behind the scene commits that come before. -/
def State.slotsThere (s : State) (o : OutId) (c : Nat) (k : SceneCommit) : Bool :=
  let n := (k.fixed o).getD (s.nextClose o)
  let g := s.settingsBy o n
  let m := g.mode o
  let slots := effectiveCodes (slotStep1 g o (s.out o).zone) m
  let count := ((List.range 4).map fun i =>
    planeSlots (if i = c then applyCommit (s.sceneBy o n i (some k)) k.pkts else s.sceneBy o n i none)).sum
  !carriesIn slots m c || count ≤ m.slots

/-- One scene commit at its doorway on the outputs `os`, the first of which judges it. Scene commits of several channels
that fall at one doorway are judged in channel order, each behind those taken before it (DESIGN CHOICE, log entry 96). -/
def State.sceneDoor (s : State) (os : List OutId) (n : Nat) (m : ModeCfg) (slots : Table Nat) (c : Nat) (k : SceneCommit) :
    State :=
  let o := os.headD .A
  let drop := fun (cause seq : Nat) =>
    (s.modChan c fun x => { x with pending := x.pending.filter fun q => q.markSeq != k.markSeq || q.pkts != k.pkts,
                                   discarded := sat 32 (x.discarded + k.pkts.length) }).opsError c cause seq k.pkts.length
  let bad := if k.judged then none
    else match sceneFault ((s.chan c).scene o) k.pkts with
      | some e => some e
      | none =>
        let there := s.variant == .E1 || 1 < os.length || !k.needs o.other || s.slotsThere o.other c k
        if s.slotsHere o m slots c k.pkts && there then none else some (0x0C, k.markSeq)
  match bad with
  | some e => drop e.1 e.2
  | none =>
    let s := s.modChan c fun x =>
      let k' := os.foldl (fun (q : SceneCommit) p => q.arrive p) k
      let x := os.foldl (fun (y : Channel) p =>
        y.setScene p (applyCommit (y.scene p) k.pkts) (commitSceneId k.pkts (y.idOn p))) x
      { x with pending := (x.pending.map fun q => if q = k then k' else q).filter fun q => q.needA || q.needB }
    s.event (s.streamFunc c) 0x8200 (leBytes 1 c ++ leBytes 1 o.num ++ zeros 2 ++ leBytes 4 k.markId ++ leBytes 4 n
      ++ leBytes 4 ((s.chan c).idOn o))

/-- The outputs that a scene commit reaches at the doorway of frame n. -/
def SceneCommit.lands (k : SceneCommit) (os : List OutId) (n : Nat) : List OutId :=
  os.filter fun o => k.needs o && k.fixed o == some n

/-- The scene commits of every channel that fall at this doorway, in mark order (R117): a doorway that both outputs share
brings a commit to each that has still to take it (R45, R116). -/
def State.scenesDoor (s : State) (os : List OutId) (n : Nat) (m : ModeCfg) (slots : Table Nat) : State :=
  (List.range 4).foldl (fun a c =>
    ((a.chan c).pending.filter fun k => k.lands os n != []).foldl
      (fun b k => b.sceneDoor (k.lands os n) n m slots c k) a) s

/-- The planes of a scene that stay when `excess` slots have to go, the highest plane numbers first. -/
def dropPlanes : List Plane → Nat → List Plane × Nat × Nat
  | [], excess => ([], excess, 0)
  | p :: ps, excess =>
    let r := dropPlanes ps excess
    if 0 < r.2.1 then (r.1, r.2.1 - (if p.fmt = 2 then 2 else 1), r.2.2 + 1) else (p :: r.1, r.2.1, r.2.2)

/-- R120: planes become undefined on an output until the count fits; the event gives how many of each channel. In locked
operation output A's event stands for the panel (`quiet` on output B). -/
def State.dropDoor (s : State) (o : OutId) (n slots : Nat) (quiet : Bool) : State :=
  let r := [3, 2, 1, 0].foldl (fun (a : State × Nat × List Nat) c =>
    let d := dropPlanes ((a.1.chan c).scene o) a.2.1
    (a.1.modChan c fun k => k.setScene o d.1 (k.idOn o), d.2.1, d.2.2 :: a.2.2)) (s, s.slotsTaken o - slots, [])
  if s.slotsTaken o ≤ slots then s
  else if quiet then r.1
  else r.1.eventAll 0x8203 (leBytes 4 n ++ leBytes 1 o.num ++ zeros 1 ++ leBytes 2 slots ++ r.2.2.flatMap (leBytes 1))

/-! ### Streams (R685, R93) -/

/-- STREAM_EN of a channel as it becomes live at output A's doorway. A SUBMIT_OPS that waits for store space with its first
packet has not started: it ends NOT_READY (DESIGN CHOICE, log entry 115). -/
def State.streamDoor (s : State) (g : Settings) (c : Nat) : State :=
  let on := bitOf (g .A .scn (4 * c)) 7
  let k := s.chan c
  if on == k.enabled then s
  else if on then
    s.modChan c fun k => { k with enabled := true, headerSeen := false, skipping := false, authSkip := false, orphan := false,
                                  covered := none, openPkts := [], ans := .reset }
  else
    let s := s.modChan c fun k =>
      { k with enabled := false, openPkts := [], covered := none, orphan := false, skipping := false, authSkip := false,
               headerSeen := false, discarded := sat 32 (k.discarded + k.openPkts.length) }.modSub fun b =>
        { b with accepted := b.accepted - b.inOpen, discarded := b.discarded + b.inOpen, inOpen := 0 }
    (List.range k.subs.length).foldl (fun a _ =>
      match (a.chan c).subs with
      | [] => a
      | b :: _ => a.endSub c (if 0 < b.pos then stOk else stNotReady)) s

/-! ### STANDBY (R623) -/

/-- The frame at which POWER_STATE 2 is live has started on one of these outputs: both assert PSAFE, and the timing
generators stop behind the frames that run (R623). -/
def State.standbyEnter (s : State) (os : List OutId) : State :=
  match s.power.stdAt with
  | none => s
  | some (o, n) =>
    if o ∈ os ∧ (s.out o).frameNum = n then
      (s.modPower fun p => { p with standby := 2, stdAt := none,
                                    stdFrames := s.outs.filter fun q => !(s.out q).inBlank }).drivePsafe
    else s

/-! ### The frame -/

/-- Whether a change makes preparation of band 0 wait (R143). -/
def relayout (a b : ModeCfg) : Bool :=
  !(a.slots == b.slots && a.scale == b.scale && a.pmax == b.pmax && a.hx == b.hx && a.hy == b.hy && a.w == b.w && a.h == b.h)

/-- The settings' mode that an output ran under before the first frame: reset values. -/
def State.modeBefore (s : State) (o : OutId) : ModeCfg :=
  match (s.out o).frames.reverse.head? with
  | some i => i.mode
  | none => Settings.mode (fun _ b off => (resetWord s.variant b off).toNat) o

/-- Works out what frame n of an output runs under, once: at the first landing that swaps for it. In locked operation
output A's frame serves the whole panel, and output B has none of its own. Where one doorway takes scene commits and lowers
PLANE_SLOTS too, the commits come first (DESIGN CHOICE, log entry 96). -/
def State.deriveFrame (s : State) (o : OutId) (n : Nat) : State :=
  let g := s.frameSettings o n
  let lk := s.variant == .E2 && g.locked
  if ((s.out o).info n).isSome ∨ (lk = true ∧ o = OutId.B) then s
  else
    let os := if lk then [OutId.A, OutId.B] else [o]
    let s0 := s
    let s := if (s.door o).joint then (s.packageDoor OutId.A n).packageDoor OutId.B n else s.packageDoor o n
    let s := match (if o = OutId.A then s.track.zoneA else s.track.zoneB) with
      | none => s
      | some z =>
        let s := s.modOut o fun x => { x with zone := z }
        { s with track := if o = OutId.A then { s.track with zoneA := none } else { s.track with zoneB := none } }
    let was := s.modeBefore o
    let m0 := g.mode o
    let code := slotStep1 g o (s.out o).zone
    let step := s.power.stepLive
    let m := { m0 with div := liveDiv code m0 step }
    let slots := effectiveCodes code m
    let elig : Table Nat := m.usedSlots.foldl (fun t k =>
      if tget 4 slots k = 5 then tset 0 t k (min 9 (tget 0 (s.out o).elig k + 1)) else t) []
    let src := g.source o
    let ramp := (s.rampOf o).door src n
    let s := s.setRamp o ramp
    let running := 1 ≤ ramp.pos && ramp.pos < 256
    let ctl := g o .sco 0x220
    let rayOf := fun (k : Nat) => let p := rayBaseAt o k; g.base o p.1 p.2
    let unifOf := fun (k : Nat) => [OutId.A, OutId.B].map fun q => let p := unifBaseAt q k; g.base q p.1 p.2
    let unifOn := [OutId.A, OutId.B].map g.unifEn
    let key := [m.div, step, m.hx, m.hy, m.w, m.h, src, b2n (bitOf ctl o.num)] ++ calUnif lk o unifOn
    let cd := s.calDoor g o n m slots elig key
    let s := cd.1.scenesDoor os n m slots
    let s := if m.slots < was.slots then os.foldl (fun a p => a.dropDoor p n m.slots (p == .B && lk)) s else s
    let s := if o = OutId.A then (List.range 4).foldl (fun a c => a.streamDoor g c) s else s
    let tile := if o = OutId.A ∧ (s.isHead || s.isMember) = true then s.ownTile.map fun t => (t.1 * m.w, t.2 * m.h) else none
    let i : FrameInfo :=
      { frame := n, mode := m, syn := s0.frameMap o n .syn, slots := slots, lit := cd.2.1, pat := cd.2.2,
        scenes := s.chans.map fun (k : Channel) => k.scene o, ids := s.chans.map fun (k : Channel) => k.idOn o,
        fps := (List.range 4).map fun c => fld (g o .cmp (0x10 * c)) 0 1, hdr := fld (g o .syn 0x20) 0 4,
        budget := fld (g o .syn 0x24) (16 * o.num) 10, locked := lk,
        ramp := if running then ramp.pos else 256, rayOn := bitOf ctl o.num, rayNew := rayOf src,
        rayOld := rayOf ramp.origin, unifOn := unifOn, unifNew := unifOf src, unifOld := unifOf ramp.origin,
        source := src, step := step, confl := (mixedGroups code m m.div).length, ring := tile.isSome, wx := (tile.map (·.1)).getD 0, wy := (tile.map (·.2)).getD 0 }
    let s := s.modOut o fun x =>
      { x with frames := x.frames ++ [i], elig := elig, fresh := if relayout was m then some n else x.fresh,
               prepFrame := if (s.door o).joint && x.prepFrame != n then n else x.prepFrame,
               prepY := if (s.door o).joint && x.prepFrame != n then 0 else x.prepY }
    let up := OutId.A ∈ os ∧ s.power.stepA < step
    let s := { s with power := { s.power with stepA := if OutId.A ∈ os then step else s.power.stepA,
                                              stepB := if OutId.B ∈ os then step else s.power.stepB,
                                              stepAt := if up then s.us else s.power.stepAt } }
    if up then
      (s.eventAll 0x8F01 (leBytes 1 step ++ zeros 3 ++ leBytes 4 n)).fault
        { code := 0xF04, cls := 0, island := 255, detail := step, force := .none }
    else s

end Sys2Proof.Machine
end

