-- ==== Sys2Proof/Machine/Ring.lean ====
section
/-! DEFINITION. The ring ports and enumeration: training, HELLO, PING, ACK and resending, a port that goes down, and the
identities and L_max that the head works out (R584, R585, R588 to R596, R602, R608 to R612). -/
namespace Sys2Proof.Machine

/-! ### Ports -/

/-- A RING event of a kind (R510, R611): the member concerned and the frame number. Where a kind concerns no member,
DEVICE_ID is a free value. -/
def State.ringEvent (s : State) (kind : Nat) (dev : Option Nat) : State :=
  let s1 := if dev.isSome then s else s.drawn
  s1.eventAll 0x8E00 (leBytes 1 kind ++ zeros 1 ++ leBytes 2 (dev.getD (s.freeBelow 65536)) ++ leBytes 4 (s.frameOf .A))

/-- A fault of a ring port. -/
def State.portFault (s : State) (p : RPort) (code cls : Nat) : State :=
  s.fault { code := code, cls := cls, island := 44 + p.no, detail := 0, force := .none }

/-- EAST_EN or WEST_EN, live (R612). -/
def State.portEn (s : State) (p : RPort) : Bool := bitOf (s.lvAt (44 + p.no) .rng .A 0) (p.no - 2)

/-- Whether a ring port may train: enabled, its island powered. -/
def State.portMayRun (s : State) (p : RPort) : Bool :=
  s.portEn p && (s.landing (44 + p.no)).powered && s.power.hearth && !s.cellar.ss4 && s.power.standby != 3

/-- A training attempt begins with block lock (R594); the training window of R323 falls first. -/
def State.startPort (s : State) (p : RPort) : State :=
  if !s.portMayRun p then (s.modRport p RingPort.stop).idlePort p.no
  else
    let s := (((txLanes p.no).foldl (fun a n => a.abortCal n) s).lneWindow p.no (portLanes p.no) false).wakePort p.no
    s.modRport p fun r => { r with st := 1, phaseAt := s.clk, hello := none, unacked := [], credits := 0, group := [] }

/-! ### Enumeration (R585, R596) -/

/-- A member's entry (R591). -/
def Member.bytes (m : Member) : List Byte := leBytes 2 m.id ++ zeros 2 ++ leBytes 4 m.hopNs ++ leBytes 8 m.serial

/-- The body of an ENUM packet. -/
def enumBody (ms : List Member) : List Byte := leBytes 2 ms.length ++ zeros 6 ++ ms.flatMap Member.bytes

/-- The entries of a received ENUM packet. -/
def enumEntries (pkt : List Byte) : List Member :=
  (List.range (min (nAt pkt 16 2) 4096)).map fun k =>
    { id := nAt pkt (24 + 16 * k) 2, hopNs := nAt pkt (28 + 16 * k) 4, serial := nAt pkt (32 + 16 * k) 8 }

/-- The head sends an ENUM packet in each direction; with no port ACTIVE it stands alone (R596). -/
def State.enumerate (s : State) : State :=
  if !s.headBit then s
  else
    let s := s.modRing fun r =>
      { r with enumAt := s.us, enumE := if r.east.active then none else some [],
               enumW := if r.west.active then none else some [] }
    if s.activePorts = [] then
      let gone := (s.ring.membersE ++ s.ring.membersW).eraseDups
      let s := s.modRing fun r =>
        { r with devices := 1, hopsE := 0, hopsW := 0, lMax := 0, long := false, membersE := [], membersW := [], closed := false,
                 enumed := true }
      gone.foldl (fun a m => a.ringEvent 6 (some m.id)) s
    else s.sendBoth 5 0 0xFFFF (enumBody [])

/-- The ID behind one, skipping 0x0000 and 0xFFFF. -/
def idAfter (n : Nat) : Nat := if 0xFFFE ≤ n then 1 else n + 1

/-- The first ID behind one that no controller holds. -/
def freeId (taken : List Nat) : Nat → Nat → Nat
  | 0, n => n
  | k + 1, n => let m := idAfter n; if m ∈ taken then freeId taken k m else m

/-- R585: members without an ID are numbered in order, counting on from the head's. -/
def assignIds (taken : List Nat) : Nat → List Member → List Member
  | _, [] => []
  | n, m :: ms =>
    if m.id ≠ 0 then m :: assignIds taken n ms
    else let k := freeId taken 65536 n; { m with id := k } :: assignIds (k :: taken) k ms

/-- The sum of HOP_NS from the head to the member at a place of a direction. -/
def hopSum (ms : List Member) (k : Nat) : Nat := ((ms.take (k + 1)).map (·.hopNs)).sum

/-- L_max (R596): in a closed ring a START reaches a member by the shorter way. -/
def lMaxOf (closed : Bool) (e w : List Member) : Nat :=
  if closed then
    ((List.range e.length).map fun k =>
      let m := e.getD k { id := 0, hopNs := 0, serial := 0 }
      let j := w.findIdx fun q => q.serial == m.serial
      if j < w.length then min (hopSum e k) (hopSum w j) else hopSum e k).foldl max 0
  else max ((e.map (·.hopNs)).sum) ((w.map (·.hopNs)).sum)

/-- Whether a length lies beyond the bound of R602, in ns. -/
def State.beyond (s : State) (ns : Nat) : Bool :=
  let m := s.liveSettings.mode .A
  1000 * m.vmin < 40000 + ns

/-- Whether a DEVICE_ID has an entry in the live tile table (R588). -/
def State.hasTile (s : State) (id : Nat) : Bool :=
  (List.range 256).any fun k => let t := s.lv .rng .A (0x1000 + 4 * k); fld t 0 16 == id && id != 0

/-- Both directions are back: IDs, L_max and the counts of R612, with the events of R611; entries with new IDs travel
round again, with LAST, for the members to take. -/
def State.enumDone (s : State) (closed : Bool) (e w : List Member) : State :=
  let r := s.ring
  let west := w.filter fun m => !(e.any fun q => q.serial == m.serial)
  let all := assignIds (r.ownId :: (e ++ west).map (·.id)) r.ownId (e ++ west)
  let named := fun (m : Member) => { m with id := ((all.find? fun q => q.serial == m.serial).map (·.id)).getD m.id }
  let e1 := e.map named
  let w1 := w.map named
  let old := (r.membersE ++ r.membersW)
  let l := lMaxOf closed e1 w1
  let s1 := s.modRing fun r =>
    { r with enumed := true, enumE := none, enumW := none, membersE := e1, membersW := w1, closed := closed,
             devices := 1 + all.length, hopsE := e1.length, hopsW := w1.length, lMax := l, long := s.beyond l }
  let joined := all.filter fun m => !(old.any fun q => q.serial == m.serial)
  let left := (old.filter fun m => !(all.any fun q => q.serial == m.serial)).foldl
    (fun (a : List Member) m => if a.any fun q => q.serial == m.serial then a else a ++ [m]) []
  let s1 := if closed && !r.closed then s1.ringEvent 1 none else s1
  let s1 := if !closed && r.closed then s1.ringEvent 2 none else s1
  let s1 := joined.foldl (fun a m => a.ringEvent 5 (some m.id)) s1
  let s1 := (joined.filter fun m => !s.hasTile m.id).foldl (fun a m => a.ringEvent 4 (some m.id)) s1
  let s1 := left.foldl (fun a m => a.ringEvent 6 (some m.id)) s1
  let s1 := if s.beyond l && !r.long then s1.ringEvent 7 none else s1
  if (e ++ west).any (·.id == 0) then s1.sendBoth 5 6 0xFFFF (enumBody all) else s1

/-- A direction's entries are back at the head. -/
def State.enumBack (s : State) (p : RPort) (closed : Bool) (ms : List Member) : State :=
  let s := s.modRing fun r => match p with | .east => { r with enumE := some ms } | .west => { r with enumW := some ms }
  match s.ring.enumE, s.ring.enumW with
  | some e, some w => s.enumDone closed e w
  | _, _ => s

/-! ### A port's state changes -/

/-- Whether a receipt is still empty: a refused update's, whose TAG is zero (R215, R606). -/
def emptyReceipt (rc : List Byte) : Bool := allZero (bytesAt rc 24 16)

/-- The head completes a relayed command (R607). Where no controller acted, R478 gives the answer, with one violation;
of a SUBMIT_POINTS, one for each update of a session that is open nowhere. -/
def State.endRelay (s : State) (c : RelayCmd) : State :=
  let k : Cmd := { f := c.func, e := c.entry }
  let done := fun (s : State) (st : Nat) (resp : List Byte) =>
    if st = stBusyRetry then s.drawn.complete c.func c.entry st (1 + s.freeBelow 0xFFFFFFFE) resp
    else s.complete c.func c.entry st 0 resp
  let s :=
    if k.opcode = 0x502 then
      let n := k.payload.length / 48
      let lost := (List.range n).filter fun i =>
        emptyReceipt (bytesAt c.resp (40 * i) 40)
        && !(s.trust.sessions.any fun x => x.num == nAt k.payload (48 * i + 4) 2)
      done (lost.foldl (fun (a : State) _ => a.violate 4) s) stOk c.resp
    else match c.status with
      | none => done (s.violate 1) stOk (zeros c.resp.length)
      | some st => done s st c.resp
  drainBad c.func (s.box c.func).ready.length s

/-- The relayed commands whose packets are back from every direction complete (R607). -/
def State.endRelays (s : State) : State :=
  let back := s.ring.relays.filter (·.left.isEmpty)
  back.foldl (fun a c => a.endRelay c) (s.modRing fun r => { r with relays := r.relays.filter fun c => !c.left.isEmpty })

/-- Nothing more comes back from a direction that is gone. -/
def Ring.loseDirection (r : Ring) (p : RPort) : Ring :=
  { r with relays := r.relays.map fun (c : RelayCmd) => { c with left := c.left.filter (· != p) },
           readyBack := r.readyBack.filter (· != p) }

/-- A port leaves ACTIVE (R608, R610). -/
def State.portDown (s : State) (p : RPort) : State :=
  if !(s.rport p).active then s
  else
    let was := s.ring.closed
    let s := ((s.modRport p RingPort.stop).modRing fun r => { r.loseDirection p with closed := false }).portFault p 0x1001 2
    let s := if s.headBit && was then s.ringEvent 2 none else s
    s.endRelays.enumerate

/-- The HELLO of a port (R590). -/
def State.helloBlock (s : State) (p : RPort) : List Byte :=
  leBytes 1 0x20 ++ zeros 1 ++ leBytes 2 s.ring.ownId ++ leBytes 8 s.trust.serial
  ++ leBytes 1 (b2n s.headBit + 2 * b2n (p == .west)) ++ leBytes 1 (if s.variant = .E2 then 0xE2 else 0xE1)

/-- A port becomes ACTIVE: a DESKEW slot first (R589), packets counted from 0, no credit before the first ACK. -/
def State.portUp (s : State) (p : RPort) : State :=
  let s := s.modRport p fun r =>
    { r with st := 5, refused := false, hello := none, pingAt := s.clk,
             txSeq := 0, unacked := [], credits := 0, ackAt := s.clk, ackSent := s.clk, rxSeq := 0, sendSeq := 0,
             group := [] }
  let s := s.modRing fun r => { r with known := true, headAt := if r.known then r.headAt else s.us }
  (s.deskew p.no 1).enumerate

/-- R595: the partner's HELLO at a port in its HELLO phase. -/
def State.takeHello (s : State) (p : RPort) (b : List Byte) : State :=
  let own := if s.variant = .E2 then 0xE2 else 0xE1
  if nAt b 0xD 1 ≠ own ∨ (s.headBit && bitOf (nAt b 0xC 1) 0) = true then
    (s.modRport p fun r => { r with st := 7, refused := true, retryAt := s.clk + 25000000, hello := none }).portFault p 0x1004 2
  else s.portUp p

/-- A received CONTROL block of a subtype; one whose CRC fails, or of another subtype, is not this row's. -/
def ctlIs (sub : Nat) (b : List Byte) : Bool := ctlOk b && nAt b 0 1 == sub

/-- HELLO (R594, R595): one that comes while the port still trains is kept for its own HELLO phase. -/
def execHelloBlk (p : RPort) (block : List Byte) (s : State) : Host.Outcome State Fault Refusal :=
  .next (if !ctlIs 0x20 block then s
    else
      let st := (s.rport p).st
      if st = 4 then s.takeHello p block
      else if 1 ≤ st ∧ st ≤ 3 then s.modRport p fun r => { r with hello := some block }
      else s)

/-- The next phase of a ring port's training. -/
def State.portPhase (s : State) (p : RPort) (st : Nat) : State := s.modRport p fun r => { r with st := st, phaseAt := s.clk }

/-- The HELLO phase: HELLO goes out, and one that has come already is judged. -/
def State.helloPhase (s : State) (p : RPort) : State :=
  let s := (s.portPhase p 4).sendCtl p (s.helloBlock p)
  match (s.rport p).hello with
  | none => s
  | some b => s.takeHello p b

/-- The DESKEW slots that a port has sent every 10 µs since its DESKEW phase began, behind the first (R594). -/
def State.deskewRepeats (s : State) (p : RPort) : State := s.deskew p.no ((s.clk - 1 - (s.rport p).phaseAt) / 250)

/-- The partner's TRAIN_REPORT at a ring port (R590, R594). -/
def State.ringReport (s : State) (p : RPort) (b : List Byte) : State :=
  let lanes := txLanes p.no
  let s := (List.range 4).foldl (fun a k => a.modLane (lanes.getD k 0) fun l => { l with eye := nAt b (4 + k) 1 }) s
  match (s.rport p).st with
  | 1 =>
    if nAt b 2 1 % 16 = 15 then
      ((s.portPhase p 2).modRport p fun r => { r with block := true }).firstPresets p.no
    else s
  | 2 =>
    if lanes.any fun n => (s.lane n).eye < s.eyeMin .A then lanes.foldl (fun a n => a.nextPreset n (s.eyeMin .A)) s
    else (s.portPhase p 3).deskew p.no 1
  | 3 => if nAt b 3 1 = 1 then (s.deskewRepeats p).helloPhase p else s
  | _ => s

/-- TRAIN_REPORT of a ring port (R594). -/
def execRingTrainReport (p : RPort) (block : List Byte) (s : State) : Host.Outcome State Fault Refusal :=
  .next (if !ctlIs 0x11 block || (s.rport p).st == 0 then s else s.ringReport p block)

/-- The bound of a ring port's phase, in crystal cycles (R594). -/
def portBound (st : Nat) : Option Nat :=
  match st with
  | 1 => some 250000
  | 2 => some 1250000
  | 3 => some 25000
  | 4 => some 125000
  | _ => none

/-- RING_TRAIN_TIMEOUT (R594): a phase has run out, and the port waits 100 ms; or it has waited, and starts again. -/
def execRingTrainTimeout (p : RPort) (s : State) : Host.Outcome State Fault Refusal :=
  let r := s.rport p
  .next (match portBound r.st with
    | some n =>
      let s := s.atClk (r.phaseAt + n)
      let s := if r.st = 3 then s.deskewRepeats p else s
      s.modRport p fun r => { r with st := 6, retryAt := s.clk + 2500000, hello := none }
    | none => if r.st = 6 then (s.atClk r.retryAt).startPort p else s)

/-- JOIN_RETRY (R595). -/
def execJoinRetry (p : RPort) (s : State) : Host.Outcome State Fault Refusal :=
  .next (if (s.rport p).st = 7 then (s.atClk (s.rport p).retryAt).startPort p else s)

/-! ### PING (R593) -/

/-- PING: a request is answered with its STAMP; a reply gives HOP_NS, half the round trip less the partner's answer time,
which lies anywhere within 100 ns. -/
def execPingBlk (p : RPort) (block : List Byte) (s : State) : Host.Outcome State Fault Refusal :=
  .next (if !ctlIs 0x30 block || !(s.rport p).active then s
    else if nAt block 2 1 = 0 then s.sendCtl p (leBytes 1 0x30 ++ zeros 1 ++ leBytes 1 1 ++ zeros 1 ++ leBytes 4 (nAt block 4 4))
    else
      let rtt := 40 * ((s.clk + 0x100000000 - nAt block 4 4) % 0x100000000)
      s.drawn.modRport p fun r => { r with hopNs := (rtt - s.freeBelow 101) / 2 })

/-- PING_TIMER (R593): every 1 ms. -/
def execPingTimer (p : RPort) (s : State) : Host.Outcome State Fault Refusal :=
  .next (if !(s.rport p).active then s
    else
      let s := s.atClk ((s.rport p).pingAt + 25000)
      (s.modRport p fun r => { r with pingAt := s.clk }).sendCtl p (leBytes 1 0x30 ++ zeros 3 ++ leBytes 4 (w32 s.clk)))

/-! ### ACK and resending (R592) -/

/-- The packets sent and not covered by an ACK. -/
def RingPort.inFlight (r : RingPort) : List (Nat × List Byte) := r.unacked.filter fun e => ahead r.sendSeq e.1

/-- What an ACK does: packets up to ACK_SEQ are covered, and CREDITS less what is on its way may be sent. -/
def RingPort.acked (r : RingPort) (seq credits now : Nat) : RingPort :=
  let left := r.unacked.filter fun e => ahead e.1 seq
  let r1 := { r with unacked := left, ackAt := if left.length < r.unacked.length then now else r.ackAt }
  let out := (r1.inFlight.map fun e => packetUnits e.2).sum
  pump left { r1 with credits := credits - out }

/-- ACK (R592). -/
def execAckBlk (p : RPort) (block : List Byte) (s : State) : Host.Outcome State Fault Refusal :=
  .next (if !ctlIs 0x31 block || !(s.rport p).active then s
    else s.modRport p fun r => r.acked (nAt block 4 4) (nAt block 8 4) s.clk)

/-- RETX_TIMEOUT (R592): 20 µs without an advance, every packet from the first one not covered is sent again. -/
def execRetxTimeout (p : RPort) (s : State) : Host.Outcome State Fault Refusal :=
  let r := s.rport p
  .next (if !r.active || r.inFlight.isEmpty then s
    else
      let s := s.atClk (r.ackAt + 500)
      let s := s.modRport p fun r => { r with pkts := r.pkts ++ r.inFlight.map (·.2), ackAt := s.clk }
      (s.modRing fun g => { g with retx := sat 16 (g.retx + r.inFlight.length) }).portFault p 0x1002 1)

/-- RING_PORT_DOWN (R608): the port trains again. -/
def execRingPortDown (p : RPort) (s : State) : Host.Outcome State Fault Refusal :=
  .next (if (s.rport p).active then (s.portDown p).startPort p else s)

/-- ENUM_TIMER (R596): every 1 s. -/
def execEnumTimer (s : State) : Host.Outcome State Fault Refusal :=
  .next (if s.headBit && s.power.hearth then (s.atUs (s.ring.enumAt + 1000000)).enumerate else s)

/-! ### The live RNG bits (R594, R612) -/

/-- A port's enable bit as its island has it live: the port starts, or leaves the ring. -/
def State.portLive (s : State) (p : RPort) : State :=
  if s.portEn p then (if (s.rport p).st = 0 then s.startPort p else s)
  else if (s.rport p).st = 0 then s
  else ((s.portDown p).modRport p RingPort.stop).idlePort p.no

/-- What IS46 does with HEAD and DEVICE_ID live: the head's own ID; a member without a tile holds its outputs (R588). -/
def State.ringLive (s : State) : State :=
  let s := if s.headBit then s.modRing fun r => { r with ownId := fld (s.lv .rng .A 4) 0 16 } else s
  if s.isMember && s.ownTile.isNone && !(s.outs.all fun o => (s.out o).held) then
    let s := s.outs.foldl (fun (a : State) o => a.modOut o fun x => { x with held := true }) s
    s.drivePsafe.ringEvent 4 (some s.ring.ownId)
  else s

end Sys2Proof.Machine
end

