-- ==== Sys2Proof/Machine/Doorway.lean ====
section
/-! DEFINITION. The frame doorway: CLOSE, SWAP, each landing's swap, and a landing that is late (R37 to R45, R50, R568,
R572, R604, R645, R683). -/
namespace Sys2Proof.Machine

/-! ### CLOSE (R38, R645, R254) -/

/-- Whether output A's next doorway makes LOCKED 1 (R254). -/
def State.lockNext (s : State) : Bool :=
  s.variant == .E2 && !s.locked &&
  match ((s.fixCopies .A false (s.nextClose .A) [] s.commits.pend).filter fun p =>
      p.blk == .sco && p.fixA == some (s.nextClose .A)).reverse with
  | [] => false
  | p :: _ => bitOf (regGet s.variant .sco p.words 0) 0

/-- Whether the band scheduler has come to the frame that follows (R38); frame 1 waits for the start-up conditions of
R645. -/
def State.frameDue (s : State) (o : OutId) : Bool :=
  let x := s.out o
  let n := s.nextClose o
  if x.firstRun then s.dram.st == 2 && s.power.banksIn && s.power.pkgChecked
  else x.prepFrame == n && x.prepY == 0 && w32 (x.frameNum + 1) == n

/-- Whether CLOSE may be issued on an output. -/
def State.mayClose (s : State) (o : OutId) : Bool :=
  s.outs.contains o && s.power.hearth && !s.cellar.ss4 && (s.power.standby == 0 || (s.power.standby == 4 && s.dram.st == 2))
  && !(s.door o).closing && s.frameDue o
  && (if s.locked then !(s.door .B).closing
      else if o == .B then !((s.door .A).joint && (s.door .A).swapN != s.outA.frameNum)
      else !s.lockNext || !(s.door .B).closing)

/-- A landing that is on and locked, and neither in recovery nor held out, joins the protocol at a CLOSE with the newest
live sets (R26, R572, R645). -/
def State.joins (s : State) (isl : Nat) : Bool := s.works isl && !(s.landing isl).inProtocol

/-- The live sets that a landing holds when it joins: the newest of the frame doorway, and its own of other doorways. -/
def State.joinSets (s : State) (isl : Nat) (l : Landing) : List LiveSet :=
  (l.sets.filter fun e => e.blk.kind != some .f)
  ++ s.commits.newest.filter fun e => e.blk.kind == some .f && e.blk.holders.contains isl
       && (if e.blk.both || e.blk.perOut then (landingServes e.blk isl).contains e.out else true)

/-- A landing with the sets it holds when it joins: its status names the latest commit of those that came while it was
away (R26), and copies fixed for a frame whose SWAP has fallen, which others have still to take, it takes with them
(R51). -/
def State.joined (s : State) (isl : Nat) (l : Landing) : Landing :=
  let sets := s.joinSets isl l
  let came := fun (o : OutId) => (sets.filter fun e => e.out == o && !l.sets.contains e).getLast?
  let l1 := { l with inProtocol := true, sets := sets, swapA := (s.door .A).swapN, swapB := (s.door .B).swapN,
                     liveCommitA := ((came .A).map LiveSet.cid).getD l.liveCommitA,
                     liveFrame := ((came .A).map LiveSet.frame).getD l.liveFrame,
                     liveCommitB := ((came .B).map LiveSet.cid).getD l.liveCommitB }
  let due := fun (o : OutId) => s.commits.pend.filter fun p =>
    match p.fixed o with | none => false | some m => !ahead m (s.door o).swapN
  (l1.takes isl .A (s.door .A).swapN (due .A)).takes isl .B (s.door .B).swapN (due .B)

/-- Landings join at CLOSE(n) of an output. -/
def State.joinLandings (s : State) (o : OutId) (n : Nat) : State :=
  let go := (List.range 64).filter s.joins
  let s1 := { s with landings := s.landings.mapIdx fun k l =>
      if k ∈ go then s.joined k l else l }
  let s2 := s1.modCellar fun c => { c with recov := c.recov.map fun (r : Recovery) =>
    if !r.store && r.replayed && r.rejoin.isNone && go.contains r.island then { r with rejoin := some (o, n) } else r }
  let still := fun (ks : List Nat) => ks.filter fun k => !(s2.landing k).inProtocol
  { s2 with
    commits := { s2.commits with pend := s2.commits.pend.map fun (p : Pend) => { p with waits := still p.waits } },
    chans := s2.chans.map fun (c : Channel) =>
      { c with pending := c.pending.map fun (k : SceneCommit) => { k with waits := still k.waits } } }

/-- Output B finishes its frame in flight and waits for frame n (R254): what was prepared for a next frame of its own is
given up, and copies and scene commits fixed for that frame become live at frame n. -/
def State.gatherB (s : State) (n : Nat) : State :=
  let m := s.outB.frameNum
  let s := s.modOut .B fun x =>
    { x with bands := x.bands.filter fun b => !ahead b.frame m, front := x.front.filter fun f => !ahead f.frame m,
             cache := x.cache.filter fun k => !ahead k.frame m, rows := x.rows.filter fun r => !ahead r.frame m,
             regions := x.regions.filter fun r => !ahead r.frame m, frames := x.frames.filter fun i => !ahead i.frame m }
  { s with
    landings := s.landings.map fun (l : Landing) => { l with swapB := w32 (n + 0xFFFFFFFF) },
    slices := s.slices.map fun (k : Option Span) => k.filter fun p => !(p.out == .B && ahead p.frame m),
    chans := s.chans.map fun (c : Channel) => { c with pending := c.pending.map fun (k : SceneCommit) =>
      if k.needB && k.fixB.isSome then { k with fixB := some n } else k },
    commits := { s.commits with pend := s.commits.pend.map fun (p : Pend) =>
      if p.needB && p.fixB.isSome then { p with fixB := some n } else p } }

/-- CLOSE of an output, or of both where they share the doorway. -/
def State.closeDoor (s : State) (o : OutId) : State :=
  let joint := s.locked || (o == .A && s.lockNext)
  let n := s.nextClose o
  let os := if joint then [OutId.A, OutId.B] else [o]
  let s := if joint && !s.locked then s.gatherB n else s
  let s := s.joinLandings o n
  let pend := os.foldl (fun ps q => s.fixCopies q joint n [] ps) s.commits.pend
  let chans := s.chans.map fun k => { k with pending := os.foldl (fun ks q => s.fixScenes q joint n false ks) k.pending }
  let s := { s with commits := { s.commits with pend := pend }, chans := chans,
                    power := { s.power with closed1 := s.power.closed1 || n == 1 } }
  let s := os.foldl (fun a q =>
    (a.modDoor q fun d => { d with closeN := n, closeClk := a.clk, closing := true, joint := joint, late := [] }).modOut q fun x =>
      { x with firstRun := false }) s
  if OutId.A ∈ os then s.sendReady n else s

/-- DOORWAY_CLOSE (R38): in locked operation output A's doorway is both outputs'. -/
def execDoorwayClose (o : OutId) (s : State) : Host.Outcome State Fault Refusal :=
  .next (if s.mayClose (s.eff o) then s.closeDoor (s.eff o) else s)

/-! ### SWAP (R39, R44, R557, R568) -/

/-- Ends the handling of recoveries that satisfy a test: their log entries are handled (R557). -/
def State.endHandling (s : State) (p : Recovery → Bool) : State :=
  let gone := (s.cellar.recov.filter p).map (·.logSeq)
  (s.modCellar fun c => { c with recov := c.recov.filter fun r => !p r }).modLog (fun e => e.cls == 3 && gone.contains e.seq)
    fun e => { e with handled := true }

/-- The outputs that share an output's doorway. -/
def State.doorOuts (s : State) (o : OutId) : List OutId := if (s.door o).joint then [OutId.A, OutId.B] else [o]

/-- SWAP(N): commits whose frame has come on the named output open on the other one (R44), handling of an island that rejoined
ends, with its SS3 where the output's link is not enabled, and a checkpoint begins where R568 says so. -/
def State.swapDoor (s : State) (o : OutId) : State :=
  let n := (s.door o).closeN
  let os := s.doorOuts o
  let s := os.foldl (fun a q => a.modDoor q fun d => { d with swapN := n, closing := false }) s
  let opened := fun (t : Target) => match t with | .frame p m => os.contains (s.eff p) && !ahead m n | _ => false
  let pend := s.commits.pend.map fun (p : Pend) => if opened p.target then { p with openA := true, openB := true } else p
  let openK := fun (k : SceneCommit) => if opened k.target then { k with openA := true, openB := true } else k
  let chans := s.chans.map fun (c : Channel) => { c with pending := c.pending.map openK }
  let s := { s with commits := { s.commits with pend := pend }, chans := chans }
  let back := fun (r : Recovery) => os.any fun q => r.rejoin == some (q, n)
  let unlinked := s.outs.filter fun q => !s.linkEn q && s.cellar.recov.any fun r => back r && r.island == 44 + q.num
  let s := unlinked.foldl (fun (a : State) q => a.linkRestored q) (s.endHandling back)
  let s := if os.contains .A && n % 256 == 0 && s.cellar.ckptBusy.isNone then s.ckptStart n false else s
  if OutId.A ∈ os then s.packageNote n else s

/-- DOORWAY_SWAP (R39). -/
def execDoorwaySwap (o : OutId) (s : State) : Host.Outcome State Fault Refusal :=
  .next (if (s.door (s.eff o)).closing then s.swapDoor (s.eff o) else s)

/-- The commits of a frame are withheld from every landing until a late island has rejoined (R42). -/
def State.withhold (s : State) (isl n : Nat) (os : List OutId) : State :=
  let pend := s.commits.pend.map fun (p : Pend) =>
    if os.any (fun q => p.fixed q == some n) then
      let free := os.foldl (fun (a : Pend) q => if a.fixed q == some n then a.fix q none else a) p
      { free with waits := [isl] }
    else p
  let free := fun (k : SceneCommit) =>
    if os.any (fun q => k.fixed q == some n) then
      { k with fixA := if OutId.A ∈ os ∧ k.fixA = some n then none else k.fixA,
               fixB := if OutId.B ∈ os ∧ k.fixB = some n then none else k.fixB, waits := [isl] }
    else k
  let chans := s.chans.map fun (c : Channel) => { c with pending := c.pending.map free }
  { s with commits := { s.commits with pend := pend }, chans := chans }

/-- What is withheld for the islands reported at a CLOSE waits for one more of them. -/
def State.withholdMore (s : State) (isl : Nat) (late : List Nat) : State :=
  let more := fun (ks : List Nat) => if ks ≠ [] ∧ ks.all (late.contains ·) = true then ks ++ [isl] else ks
  { s with
    commits := { s.commits with pend := s.commits.pend.map fun (p : Pend) => { p with waits := more p.waits } },
    chans := s.chans.map fun (c : Channel) =>
      { c with pending := c.pending.map fun (k : SceneCommit) => { k with waits := more k.waits } } }

/-- LANDING_TIMEOUT (R42): 20 µs after CLOSE(N) the late island is reported; the frame's commits are withheld until it
has rejoined, and SWAP is issued without them. Where several islands are late at one CLOSE, each is reported, and what was
withheld waits for all. -/
def execLandingTimeout (isl : Nat) (o : OutId) (s : State) : Host.Outcome State Fault Refusal :=
  let o := s.eff o
  let d := s.door o
  let n := d.closeN
  let os := s.doorOuts o
  let report := fun (a : State) =>
    (os.foldl (fun (b : State) q => b.modDoor q fun d => { d with late := d.late ++ [isl] }) a).fault
      { code := 0x0001, cls := 3, island := isl, detail := n, force := s.islandForce isl }
  .next (if !s.inDoor isl then s
    else if d.closing then (report ((s.atClk (d.closeClk + 500)).withhold isl n os)).swapDoor o
    else if d.late ≠ [] ∧ isl ∉ d.late ∧ s.clk ≤ d.closeClk + 500 ∧ ahead n ((s.landing isl).swapped o) = true then
      report (s.withholdMore isl d.late)
    else s)

/-! ### A landing's swap (R40, R41) -/

/-- Whether an island stands between its last work of frame n - 1 and its first of frame n: the band scheduler of IS62
between the last band of frame n - 1 that it issues and the first of frame n. -/
def State.boundary (s : State) (isl : Nat) (o : OutId) (n : Nat) : Bool :=
  let x := s.out o
  let old := x.bands.filter fun b => b.frame != n
  if isl = 62 then x.prepFrame == n && x.prepY == 0 || x.frameNum == n
  else if isl < 32 then
    old.all (fun b => b.spans.isEmpty)
    && (match (s.slices[isl]?).join with | none => true | some p => p.out != o || p.frame == n)
  else if isl < 42 then
    old.all (fun b => b.done || (match x.info b.frame with | none => true | some i => (b.missing i).isEmpty))
    && (!s.packageDue o n || x.drawnBefore n)
  else x.frameNum == n

/-- POWER_STATE 2 live for frame n of an output: STANDBY is entered when that frame starts (R623). -/
def State.standbyLive (s : State) (o : OutId) (n : Nat) : State :=
  if s.power.standby = 0 ∧ fld (s.lv .cpt .A 0) 0 2 = 2 then
    (s.modPower fun p => { p with stdAt := some (o, n) }).standbyEnter [o]
  else s

/-- What a landing's new live sets bring about at once. A formatter takes its own output's slot codes; in locked operation
output B has no frame of its own, so that its live slot table reads the codes of its last one (R70 says no more than that the
table is ignored; DESIGN CHOICE, log entry 114). -/
def State.swapActs (s : State) (isl : Nat) (o : OutId) (n : Nat) : State :=
  if isl = 42 ∨ isl = 43 then
    let q := outOf (isl - 42)
    if q ≠ o then s
    else match (s.out q).info n with
      | none => s
      | some i => s.modOut q fun x => { x with slots := i.slots, lit := i.lit }
  else if isl = 44 ∨ isl = 45 then
    let q := outOf (isl - 44)
    if q ≠ o then s else (s.linkEnLive q).drivePsafe
  else if isl = 46 then
    let s := (s.portLive .east).ringLive
    match s.trust.pkg with
    | none => s
    | some p => s.modTrust fun t => { t with regions := s.placed p.regions }
  else if isl = 47 then s.portLive .west
  else if isl = 54 then
    if s.cellar.faultIn ∧ s.faultInEn = true then s.faultInFault else s
  else if isl = 62 then s.standbyLive o n
  else s

/-- LANDING_SWAP: the landing takes what was fixed for the frame (R40), and the doorway event follows when every landing
has (R32). -/
def State.swapLanding (s : State) (isl : Nat) (o : OutId) (n : Nat) : State :=
  let s := s.deriveFrame o n
  let s0 := s
  let s := s.modLanding isl fun l =>
    let l := l.takes isl o n (s.commits.pend.filter fun p => match p.fixed o with | none => false | some m => !ahead m n)
    match o with | .A => { l with swapA := n } | .B => { l with swapB := n }
  let s := if isl = 54 ∧ s.cellar.faultIn = true ∧ s0.faultInEn = true ∧ s.faultInEn = false then s.faultInSeen else s
  (s0.noteTe (s.swapActs isl o n)).settle o (s.door o).joint

/-- LANDING_SWAP (R40). -/
def execLandingSwap (isl : Nat) (o : OutId) (s : State) : Host.Outcome State Fault Refusal :=
  let n := (s.door o).swapN
  .next (if s.outs.contains o && s.inDoor isl && ahead n ((s.landing isl).swapped o) && s.boundary isl o n
    then s.swapLanding isl o n else s)

end Sys2Proof.Machine
end

