-- ==== Sys2Proof/Machine/Audit.lean ====
section
/-! DEFINITION. Audit capture and the audit chain: captures, gaps, image records, seals and chain start records
(R133 to R136, R204 to R208, R500, R523, R540 to R544). The descriptors of the chain stand in host memory: what the
controller reads there is the host's, and its writes there are kept in order. -/
namespace Sys2Proof.Machine

/-! ### Records (R206, R541) -/

/-- A record from its header, payload and RECORD_SEQ. -/
def auditRecord (seq : Nat) (header payload : List Byte) : List Byte :=
  let b := fitTo 64 header ++ payload
  let b := b ++ zeros (up8 b.length - b.length)
  let t := b ++ leBytes 4 seq ++ leBytes 4 (b.length + 16)
  t ++ leBytes 4 (crc32 t).toNat ++ zeros 4

/-- The header of an image or gap record. -/
def auditHeader (kind chan out fmt seq frame scene commit w h flags tiles time : Nat) : List Byte :=
  leBytes 1 kind ++ leBytes 1 chan ++ leBytes 1 out ++ leBytes 1 fmt ++ leBytes 4 seq ++ leBytes 4 frame ++ leBytes 4 scene
  ++ leBytes 4 commit ++ leBytes 2 w ++ leBytes 2 h ++ leBytes 4 flags ++ leBytes 4 tiles ++ leBytes 8 time

/-- The header of a chain record. -/
def chainHeader (kind seq segment time : Nat) : List Byte :=
  leBytes 1 kind ++ zeros 3 ++ leBytes 4 seq ++ leBytes 4 segment ++ zeros 20 ++ leBytes 8 time

/-- A gap record. -/
def Gap.record (g : Gap) (seq time : Nat) : List Byte :=
  auditRecord seq (auditHeader 2 g.chan g.port.num g.cause seq g.first g.last g.void 0 0 0 0 time) []

/-! ### Image tiles (R133, R205) -/

/-- A texel word of a capture. -/
def Capture.texel (k : Capture) (x y : Nat) : Nat :=
  match (k.rows.find? (·.1 == y)).bind (·.2[x]?) with
  | some t => t
  | none => Config.auditPad k.seq (x + 65536 * y) % 0x100000000

/-- The raw bytes of tile (tx, ty). -/
def Capture.rawTile (k : Capture) (tx ty : Nat) : List Byte :=
  (List.range 4096).flatMap fun i => leBytes 4 (k.texel (64 * tx + i % 64) (64 * ty + i / 64))

/-- A tile as the encoder writes it: its own coding where that decodes to the image and is smaller than raw, else raw. -/
def encodeTile (fmt : Nat) (raw : List Byte) : List Byte :=
  let ts := (List.range 4096).map (rawTexel fmt raw)
  let c := Config.encodeTile fmt [ts.map (·.g), ts.map (·.r), ts.map (·.b), ts.map (·.a)]
  let t := parseTile [] c
  if tileForm fmt c && t.tablesPresent && t.texels fmt == some ts && c.length < 16 + rawSize fmt then c
  else leBytes 1 1 ++ zeros 15 ++ raw

/-- An image record. -/
def Capture.record (k : Capture) : List Byte :=
  let tw := cdiv k.w 64
  let th := cdiv k.h 64
  let flags := b2n k.notReady + 2 * b2n k.forced + 4 * b2n k.safe
  auditRecord k.seq
    (auditHeader 1 k.chan k.out.num k.fmt k.seq k.frame k.scene k.commit k.w k.h flags (tw * th) k.time)
    ((List.range th).flatMap fun ty => (List.range tw).flatMap fun tx => encodeTile k.fmt (k.rawTile tx ty))

/-! ### The chain (R134 to R136, R500) -/

/-- Bytes that the controller reads from host memory: what they are is the host's. -/
def State.hostRead (s : State) (addr n : Nat) : List Byte := (List.range n).map fun i => Config.hostByte s.free (addr + i)

/-- A write to host memory. -/
def State.post (s : State) (addr : Nat) (bs : List Byte) : State :=
  s.modAudit fun a => { a with posted := a.posted ++ [(addr, bs)] }

/-- The chain of a number (R500). -/
def State.chainOf (s : State) (gen : Nat) : Chain :=
  if gen = s.audit.gen then s.audit.chain else ((s.audit.older.find? (·.1 == gen)).map (·.2)).getD (Chain.at 0)

/-- Replaces the chain of a number. -/
def State.setChain (s : State) (gen : Nat) (k : Chain) : State :=
  s.modAudit fun a =>
    if gen = a.gen then { a with chain := k }
    else { a with older := a.older.map fun e => if e.1 = gen then (gen, k) else e }

/-- The controller leaves a buffer: it writes USED, then sets DONE (R134, R135). -/
def State.leaveBuffer (s : State) (k : Chain) : State :=
  if k.desc = 0 then s else (s.post (k.desc + 0x18) (leBytes 4 k.used)).post (k.desc + 0x1C) (leBytes 4 1)

/-- Whether a descriptor's bytes name a buffer (R134). A descriptor outside the manual's ranges counts as one whose VALID
is 0 (DESIGN CHOICE, log entry 104). -/
def descOk (d : List Byte) : Bool :=
  bitOf (nAt d 0xC 4) 0 && nAt d 0 8 % 4096 == 0 && nAt d 8 4 % 4096 == 0 && 4096 ≤ nAt d 8 4 && nAt d 8 4 ≤ 268435456

/-- Reads a descriptor and goes on in its buffer; where its VALID is 0 the chain is exhausted (R136). -/
def State.enterDesc (s : State) (gen addr : Nat) : State :=
  let k := s.chainOf gen
  let d := s.hostRead addr 32
  let s := s.drawn
  if descOk d then
    (s.leaveBuffer k).setChain gen { k with desc := addr, buf := nAt d 0 8, size := nAt d 8 4, used := 0, out := false }
  else s.setChain gen { k with out := true }

/-- Finds room in a chain whose buffer is full, or that has none yet: NEXT is read; 0, or a descriptor that is not VALID,
exhausts the chain (R136). A NEXT that is not 32-byte aligned counts as 0 (DESIGN CHOICE, log entry 104). -/
def State.advanceChain (s : State) (gen : Nat) : State :=
  let k := s.chainOf gen
  if k.head = 0 then s
  else if k.desc = 0 then s.enterDesc gen k.head
  else if k.used < k.size then s.setChain gen { k with out := false }
  else
    let n := leNat (s.hostRead (k.desc + 0x10) 8)
    if n = 0 ∨ n % 32 ≠ 0 then s.drawn.setChain gen { k with out := true } else s.drawn.enterDesc gen n

/-- Fills buffers in chain order with bytes, one buffer or one step on per unit of fuel (R135): what did not fit is left
over, and the chain is then exhausted. -/
def State.fillChain : Nat → State → Nat → List Byte → State × List Byte
  | 0, s, _, bs => (s, bs)
  | _, s, _, [] => (s, [])
  | n + 1, s, gen, bs =>
    let k := s.chainOf gen
    if k.out then (s, bs)
    else if k.desc = 0 ∨ k.size ≤ k.used then State.fillChain n (s.advanceChain gen) gen bs
    else
      let m := min bs.length (k.size - k.used)
      State.fillChain n ((s.post (k.buf + k.used) (bs.take m)).setChain gen { k with used := k.used + m }) gen (bs.drop m)

/-- Writes a record into its chain: whole, or void because the chain ran out within it (R136, R207). -/
def State.putRecord (s : State) (gen seq : Nat) (bytes : List Byte) : State :=
  let r := State.fillChain (2 * (bytes.length / 4096) + 4) s gen bytes
  let whole := r.2.isEmpty
  r.1.modAudit fun a =>
    { a with recs := a.recs.map fun e => if e.1 = seq then (seq, if whole then some bytes else none) else e,
             written := if whole then a.written ++ [bytes] else a.written,
             voids := if whole then a.voids else a.voids + 1 }

/-- A record of the controller's own, complete as it begins: it takes the next RECORD_SEQ, and while a seal is due it waits
behind it (R540). -/
def State.newRecord (s : State) (mk : Nat → List Byte) : State :=
  let seq := s.audit.recSeq
  let s := s.modAudit fun a => { a with recSeq := w32 (a.recSeq + 1), recs := a.recs ++ [(seq, none)] }
  if s.audit.sealDue.isSome then
    s.modAudit fun a => { a with behind := a.behind ++ [(s.audit.gen, seq, mk seq)] }
  else s.putRecord s.audit.gen seq (mk seq)

/-- Whether the chain in use is exhausted. -/
def State.chainOut (s : State) : Bool := s.audit.chain.out

/-- The chain start record, where one is due (R543). -/
def State.chainStart (s : State) : State :=
  match s.audit.startDue with
  | none => s
  | some cause =>
    let body := leBytes 8 s.trust.serial ++ zeros 8 ++ fitTo 32 s.trust.bootId ++ leBytes 4 s.audit.segment
      ++ leBytes 1 cause ++ zeros 3 ++ fitTo 64 s.audit.prevHash
    let t := s.newRecord fun seq => auditRecord seq (chainHeader 0x11 seq (w32 (s.audit.segment + 1)) s.us) body
    if t.chainOut then t else t.modAudit fun a => { a with startDue := none }

/-- Earlier chains that no capture runs into any more: their buffers are left (R135, R500). -/
def State.tidyChains (s : State) : State :=
  let gone := s.audit.older.filter fun e => !(s.audit.caps.any (·.gen == e.1))
  (gone.foldl (fun (a : State) e => a.leaveBuffer e.2) s).modAudit fun a =>
    { a with older := a.older.filter fun e => a.caps.any (·.gen == e.1) }

/-- SET_AUDIT_CHAIN takes effect at a capture start; captures that run go on into the chain that they began in (R500). -/
def State.takeChain (s : State) : State :=
  match s.audit.nextChain with
  | none => s
  | some n => (s.modAudit fun a =>
      { a with chain := Chain.at n, nextChain := none, gen := a.gen + 1, older := a.older ++ [(a.gen, a.chain)],
               startDue := some 1 }).tidyChains

/-! ### Captures (R204, R207, R208) -/

/-- Puts a gap among those of its channel, in frame order (R207). -/
def insertGap (g : Gap) : List Gap → List Gap
  | [] => [g]
  | h :: hs => if h.chan = g.chan ∧ ahead h.first g.first = true then g :: h :: hs else h :: insertGap g hs

/-- Notes a frame of a channel that is not captured (R201, R208): it prolongs the channel's latest gap of that cause, or
begins one. `void` is the record abandoned within it, 0xFFFFFFFF for none. -/
def State.noteGap (s : State) (o : OutId) (c cause n void : Nat) : State :=
  s.modAudit fun a =>
    let l := (a.gaps.filter (·.chan == c)).getLast?
    { a with
      skipped := a.skipped.modify c fun k => sat 16 (k + 1),
      gaps := match l with
        | some g =>
          if g.cause = cause ∧ g.port = o ∧ void = 0xFFFFFFFF then a.gaps.map fun h => if h = g then { g with last := n } else h
          else insertGap { chan := c, port := o, cause := cause, first := n, last := n, void := void } a.gaps
        | none => a.gaps ++ [{ chan := c, port := o, cause := cause, first := n, last := n, void := void }] }

/-- Writes gap records while the chain has room; a gap whose record did not fit stays. -/
def State.writeGaps : List Gap → State → State
  | [], s => s
  | g :: gs, s =>
    let t := s.newRecord fun seq => g.record seq s.us
    State.writeGaps gs (if t.chainOut then t else t.modAudit fun a => { a with gaps := a.gaps.filter (· != g) })

/-- The gaps that come before any other record once the chain has room: those of the channels that an exhausted chain cost
a frame (R136). -/
def State.outGaps (s : State) : List Gap :=
  s.audit.gaps.filter fun g => s.audit.gaps.any fun h => h.chan == g.chan && h.cause == 1

/-- At a capture start the controller looks again for room in a chain without any (R136). -/
def State.findRoom (s : State) : State :=
  let k := s.audit.chain
  let s := if k.out ∨ k.desc = 0 ∨ k.size ≤ k.used then s.advanceChain s.audit.gen else s
  if s.chainOut then s else State.writeGaps s.chainStart.outGaps s.chainStart

/-- The control word of a channel's composer, live for an output. -/
def State.capWord (s : State) (o : OutId) (c : Nat) : Nat := s.lvAt (36 + c) .cmp o (0x10 * c)

/-- Whether a frame of an output is a capture frame of a channel (R204). -/
def State.captureDue (s : State) (o : OutId) (i : FrameInfo) (c : Nat) : Bool :=
  let w := s.capWord o c
  bitOf w 1 && (i.locked || fld w 2 1 == o.num) && i.carries c && i.frame % cdiv i.mode.rate (fld w 8 4) == 0

/-- Whether a Cellar force acts on a channel of an output. -/
def State.forceOn (s : State) (o : OutId) (c : Nat) : Bool :=
  s.cellar.ss4 || s.cellar.ss3.any (·.out == o) || s.ss2On o c
  || (s.regionsOn o).any fun e => e.2.chan == c && s.ss1On o e.1

/-- The gap records of a channel, then its image record begins (R207, R208). -/
def State.beginCapture (s : State) (o : OutId) (i : FrameInfo) (c : Nat) (forced : Bool) : State :=
  let s := State.writeGaps (s.audit.gaps.filter (·.chan == c)) s
  if s.chainOut then s.noteGap o c 1 i.frame 0xFFFFFFFF
  else
    let seq := s.audit.recSeq
    let l := s.landing (36 + c)
    let k : Capture :=
      { chan := c, out := o, frame := i.frame, fmt := i.fps.getD c 0, seq := seq, scene := i.ids.getD c 0,
        commit := (match o with | .A => l.liveCommitA | .B => l.liveCommitB), time := s.us, forced := forced,
        safe := s.forceOn o c, w := i.mode.w, h := i.mode.h, ended := false, notReady := false, rows := [],
        gen := s.audit.gen }
    s.modAudit fun a => { a with recSeq := w32 (a.recSeq + 1), caps := a.caps ++ [k], recs := a.recs ++ [(seq, none)] }

/-- CAPTURE_START (R204, R136, R208, R500) of every channel, in channel order. -/
def State.captureStart (s : State) (o : OutId) (i : FrameInfo) (forced : Bool) : State :=
  (List.range 4).foldl (fun (s : State) c =>
    if !s.captureDue o i c || s.trust.lifecycle == 3 then s
    else
      let s := s.takeChain.findRoom
      if s.audit.caps.any (·.chan == c) then s.noteGap o c 2 i.frame 0xFFFFFFFF
      else if s.chainOut then s.noteGap o c 1 i.frame 0xFFFFFFFF
      else s.beginCapture o i c forced) s

/-- FRAME_END of a frame that is captured: the texels as the composer wrote them, and the flags (R205, R207). -/
def State.captureEnd (s : State) (o : OutId) (i : FrameInfo) : State :=
  let x := s.out o
  s.modAudit fun a => { a with caps := a.caps.map fun k =>
    if k.out = o ∧ k.frame = i.frame ∧ k.ended = false then
      { k with ended := true, safe := k.safe || s.forceOn o k.chan,
               rows := (List.range i.mode.h).filterMap fun y =>
                 (x.front.find? fun f => f.frame == i.frame && f.chan == k.chan && f.row == i.s * y).map fun f =>
                   (y, (List.range i.mode.w).map fun c => f.texels.getD (i.s * c) 0) }
    else k }

/-! ### Seals (R540 to R544) -/

/-- What a segment's records give SEG_HASH. -/
def segInput (recs : List (Nat × Option (List Byte))) : List Byte :=
  recs.flatMap fun r => match r.2 with
    | some b => b
    | none => leBytes 4 r.1 ++ List.replicate 8 0xFF

/-- Writes the seal whose RECORD_SEQ is kept, or loses it in an exhausted chain (R541 to R544), then the records that
waited behind it. -/
def State.writeSeal (s : State) (seq : Nat) : State :=
  let a := s.audit
  let seg := w32 (a.segment + 1)
  let inSeg := a.recs.filter (·.1 < seq)
  let segHash := shake256 (segInput inSeg) 64
  let chainHash := shake256 (domSeal ++ leBytes 4 seg ++ fitTo 64 a.prevHash ++ segHash ++ leBytes 8 s.trust.serial) 64
  let body := leBytes 4 a.firstSeq ++ leBytes 4 (w32 (seq + 0xFFFFFFFF)) ++ leBytes 4 a.voids ++ zeros 4
    ++ fitTo 64 a.prevHash ++ segHash ++ chainHash
    ++ fitTo 1280 (Config.falconSign s.identityKeys (signedMsg domSeal chainHash))
  let bytes := auditRecord seq (chainHeader 0x10 seq seg s.us) body
  let s := s.modMram fun m => { m with tail := m.tail.writeSealed s.trust.serial 0x53 tailPayload s.us (seg, chainHash) }
  let s := (s.modAudit fun x => { x with recs := x.recs.filter fun e => e.1 < seq || seq < e.1 }).modAudit fun x =>
    { x with recs := (x.recs.filter (·.1 < seq)) ++ [(seq, none)] ++ x.recs.filter (seq < ·.1) }
  let s := s.putRecord s.audit.gen seq bytes
  let lost := s.audit.recs.any fun e => e.1 == seq && e.2.isNone
  let s := s.modAudit fun x =>
    { x with prevHash := chainHash, segment := seg, sealDue := none, behind := [],
             sealsLost := if lost then sat 16 (x.sealsLost + 1) else x.sealsLost,
             firstSeq := if lost then x.firstSeq else w32 (seq + 1), voids := if lost then x.voids else 0,
             recs := if lost then x.recs else x.recs.filter (seq < ·.1) }
  a.behind.foldl (fun (t : State) e => t.putRecord e.1 e.2.1 e.2.2) s

/-- A seal that waits is written when every record begun before it has ended. -/
def State.sealReady (s : State) : State :=
  match s.audit.sealDue with
  | none => s
  | some q => if s.audit.caps.any (·.seq < q) then s else s.writeSeal q

/-- AUDIT_RECORD_DONE (R136, R207): the oldest record completes; a chain that runs out within it abandons the capture, and
its record is void. -/
def execAuditRecordDone (c : Nat) (s : State) : Host.Outcome State Fault Refusal :=
  .next (match s.audit.caps with
    | [] => s
    | k :: ks =>
      if k.chan ≠ c || !k.ended || !s.works 59 then s
      else
        let t := (s.putRecord k.gen k.seq k.record).modAudit fun a => { a with caps := ks }
        let t := if t.audit.written = s.audit.written then t.noteGap k.out c 1 k.frame k.seq else t
        t.tidyChains.sealReady)

/-- AUDIT_SEAL (R540): at a whole second of Cellar time while any channel has CAP_EN live. -/
def execAuditSeal (s : State) : Host.Outcome State Fault Refusal :=
  let on := (List.range 4).any fun c => s.outs.any fun o => bitOf (s.capWord o c) 1
  .next (if !on || s.trust.lifecycle == 3 || !s.power.hearth || s.audit.sealDue.isSome then s
    else
      let t := if s.clk % 25000000 = 0 ∧ s.audit.sealSec < s.us / 1000000 then s.us / 1000000
               else max (s.us / 1000000) s.audit.sealSec + 1
      let s := (s.atUs (1000000 * t)).modAudit fun a => { a with sealSec := t }
      let s := if s.audit.chain.head = 0 then s else s.chainStart
      let q := s.audit.recSeq
      (s.modAudit fun a => { a with recSeq := w32 (a.recSeq + 1), sealDue := some q }).sealReady)

end Sys2Proof.Machine
end

