-- ==== Sys2Proof/Machine/Settings.lean ====
section
/-! DEFINITION. The basic commands that commit settings: modes, composition, scanout, calibration, pools, ring and power
(R80, R186, R195, R257, R400, R402, R437, R490 to R493, R500, R585, R625). -/
namespace Sys2Proof.Machine

/-! ### Shared parts -/

/-- A HOST card of a command that commits blocks: 16 bytes of response, a settings entry in the journal, and the rights
of R603 on a ring's member. -/
def settingCard (opcode body : Nat) (blks : Cmd → List Blk) (reserved : List Byte → Bool) : Card :=
  { hostCard opcode body 16 reserved with rights := fun s c => s.mayMirror (blks c), journals := true }

/-- Whether a value sets no reserved bit of the word at an offset; a word without fields is reserved whole. -/
def noReservedBits (b : Blk) (off w : Nat) : Bool :=
  match findRun .E2 b off with
  | none => w == 0
  | some r => w &&& r.rw == w

/-- A commit with the target fields of R490. -/
def targetCommit (f : Nat) (blks : List Blk) (kind out frame : Nat) : CommitReq :=
  { issuer := f, blks := blks, ports := [], kind := kind, out := outOf out, target := frame }

/-- Writes a field of a shadow word under the rules of a write. -/
def State.writeFld (s : State) (b : Blk) (off lo len v : Nat) : State :=
  s.writeWord b off (setFld (s.sh b off) lo len v)

/-- R493: an extent lies in the live surface pool of a function. -/
def State.inPool (s : State) (f base len : Nat) : Bool :=
  let p := poolOf (fun off => s.lv .sys .A off) f
  p.1 ≤ base && base + len ≤ p.1 + p.2

/-- A command that breaks R493: OK, no effect, one violation. -/
def poolBreach (s : State) (k : Nat) : CmdRes := .ok (s.violate 3) (zeros k)

/-! ### Modes (R80) -/

/-- SET_MODE's fields in the shadow. -/
def State.writeMode (s : State) (p : List Byte) : State :=
  let n := nAt p 0 1
  let s := (s.writeWord .syn (4 * n) (nAt p 8 4)).writeWord .syn (8 + 4 * n) (nAt p 12 4)
  if bitOf (nAt p 2 1) 0 then
    (s.writeWord .sco (0x100 + 8 * n) (nAt p 0x10 4)).writeWord .sco (0x104 + 8 * n) (nAt p 0x14 4)
  else s

/-- The blocks that SET_MODE commits. -/
def modeBlks (p : List Byte) : List Blk := if bitOf (nAt p 2 1) 0 then [.syn, .sco] else [.syn]

/-- Reserved fields and encodings of SET_MODE. -/
def modeReserved (p : List Byte) : Bool :=
  nAt p 0 1 ≤ 1 && nAt p 1 1 ≤ 1 && nAt p 2 1 < 2 && nAt p 3 1 == 0 && allZero (bytesAt p 0x18 8)
  && noReservedBits .syn 0 (nAt p 8 4) && fld (nAt p 8 4) 0 2 ≠ 3 && noReservedBits .syn 8 (nAt p 12 4)
  && (!bitOf (nAt p 2 1) 0 || (noReservedBits .sco 0x100 (nAt p 0x10 4) && noReservedBits .sco 0x104 (nAt p 0x14 4)))

/-- SET_MODE's card. -/
def setModeCard : Card := settingCard 0x300 32 (fun c => modeBlks c.payload) modeReserved

/-- SET_MODE (R80, R491). -/
def execSetMode (f : Nat) (s : State) : Host.Outcome State Fault Refusal :=
  .next (s.hostCommand f setModeCard fun s c =>
    let p := c.payload
    s.writeCommit (·.writeMode p) (targetCommit f (modeBlks p) (nAt p 1 1) (nAt p 0 1) (nAt p 4 4)))

/-! ### Composition (R186, R195) -/

/-- Whether a layer record sets reserved bits. -/
def layerReserved (p : List Byte) : Bool :=
  (List.range 8).all fun i => noReservedBits .cmp (0x1020 + 4 * i) (nAt p (0x10 + 4 * i) 4)

/-- The surface that a layer record names: whether it would be read, its base and its extent (R184 to R186). -/
def layerSurface (l : Nat) (p : List Byte) : Bool × Nat × Nat :=
  let w := fun i => nAt p (0x10 + 4 * i) 4
  ((l == 0 || bitOf (w 0) 0) && fld (w 0) 8 8 != 0, w 3 / 64 * 64 + fld (w 4) 0 3 * 0x100000000,
   fld (w 5) 0 20 * fld (w 2) 16 16)

/-- Writes consecutive shadow words. -/
def State.writeWords (s : State) (b : Blk) (off : Nat) (p : List Byte) (at_ n : Nat) : State :=
  (List.range n).foldl (fun a i => a.writeWord b (off + 4 * i) (nAt p (at_ + 4 * i) 4)) s

/-- SET_LAYER's card. -/
def setLayerCard : Card :=
  { hostCard 0x400 48 16 (fun p => nAt p 2 1 ≤ 1 && nAt p 3 1 ≤ 1 && allZero (bytesAt p 8 8) && layerReserved p) with
    rights := fun s c => s.holder c.f (nAt c.payload 0 1), journals := true }

/-- SET_LAYER (R186, R491 to R493). -/
def execSetLayer (f : Nat) (s : State) : Host.Outcome State Fault Refusal :=
  .next (s.hostCommand f setLayerCard fun s c =>
      let p := c.payload
      let ch := nAt p 0 1
      let l := nAt p 1 1
      let sf := layerSurface l p
      if 4 ≤ ch ∨ 7 ≤ l then .bad s stBadField
      else if sf.1 && !s.inPool f sf.2.1 sf.2.2 then poolBreach s 16
      else
        s.writeCommit (fun s => s.writeWords .cmp (0x1000 + 0x100 * ch + 0x20 * l) p 0x10 8)
          (targetCommit f [.cmp] (nAt p 2 1) (nAt p 3 1) (nAt p 4 4)))

/-- The blocks that SET_CHANNEL commits. -/
def channelBlks (p : List Byte) : List Blk := if bitOf (nAt p 3 1) 1 then [.cmp, .syn] else [.cmp]

/-- SET_CHANNEL's card. -/
def setChannelCard : Card :=
  { hostCard 0x401 32 16 (fun p => nAt p 1 1 ≤ 1 && nAt p 2 1 ≤ 1 && nAt p 3 1 < 4 && allZero (bytesAt p 8 8)
      && (List.range 4).all fun i => noReservedBits .cmp (4 * i) (nAt p (0x10 + 4 * i) 4)) with
    rights := fun s c => s.holder c.f (nAt c.payload 0 1) && s.mayMirror (channelBlks c.payload), journals := true }

/-- SET_CHANNEL (R195, R491, R492). -/
def execSetChannel (f : Nat) (s : State) : Host.Outcome State Fault Refusal :=
  .next (s.hostCommand f setChannelCard fun s c =>
      let p := c.payload
      let ch := nAt p 0 1
      if 4 ≤ ch then .bad s stBadField
      else
        s.writeCommit (fun s =>
            let s := s.writeWords .cmp (0x10 * ch) p 0x10 4
            if bitOf (nAt p 3 1) 1 then s.writeFld .syn 0x20 ch 1 (b2n (bitOf (nAt p 3 1) 0)) else s)
          (targetCommit f (channelBlks p) (nAt p 1 1) (nAt p 2 1) (nAt p 4 4)))

/-- SET_AUDIT_CHAIN's card. -/
def auditChainCard : Card := { hostCard 0x402 8 0 noReserved with pf := true }

/-- SET_AUDIT_CHAIN (R500). -/
def execSetAuditChain (f : Nat) (s : State) : Host.Outcome State Fault Refusal :=
  .next (s.hostCommand f auditChainCard fun s c =>
    let a := nAt c.payload 0 8
    if a % 32 ≠ 0 then .bad s stBadField else .ok (s.modAudit fun x => { x with nextChain := some a }) [])

/-! ### Scanout (R255 to R258) -/

/-- SET_SCANOUT's fields in the shadow: LOCKED whatever OUTPUT holds, the rest of the output named. -/
def State.writeScanout (s : State) (p : List Byte) : State :=
  let n := nAt p 0 1
  let fl := nAt p 2 1
  let s := (s.writeFld .sco 0 0 1 (b2n (bitOf fl 0))).writeFld .sco 0 (1 + 2 * n) 2 (fld fl 1 2)
  let s := s.writeWord .sco (4 + 4 * n) (nAt p 8 2 + 65536 * nAt p 10 2)
  (s.writeFld .spl 0x800 n 1 (b2n (bitOf fl 3))).writeFld .spl 0x800 (2 + n) 1 (b2n (bitOf fl 4))

/-- SET_SCANOUT's card. -/
def setScanoutCard : Card :=
  settingCard 0x600 12 (fun _ => [.sco, .spl]) fun p =>
    nAt p 0 1 ≤ 1 && nAt p 1 1 ≤ 1 && nAt p 2 1 < 32 && fld (nAt p 2 1) 1 2 ≠ 3 && nAt p 3 1 == 0

/-- SET_SCANOUT (R257, R491). -/
def execSetScanout (f : Nat) (s : State) : Host.Outcome State Fault Refusal :=
  .next (s.hostCommand f setScanoutCard fun s c =>
      let p := c.payload
      s.writeCommit (·.writeScanout p) (targetCommit f [.sco, .spl] (nAt p 1 1) (nAt p 0 1) (nAt p 4 4)))

/-! ### Calibration (R400, R402) -/

/-- A MAINTAINER card. -/
def maintCard (opcode body resp : Nat) (reserved : List Byte → Bool) : Card :=
  { hostCard opcode body resp reserved with host := false, maint := true }

/-- SET_CAL's card. -/
def setCalCard : Card :=
  { maintCard 0x900 16 16 (fun p => nAt p 0 1 < 8 && allZero (bytesAt p 7 9)) with journals := true }

/-- SET_CAL's act. -/
def setCalAct (s : State) (c : Cmd) : CmdRes :=
  let p := c.payload
  if 4 ≤ nAt p 1 1 ∨ 1024 ≤ nAt p 2 2 ∨ 1024 ≤ nAt p 4 2 then .bad s stBadField
  else
    s.writeCommit (fun s =>
        ((s.writeWord .cal 0x100 (fld (nAt p 0 1) 0 2 + 4 * nAt p 1 1 + 16 * fld (nAt p 0 1) 2 1)).writeWord .cal 0x104
          (nAt p 2 2 + 65536 * nAt p 4 2)).writeWord .cal 0x108 (nAt p 6 1))
      (nextCommit c.f [.cal] .A)

/-- SET_CAL (R409, R491). -/
def execSetCal (f : Nat) (s : State) : Host.Outcome State Fault Refusal := .next (s.hostCommand f setCalCard setCalAct)

/-- APPLY_CAL's card. -/
def applyCalCard : Card :=
  { maintCard 0x901 16 16 (fun p => nAt p 0 1 ≤ 1 && nAt p 1 1 ≤ 1 && nAt p 3 1 == 0 && allZero (bytesAt p 8 8)) with
    journals := true }

/-- APPLY_CAL's act. -/
def applyCalAct (s : State) (c : Cmd) : CmdRes :=
  let p := c.payload
  if 3 ≤ nAt p 2 1 then .bad s stBadField
  else
    s.writeCommit (fun s => s.writeWord .cal (0x40 * nAt p 0 1) (nAt p 2 1))
      (targetCommit c.f [.cal] (nAt p 1 1) (nAt p 0 1) (nAt p 4 4))

/-- APPLY_CAL (R400, R402). -/
def execApplyCal (f : Nat) (s : State) : Host.Outcome State Fault Refusal :=
  .next (s.hostCommand f applyCalCard applyCalAct)

/-! ### Pools, ring, power -/

/-- SET_POOL's card. -/
def setPoolCard : Card := { settingCard 0xB01 6 (fun _ => [.sys]) (fun p => nAt p 1 1 == 0) with pf := true }

/-- SET_POOL (R437, R456). -/
def execSetPool (f : Nat) (s : State) : Host.Outcome State Fault Refusal :=
  .next (s.hostCommand f setPoolCard fun s c =>
    let p := c.payload
    if 32 ≤ nAt p 0 1 ∨ 512 ≤ nAt p 2 2 ∨ 512 ≤ nAt p 4 2 then .bad s stBadField
    else
      s.writeCommit (fun s => s.writeWord .sys (0x800 + 4 * nAt p 0 1) (nAt p 2 2 + 65536 * nAt p 4 2))
        (nextCommit f [.sys] .A))

/-- SET_RING's card. -/
def setRingCard : Card :=
  { settingCard 0xE00 4 (fun _ => [.rng]) (fun p => nAt p 0 1 < 8 && nAt p 1 1 == 0) with pf := true }

/-- SET_RING (R585, R612). -/
def execSetRing (f : Nat) (s : State) : Host.Outcome State Fault Refusal :=
  .next (s.hostCommand f setRingCard fun s c =>
      let p := c.payload
      s.writeCommit (fun s => (s.writeWord .rng 0 (nAt p 0 1)).writeWord .rng 4 (nAt p 2 2)) (nextCommit f [.rng] .A))

/-- SET_POWER's card. -/
def setPowerCard : Card := { settingCard 0xF00 4 (fun _ => [.cpt]) (fun p => nAt p 1 1 == 0) with pf := true }

/-- SET_POWER (R622, R625, R639). -/
def execSetPower (f : Nat) (s : State) : Host.Outcome State Fault Refusal :=
  .next (s.hostCommand f setPowerCard fun s c =>
    let p := c.payload
    if (nAt p 0 1 ≠ 0 ∧ nAt p 0 1 ≠ 2) ∨ nAt p 2 2 < 100 ∨ 30000 < nAt p 2 2 then .bad s stBadField
    else
      s.writeCommit (fun s => (s.writeWord .cpt 0 (nAt p 0 1)).writeWord .cpt 4 (nAt p 2 2)) (nextCommit f [.cpt] .A))

end Sys2Proof.Machine
end

