-- ==== Sys2Proof/Machine/Blitter.lean ====
section
/-! DEFINITION. The blitter: lists, commands, texels, overlap and completion (R410 to R428, R507). -/
namespace Sys2Proof.Machine

/-! ### Submission (R410, R507) -/

/-- SUBMIT_BLIT's card. -/
def submitBlitCard : Card := hostCard 0xA00 8 6 noReserved

/-- SUBMIT_BLIT. -/
def execSubmitBlit (f : Nat) (s : State) : Host.Outcome State Fault Refusal :=
  .next (s.hostCommand f submitBlitCard fun s c =>
    let a := nAt c.payload 0 8
    let n := nAt (s.dramGet a 2) 0 2
    let mine := (s.blit.queue.filter (·.func == f)).length
    if a % 64 ≠ 0 then .bad s stBadField
    else if !s.inPool f a (64 + 64 * n) then poolBreach s 16
    else if 16 ≤ mine then .bad s stQueueFull
    else
      { CmdRes.ok (s.modBlit fun b => { b with queue := b.queue ++ [{ func := f, addr := a }] })
          (s.dramGet (a + 4) 4 ++ leBytes 2 (mine + 1)) with status := stDeferred })

/-! ### Fields of a command (R416) -/

/-- A command of the staged list. -/
abbrev BlitCmd := List Byte

/-- OP. -/
def blitOp (c : BlitCmd) : Nat := nAt c 0 1
/-- A flag. -/
def blitFlag (c : BlitCmd) (n : Nat) : Bool := bitOf (nAt c 1 1) n

/-- A surface rectangle: base, pitch, format, x, y, width, height. -/
structure Surf where
  base  : Nat
  pitch : Nat
  fmt   : Nat
  x     : Nat
  y     : Nat
  w     : Nat
  h     : Nat
  deriving DecidableEq, Repr

/-- The destination of a command. -/
def blitDst (c : BlitCmd) : Surf :=
  { base := nAt c 8 8, pitch := nAt c 0x10 4, fmt := nAt c 0x14 1, x := nAt c 0x28 2, y := nAt c 0x2A 2, w := nAt c 0x2C 2,
    h := nAt c 0x2E 2 }

/-- The source of a command: SW × SH for STRETCH, DW × DH otherwise. -/
def blitSrc (c : BlitCmd) : Surf :=
  { base := nAt c 0x18 8, pitch := nAt c 0x20 4, fmt := nAt c 0x15 1, x := nAt c 0x30 2, y := nAt c 0x32 2,
    w := if blitOp c = 3 then nAt c 0x34 2 else nAt c 0x2C 2, h := if blitOp c = 3 then nAt c 0x36 2 else nAt c 0x2E 2 }

/-- The address of a texel of a rectangle. -/
def Surf.at_ (q : Surf) (i j : Nat) : Nat := q.base + (q.y + j) * q.pitch + (q.x + i) * texelBytes q.fmt

/-- First byte and length of a rectangle's extent. -/
def Surf.extent (q : Surf) : Nat × Nat := (q.at_ 0 0, (q.h - 1) * q.pitch + q.w * texelBytes q.fmt)

/-- Two byte ranges intersect. -/
def rangesMeet (a b : Nat × Nat) : Bool := a.1 < b.1 + b.2 && b.1 < a.1 + a.2

/-- The alignment of a format: base and pitch (R417). -/
def fmtAlign (fmt : Nat) : Nat := if fmt = 2 then 32 else if fmt = 3 then 16 else 64

/-- R416 and R417 for one surface. -/
def Surf.ok (q : Surf) : Bool :=
  q.fmt ≤ 4 && q.base < 2 ^ 35 && q.pitch < 2 ^ 20 && q.base % fmtAlign q.fmt == 0 && q.pitch % fmtAlign q.fmt == 0
  && 1 ≤ q.w && q.w ≤ 32768 && 1 ≤ q.h && q.h ≤ 32768 && q.x + q.w ≤ 32768 && q.y + q.h ≤ 32768
  && (q.x + q.w) * texelBytes q.fmt ≤ q.pitch

/-- R418: a command that may run. -/
def blitOk (f : Nat) (c : BlitCmd) : Bool :=
  let d := blitDst c
  let q := blitSrc c
  let op := blitOp c
  1 ≤ op && op ≤ 5 && nAt c 1 1 < 8 && nAt c 0x17 1 == 0 && nAt c 0x24 4 == 0 && d.ok && (op == 2 || q.ok)
  && (op != 1 || q.fmt == d.fmt)
  && (op != 3 || (q.w ≤ 16 * d.w && d.w ≤ 16 * q.w && q.h ≤ 16 * d.h && d.h ≤ 16 * q.h))
  && (!blitFlag c 1 || nAt c 2 2 < vectorsOf f)

/-! ### Texels (R189, R190, R420 to R422) -/

/-- A stored component: whether it is negative, its size, and whether it is a number at all. -/
structure Comp where
  neg : Bool
  v   : F32
  num : Bool
  deriving DecidableEq, Repr

/-- A component that is 0 or more. -/
def Comp.of (v : F32) : Comp := { neg := false, v := v, num := true }

/-- A binary16 pattern as a component. -/
def Comp.half (w : Nat) : Comp :=
  { neg := bitOf w 15, v := half16 (w % 32768) (F32.ofNat 65536), num := fld w 10 5 != 31 }

/-- The components R, G, B, A of a texel as it is stored. -/
def texelComps (fmt : Nat) (bs : List Byte) : List Comp :=
  match fmt with
  | 0 => (List.range 4).map fun k => Comp.of (F32.ratio (nAt bs k 1) 255)
  | 1 =>
    let v := nAt bs 0 4
    [Comp.of (F32.ratio (fld v 0 10) 1023), Comp.of (F32.ratio (fld v 10 10) 1023), Comp.of (F32.ratio (fld v 20 10) 1023),
     Comp.of (F32.ratio (fld v 30 2) 3)]
  | 2 =>
    let v := nAt bs 0 2
    [Comp.of (F32.ratio (fld v 11 5) 31), Comp.of (F32.ratio (fld v 5 6) 63), Comp.of (F32.ratio (fld v 0 5) 31), Comp.of F32.one]
  | 3 => List.replicate 4 (Comp.of (F32.ratio (nAt bs 0 1) 255))
  | _ => (List.range 4).map fun k => Comp.half (nAt bs (2 * k) 2)

/-- A component within 0 to 1: NaN and negative values are 0 (R189, R421). -/
def Comp.unit (c : Comp) : F32 := if c.neg then F32.zero else c.v.min F32.one

/-- The premultiplied working pair of components (R189, R421). -/
def compPair (straight : Bool) (cs : List Comp) : Pair :=
  let g := fun k => (cs.getD k (Comp.of F32.zero)).unit
  Pair.of straight (g 0) (g 1) (g 2) (g 3)

/-- n / d rounded to the nearest whole number, ties to even. -/
def roundEven (n d : Nat) : Nat :=
  let q := n / d
  let r := 2 * (n % d)
  q + b2n (d < r || (r == d && q % 2 == 1))

/-- The binary16 pattern nearest a value that is 0 or more, ties to even. -/
def F32.toHalf (v : F32) : Nat :=
  if v.m = 0 then 0
  else
    let scale := fun (k : Int) => if 0 ≤ v.e + k then v.m * pow2 (v.e + k) else roundEven v.m (pow2 (-(v.e + k)))
    let ex : Int := (Nat.log2 v.m : Int) + v.e
    if ex < -14 then scale 24 else Nat.min 0x7C00 ((ex + 14).toNat * 1024 + scale (10 - ex))

/-- The bytes of a pair in a format, each code within one of the rule (R421). -/
def pairBytes (fmt : Nat) (p : Pair) : List Byte :=
  let val := fun (v : F32) (full : Nat) => slackCode (v.code full) full (Config.texelSlack (v.m, v.e) full)
  let hv := fun (v : F32) => slackCode v.toHalf 0x7BFF (Config.texelSlack (v.m, v.e) 0x7BFF)
  match fmt with
  | 0 => leBytes 4 (val p.r 255 + 256 * val p.g 255 + 65536 * val p.b 255 + 16777216 * val p.a 255)
  | 1 => leBytes 4 (val p.r 1023 + 1024 * val p.g 1023 + 1048576 * val p.b 1023 + 1073741824 * val p.a 3)
  | 2 => leBytes 2 (2048 * val p.r 31 + 32 * val p.g 63 + val p.b 31)
  | 3 => leBytes 1 (val p.a 255)
  | _ => leBytes 2 (hv p.r) ++ leBytes 2 (hv p.g) ++ leBytes 2 (hv p.b) ++ leBytes 2 (hv p.a)

/-- The bytes of components filtered as stored, in their own format; a filtered component of which a part was no number
is open, one value for each place. -/
def compBytes (fmt seed : Nat) (cs : List Comp) : List Byte :=
  if fmt = 4 then
    ((List.range 4).flatMap fun k =>
      let c := cs.getD k (Comp.of F32.zero)
      let m := slackCode c.v.toHalf 0x7BFF (Config.texelSlack (c.v.m, c.v.e) 0x7BFF)
      leBytes 2 (if c.num then (if c.neg && m != 0 then 0x8000 + m else m) else Config.freeValue (seed + k)))
  else
    let g := fun k => (cs.getD k (Comp.of F32.zero)).v
    pairBytes fmt { r := g 0, g := g 1, b := g 2, a := g 3 }

/-- The weighted sum of four components, each times its weight over 65,536 (R146). -/
def weighted (ws : List (Nat × Comp)) : Comp :=
  let part := fun (neg : Bool) => (ws.filter fun e => e.2.neg == neg).foldl (fun (a : F32) e =>
    a.add ((e.2.v.mul (F32.ofNat e.1)).div (F32.ofNat 65536))) F32.zero
  let p := part false
  let n := part true
  { neg := !(n.le p), v := if n.le p then p.sub n else n.sub p, num := ws.all fun e => e.1 == 0 || e.2.num }

/-- The sampling position of destination column or row i, in 1/256 texel (R422). -/
def stretchPos (first size dst i : Nat) : Int := 256 * (first : Int) + (128 * (2 * i + 1) * size / dst : Nat) - 128

/-- A texel index clamped to the source rectangle, from its first texel. -/
def clampTexel (first size : Nat) (k : Int) : Nat := (max 0 (min ((size : Int) - 1) (k - first))).toNat

/-- One texel of a STRETCH (R422): `get` reads a texel's bytes by its place in the source rectangle. -/
def stretchTexel (c : BlitCmd) (seed : Nat) (get : Nat → Nat → List Byte) (i j : Nat) : List Byte :=
  let d := blitDst c
  let q := blitSrc c
  let u := stretchPos q.x q.w d.w i
  let v := stretchPos q.y q.h d.h j
  if !blitFlag c 0 then
    let bs := get (clampTexel q.x q.w ((u + 128) / 256)) (clampTexel q.y q.h ((v + 128) / 256))
    if q.fmt = d.fmt then bs else pairBytes d.fmt (compPair false (texelComps q.fmt bs))
  else
    let i0 := u / 256
    let j0 := v / 256
    let fx := (u - 256 * i0).toNat
    let fy := (v - 256 * j0).toNat
    let tx := fun (a b : Int) => texelComps q.fmt (get (clampTexel q.x q.w a) (clampTexel q.y q.h b))
    let t00 := tx i0 j0
    let t10 := tx (i0 + 1) j0
    let t01 := tx i0 (j0 + 1)
    let t11 := tx (i0 + 1) (j0 + 1)
    let z := Comp.of F32.zero
    let cs := (List.range 4).map fun k =>
      weighted [((256 - fx) * (256 - fy), t00.getD k z), (fx * (256 - fy), t10.getD k z), ((256 - fx) * fy, t01.getD k z),
        (fx * fy, t11.getD k z)]
    if q.fmt = d.fmt then compBytes d.fmt seed cs else pairBytes d.fmt (compPair false cs)

/-- One texel of a command's result (R420). `src` and `dst` read texels' bytes by their places in the rectangles. An A8
source gives (a, a, a, a) whatever SRC_STRAIGHT says (R421). -/
def blitTexel (c : BlitCmd) (seed : Nat) (src dst : Nat → Nat → List Byte) (i j : Nat) : List Byte :=
  let d := blitDst c
  match blitOp c with
  | 1 => src i j
  | 2 => bytesAt c 0x38 (texelBytes d.fmt)
  | 3 => stretchTexel c seed src i j
  | 4 =>
    let q := (blitSrc c).fmt
    let p := (compPair (blitFlag c 2 && q != 3) (texelComps q (src i j))).scale (nAt c 0x16 1)
    pairBytes d.fmt (Pair.atop (compPair false (texelComps d.fmt (dst i j))) p)
  | _ => pairBytes d.fmt (compPair false (texelComps (blitSrc c).fmt (src i j)))

/-! ### One command (R418 to R426) -/

/-- Open bytes (R424, R426). -/
def freeBytes (seed n : Nat) : List Byte := (List.range n).map fun k => BitVec.ofNat 8 (Config.freeValue (seed + k))

/-- Writes a rectangle row by row. -/
def State.blitWrite (s : State) (d : Surf) (texel : Nat → Nat → List Byte) : State :=
  (List.range d.h).foldl (fun a j => a.dramPut (d.at_ 0 j) ((List.range d.w).flatMap fun i => texel i j)) s

/-- Whether a command works from the scratch area (R423, R424), and the bytes it needs there. -/
def blitScratch (c : BlitCmd) : Option Nat :=
  let d := blitDst c
  let q := blitSrc c
  if blitOp c = 2 ∨ rangesMeet d.extent q.extent = false then none
  else if blitOp c ≠ 3 ∧ d.pitch = q.pitch ∧ texelBytes d.fmt = texelBytes q.fmt then none
  else some (cdiv (q.w * texelBytes q.fmt) 64 * 64 * q.h)

/-- The list's scratch area: base and size. -/
def Blitter.scratch (b : Blitter) : Nat × Nat := (nAt b.header 8 8, nAt b.header 0x10 4)

/-- Whether a read of a command meets an uncorrectable word: one that stands in the source (for BLEND, in the
destination too), or one that the event brings, which for FILL is that of a word written in part (R440). -/
def State.blitBad (s : State) (c : BlitCmd) (ue : Bool) : List Nat :=
  let d := (blitDst c).extent
  let q := (blitSrc c).extent
  let op := blitOp c
  let listed := (if op = 2 then [] else s.badIn q.1 q.2) ++ (if op = 4 then s.badIn d.1 d.2 else [])
  let reads := if op = 2 then d else q
  let partly := d.1 % 8 != 0 || d.2 % 8 != 0 || (blitDst c).pitch % 8 != 0
  if listed = [] ∧ ue = true ∧ (op ≠ 2 ∨ partly = true) then [(reads.1 + s.freeBelow (max 1 reads.2)) / 8] else listed

/-- A command's effect on memory and counters, with its status. -/
def State.blitAct (s : State) (f : Nat) (c : BlitCmd) (ue : Bool) : State × Nat :=
  let d := blitDst c
  let q := blitSrc c
  if s.blit.stageBad then (s, stFaultState)
  else if !blitOk f c then (s, stBadField)
  else
    let sc := s.blit.scratch
    let need := blitScratch c
    let ours := fun (e : Nat × Nat) => s.inPool f e.1 e.2
    if !ours d.extent || (blitOp c != 2 && !ours q.extent) then (s.violate 3, stOk)
    else
      let short := match need with | none => false | some n => sc.1 == 0 || sc.2 < n
      let list := match s.blit.run with | none => (0, 0) | some l => (l.addr, 64 + 64 * s.blit.staging.length)
      let hits := match need with | none => false | some _ => rangesMeet sc d.extent || rangesMeet sc q.extent || rangesMeet sc list
      if short then (s.modBlit fun b => { b with ovl := sat 16 (b.ovl + 1) }, stOverlap)
      else if hits then (s, stBadField)
      else if need.isSome && !ours sc then (s.violate 3, stOk)
      else
        let bad := s.blitBad c ue
        if bad ≠ [] then
          let n := texelBytes d.fmt * d.w
          let s1 := ({ s with free := s.free + 1 + n * d.h } : State).dramUe 5 bad
          let s2 := s1.blitWrite d fun i j => freeBytes (s.free + 1 + j * n + i * texelBytes d.fmt) (texelBytes d.fmt)
          ((s2.modBlit fun b => { b with faults := sat 16 (b.faults + 1) }).fault
            { code := 0xB01, cls := 2, island := 58, detail := 5, force := .none }, stFaultState)
        else
          let src := fun i j => s.dramGet (q.at_ i j) (texelBytes q.fmt)
          let dst := fun i j => s.dramGet (d.at_ i j) (texelBytes d.fmt)
          let s1 := match need with
            | none => s
            | some n => ({ s with free := s.free + n } : State).dramPut sc.1 (freeBytes s.free n)
          let seed := s1.free
          let s2 := { s1 with free := s1.free + 4 * d.w * d.h }
          (s2.blitWrite d fun i j => blitTexel c (seed + 4 * (j * d.w + i)) src dst i j, stOk)

/-! ### Lists (R411, R412, R414, R415, R427) -/

/-- Raises a vector of a function, where it is in range. -/
def State.blitVector (s : State) (f v : Nat) : State :=
  if s.blit.noEvents || vectorsOf f ≤ v then s else s.modBox f fun b => b.fire v

/-- A blitter event of the list's function; none once the function was reset (R485). -/
def State.blitEvent (s : State) (f code : Nat) (data : List Byte) : State :=
  if s.blit.noEvents then s else s.event f code data

/-- The end of a list: LISTS_DONE, the completion event and the list's vector. -/
def State.blitListEnd (s : State) (l : BlitList) (first : Nat × Nat) : State :=
  let b := s.blit
  let tag := nAt b.header 4 4
  let s1 := s.modBlit fun b => { b with run := none, done := w32 (b.done + 1), index := b.index - 1, stageBad := false }
  let s2 := s1.blitEvent l.func 0x8A01 (leBytes 4 tag ++ leBytes 2 b.ran ++ leBytes 2 first.1 ++ leBytes 2 first.2)
  s2.blitVector l.func (nAt b.header 2 2)

/-- A command has ended: its STATUS word, its marker and vector, and the end of the list behind the last. -/
def State.blitDone (s : State) (l : BlitList) (c : BlitCmd) (status : Nat) : State :=
  let k := s.blit.index
  let s1 := s.dramPut (l.addr + 64 + 64 * k + 4) (leBytes 4 status)
  let s2 := s1.modBlit fun b =>
    { b with index := k + 1, ran := b.ran + 1,
             firstBad := if b.firstBad.isNone && status != stOk then some (k, status) else b.firstBad }
  let s3 := if blitFlag c 1 then
      (s2.blitEvent l.func 0x8A00 (leBytes 4 (nAt s2.blit.header 4 4) ++ leBytes 2 k ++ leBytes 2 status)).blitVector l.func (nAt c 2 2)
    else s2
  if s3.blit.staging.length ≤ k + 1 then s3.blitListEnd l (s3.blit.firstBad.getD (0xFFFF, stOk)) else s3

/-- Commands with a reserved OP, which have no event of their own, end with BAD_FIELD as soon as they come. -/
def blitSkip : Nat → State → State
  | 0, s => s
  | n + 1, s =>
    match s.blit.run with
    | none => s
    | some l =>
      match s.blit.staging[s.blit.index]? with
      | none => s
      | some c =>
        if 1 ≤ blitOp c ∧ blitOp c ≤ 5 then s
        else blitSkip n (s.blitDone l c (if s.blit.stageBad then stFaultState else stBadField))

/-- R414: a header that may run. -/
def headerOk (f : Nat) (h : List Byte) : Bool :=
  1 ≤ nAt h 0 2 && nAt h 0 2 ≤ 4096 && (nAt h 2 2 == 0xFFFF || nAt h 2 2 < vectorsOf f) && nAt h 8 8 < 2 ^ 35
  && nAt h 8 8 % 64 == 0 && nAt h 0x10 4 % 64 == 0 && allZero (bytesAt h 0x14 44)

/-- The list doorway of BLT (R46): the pending set is live, and each copy posts its event. -/
def State.blitDoorway (s : State) : State :=
  let ps := s.pendsOf .blt 0
  match ps.reverse with
  | [] => s
  | q :: _ =>
    let s1 : State := { s with
      blit := { s.blit with liveWords := q.words },
      commits := { s.commits with pend := s.commits.pend.filter fun (p : Pend) => p.blk ≠ Blk.blt,
                                  newest := putNewest s.commits.newest 0 .blt .A q.cid q.words } }
    let s2 := s1.modLanding 58 fun l => { l with liveCommitA := q.cid }
    ps.foldl (fun a p => a.event p.issuer 0x8100 (doorwayData p.cid 0 1 0 0 0)) s2

/-- The list that comes next: the oldest of the next function in turn (R411). -/
def Blitter.nextList (b : Blitter) : Option BlitList :=
  ((List.range 32).map fun k => (b.lastFn + 1 + k) % 32).findSome? fun f => b.queue.find? (·.func == f)

/-- BLIT_LIST_START: once IS58 takes work (R24), the doorway, then the next list is read whole into staging (R411, R412, R414, R415, R431). -/
def execBlitListStart (s : State) : Host.Outcome State Fault Refusal :=
  .next (match s.blit.nextList with
    | none => s
    | some l =>
      if s.blit.run.isSome || s.dram.st != 2 || !s.works 58 then s
      else
        let s1 := s.blitDoorway
        if !bitOf (s1.lv .blt .A 0) 0 then s1
        else
          let h := s1.dramGet l.addr 64
          let ok := headerOk l.func h
          let n := if ok then nAt h 0 2 else 0
          let cmds := (List.range n).map fun k => s1.dramGet (l.addr + 64 + 64 * k) 64
          let bad := s1.badIn l.addr (64 + 64 * n)
          let s2 := (s1.dramUe 5 bad).modBlit fun b =>
            { b with queue := b.queue.erase l, lastFn := l.func, curFn := l.func, run := some l, noEvents := false, header := h,
                     staging := cmds, index := 0, ran := 0, firstBad := none, stageBad := bad ≠ [] }
          let s3 := if bad = [] then s2
            else (s2.modBlit fun b => { b with faults := sat 16 (b.faults + 1) }).fault
              { code := 0xB01, cls := 2, island := 58, detail := 5, force := .none }
          if ok then blitSkip n s3
          else s3.blitListEnd l (0xFFFF, stBadField))

/-- The running list's next command, when it is of an operation. -/
def State.blitStep (s : State) (op : Nat) (ue : Bool) : State :=
  match s.blit.run, s.blit.staging[s.blit.index]? with
  | some l, some c =>
    if blitOp c ≠ op ∨ s.dram.st ≠ 2 ∨ s.works 58 = false then s
    else
      let r := s.blitAct l.func c ue
      blitSkip 4096 (r.1.blitDone l c r.2)
  | _, _ => s

/-- COPY. -/
def execBlitCopy (ue : Bool) (s : State) : Host.Outcome State Fault Refusal := .next (s.blitStep 1 ue)

/-- FILL. -/
def execBlitFill (ue : Bool) (s : State) : Host.Outcome State Fault Refusal := .next (s.blitStep 2 ue)

/-- STRETCH. -/
def execBlitStretch (ue : Bool) (s : State) : Host.Outcome State Fault Refusal := .next (s.blitStep 3 ue)

/-- BLEND. -/
def execBlitBlend (ue : Bool) (s : State) : Host.Outcome State Fault Refusal := .next (s.blitStep 4 ue)

/-- CONVERT. -/
def execBlitConvert (ue : Bool) (s : State) : Host.Outcome State Fault Refusal := .next (s.blitStep 5 ue)

end Sys2Proof.Machine
end

