-- ==== Sys2Proof/Machine/Cameras.lean ====
section
/-! DEFINITION. Camera ports, image pipelines, statistics, the marker tracker, viewers and the zone copy (R363 to R388,
R396, R505, R506). -/
namespace Sys2Proof.Machine

/-! ### Ports -/

/-- A word of a camera port's record in a set, by its offset in the record. -/
def camWord (v : Variant) (m : RegMap) (port off : Nat) : Nat := regGet v .cam m (0x100 * port + off)

/-- A live word of a port's record. -/
def State.cw (s : State) (port off : Nat) : Nat := camWord s.variant (s.cam port).live port off

/-- A word of the record that a frame runs under. -/
def State.cfgWord (s : State) (k : CamFrame) (off : Nat) : Nat := camWord s.variant k.cfg k.port off

/-- Whether the camera ports work: IS57 takes work behind the release of Hearth, and is not stopped by STANDBY (R24, R623,
R656). -/
def State.camsOn (s : State) : Bool :=
  s.power.hearth && s.works 57 && s.power.standby != 3

/-- A base laid out as RAYMAP_A. -/
def basePair (lo hi : Nat) : Nat := lo / 64 * 64 + fld hi 0 3 * 0x100000000

/-- Updates a frame of a port, in its pipeline or in the port's queue. -/
def State.modFrame (s : State) (port n : Nat) (g : CamFrame → CamFrame) : State :=
  let hit := fun (k : CamFrame) => if k.port = port ∧ k.frame = n then g k else k
  { s with pipes := s.pipes.map fun p => p.map hit,
           cams := s.cams.modify port fun c => { c with waiting := c.waiting.map hit } }

/-- A frame of a port and whether a pipeline has taken it. -/
def State.findFrame (s : State) (port n : Nat) : Option (CamFrame × Bool) :=
  match (s.pipes.filterMap id).find? fun k => k.port == port && k.frame == n with
  | some k => some (k, true)
  | none => ((s.cam port).waiting.find? (·.frame == n)).map fun k => (k, false)

/-- A packet that the port ignores (R364). -/
def Camera.ignore (c : Camera) : Camera := { c with ignored := sat 16 (c.ignored + 1) }

/-- The remainder of the open frame is dropped (R377). -/
def State.truncate (s : State) (port cause : Nat) : State :=
  match (s.cam port).open_ with
  | none => s
  | some n =>
    let s1 := s.modFrame port n fun k => { k with ended := true, endUs := s.us, cause := cause }
    (s1.modCam port fun c => { c with open_ := none, trunc := sat 16 (c.trunc + 1), cause := cause }).fault
      { code := 0x901, cls := 0, island := 57, detail := 0, force := .none }

/-! ### Taking frames into a pipeline (R367) -/

/-- The pipeline that a frame's settings name. -/
def State.pipeOf (s : State) (k : CamFrame) : Nat := fld (s.cfgWord k 0) 1 1

/-- An idle pipeline whose island takes work (R24) takes the waiting frame whose FS came first; of two in one cycle, the
lower port's. -/
def State.takeNext (s : State) (pipe : Nat) : State :=
  if (s.pipes.getD pipe none).isSome || !s.works (55 + pipe) then s
  else
    let ks := (List.range 4).filterMap fun p => (s.cam p).waiting.find? fun k => s.pipeOf k == pipe
    match ks.foldl (fun (a : Option CamFrame) k =>
        match a with | none => some k | some b => if k.startClk < b.startClk then some k else some b) none with
    | none => s
    | some k =>
      { s with pipes := s.pipes.set pipe (some { k with fifo := 0 }),
               cams := s.cams.modify k.port fun c => { c with waiting := c.waiting.filter fun q => q.frame ≠ k.frame } }

/-- An island takes work again: a pipeline takes the frame that waited for it (R24). -/
def State.wake (s : State) (isl : Nat) : State :=
  if isl = 55 then s.takeNext 0 else if isl = 56 then s.takeNext 1 else s

/-! ### The sensor-frame doorway (R370, R371, R496) -/

/-- The write list of a commit, as transfers: WRITE_COUNT entries, each a register address and a value of 8 or 16 bits. -/
def writeList (v : Variant) (m : RegMap) (port cid n target : Nat) : List I2cJob :=
  let w := camWord v m port
  (List.range (fld (w 0x34) 0 4)).map fun i =>
    let a := w (0x40 + 8 * i)
    let d := w (0x44 + 8 * i)
    { host := false, func := 0, cmdId := 0, respOk := true, respLen := 0, addr := fld (w 8) 16 7,
      wdata := [BitVec.ofNat 8 (a / 256), BitVec.ofNat 8 a] ++ (if bitOf a 16 then [BitVec.ofNat 8 (d / 256)] else [])
        ++ [BitVec.ofNat 8 d],
      rlen := 0, entry := i, list := cid, frame := n, target := target }

/-- Queues a write list: behind the transfer on the bus and earlier lists, ahead of host transfers (R372). -/
def queueList (bus js : List I2cJob) : List I2cJob :=
  match bus with
  | [] => js
  | b :: rest => b :: ((rest.filter fun j => !j.host) ++ js ++ rest.filter fun j => j.host)

/-- Replaces linked values for one frame, or queues them. -/
def putLinked (ls : List Linked) (l : Linked) : List Linked := (ls.filter (·.frame ≠ l.frame)) ++ [l]

/-- One pending copy of a port is live at sensor frame n, in the landings that hold CAM and the ISP context (R682). -/
def State.camLive (s : State) (port n : Nat) (p : Pend) : State :=
  let k := fld (camWord s.variant p.words port 0) 11 3
  let w := camWord s.variant p.words port 0x30
  let at_ := w32 (n + k)
  let s1 := s.modCam port fun c =>
    { c with live := p.words,
             linked := putLinked c.linked { frame := at_, expTag := fld w 0 16, gain := fld w 16 12, unsure := false },
             bus := queueList c.bus (writeList s.variant p.words port p.cid n at_) }
  let s2 := { s1 with commits := { s1.commits with
    newest := (s1.commits.newest.filter fun (e : LiveSet) => !(e.blk == Blk.cam && e.port == port)) ++
      [({ blk := .cam, out := .A, port := port, cid := p.cid, frame := 0, words := p.words } : LiveSet)] } }
  (Blk.cam.holders.foldl (fun (a : State) k => a.modLanding k fun l => { l with liveCommitA := p.cid }) s2).event p.issuer 0x8100
    (doorwayData p.cid n 2 port 0 0)

/-- The copies of a port whose target has come. -/
def camDue (n : Nat) (p : Pend) : Bool :=
  match p.target with
  | .sensor t => !ahead t n
  | _ => true

/-- The doorway of sensor frame n of a port. -/
def State.camDoor (s : State) (port n : Nat) : State :=
  let ps := (s.pendsOf .cam port).filter (camDue n)
  let s1 := { s with commits := { s.commits with pend := s.commits.pend.filter fun p => p ∉ ps } }
  ps.foldl (fun a p => a.camLive port n p) s1

/-- The linked values that are in force from frame n on. -/
def Camera.linkedAt (c : Camera) (n : Nat) : Camera × Bool :=
  let due := c.linked.filter fun l => !ahead l.frame n
  match due.reverse with
  | [] => (c, false)
  | l :: _ =>
    ({ c with linked := c.linked.filter fun l => ahead l.frame n, expTag := l.expTag, gain := l.gain },
     due.any fun l => l.unsure && l.frame == n)

/-- CAM_FRAME_START: an FS on the port's virtual channel (R364, R365, R369 to R371, R375, R377). -/
def execCamFrameStart (port vc : Nat) (s : State) : Host.Outcome State Fault Refusal :=
  .next (
    if !s.camsOn || 4 ≤ port then s
    else if vc ≠ fld (s.cw port 0) 7 2 then s.modCam port Camera.ignore
    else
      let s0 := s.truncate port 8
      let n := w32 ((s.cam port).sensor + 1)
      let s1 := (s0.modCam port fun c => { c with sensor := n }).camDoor port n
      let l := (s1.cam port).linkedAt n
      let s2 := s1.modCam port fun _ => l.1
      if !bitOf (s2.cw port 0) 0 then s2.modCam port fun c => { c with early := sat 16 (c.early + 1) }
      else
        let c := s2.cam port
        let k : CamFrame :=
          { frame := n, port := port, startClk := s2.clk, cfg := c.live, expTag := c.expTag, gain := c.gain, unsure := l.2,
            lines := [], fifo := 0, spilled := 0, place := 0, ended := false, endUs := 0, cause := 0 }
        (s2.modCam port fun c => { c with open_ := some n, waiting := c.waiting ++ [k] }).takeNext (s2.pipeOf k))

/-! ### Lines (R363, R375 to R377) -/

/-- The data type of DT. -/
def dataType (dt : Nat) : Nat := [0x2A, 0x2B, 0x2C, 0x1E].getD dt 0

/-- Adds a line to a frame in its pipeline or in the port FIFO. -/
def State.addLine (s : State) (port n : Nat) (fifo : Nat) (payload : List Byte) : State :=
  s.modFrame port n fun k => { k with lines := k.lines ++ [payload], fifo := k.fifo + fifo }

/-- The part of a line that the FIFO cannot take goes to the spill store, at the frame's place in it. -/
def State.spillLine (s : State) (k : CamFrame) (room : Nat) (payload : List Byte) : State :=
  let excess := payload.drop room
  let size := spillSize (fld (s.cfgWord k 4) 0 13) (fld (s.cfgWord k 4) 16 13) (fld (s.cfgWord k 0) 4 3)
  let used := ((s.cam k.port).waiting.filter fun q => 0 < q.spilled && q.frame != k.frame)
    ++ ((s.pipes.filterMap id).filter fun q => q.port == k.port && 0 < q.spilled && q.frame != k.frame)
  if k.spilled = 0 ∧ 2 ≤ used.length then s.truncate k.port 2
  else
    let place := if k.spilled = 0 then (if used.any (·.place == 0) then 1 else 0) else k.place
    let base := basePair (s.cfgWord k 0x14) (s.cfgWord k 0x18) + place * size
    let s1 := s.dramPut (base + k.spilled) excess
    let s2 := s1.modFrame k.port k.frame fun q =>
      { q with lines := q.lines ++ [payload], fifo := q.fifo + room, spilled := q.spilled + excess.length, place := place }
    if k.spilled = 0 then s2.modCam k.port fun c => { c with spilledN := sat 16 (c.spilledN + 1) } else s2

/-- CAM_LONG_PACKET: a line of the open frame, or what R364 and R377 make of it. -/
def execCamLongPacket (port : Nat) (pkt : CamPacket) (s : State) : Host.Outcome State Fault Refusal :=
  .next (
    if !s.camsOn || 4 ≤ port then s
    else if pkt.eccBad then s.truncate port 4
    else
      let a := s.cw port 0
      let dt := match (s.cam port).open_.bind (s.findFrame port) with | some e => fld (s.cfgWord e.1 0) 4 3 | none => fld a 4 3
      if pkt.vc ≠ fld a 7 2 ∨ pkt.dt ≠ dataType dt then s.modCam port Camera.ignore
      else match (s.cam port).open_ with
        | none => s
        | some n =>
          match s.findFrame port n with
          | none => s
          | some (k, inPipe) =>
            if pkt.crcBad then s.truncate port 3
            else if pkt.payload.length ≠ cdiv (fld (s.cfgWord k 4) 0 13 * pixelBits dt) 8 then s.truncate port 6
            else if k.spilled ≠ 0 then s.spillLine k 0 pkt.payload
            else if inPipe then s.addLine port n 0 pkt.payload
            else
              let used := ((s.cam port).waiting.map (·.fifo)).sum
              let room := 262144 - used
              if pkt.payload.length ≤ room then s.addLine port n pkt.payload.length pkt.payload
              else if bitOf (s.cfgWord k 0) 9 then s.spillLine k room pkt.payload
              else s.truncate port 1)

/-- CAM_FRAME_END: an FE (R377). -/
def execCamFrameEnd (port vc : Nat) (s : State) : Host.Outcome State Fault Refusal :=
  .next (
    if !s.camsOn || 4 ≤ port then s
    else if vc ≠ fld (s.cw port 0) 7 2 then s.modCam port Camera.ignore
    else match (s.cam port).open_ with
      | none => s
      | some n =>
        match s.findFrame port n with
        | none => s
        | some (k, _) =>
          if k.lines.length ≠ fld (s.cfgWord k 4) 16 13 then s.truncate port 5
          else (s.modFrame port n fun k => { k with ended := true, endUs := s.us }).modCam port fun c => { c with open_ := none })

/-- CAM_FRAME_TIMEOUT: no FE within FRAME_TIMEOUT of the FS (R377). -/
def execCamFrameTimeout (port : Nat) (s : State) : Host.Outcome State Fault Refusal :=
  .next (match (s.cam port).open_.bind (s.findFrame port) with
    | none => s
    | some (k, _) =>
      if !s.camsOn then s else (s.atClk (k.startClk + fld (s.cfgWord k 8) 0 10 * 25000)).truncate port 7)

/-- CAM_TRIG: the next trigger instant of Cellar time (R366). -/
def execCamTrig (port : Nat) (s : State) : Host.Outcome State Fault Refusal :=
  .next (
    let period := fld (s.cw port 0xC) 0 20
    let phase := fld (s.cw port 0x10) 0 20
    if !s.camsOn || 4 ≤ port || !bitOf (s.cw port 0) 14 || period = 0 then s
    else
      let from_ := match (s.cam port).trigAt with | none => s.us | some t => max s.us (t + 1)
      let t := if from_ ≤ phase then phase else phase + cdiv (from_ - phase) period * period
      (s.atUs t).modCam port fun c => { c with trigN := c.trigN + 1, trigAt := some t })

/-- CAMn_RST: low until PORT_EN first takes the port out of reset, and while IS57 has no power (R366, R669). -/
def State.camRstLow (s : State) (port : Nat) : Bool := (s.cam port).rstLow || !(s.landing 57).powered

/-- CAMn_TRIG: high for TRIG_US from each trigger instant (R366); low while IS57 has no power (R669). -/
def State.trigHigh (s : State) (port : Nat) : Bool :=
  (s.landing 57).powered &&
  match (s.cam port).trigAt with | none => false | some t => s.us < t + fld (s.cw port 8) 24 8

/-! ### Statistics and blobs (R378 to R380) -/

/-- A pixel of a frame: R, G, B and luma on 16 bits. -/
def State.ispPix (s : State) (k : CamFrame) (x y : Nat) : Nat × Nat × Nat × Nat :=
  let w := s.cfgWord k
  let r := Config.isp [fld (w 0) 4 3, fld (w 4) 0 13, fld (w 0x24) 0 12, fld (w 0x28) 0 12, fld (w 0x28) 16 12,
    fld (w 0x2C) 0 12, k.gain] k.lines x y
  (r.1 % 65536, r.2.1 % 65536, r.2.2.1 % 65536, r.2.2.2 % 65536)

/-- The luma of a pixel. -/
def State.luma (s : State) (k : CamFrame) (x y : Nat) : Nat := (s.ispPix k x y).2.2.2

/-- Two pixels touch, corners included. -/
def touches (p q : Nat × Nat × Nat) : Bool :=
  p.1 ≤ q.1 + 1 && q.1 ≤ p.1 + 1 && p.2.1 ≤ q.2.1 + 1 && q.2.1 ≤ p.2.1 + 1

/-- The connected set of a frontier and what is left of the pixels. -/
def growBlob : Nat → List (Nat × Nat × Nat) → List (Nat × Nat × Nat) → List (Nat × Nat × Nat) →
    List (Nat × Nat × Nat) × List (Nat × Nat × Nat)
  | 0, _, rest, acc => (acc, rest)
  | _, [], rest, acc => (acc, rest)
  | n + 1, p :: front, rest, acc =>
    growBlob n (front ++ rest.filter (touches p)) (rest.filter fun q => !touches p q) (acc ++ [p])

/-- The 8-connected sets of pixels in raster order of their first pixel. -/
def blobSets : Nat → List (Nat × Nat × Nat) → List (List (Nat × Nat × Nat))
  | 0, _ => []
  | _, [] => []
  | n + 1, p :: rest =>
    let r := growBlob (rest.length + 1) [p] rest []
    r.1 :: blobSets n r.2

/-- Puts a set behind those at least as large. -/
def insertArea (b : List (Nat × Nat × Nat)) : List (List (Nat × Nat × Nat)) → List (List (Nat × Nat × Nat))
  | [] => [b]
  | c :: cs => if c.length < b.length then b :: c :: cs else c :: insertArea b cs

/-- A centroid in 1/8 pixel: the luma-weighted mean of a coordinate. How it is rounded is open. -/
def centroid (up : Bool) (b : List (Nat × Nat × Nat)) (g : Nat × Nat × Nat → Nat) : Nat :=
  let m := (b.map fun p => p.2.2).sum
  let t := 8 * (b.map fun p => g p * p.2.2).sum
  if m = 0 then 0 else t / m + (if t % m ≠ 0 ∧ up = true then 1 else 0)

/-- The blobs of a processed frame, largest first, at most 64. -/
def State.findBlobs (s : State) (k : CamFrame) : List Blob :=
  let w := fld (s.cfgWord k 4) 0 13
  let h := fld (s.cfgWord k 4) 16 13
  let n := k.lines.length
  let t := s.cfgWord k 0x84
  let px := (List.range n).flatMap fun y => (List.range w).filterMap fun x =>
    let l := s.luma k x y
    if fld (s.cfgWord k 0x80) 0 10 ≤ l / 64 then some (x, y, l) else none
  let bs := (blobSets px.length px).filter fun b =>
    fld t 0 16 ≤ b.length && b.length ≤ fld t 16 16 && (k.cause == 0 || !b.any fun p => p.2.1 + 1 == n)
  ((bs.foldl (fun a b => insertArea b a) []).take 64).mapIdx fun i b =>
    { x := centroid (Config.freeChoice (s.free + 2 * i)) b (·.1), y := centroid (Config.freeChoice (s.free + 2 * i + 1)) b (·.2.1),
      area := b.length, peak := (b.map fun p => p.2.2).foldl max 0 / 256,
      edge := b.any fun p => p.1 == 0 || p.1 + 1 == w || p.2.1 == 0 || p.2.1 + 1 == h }

/-- A blob entry (R380). -/
def Blob.bytes (b : Blob) : List Byte :=
  leBytes 2 b.x ++ leBytes 2 b.y ++ leBytes 2 b.area ++ leBytes 1 b.peak ++ leBytes 1 (b2n b.edge)

/-- The statistics record of a frame (R378). -/
def State.statsRecord (s : State) (k : CamFrame) (bs : List Blob) : List Byte :=
  let w := fld (s.cfgWord k 4) 0 13
  let h := fld (s.cfgWord k 4) 16 13
  let n := k.lines.length
  let all := (List.range n).flatMap fun y => (List.range w).map fun x => (x, y)
  let hist := (List.range 256).flatMap fun i => leBytes 4 (all.countP fun p => s.luma k p.1 p.2 / 256 == i)
  let grid := (List.range 18).flatMap fun j => (List.range 32).flatMap fun i =>
    let ps := (List.range ((i + 1) * w / 32)).drop (i * w / 32) |>.flatMap fun x =>
      ((List.range (min n ((j + 1) * h / 18))).drop (j * h / 18)).map fun y => s.ispPix k x y
    leBytes 4 (ps.map (·.1)).sum ++ leBytes 4 (ps.map (·.2.1)).sum ++ leBytes 4 (ps.map (·.2.2.1)).sum
  let focus := ((List.range (min n (h - h / 4))).drop (h / 4)).foldl (fun a y =>
    ((List.range (w - w / 4 - 1)).drop (w / 4)).foldl (fun a x =>
      a + ((s.luma k x y : Int) - s.luma k (x + 1) y).natAbs) a) 0
  leBytes 4 k.frame ++ leBytes 1 k.port ++ leBytes 1 (b2n (k.cause != 0) + 2 * b2n (k.spilled != 0) + 4 * b2n k.unsure)
  ++ leBytes 1 k.cause ++ leBytes 1 bs.length ++ leBytes 2 k.expTag ++ leBytes 2 n ++ zeros 4 ++ leBytes 8 (k.startClk / 25)
  ++ zeros 40 ++ fitTo 512 (bs.flatMap Blob.bytes) ++ hist ++ grid ++ leBytes 4 (sat 32 focus) ++ zeros 3772

/-- The first frame of a phase of a step (R395). -/
def CalStep.phaseStart (c : CalStep) (phase : Nat) : Nat := w32 (c.startF + (phase - 1) * c.frames)

/-- R396: a frame of the calibration port while a step runs: captured, and usable when its FS lies 2 panel frames behind
the phase's start, its FE before the phase's end, and it is whole. -/
def State.calCapture (s : State) (k : CamFrame) : State :=
  match s.calib.step with
  | none => s
  | some c =>
    if k.port ≠ fld (s.lv .cal .A 0x100) 2 2 then s
    else
      let w := fld (s.cfgWord k 4) 0 13
      let rate := (s.liveSettings.mode c.out).rate
      let n := (s.out c.out).frameNum
      let late := fun (start : Nat) => start * rate + 50000000 ≤ k.startClk * rate
      let ok := k.cause == 0 && !ahead (c.phaseStart c.phase) n &&
        (if ahead (c.phaseStart (c.phase + 1)) n then late c.phaseClk
         else ahead (c.phaseStart (c.phase + 2)) n && late c.prevClk && k.endUs * 25 < c.phaseClk)
      { s with calib := { s.calib with
          capture := (List.range k.lines.length).map fun y => (List.range w).map fun x => s.luma k x y,
          step := some { c with usable := c.usable + b2n ok } } }

/-! ### I2C (R372, R373, R505) -/

/-- I2C_XFER's card. -/
def i2cCard : Card := hostCard 0x800 40 40 fun p => nAt p 1 1 < 128 && allZero (bytesAt p 4 4)

/-- I2C_XFER: queued on the port's bus; it completes with its transfer. -/
def execI2cXfer (f : Nat) (s : State) : Host.Outcome State Fault Refusal :=
  .next (s.hostCommand f i2cCard fun s c =>
    let p := c.payload
    let w := nAt p 2 1
    let r := nAt p 3 1
    if 4 ≤ nAt p 0 1 ∨ w + r = 0 ∨ 32 < w + r then .bad s stBadField
    else
      let j : I2cJob :=
        { host := true, func := f, cmdId := c.cmdId, respOk := c.e.respOk, respLen := c.respLen, addr := nAt p 1 1,
          wdata := bytesAt p 8 w, rlen := r, entry := 0, list := 0, frame := 0, target := 0 }
      { CmdRes.ok (s.modCam (nAt p 0 1) fun k => { k with bus := k.bus ++ [j] }) [] with later := true })

/-- I2C_TRANSFER_DONE: the transfer on a port's bus ends. -/
def execI2cTransferDone (port : Nat) (ackOk : Bool) (rdata : List Byte) (s : State) : Host.Outcome State Fault Refusal :=
  .next (match (s.cam port).bus with
    | [] => s
    | j :: rest =>
      if !s.camsOn then s
      else if j.host then
        (s.modCam port fun c => { c with bus := rest }).modBox j.func fun b =>
          b.postCompletion s.us j.cmdId stOk 0 j.respLen j.respOk
            (leBytes 1 (b2n !ackOk) ++ zeros 7 ++ fitTo 32 (if ackOk then bytesAt rdata 0 j.rlen else []))
      else if ackOk then s.modCam port fun c => { c with bus := rest }
      else
        let s1 := s.modCam port fun c =>
          { c with bus := rest.filter fun q => q.host || q.list != j.list, i2cErr := sat 16 (c.i2cErr + 1),
                   linked := c.linked.map fun l => if l.frame = j.target then { l with unsure := true } else l }
        let s2 := (s1.modFrame port j.target fun k => { k with unsure := true }).fault
          { code := 0x901, cls := 0, island := 57, detail := 0, force := .none }
        s2.eventAll 0x8800 (leBytes 1 port ++ leBytes 1 j.entry ++ zeros 2 ++ leBytes 4 j.frame))

/-! ### Viewers (R381 to R386, R506) -/

/-- A live word of the tracking registers. -/
def State.trackWord (s : State) (off : Nat) : Nat := s.lv .sco .A off

/-- TRACK_SRC, live: the host supplies positions; a member of a ring takes the head's as such (R607). -/
def State.hostTracks (s : State) : Bool := bitOf (s.trackWord 0x900) 0 || s.isMember

/-- HOLD_MS in µs. -/
def State.holdUs (s : State) : Nat := fld (s.trackWord 0x900) 16 16 * 1000

/-- A position seen: it replaces that viewer's earlier one. -/
def addViewer (vs : List Viewer) (v : Viewer) : List Viewer :=
  (vs.filter fun q => !((q.x, q.y, q.z) == (v.x, v.y, v.z) || Config.sameViewer (q.x, q.y, q.z) (v.x, v.y, v.z))) ++ [v]

/-- A position entry of SET_VIEWERS. -/
def viewerAt (p : List Byte) (now k : Nat) : Viewer :=
  { x := sgn 32 (nAt p (8 + 8 * k) 4), y := nAt p (12 + 8 * k) 2, z := nAt p (14 + 8 * k) 2, seen := now }

/-- SET_VIEWERS's card. -/
def viewersCard : Card :=
  { hostCard 0x801 8 0 (fun p => allZero (bytesAt p 1 7)) with body := fun p => 8 + 8 * nAt p 0 1 }

/-- SET_VIEWERS (R382, R506). -/
def execSetViewers (f : Nat) (s : State) : Host.Outcome State Fault Refusal :=
  .next (s.hostCommand f viewersCard fun s c =>
    let n := nAt c.payload 0 1
    if n = 0 ∨ 64 < n then .bad s stBadField
    else if !s.hostTracks then .bad s stNotReady
    else
      .ok { s with track := { s.track with
              viewers := (List.range n).foldl (fun a k => addViewer a (viewerAt c.payload s.us k)) s.track.viewers,
              lastPos := s.us, lost := false } } [])

/-- A blob with its port and the set it came in. -/
structure Sighting where
  port : Nat
  fsUs : Nat
  feUs : Nat
  x    : Nat
  y    : Nat
  deriving DecidableEq, Repr

/-- The blobs of sets as sightings. -/
def sightings (bs : List BlobSet) : List Sighting :=
  bs.flatMap fun b => b.blobs.map fun k => { port := b.port, fsUs := b.fsUs, feUs := b.feUs, x := k.x, y := k.y }

/-- Sightings of one badge: by other ports, within 20 ms (R381). -/
def oneBadge (a b : Sighting) : Bool :=
  a.port != b.port && a.fsUs ≤ b.fsUs + 20000 && b.fsUs ≤ a.fsUs + 20000 && Config.sameBadge (a.port, a.x, a.y) (b.port, b.x, b.y)

/-- The positions of sightings under the camera poses in use: each badge once, seen when the last frame that contributes
ended. -/
def badges (dirs badgeY : Nat) : Nat → List Sighting → List Viewer
  | 0, _ => []
  | _, [] => []
  | n + 1, a :: rest =>
    let g := a :: rest.filter (oneBadge a)
    let p := Config.badgePosition dirs badgeY (g.map fun q => (q.port, q.x, q.y))
    { x := p.1, y := p.2.1, z := p.2.2, seen := (g.map (·.feUs)).foldl max 0 } ::
      badges dirs badgeY n (rest.filter fun b => !oneBadge a b)

/-- Whether a position lies in a desk area (R388). -/
def State.inDesk (s : State) (d : Nat) (v : Viewer) : Bool :=
  let x0 := sgn 16 (fld (s.trackWord (0x920 + 16 * d)) 0 16)
  let x1 := sgn 16 (fld (s.trackWord (0x920 + 16 * d)) 16 16)
  let z0 := fld (s.trackWord (0x924 + 16 * d)) 0 16
  let z1 := fld (s.trackWord (0x924 + 16 * d)) 16 16
  x0 < x1 && ((x0 < v.x && v.x < x1 && z0 < v.z && v.z < z1) ||
    (x0 ≤ v.x && v.x ≤ x1 && z0 ≤ v.z && v.z ≤ z1 && Config.deskEdge))

/-- The channels of the desk areas that hold a viewer. -/
def State.deskChans (s : State) (v : Viewer) : List Nat :=
  ((List.range 16).filter fun d => s.inDesk d v).map fun d => fld (s.trackWord (0x928 + 16 * d)) 0 2

/-- The code of a view (R384). -/
def State.zoneCode (s : State) (o : OutId) (u v : Nat) : Nat :=
  let r := fld (s.trackWord 0x904) 0 16
  let vs := s.track.viewers.filter fun k => Config.viewReaches o s.calib.dirs u v r (k.x, k.y, k.z)
  match vs with
  | [] => if bitOf (s.trackWord 0x900) 1 then 5 else 4
  | _ =>
    match (vs.flatMap s.deskChans).eraseDups with
    | [c] => c
    | _ => 4

/-- The zone copy of an output (R384). -/
def State.zoneCopy (s : State) (o : OutId) : Table Nat :=
  (s.liveSettings.mode o).usedSlots.foldl (fun t k => tset 4 t k (s.zoneCode o (k % 16) (k / 16))) []

/-- Whether Hearth assigns the views of an output: ZONED is live, and in locked operation output A stands for both. -/
def State.zoned (s : State) (o : OutId) : Bool :=
  (o == .A || (s.variant == .E2 && !s.locked)) && bitOf (s.lv .sco o 0x110) o.num

/-- New positions from the blobs that have come, or none where the host tracks (R381, R382); blobs stay for 20 ms, for a
second camera that sees their badge. -/
def State.seeBadges (s : State) : State :=
  if s.hostTracks then { s with track := { s.track with blobs := [] } }
  else
    let ss := sightings s.track.blobs
    let vs := badges s.calib.dirs (fld (s.trackWord 0x904) 16 16) ss.length ss
    { s with track := { s.track with
        viewers := vs.foldl addViewer s.track.viewers, lost := s.track.lost && vs.isEmpty,
        blobs := s.track.blobs.filter fun b => s.us ≤ b.fsUs + 20000 } }

/-- The head of a ring sends its viewer positions after each tracking camera frame (R607). -/
def State.sendViewers (s : State) : State :=
  if !s.isHead then s
  else
    let s := s.seeBadges
    let vs := s.track.viewers.take 64
    s.sendBoth 4 0 0xFFFF (leBytes 1 vs.length ++ zeros 7 ++ vs.flatMap fun v =>
      leBytes 4 (unsgn 32 v.x) ++ leBytes 2 v.y ++ leBytes 2 v.z)

/-- The pipeline gives its frame up, whose statistics record is written to its slot of eight (R380); `n` open values went
into the record. -/
def State.writeStats (s : State) (pipe : Nat) (k : CamFrame) (rec_ : List Byte) (n : Nat) : State :=
  ({ s with free := s.free + n, pipes := s.pipes.set pipe none } : State).dramPut
    (basePair (s.cfgWord k 0x1C) (s.cfgWord k 0x20) + 12288 * (k.frame % 8)) rec_

/-- PIPELINE_FRAME_DONE: the record, the blobs, the statistics event, and the next waiting frame (R367, R378,
R396). While module DRAM grants no write, the record waits (R441). -/
def execPipelineFrameDone (pipe : Nat) (s : State) : Host.Outcome State Fault Refusal :=
  .next (match s.pipes.getD pipe none with
    | none => s
    | some k =>
      if !s.camsOn || !s.works (55 + pipe) || s.dram.st != 2 || !k.ended then s
      else
        let track := bitOf (s.cfgWord k 0) 10
        let bs := if track then s.findBlobs k else []
        let rec_ := s.statsRecord k bs
        let s2 := s.writeStats pipe k rec_ (2 * bs.length)
        let s3 := if track then
            let b : BlobSet := { port := k.port, fsUs := k.startClk / 25, feUs := k.endUs, trunc := k.cause != 0, blobs := bs }
            (({ s2 with track := { s2.track with blobs := s2.track.blobs ++ [b] } } : State).modCam k.port fun c =>
              { c with lastDone := some s.us }).sendViewers
          else s2
        let s4 := (s3.calCapture k).eventAll 0x8801
          (leBytes 1 k.port ++ leBytes 1 (k.frame % 8) ++ bytesAt rec_ 5 1 ++ leBytes 1 bs.length ++ leBytes 4 k.frame)
        s4.takeNext pipe)

/-- ZONE_COPY_UPDATE: Hearth's zone copy of an output, which the next doorway makes live (R66, R385); nothing changes
while tracking is lost (R386). -/
def execZoneCopyUpdate (o : OutId) (s : State) : Host.Outcome State Fault Refusal :=
  .next (
    if !s.power.hearth || !s.zoned o || s.cellar.recov.any (fun r => r.island == 53 && !r.replayed) then s
    else
      let s1 := s.seeBadges
      if s1.track.lost || !s1.journalRoom then s1
      else
        let z := s1.zoneCopy o
        let tr := if o = OutId.A then { s1.track with zoneA := some z } else { s1.track with zoneB := some z }
        ({ s1 with track := tr } : State).journal (.zone o) true)

/-- VIEWER_HOLD_EXPIRY: viewer k was last seen HOLD_MS ago (R383). -/
def execViewerHoldExpiry (k : Nat) (s : State) : Host.Outcome State Fault Refusal :=
  .next (match s.track.viewers[k]? with
    | none => s
    | some v => { s.atUs (v.seen + s.holdUs) with track := { s.track with viewers := s.track.viewers.eraseIdx k } })

/-- When tracking last had anything to go on (R386). -/
def State.lastSeen (s : State) : Nat :=
  if s.hostTracks then s.track.lastPos
  else ((List.range 4).filterMap fun p => if bitOf (s.cw p 0) 10 then (s.cam p).lastDone else none).foldl max 0

/-- TRACKING_LOST (R386). -/
def execTrackingLost (s : State) : Host.Outcome State Fault Refusal :=
  .next (
    if s.track.lost || !s.power.hearth then s
    else
      let t := s.lastSeen
      ({ s.atUs (t + s.holdUs) with track := { s.track with lost := true } } : State).eventAll 0x8802
        (leBytes 1 (b2n s.hostTracks) ++ zeros 3 ++ leBytes 8 t))

end Sys2Proof.Machine
end

