-- ==== Sys2Proof/Machine/Calibration.lean ====
section
/-! DEFINITION. The calibration agent: the phases of a step, the maps built at the end of a pass, the records of MRAM, and
the banks that a start copies back (R395 to R408, R437). -/
namespace Sys2Proof.Machine

/-! ### The phases of a step (R395 to R398) -/

/-- Whether an output has ended every frame of a phase of its step. -/
def State.phaseOver (s : State) (c : CalStep) : Bool :=
  let x := s.out c.out
  let next := c.phaseStart (c.phase + 1)
  c.phase ≤ 4 && (!ahead next x.frameNum || (x.inBlank && w32 (x.frameNum + 1) == next))

/-- The views that a mode uses. -/
def State.usedViews (s : State) (o : OutId) : Nat :=
  let m := s.liveSettings.mode (s.eff o)
  m.hx * m.hy

/-- A step that has measured its view (R398); with the last view of the output the pass is complete. -/
def State.stepDone (s : State) (c : CalStep) : State :=
  let ms := (s.calib.measured ++ c.group).eraseDups
  let pass := s.usedViews c.out ≤ ms.length
  { s with calib := { s.calib with
      step := none, done := sat 16 (s.calib.done + 1), nextF := w32 (c.startF + 4 * c.frames + 8),
      measured := if pass then [] else ms, passes := if pass then sat 16 (s.calib.passes + 1) else s.calib.passes,
      building := pass, dirs := if pass then s.calib.dirs + 1 else s.calib.dirs } }

/-- CAL_PHASE_END (R395, R397): a phase without a usable camera frame ends the step at the next doorway. -/
def execCalPhaseEnd (s : State) : Host.Outcome State Fault Refusal :=
  .next (match s.calib.step with
    | none => s
    | some c =>
      if !s.phaseOver c then s
      else if c.usable = 0 then { s with calib := { s.calib with step := some { c with phase := 5 } } }
      else if c.phase < 4 then
        { s with calib := { s.calib with step := some { c with phase := c.phase + 1, usable := 0 } } }
      else s.stepDone c)

/-! ### Banks and records (R399, R404 to R408, R437) -/

/-- Where the agent places a ray map (0) or a uniformity map (1) of a bank in module DRAM (R437). -/
def bankAt (o : OutId) (bank kind : Nat) : Nat :=
  0x40000000 + 671088640 * o.num + (if kind = 0 then 134217728 * bank else 268435456 + 201326592 * bank)

/-- The MRAM area of a bank record (R407). -/
def bankType (o : OutId) (bank kind : Nat) : Nat := 0x10 * (kind + 1) + 2 * o.num + bank

/-- The maps of a bank: the output's own, and in locked operation output B's uniformity map too (R399). -/
def State.bankMaps (s : State) (o : OutId) : List (OutId × Nat) :=
  [(o, 0), (o, 1)] ++ if s.locked then [(OutId.B, 1)] else []

/-- The live CAL set of both outputs: what the calibration configuration record holds (R407). -/
def State.calLive (s : State) : RegMap :=
  let a := s.liveMap 42 .cal .A
  let b := s.liveMap 43 .cal .B
  (a.filter fun e => e.1 < 0x40) ++ (b.filter fun e => 0x40 ≤ e.1 && e.1 < 0x80) ++ a.filter fun e => 0x80 ≤ e.1

/-- A word of the CAL set that the newest valid calibration configuration record holds. -/
def State.calStored (s : State) (off : Nat) : Nat :=
  regGet s.variant .cal ((s.mram.calCfg.newest.map (·.val.cal)).getD []) off

/-- Whether the agent may write a bank: neither the selected one nor a ramp's origin (R400, R401), nor one that the stored
configuration selects (R406). -/
def State.bankFree (s : State) (o : OutId) (bank : Nat) : Bool :=
  fld (s.lv .cal o (0x40 * o.num)) 0 2 != bank + 1 && s.rampOrigin o != some (bank + 1)
  && fld (s.calStored (0x40 * o.num)) 0 2 != bank + 1

/-- The bytes of a map that the agent builds. -/
def State.mapBytes (s : State) (o : OutId) (kind : Nat) : List Byte :=
  let m := s.liveSettings.mode o
  if kind = 0 then fitTo m.rayMapLen (Config.builtMap s.free o 0) else (Config.builtMap s.free o 1).take 201326592

/-- One map of a bank goes into module DRAM and into its MRAM record. -/
def State.putMap (s : State) (bank : Nat) (m : OutId × Nat) : State :=
  let bs := s.mapBytes m.1 m.2
  let t := bankType m.1 bank m.2
  (s.dramPut (bankAt m.1 bank m.2) bs).modMram fun r =>
    let seq := ((r.banks.find? fun e => e.1 == t).map (·.2.seq)).getD 0
    { r with banks := (r.banks.filter fun e => e.1 != t) ++
               [(t, { seq := w32 (seq + 1), time := s.us, val := bs, mac := [] })] }

/-- The words of the CAL window that name a map of a bank. -/
def mapWord (o : OutId) (bank kind : Nat) : Nat := 0x40 * o.num + 4 + 8 * bank + 0x10 * kind

/-- The shadow CAL set with a new bank and SOURCE (R400). -/
def State.calShadow (s : State) (o : OutId) (bank : Nat) : State :=
  (s.bankMaps o).foldl (fun (a : State) m =>
    let off := mapWord m.1 bank m.2
    let at_ := bankAt m.1 bank m.2
    (a.setSh .cal off (at_ % 0x100000000)).setSh .cal (off + 4) (at_ / 0x100000000))
    (s.setSh .cal (0x40 * o.num) (bank + 1))

/-- The agent's commit to the next frame doorway; no function issued it. -/
def agentCommit (o : OutId) : CommitReq := { issuer := 32, blks := [.cal], ports := [], kind := 0, out := o, target := 0 }

/-- The agent goes on to its next pass: with independent outputs, on the other output. -/
def State.nextPass (s : State) (o : OutId) : State :=
  { s with calib := { s.calib with building := false,
                                   optOut := if s.locked || s.variant == .E1 then .A else o.other } }

/-- The maps are written to a bank, then its record; then they are applied, or reported (R400). -/
def State.mapsInto (s : State) (o : OutId) (bank : Nat) : State :=
  let t := (s.bankMaps o).foldl (fun a m => a.putMap bank m) s
  if bitOf (s.lv .cal .A 0x100) 1 then
    let a := (t.calShadow o bank).accept (agentCommit o)
    if a.status = stDeferred then (a.st.drawn.postAll a.evs).nextPass o else { s with free := a.st.free }
  else
    (t.drawn.eventAll 0x8900 (leBytes 1 o.num ++ leBytes 1 bank ++ zeros 2 ++ leBytes 2 t.calib.passes)).nextPass o

/-- The output whose pass is being turned into maps. -/
def State.calOut (s : State) : OutId := if s.locked || s.variant == .E1 then .A else s.calib.optOut

/-- CAL_MAPS_BUILT (R400): into a bank that is not in use; which of two, the manual leaves open. While both are in use, and
while a commit would be refused under R402, the agent waits. -/
def execCalMapsBuilt (o : OutId) (s : State) : Host.Outcome State Fault Refusal :=
  .next (if !s.calib.building || o != s.calOut then s
    else match [0, 1].filter (s.bankFree o) with
      | [] => s
      | [k] => s.mapsInto o k
      | _ => s.drawn.mapsInto o (s.freeBelow 2))

/-- What the calibration configuration record holds (R407). -/
def State.calRecord (s : State) : CalCfg := { cal := s.calLive, trim := s.transom.vcomTrim, dirs := s.calib.dirs }

/-- CAL_RAMP_END (R408): a ramp has ended and its SOURCE is live; the calibration configuration record is written. -/
def execCalRampEnd (o : OutId) (s : State) : Host.Outcome State Fault Refusal :=
  .next (if (s.rampOf (s.eff o)).pos = 256 then
      s.modMram fun m => { m with calCfg := m.calCfg.write s.us s.calRecord }
    else s)

/-! ### A start (R407, R408, R643) -/

/-- The stored CAL set; a SOURCE that names a bank without a valid record reads as 0 (R407). -/
def State.calRestored (s : State) : RegMap :=
  let m := (s.mram.calCfg.newest.map (·.val.cal)).getD []
  let has := fun (o : OutId) => match fld (regGet s.variant .cal m (0x40 * o.num)) 0 2 with
    | 0 => true
    | k => s.mram.banks.any (fun e => e.1 == bankType o (k - 1) 0) && s.mram.banks.any fun e => e.1 == bankType o (k - 1) 1
  (OutId.A :: [OutId.B]).foldl (fun a o => if has o then a else a.filter fun e => e.1 != 0x40 * o.num) m

/-- The bank map records that the live SOURCEs select, with the bases they are copied to (R408). Output A's SOURCE selects
output B's uniformity map of the same bank too, which locked operation reads (R399). -/
def State.bankCopies (s : State) : List (List Byte × Nat) :=
  s.outs.flatMap fun o =>
    match fld (s.lv .cal o (0x40 * o.num)) 0 2 with
    | 0 => []
    | k =>
      let ms : List (OutId × Nat) := [(o, 0), (o, 1)] ++ if o = OutId.A ∧ s.variant = Variant.E2 then [(OutId.B, 1)] else []
      ms.filterMap fun m =>
      let off := mapWord m.1 (k - 1) m.2
      (s.mram.banks.find? fun e => e.1 == bankType m.1 (k - 1) m.2).map fun e =>
        (e.2.val, basePair (s.lv .cal m.1 off) (s.lv .cal m.1 (off + 4)))

/-- BANK_COPY_DONE (R408, R643): the selected banks are in module DRAM, whose calibration area has been zeroed. -/
def execBankCopyDone (s : State) : Host.Outcome State Fault Refusal :=
  .next (if !s.power.hearth || s.dram.st = 0 || s.dram.st = 3 || s.power.banksIn then s
    else
      (s.bankCopies.foldl (fun (a : State) e => a.dramPut e.2 e.1) s).modPower fun p => { p with banksIn := true })

end Sys2Proof.Machine
end

