-- ==== Sys2Proof/Machine/Format.lean ====
section
/-! DEFINITION. The formatter and the SPL output: an emitter row on its way to a link, markings, view invariance, gain,
the ray stream and FRAME_CRC (R63, R83, R158, R167 to R180, R236, R240, R248, R250, R269 to R272, R395, R399, R401, R454,
R548, R549). -/
namespace Sys2Proof.Machine

/-! ### Which part of a frame a link carries (R172, R272) -/

/-- First hogel column and hogel columns that a link carries. -/
def FrameInfo.half (i : FrameInfo) (q : OutId) : Nat × Nat :=
  if i.locked then (q.num * (i.mode.w / 2), i.mode.w / 2) else (0, i.mode.w)

/-- Whether a link's payload blocks are REPLICATE blocks (R270). -/
def State.repl (s : State) (i : FrameInfo) (q : OutId) : Bool := i.mode.div != 0 && s.replicates q

/-- The emitter columns of a hogel that one ray of the stream stands for (R83, R269, R270). -/
def rayUnits (m : ModeCfg) (rep : Bool) : List (List Nat) :=
  if rep then (List.range (m.hx / 2)).map fun k => [2 * k, 2 * k + 1] else (List.range m.hx).map fun e => [e]

/-- The emitter rows that a ray sent in a row stands for. -/
def rayRows (m : ModeCfg) (rep : Bool) (row : Nat) : List Nat := if rep && m.div == 2 then [row, row + 1] else [row]

/-- Whether an emitter row carries payload on a link (R270). -/
def rowSent (m : ModeCfg) (rep : Bool) (row : Nat) : Bool := !(rep && m.div == 2 && row % 2 == 1)

/-- The computed row that an emitter row shows (R152, R180). -/
def rowSource (m : ModeCfg) (row : Nat) : Nat := if m.div = 2 then row / 2 * 2 else row

/-- The synthesised code at an emitter column of a hogel. -/
def RowBuf.code (b : RowBuf) (m : ModeCfg) (x eu : Nat) : Nat :=
  match b.spans.find? fun p => p.1 ≤ x && x < p.1 + 64 with
  | none => 0
  | some p => p.2.getD ((x - p.1) * m.hx + eu) 0

/-! ### Markings (R167, R236, R240, R249, R250, R548, R549) -/

/-- A 10-bit code as a ray carries it (R154). -/
def rayLevel (m : ModeCfg) (c : Nat) : Nat := if m.ray24 then min 255 ((c + 2) / 4) else c

/-- The not-ready marking at a hogel of a region. -/
def State.marking (s : State) (o : OutId) (m : ModeCfg) (g : Region) (x y : Nat) : Nat :=
  if (x + y) % 4 = 0 then
    match s.pkgFor o with
    | none => 0
    | some p =>
      let c := p.colour (g.cols.getD 4 0)
      packRay (rayLevel m c.1) (rayLevel m c.2.1) (rayLevel m c.2.2)
  else 0

/-- The channel hatch at a hogel (R549). -/
def channelHatch (m : ModeCfg) (x y : Nat) : Nat :=
  if (x + y) % 4 = 0 then (let k := if m.ray24 then 128 else 512; packRay k k k) else 0

/-- Whether rays of a region that are handed over now are late (R236). -/
def State.regionPast (s : State) (o : OutId) (i : FrameInfo) (r : Nat) (g : Region) : Bool :=
  match (s.out o).region r i.frame with
  | none => false
  | some f => f.tEval + i.margin g.h < s.us

/-- Whether the front plane rows of a channel for a hogel row are incomplete in a band that did not wait (R167). -/
def Output.rowLate (x : Output) (i : FrameInfo) (y c : Nat) : Bool :=
  match x.band i.frame y with
  | none => false
  | some b => b.late.contains c && !b.composed.contains c

/-- Whether the formatter marks a region in hogel row y on link `q`, apart from a force of Cellar. -/
def State.notReady (s : State) (o q : OutId) (i : FrameInfo) (y r : Nat) (g : Region) : Bool :=
  (s.out o).rowLate i y g.chan || s.regionPast o i r g || !s.capFlag q 3
  || (s.trust.rewriting && s.trust.rewrRegs.contains r) || s.trust.resBad.contains g.chan

/-! ### The calibration pattern (R395) -/

/-- The pattern's code at hogel (x, y) in a phase. -/
def calPattern (m : ModeCfg) (phase level x y : Nat) : Nat :=
  let l := rayLevel m level
  let on := phase == 4 || (phase == 2 && x % 16 == 0 && y % 16 == 0) || (phase == 3 && x % 16 == 8 && y % 16 == 8)
  if on then packRay l l l else 0

/-! ### Uniformity (R173 to R176, R399, R401) -/

/-- Uniformity tiles in a row of link `q`'s emitter grid. -/
def FrameInfo.unifCols (i : FrameInfo) (q : OutId) : Nat := cdiv ((i.half q).2 * i.mode.hx) 64

/-- A uniformity tile's gains; `none` where it fails to decode, lies where it may not, or meets an uncorrectable word. -/
def State.unifTile (s : State) (base idx : Nat) : Option (List Nat) :=
  let at_ := base + 4 * idx
  let a := base + leNat (s.dramGet at_ 4)
  let head := s.dramGet a 16
  let h := parseTile [] head
  let n := 16 + (if h.kind = 0 then h.clen.sum else if h.kind = 1 then 16384 else 0)
  if !(s.badIn at_ 4).isEmpty || !s.extentOk a 16 || !(s.badIn a 16).isEmpty || !s.extentOk a n || !(s.badIn a n).isEmpty then
    none
  else
    let bs := s.dramGet a n
    let t := parseTile [] bs
    if !tileForm 0 bs || !t.tablesPresent then none
    else if t.kind = 2 then some (List.replicate 4096 255)
    else (t.texels 0).map fun l => l.map (·.g)

/-- The uncorrectable words that reading a uniformity tile meets. -/
def State.unifBad (s : State) (base idx : Nat) : List Nat :=
  let at_ := base + 4 * idx
  let a := base + leNat (s.dramGet at_ 4)
  let h := parseTile [] (s.dramGet a 16)
  let n := 16 + (if h.kind = 0 then h.clen.sum else if h.kind = 1 then 16384 else 0)
  (s.badIn at_ 4 ++ (if s.extentOk a n then s.badIn a n else [])).eraseDups

/-- The uniformity maps that link `q`'s formatter reads in a frame: the selected one, and the origin's within a ramp. -/
def FrameInfo.unifBases (i : FrameInfo) (q : OutId) : List Nat :=
  (if i.ramp < 256 then [i.unifOld.getD q.num 0] else []) ++ [i.unifNew.getD q.num 0]

/-- The gain of an emitter in one map. -/
def State.gainIn (s : State) (i : FrameInfo) (q : OutId) (base ex row : Nat) : Nat :=
  match s.unifTile base (row / 64 * i.unifCols q + ex / 64) with
  | none => 255
  | some gs => gs.getD (row % 64 * 64 + ex % 64) 255

/-- The gain of emitter (ex, row) of link `q`'s grid (R174, R176, R401, R454). -/
def State.gain (s : State) (i : FrameInfo) (q : OutId) (ex row : Nat) : Nat :=
  if !i.unifOn.getD q.num false || (s.out q).unifSkip.contains (ex / 64) then 255
  else
    let g := s.gainIn i q (i.unifNew.getD q.num 0) ex row
    if i.ramp < 256 then (rampMix (s.gainIn i q (i.unifOld.getD q.num 0) ex row) g i.ramp).toNat else g

/-- R174 on one code. -/
def gainCode (c g : Nat) : Nat := (c * (g + 1) + 128) / 256

/-- R174 on a ray. -/
def gainRay (c g : Nat) : Nat := packRay (gainCode (fld c 0 10) g) (gainCode (fld c 10 10) g) (gainCode (fld c 20 10) g)

/-- The mean of gains, rounded down (R175). -/
def meanGain (gs : List Nat) : Nat := gs.sum / max 1 gs.length

/-- The first emitter row of a row of uniformity tiles: each tile that fails to decode counts and is reported, and one
that is not fetched in time is left out (R176, R454). -/
def State.fetchUnif (s : State) (i : FrameInfo) (q : OutId) (row : Nat) : State :=
  if !i.unifOn.getD q.num false || row % 64 != 0 then s
  else
    let n := i.unifCols q
    (List.range n).foldl (fun (a : State) k =>
      let late := Config.freeChoice a.free
      let a := a.drawn
      if late then a.modOut q fun x => { x with unifLate := sat 16 (x.unifLate + 1), unifSkip := x.unifSkip ++ [k] }
      else
        (i.unifBases q).foldl (fun (b : State) base =>
          let idx := row / 64 * n + k
          if (b.unifTile base idx).isSome then b
          else
            let bad := b.unifBad base idx
            let b := b.dramUe (3 + q.num) bad
            let b := if bad.isEmpty then b
              else b.fault { code := 0xC01, cls := 2, island := 255, detail := 16384 * q.num, force := .none }
            (b.modOut q fun x => { x with unifErr := sat 16 (x.unifErr + 1) }).fault
              { code := 0x502, cls := 1, island := 42 + q.num, detail := 16384 * q.num, force := .none }) a)
      (s.modOut q fun x => { x with unifSkip := [] })

/-! ### One hogel of a row (R177 to R179) -/

/-- What one hogel row's pass keeps: codes so far, the reference code of each channel, the channels that failed. -/
structure HogelPass where
  codes : List Nat
  refs  : List (Nat × Nat)
  bad   : List Nat
  fails : List Nat
  deriving DecidableEq, Repr

/-- One ray of a hogel, in R179's order; a force of Cellar overrides it. -/
def State.rayStep (s : State) (o q : OutId) (i : FrameInfo) (rep : Bool) (buf : RowBuf) (row x : Nat) (rr : RayRec)
    (a : HogelPass) (cols : List Nat) : HogelPass :=
  let m := i.mode
  let y := row / m.hy
  let eu := cols.headD 0
  let v := rr.view m eu (row % m.hy)
  let c := i.code v.1 v.2
  if 4 ≤ c then
    let lit := c == 5 && i.lit.contains (16 * v.2 + v.1)
    { a with codes := a.codes ++ [if lit then calPattern m i.pat (fld (s.lv .cal .A 0x104) 16 10) x y else 0] }
  else
    let reg := s.regionAt o c x y
    match reg with
    | none =>
      if s.ss2On q c then { a with codes := a.codes ++ [channelHatch m x y] }
      else
        let gs := (rayRows m rep row).flatMap fun r => cols.map fun e => s.gain i q ((x - (i.half q).1) * m.hx + e) r
        { a with codes := a.codes ++ [gainRay (buf.code m x eu) (meanGain gs)] }
    | some (r, g) =>
      let mark := s.marking o m g x y
      if s.ss2On q c || s.ss1On o r then { a with codes := a.codes ++ [mark] }
      else
        let gs := (rayRows m rep row).flatMap fun r => cols.map fun e => s.gain i q ((x - (i.half q).1) * m.hx + e) r
        let put := fun k => gainRay k (meanGain gs)
        if a.bad.contains c then { a with codes := a.codes ++ [put mark] }
        else
          let k := if s.notReady o q i y r g then mark else buf.code m x eu
          match a.refs.find? (·.1 == c) with
          | none => { a with codes := a.codes ++ [put k], refs := a.refs ++ [(c, k)] }
          | some e =>
            if e.2 = k then { a with codes := a.codes ++ [put k] }
            else { a with codes := a.codes ++ [put mark], bad := a.bad ++ [c], fails := a.fails ++ [c] }

/-- The rays of one hogel in a row on link `q`. -/
def State.hogelPass (s : State) (o q : OutId) (i : FrameInfo) (rep : Bool) (buf : RowBuf) (row x : Nat) : HogelPass :=
  let y := row / i.mode.hy
  let w := s.out o
  let start : HogelPass :=
    { codes := [], refs := (w.invarRef.filter fun e => e.1 == x && e.2.1 == y).map fun e => (e.2.2.1, e.2.2.2),
      bad := (w.invarBad.filter fun e => e.1 == x && e.2.1 == y).map (·.2.2), fails := [] }
  (rayUnits i.mode rep).foldl (s.rayStep o q i rep buf row x (s.rayRec i x y)) start

/-- A view-invariance failure (R178). -/
def State.invarFault (s : State) (o q : OutId) (x y c : Nat) : State :=
  let s := s.modOut q fun k => { k with invarFail := sat 16 (k.invarFail + 1) }
  match s.regionAt o c x y with
  | none => s
  | some (r, g) => s.fault { code := 0x501, cls := 2, island := 42 + q.num, detail := s.regionDetail o r, force := .ss1 g.out r }

/-! ### The ray stream (R269 to R272) -/

/-- The bits of a number, lowest first. -/
def bitList : Nat → Nat → List Bool
  | 0, _ => []
  | n + 1, w => (w % 2 == 1) :: bitList n (w / 2)

/-- The stream bits of a ray. -/
def rayBits (m : ModeCfg) (c : Nat) : List Bool :=
  if m.ray24 then bitList 24 (fld c 0 8 + 256 * fld c 10 8 + 65536 * fld c 20 8) else bitList 30 c

/-- Stream bits join the payload blocks of a frame; FRAME_CRC covers each whole block (R248). -/
def Output.stream (x : Output) (bits : List Bool) : Output :=
  let all := x.crcBits ++ bits
  let n := all.length / 256
  { x with crc := crc32Bits x.crc (all.take (256 * n)), crcBits := all.drop (256 * n), blocks := x.blocks + n }

/-- The last payload block is filled with zeros. -/
def Output.streamEnd (x : Output) : Output :=
  if x.crcBits.isEmpty then x
  else x.stream (List.replicate (256 - x.crcBits.length) false)

/-! ### A row -/

/-- The regions that a row shows on link `q` under a marking: region, channel, whether Cellar forces it. -/
def State.markedOn (s : State) (o q : OutId) (i : FrameInfo) (y : Nat) : List (Nat × Region) :=
  (s.regionsOn o).filter fun e =>
    let h := i.half q
    e.2.y ≤ y && y < e.2.y + e.2.h && e.2.x < h.1 + h.2 && h.1 < e.2.x + e.2.w && i.carries e.2.chan
    && (s.ss1On o e.1 || s.ss2On q e.2.chan || s.notReady o q i y e.1 e.2
        || (s.out o).invarBad.any fun b => b.2.1 == y && b.2.2 == e.2.chan && e.2.has b.1 y)

/-- Counts a frame's markings once (R167, R236), and tells the captures of their channels (R206). -/
def State.noteMarks (s : State) (o : OutId) (i : FrameInfo) (ms : List (Nat × Region)) : State :=
  if ms.isEmpty then s
  else
    let past := ms.any fun e => s.regionPast o i e.1 e.2
    let s1 := s.modOut o fun x =>
      { x with notReadyFr := if x.cur.notReady then x.notReadyFr else sat 16 (x.notReadyFr + 1),
               regionLate := if past && !x.cur.regionLate then sat 16 (x.regionLate + 1) else x.regionLate,
               cur := { x.cur with notReady := true, regionLate := x.cur.regionLate || past } }
    s1.modAudit fun a => { a with caps := a.caps.map fun k =>
      if k.out = o ∧ k.frame = i.frame ∧ ms.any (fun e => e.2.chan == k.chan) then
        { k with notReady := true, safe := k.safe || s.forceOn o k.chan }
      else k }

/-- One emitter row on link `q`. -/
def State.linkRow (s : State) (o : OutId) (i : FrameInfo) (buf : RowBuf) (row : Nat) (q : OutId) : State :=
  let m := i.mode
  let rep := s.repl i q
  let y := row / m.hy
  let s := s.fetchUnif i q row
  if !rowSent m rep row then s
  else
    let h := i.half q
    let ps := (List.range h.2).map fun k => (h.1 + k, s.hogelPass o q i rep buf row (h.1 + k))
    let s1 := (s.noteMarks o i (s.markedOn o q i y)).modOut q fun x =>
      x.stream (ps.flatMap fun p => p.2.codes.flatMap (rayBits m))
    let xs := ps.map (·.1)
    let s2 := s1.modOut o fun x =>
      { x with
        invarRef := (x.invarRef.filter fun e => !(e.2.1 == y && xs.contains e.1)) ++
          ps.flatMap (fun p => p.2.refs.map fun e => (p.1, y, e.1, e.2)),
        invarBad := x.invarBad ++ ps.flatMap fun p => p.2.fails.map fun c => (p.1, y, c) }
    let fails := ps.flatMap fun p => p.2.fails.map fun c => (p.1, c)
    let s3 := fails.foldl (fun (a : State) e => a.invarFault o q e.1 y e.2) s2
    if fails.isEmpty then s3
    else s3.noteMarks o i ((s.regionsOn o).filter fun e => fails.any fun f => f.2 == e.2.chan && e.2.has f.1 y)

/-- The formatters and SPL outputs that take part in doorways have swapped to a frame (R40). -/
def State.scanning (s : State) (qs : List OutId) (n : Nat) : Bool :=
  qs.all fun q => [42 + q.num, 44 + q.num].all fun k => !s.inDoor k || (s.landing k).swapped q == n

/-- The time that an emitter row of so many hogels takes on a link of 16 lanes, in eighths of a nanosecond: 4.125 ns for each
slot of 4096 payload bits (R269, R270, R273); 0 where no link carries payload of the row. -/
def rowTime (m : ModeCfg) (reps : List Bool) (w row : Nat) : Nat :=
  reps.foldl (fun a rep =>
    if rowSent m rep row then max a ((rayUnits m rep).length * w * m.rayBits * 33 / 4096) else a) 0

/-- ROW_PACING (R158): the row that follows, when its rays are there; both halves in locked operation. -/
def State.rowPacing (s : State) (o : OutId) : State :=
  let x := s.out o
  match x.info x.frameNum with
  | none => s
  | some i =>
    let m := i.mode
    let qs := (if i.locked then [OutId.A, OutId.B] else [o]).filter fun q => !(s.out q).held
    if x.inBlank || qs.isEmpty || m.emRows ≤ x.sendRow || !s.scanning qs i.frame then s
    else
      let row := x.sendRow
      let src := rowSource m row
      match x.rows.find? fun r => r.frame == i.frame && r.row == src && r.left == 0 with
      | none => s
      | some buf =>
        let s := s.atClk (x.waitFrom m)
        let lag := s.clk - (x.fsClk + m.paceOf row)
        let sent := rowTime m (qs.map fun q => s.repl i q) ((i.half o).2) row
        let s := qs.foldl (fun a q => a.linkRow o i buf row q) s
        let last := m.div != 2 || row % 2 == 1
        s.modOut o fun x =>
          { x with sendRow := row + 1, rowLag := if sent = 0 then x.rowLag else lag,
                   linkFree := if sent = 0 then x.linkFree else max (320 * s.clk) x.linkFree + sent,
                   invarRef := if (row + 1) % m.hy = 0 then [] else x.invarRef,
                   rows := if last then x.rows.filter fun r => !(r.frame == i.frame && r.row == src) else x.rows }

/-- ROW_PACING (R158). -/
def execRowPacing (o : OutId) (s : State) : Host.Outcome State Fault Refusal := .next (s.rowPacing (s.eff o))

end Sys2Proof.Machine
end

