-- ==== Sys2Proof/Machine/Scanout.lean ====
section
/-! DEFINITION. The timing generators: frame starts, forced starts, frame ends, the tearing-effect indication, and what
each frame start settles (R161 to R165, R181, R248 to R262, R273 to R282, R297, R298, R317, R579, R580, R645 to R648). -/
namespace Sys2Proof.Machine

/-! ### Which outputs start, and when -/

/-- Whether a ring decides the frame starts of output A (R164, R586, R599 to R601, R646): the tile is output A's grid. -/
def State.ringTimed (s : State) : Bool :=
  s.isHead || (s.isMember && !s.ring.ownTiming && !s.ring.isolated)
  || (s.outA.frameNum == 0 && (s.ring.east.block || s.ring.west.block)
      && (if s.headBit then !s.ring.enumed else !s.ring.ownTiming))

/-- The outputs that start together with an output (R163, R254). -/
def State.startOuts (s : State) (o : OutId) : List OutId :=
  if s.locked || ((s.door .A).joint && (s.door .A).swapN != s.outA.frameNum) then [OutId.A, OutId.B] else [o]

/-- The frame that an output starts next. -/
def Output.nextN (x : Output) : Nat := w32 (x.frameNum + 1)

/-- What the next frame of starting outputs runs under: one for the whole panel in locked operation. -/
def State.startInfos (s : State) (os : List OutId) (n : Nat) : List (OutId × FrameInfo) :=
  os.filterMap fun o => ((s.out o).info n).map fun i => (o, i)

/-- Condition 3 of R161: band 0 is prepared for every channel that has a used slot. -/
def State.bandReady (s : State) (os : List OutId) (n : Nat) : Bool :=
  (s.startInfos os n).all fun e =>
    match (s.out e.1).band n 0 with
    | none => e.2.chans.isEmpty
    | some b => (b.missing e.2).isEmpty

/-- No lane of an ACTIVE link is out of service or in electrical idle (R276, R317). -/
def State.lanesReady (s : State) (os : List OutId) : Bool :=
  os.all fun o => (s.link o).st != .active || s.lanesUp o.num

/-- Whether the doorway of frame n has fallen and the timing generators run (R39, R550, R623, R645). -/
def State.mayStart (s : State) (os : List OutId) (n : Nat) : Bool :=
  s.power.hearth && !s.cellar.ss4 && (s.power.standby == 0 || s.power.standby == 4)
  && os.all (fun o => s.outs.contains o && (s.out o).inBlank && (s.door o).swapN == n
       && !((s.door o).joint && (s.door o).closing && !s.locked))
  && !(s.startInfos os n).isEmpty && s.lanesReady os

/-- The frame number that starting outputs take: on the way into locked operation output B takes output A's (R254). -/
def State.startN (s : State) (os : List OutId) : Nat := (s.out (os.headD .A)).nextN

/-- The instant from which conditions 1 and 2 of R161 hold; frame 1 has none. -/
def Output.startClk (x : Output) : Nat :=
  if x.frameNum = 0 then 0
  else match x.info x.frameNum with
    | none => x.feClk
    | some i => max (x.fsClk + i.mode.period) (x.feClk + 25 * i.mode.vmin)

/-- The same for outputs that start together; in locked operation output A's settings govern (R257). -/
def State.startClkOf (s : State) (os : List OutId) : Nat := os.foldl (fun a o => max a (s.out o).startClk) 0

/-! ### What a frame start settles -/

/-- Markings that 8 frames without a recurrence have followed are lifted, and new ones begin to count (R579). -/
def liftMarks (o : OutId) (ms : List Mark) : List Mark :=
  (ms.filter fun k => k.out != o || k.clean < 9).map fun k =>
    if k.out = o ∧ k.clean = 0 then { k with clean := 1 } else k

/-- One more frame without a recurrence of what forced a marking. -/
def countMarks (o : OutId) (hit : Mark → Bool) (ms : List Mark) : List Mark :=
  ms.map fun k => if k.out = o ∧ 1 ≤ k.clean then { k with clean := if hit k then 1 else k.clean + 1 } else k

/-- An accepted RECOVER lifts SS3 at its doorway of output A (R580). -/
def State.recoverLift (s : State) (o : OutId) (n : Nat) : State :=
  match s.cellar.liftAt with
  | none => s
  | some m =>
    if o = .B ∨ ahead m n then s
    else
      (s.modCellar fun c => { c with ss3 := c.ss3.filter fun d => !d.fc4, liftAt := none }).noteLifts.releaseHold

/-- PSAFE of an output follows its causes at a FRAME_START (R297). -/
def State.releasePsafe (s : State) (o : OutId) : State := s.modLink o fun l => { l with psafe := s.psafeCause o }

/-- SAFE_OUT is released once every output whose LINK_EN is live has passed the instant of R647 (R648, R650). -/
def State.releaseSafeOut (s : State) : State :=
  if s.power.safeRel || s.cellar.ss4 || !(s.outs.all fun o => !s.linkEn o || (s.out o).verified) then s
  else
    ((s.modPower fun p => { p with safeRel := true, verifiedUs := s.us }).modCellar fun c =>
      { c with safeLow := false }).releaseHold

/-- Whether an output's live mode passes R78 now, which ends a hold (R298). -/
def State.fitsNow (s : State) (i : FrameInfo) (o : OutId) : Bool :=
  !(s.isMember && s.ownTile.isNone) && s.panelPasses i.locked o i.mode

/-- A calibration step on its way: when it began, and when its phase did (R395). -/
def Calib.frameStart (c : Calib) (o : OutId) (n clk : Nat) : Calib :=
  match c.step with
  | none => c
  | some k =>
    if k.out ≠ o ∨ ahead k.startF n then c
    else
      let d := (n + 0x100000000 - k.startF) % 0x100000000
      { c with step := some { k with startClk := if d = 0 then clk else k.startClk,
                                     phaseClk := if d % k.frames = 0 then clk else k.phaseClk,
                                     prevClk := if d % k.frames = 0 then k.phaseClk else k.prevClk } }

/-- An output that is held sends no payload (R298): nothing of frame n is synthesised any more. -/
def State.dropSpans (s : State) (o : OutId) (n : Nat) : State :=
  let s := s.modOut o fun x =>
    { x with bands := x.bands.map (fun b => if b.frame = n then { b with spans := [], undone := 0 } else b),
             rows := x.rows.filter fun r => r.frame != n }
  { s with slices := s.slices.map fun k =>
      match k with
      | none => none
      | some p => if p.out = o ∧ p.frame = n then none else some p }

/-- SLOT_CONFLICT (R84): a frame that starts with mixed groups counts once. -/
def State.slotConflict (s : State) (o : OutId) (n k : Nat) : State :=
  if k = 0 then s
  else (s.modOut o fun x => { x with slotConfl := sat 16 (x.slotConfl + 1) }).eventAll 0x8300
    (leBytes 1 o.num ++ zeros 3 ++ leBytes 4 n ++ leBytes 4 k)

/-- P of R75 for one link, in blocks (R271). -/
def State.blocksOf (s : State) (i : FrameInfo) (q : OutId) : Nat :=
  cdiv (i.mode.payload (if i.locked then i.mode.emitters / 2 else i.mode.emitters) (s.repl i q)) 256

/-- What the FRAME_START blocks of a frame say on a link (R279). -/
def State.startInfo (s : State) (o : OutId) (n : Nat) (i : FrameInfo) (forced : Bool) : StartInfo :=
  let m := i.mode
  let held := (s.out o).held
  { frame := n, blocks := if held then 0 else s.blocksOf i o, w := if i.locked then m.w / 2 else m.w, h := m.h, hx := m.hx,
    hy := m.hy,
    mode := m.div % 4 + 4 * b2n m.ray24 + 8 * b2n (s.repl i o) + 16 * b2n i.locked + 32 * b2n (i.locked && o == .B)
      + 64 * b2n forced + 128 * b2n held,
    rate := m.rate, vmin := m.vmin, vmax := m.vmax, device := if s.isHead || s.isMember then s.ring.ownId else 0 }

/-- The FRAME_START slot of a frame on an ACTIVE link (R273, R279, R298). -/
def State.sendStartBlk (s : State) (o : OutId) (n : Nat) (i : FrameInfo) (forced : Bool) : State :=
  if (s.link o).st = .active then s.modLink o fun l => { l with startBlk := (s.startInfo o n i forced).payload } else s

/-- The FRAME_END slot of a frame whose FRAME_START the link carried (R273, R280). -/
def State.sendEndBlk (s : State) (o : OutId) (n : Nat) : State :=
  let x := s.out o
  if (s.link o).st = .active ∧ (s.link o).startBlk ≠ [] then
    s.modLink o fun l => { l with endBlk := endPayload n x.blocks x.activeUs }
  else s

/-- FRAME_START of one output. -/
def State.startOutput (s : State) (o : OutId) (n : Nat) (i : FrameInfo) (forced held : Bool) : State :=
  let blank := (s.clk - max (s.out o).feClk s.power.startClk) / 25
  let live := (s.link o).st == .active && !s.safeBut o && (s.trust.lifecycle != 2 || (s.pkgFor o).isSome)
  let s := s.modOut o fun x =>
    { x with frameNum := n, inBlank := false, fsClk := s.clk, blankUs := sat 16 blank,
             periodUs := if x.frameNum = 0 then 0 else (s.clk - x.fsClk) / 25, cur := x.nxt, nxt := .reset,
             forced := forced, forcedStarts := if forced then sat 16 (x.forcedStarts + 1) else x.forcedStarts,
             teHeld := if held then sat 16 (x.teHeld + 1) else x.teHeld,
             budget := 25 * i.budget, budgetOut := i.budget == 0, sendRow := 0, linkFree := 0, rowLag := 0, crc := crc32Bytes 0xFFFFFFFF (leBytes 4 n),
             crcBits := [], blocks := 0, invarRef := [], invarBad := [], unifSkip := [],
             echoSeen := if n = x.nextN then x.echoSeen else none, verified := x.verified || x.knownV, frameOk := live, held := x.held && !s.fitsNow i o }
  let s := (if (s.out o).held then s.dropSpans o n else s).sendStartBlk o n i forced
  let s := (s.modCellar fun c => { c with ss1 := liftMarks o c.ss1, ss2 := liftMarks o c.ss2 }).noteLifts.recoverLift o n
  { s with calib := s.calib.frameStart o n s.clk }

/-- FRAME_START of outputs that start together, at the present instant. -/
def State.beginFrame (s : State) (os : List OutId) (n : Nat) (forced held : Bool) : State :=
  let is := s.startInfos os n
  match is with
  | [] => s
  | e :: _ =>
    let info := fun (o : OutId) => ((is.find? (·.1 == o)).getD e).2
    let s := os.foldl (fun a o => a.startOutput o n (info o) forced held) s
    let s := is.foldl (fun a k => a.slotConflict k.1 n k.2.confl) s
    let s := is.foldl (fun a k => a.captureStart k.1 k.2 forced) s
    let s := s.modPower fun p =>
      { p with frame1Us := if p.frame1Us = 0 ∧ n = 1 then s.us else p.frame1Us,
               standby := if p.standby = 4 then 0 else p.standby }
    os.foldl (fun a o => a.releasePsafe o) (s.standbyEnter os).releaseSafeOut

/-- Whether a start at this instant has waited for the tearing-effect indication after conditions 1 to 3 of R161 had all
held (R261). -/
def State.teWaited (s : State) (os : List OutId) (n : Nat) : Bool :=
  let met := os.foldl (fun a o => max a (s.out o).band0At) (s.startClkOf os)
  s.bandReady os n && os.any fun o => met < (if s.tePermits o then (s.out o).teOpen else s.clk)

/-- FRAME_START (R161). -/
def State.frameStart (s : State) (o : OutId) : State :=
  let os := s.startOuts o
  let n := s.startN os
  if (s.ringTimed && os.contains .A) || !s.mayStart os n || !s.bandReady os n || !os.all s.tePermits then s
  else let s := s.atClk (s.startClkOf os); s.beginFrame os n false (s.teWaited os n)

/-- FRAME_START (R161). -/
def execFrameStart (o : OutId) (s : State) : Host.Outcome State Fault Refusal := .next (s.frameStart o)

/-- Whether a start into locked operation is exempt from R162 (R254). -/
def State.lockStart (s : State) (os : List OutId) (n : Nat) : Bool :=
  !s.locked && (s.startInfos os n).any fun e => e.2.locked

/-- The instant of a forced start: VBLANK_MAX after FRAME_END, or later where conditions 1 and 2 still wait (R162). -/
def State.forcedClk (s : State) (os : List OutId) : Nat :=
  os.foldl (fun a o =>
    let x := s.out o
    match x.info x.frameNum with
    | none => a
    | some i => max a (x.feClk + 25 * i.mode.vmax)) (s.startClkOf os)

/-- The event of a forced start (R162, R510). -/
def State.forcedEvent (s : State) (o : OutId) : State :=
  s.eventAll 0x8301 (leBytes 1 o.num ++ zeros 3 ++ leBytes 4 (s.out o).frameNum ++ leBytes 4 (s.out o).blankUs)

/-- A frame starts by force, at the present instant. -/
def State.forceFrame (s : State) (os : List OutId) (n : Nat) : State :=
  let t := s.beginFrame os n true (s.teWaited os n)
  ((s.startInfos os n).map (·.1)).foldl (fun a o => a.forcedEvent o) t

/-- FORCED_START (R162). -/
def execForcedStart (o : OutId) (s : State) : Host.Outcome State Fault Refusal :=
  let os := s.startOuts o
  let n := s.startN os
  .next (if (s.ringTimed && os.contains .A) || !s.mayStart os n || (s.bandReady os n && os.all s.tePermits) || s.lockStart os n
      || os.any (fun q => (s.out q).frameNum == 0) then s
    else (s.atClk (s.forcedClk os)).forceFrame os n)

/-! ### TE rows -/

/-- A change of an output's indication (R261). -/
def State.teChange (s : State) (o : OutId) (g : Output → Output) : State := s.noteTe (s.modOut o g)

/-- TE_PIN_CHANGE (R259). -/
def execTePinChange (o : OutId) (level : Bool) (s : State) : Host.Outcome State Fault Refusal :=
  .next (s.teChange o fun x => { x with tePin := level })

/-- TE (R260). -/
def State.recvTe (s : State) (o : OutId) (b : List Byte) : State :=
  s.bcRecv o 0x30 b fun s => s.teChange o fun x => { x with teMsg := nAt b 1 1 == 1, teAt := some s.clk }

/-- TE (R260). -/
def execTeMsg (o : OutId) (block : List Byte) (s : State) : Host.Outcome State Fault Refusal := .next (s.recvTe o block)

/-! ### FRAME_END (R273, R276, R280, R317) -/

/-- Whether a recovery's replay, or resources being reloaded, touch a channel (R579). -/
def State.replayOn (s : State) (c : Nat) : Bool :=
  s.trust.resBad.contains c || s.cellar.recov.any fun r =>
    !r.replayed && (r.store || r.island < 42 || r.island == 36 + c)

/-- The clean frames of an output's markings, one more each. -/
def State.cleanFrame (s : State) (o : OutId) : State :=
  s.modCellar fun c =>
    { c with ss1 := countMarks o (fun k => s.replayOn (s.chanOf o k.unit)) c.ss1,
             ss2 := countMarks o (fun k => s.replayOn k.unit) c.ss2 }

/-- What an output's frame leaves behind for the status registers (R149, R181, R201, R251). -/
def Output.finish (x : Output) (n : Nat) : FrameCounts :=
  let rows := x.front.filter (·.frame == n)
  let snaps := (x.regions.filter (·.frame == n)).flatMap (·.snap)
  { x.cur with
    stale := (snaps.filter (·.state == 1)).length, dash := (snaps.filter (·.state == 0)).length,
    compLoad := ((List.range 4).map fun c => (c, ((rows.filter (·.chan == c)).map (·.load)).sum)).filter fun e =>
      rows.any (·.chan == e.1) }

/-- What no later work needs of frames up to n. -/
def Output.prune (x : Output) (n : Nat) : Output :=
  { x with bands := x.bands.filter fun b => ahead b.frame n,
           front := x.front.filter fun f => ahead f.frame n,
           cache := x.cache.filter fun k => ahead k.frame n,
           rows := x.rows.filter fun r => ahead r.frame n,
           regions := x.regions.filter fun r => ahead r.frame n || !r.judged,
           frames := x.frames.filter fun i => ahead i.frame n || i.frame == n }

/-- FRAME_END of one output. -/
def State.endOutput (s : State) (o : OutId) (n : Nat) : State :=
  let on := (s.link o).st == .active
  let s := s.modOut o fun x =>
    let y := x.streamEnd
    { y with inBlank := true, feClk := s.clk, last := y.finish n, activeUs := cdiv (s.clk - y.fsClk) 25,
             frameCrc := some (n, ~~~ y.crc), echoDue := if on && s.capFlag o 3 then some (s.us + 2000) else none,
             endOk := y.frameOk, crcBits := [] }
  let s := ((s.sendEndBlk o n).cleanFrame o).tryKnown o
  let s := if on then s.deskew o.num 1 else s
  let s := if on then
      s.modLanes (((txLanes o.num).drop 1).filter fun n => bitOf (s.laneWord n 8) 9) fun l =>
        if l.st = 1 then { l with st := 2 } else l
    else s
  s.modPower fun p => { p with stdFrames := p.stdFrames.filter (· != o) }

/-- FRAME_END (R273). -/
def State.frameEnd (s : State) (o : OutId) : State :=
  let x := s.out o
  match x.info x.frameNum with
  | none => s
  | some i =>
    let os := if i.locked then [OutId.A, OutId.B] else [o]
    if x.inBlank || (x.sendRow < i.mode.emRows && !os.all fun q => (s.out q).held) then s
    else
      let s := os.foldl (fun a q => a.endOutput q x.frameNum) (s.atClk (cdiv x.linkFree 320))
      let s := s.captureEnd o i
      s.modOut o fun y => y.prune x.frameNum

/-- FRAME_END (R273). -/
def execFrameEnd (o : OutId) (s : State) : Host.Outcome State Fault Refusal := .next (s.frameEnd (s.eff o))

end Sys2Proof.Machine
end

