-- ==== Sys2Proof/Machine/Points.lean ====
section
/-! DEFINITION. The point path: updates as they are judged, receipts, the sweep, and the table rewrite of a package
(R209 to R232, R480 to R482, R502, R503). -/
namespace Sys2Proof.Machine

/-! ### Judging an update (R229 to R231) -/

/-- Whether an entry takes a value and age (R229, R230 condition 5). -/
def State.updateForm (s : State) (q : Point) (u : List Byte) : Bool :=
  nAt u 6 1 ≤ 1 && nAt u 7 1 == 0 && nAt u 0x14 4 ≤ 3600000000
  && (match s.trust.pkg with
      | none => false
      | some p => p.valueOk q.style (sgn 32 (nAt u 0x10 4)))

/-- The entry after an accepted update that arrives now (R231). -/
def Point.updated (q : Point) (u : List Byte) (now : Nat) : Point :=
  let ref := nAt u 0x18 8
  let age := nAt u 0x14 4
  let q1 := { q with value := sgn 32 (nAt u 0x10 4), birth := w32 (ref + 0x100000000 - age % 0x100000000), received := true,
                     srcInv := bitOf (nAt u 6 1) 0, expired := 1000 * q.maxAge < counted (now - ref + age) }
  { q1 with check := q1.crc }

/-- Whether an update meets conditions 3 to 5 of R230 in its session, and the entry it then sets. -/
def State.updateEntry (s : State) (x : Session) (u : List Byte) : Option (Nat × Point) :=
  let id := nAt u 0 4
  match tfind s.trust.points (id % 524288) with
  | none => none
  | some q =>
    let ref := nAt u 0x18 8
    if q.id == id && q.session == x.num && x.opened ≤ ref && ref ≤ s.us && s.updateForm q u then some (id % 524288, q) else none

/-- The receipt of a refused update (R215). -/
def State.noReceipt (s : State) (u : List Byte) : List Byte := receiptOf none (nAt u 4 2) 1 (nAt u 8 8) s.us

/-- Judges one update: the state after it and its receipt (R213 to R216, R230, R231). -/
def State.judgeUpdate (s : State) (u : List Byte) : State × List Byte :=
  let num := nAt u 4 2
  let seq := nAt u 8 8
  let tag := bytesAt u 0x20 16
  match s.sessionOf num with
  | none => (if s.relays then s else s.violate 4, s.noReceipt u)
  | some x =>
    if tag ≠ kmacTag x.updKey (u.take 0x20) csPnt then (s.violate 4, s.noReceipt u)
    else match x.recent.find? fun r => r.seq == seq && r.tag == tag with
      | some r => (s, r.receipt)
      | none =>
        if seq ≤ x.highSeq then (s.violate 4, s.noReceipt u)
        else match s.updateEntry x u with
          | none => (s.violate 4, s.noReceipt u)
          | some e =>
            let q := e.2.updated u s.us
            let s := (s.journal (.point e.1 q.value q.birth q.flags num seq) true).modCellar fun c =>
              { c with image := tput c.image e.1 (q.value, q.birth, q.flags) }
            let rc := s.receipt num 1 seq true
            let s := s.modSession num fun x =>
              { x with highSeq := seq,
                       recent := (x.recent ++ [({ seq := seq, tag := tag, receipt := rc } : Recent)]).drop (x.recent.length + 1 - 8) }
            (s.modTrust fun t => { t with points := tput t.points e.1 q, accepted := t.accepted + 1 }, rc)

/-! ### SUBMIT_POINTS (R482, R503) -/

/-- SUBMIT_POINTS's card: whole updates, at most 4096. -/
def submitPointsCard : Card :=
  let n := fun (p : List Byte) => if p.length % 48 = 0 ∧ 0 < p.length ∧ p.length ≤ 48 * 4096 then p.length / 48 else 0
  { hostCard 0x502 0 0 noReserved with
    judged4 := true, body := fun p => if n p = 0 then p.length + 8 else 48 * n p, resp := fun p => 40 * n p, journals := true }

/-- An order number that no waiting SUBMIT_POINTS has. -/
def State.nextOrd (s : State) : Nat := 1 + s.trust.pointCmds.foldl (fun a c => max a c.ord) 0

/-- SUBMIT_POINTS (R503): its updates wait for the KMAC engines, and the completion for their receipts. -/
def execSubmitPoints (f : Nat) (s : State) : Host.Outcome State Fault Refusal :=
  .next (s.hostCommand f submitPointsCard fun s c =>
    let n := c.payload.length / 48
    let ord := s.nextOrd
    let ins := (List.range n).map fun k =>
      ({ func := f, ord := ord, slot := k, update := bytesAt c.payload (48 * k) 48, openS := false } : PointIn)
    let cmd : PointsCmd := { relay := none, func := f, ord := ord, entry := c.e, receipts := List.replicate n none }
    { CmdRes.ok (s.modTrust fun t => { t with pointQ := t.pointQ ++ ins, pointCmds := t.pointCmds ++ [cmd] }) [] with
      later := true })

/-- The session that a waiting input belongs to. -/
def PointIn.session (i : PointIn) : Nat := nAt i.update (if i.openS then 0 else 4) 2

/-- Completes a SUBMIT_POINTS: the head of a ring relays it first (R606). -/
def State.pointsDone (s : State) (c : PointsCmd) (status : Nat) : State :=
  let resp := c.receipts.flatMap fun r => r.getD (zeros 40)
  let s := s.modTrust fun t => { t with pointCmds := t.pointCmds.filter fun d => d.ord != c.ord }
  if s.relays && status == stOk then s.relayOut { f := c.func, e := c.entry } status resp false
  else (s.complete c.func c.entry status 0 resp).drain c.func

/-- A receipt goes into its place; the last one completes the command. -/
def State.putReceipt (s : State) (i : PointIn) (rc : List Byte) : State :=
  let s := s.modTrust fun t =>
    { t with pointCmds := t.pointCmds.map fun c =>
        if c.ord = i.ord then { c with receipts := c.receipts.set i.slot (some rc) } else c }
  match s.trust.pointCmds.find? fun c => c.ord == i.ord with
  | none => s
  | some c => if c.relay.isNone && c.receipts.all (·.isSome) then s.pointsDone c stOk else s

/-- The receipt that an input's RELAY packet already carries for it, where a ring brought it (R606). -/
def State.carriedReceipt (s : State) (i : PointIn) : Option (List Byte) :=
  ((s.trust.pointCmds.find? (·.ord == i.ord)).bind (·.relay)).bind fun t =>
    (s.ring.relayIn.find? (·.tag == t)).map fun r => bytesAt r.resp (40 * i.slot) 40

/-- An update is judged under its session as that stands now. One that a ring brought for a session that is not open here
is another controller's (R606). -/
def State.judgeInput (s : State) (i : PointIn) : State × List Byte :=
  match s.carriedReceipt i, s.sessionOf (nAt i.update 4 2) with
  | some rc, none => (s, rc)
  | _, _ => s.judgeUpdate i.update

/-- Whether a KMAC engine is being reset after its lanes disagreed (0x0407 of R562). -/
def State.engineDown (s : State) (engine : Nat) : Bool :=
  s.cellar.recov.any fun r => r.code == 0x407 && s.cellar.log.any fun e => e.seq == r.logSeq && e.detail == engine

/-- Whether waiting input k may be judged now: nothing of its session was fetched before it (R212), its entry is not
being rewritten (R227), the table is not being restored (R573), and the journal has room (R571). -/
def State.mayJudge (s : State) (k : Nat) (i : PointIn) : Bool :=
  !i.openS && (s.trust.pointQ.take k).all (fun j => j.session != i.session)
  && !(s.trust.rewriting && s.trust.rewrPts.contains (nAt i.update 0 4 % 524288))
  && !s.replaying (fun r => r.code == 0x406 && !r.replayed) && s.journalRoom

/-- POINT_UPDATE (R230): a KMAC engine judges a waiting update. When its two lanes disagree it refuses the update, and
the engine's fault is no violation (R215). -/
def execPointUpdate (k engine : Nat) (lanesAgree : Bool) (s : State) : Host.Outcome State Fault Refusal :=
  .next (match s.trust.pointQ[k]? with
    | none => s
    | some i =>
      if !s.mayJudge k i || 16 ≤ engine || s.engineDown engine then s
      else
        let s := s.modTrust fun t => { t with pointQ := t.pointQ.eraseIdx k }
        if lanesAgree then
          let r := s.judgeInput i
          r.1.putReceipt i r.2
        else
          (s.fault { code := 0x407, cls := 3, island := 62, detail := engine, force := .none }).putReceipt i
            (s.noReceipt i.update))

/-- A SUBMIT_POINTS that a point table recovery interrupts completes with REPLAYING (R575); a relayed one travels on. -/
def State.interruptPoints (s : State) : State :=
  let s := s.modTrust fun t => { t with pointQ := t.pointQ.filter (·.openS) }
  s.trust.pointCmds.foldl (fun (a : State) c =>
    let u := fun (k : Nat) => bytesAt ({ f := c.func, e := c.entry : Cmd }).payload (48 * k) 48
    let rs := c.receipts.mapIdx fun k r => some (r.getD (s.noReceipt (u k)))
    if c.relay.isNone then a.pointsDone { c with receipts := rs } stReplaying
    else a.modTrust fun t => { t with pointCmds := t.pointCmds.map fun d => if d.ord = c.ord then { c with receipts := rs } else d }) s

/-! ### The sweep (R224) and the rewrite (R227) -/

/-- One entry of the sweep. An entry whose CHECK fails is swept as any other, and its CHECK goes on failing (DESIGN CHOICE,
log entry 105). -/
def Point.swept (q : Point) (now : Nat) : Point :=
  let e := (now % 0x100000000 + 0x100000000 - q.birth) % 0x100000000
  if q.received && !q.expired && 1000 * q.maxAge < counted e then
    let q1 := { q with expired := true }
    if q.checkOk then { q1 with check := q1.crc } else q1
  else q

/-- POINT_SWEEP (R224), 1 s after the sweep before. -/
def execPointSweep (s : State) : Host.Outcome State Fault Refusal :=
  .next (if !s.cellar.ctlRuns then s
    else
      let s := s.atUs (s.trust.sweepUs + 1000000)
      let pts := s.trust.points.map fun e => (e.1, e.2.swept s.us)
      s.modTrust fun t => { t with points := pts, sweepUs := s.us, stalePts := (pts.filter fun e => e.2.expired || e.2.srcInv).length })

/-- POINT_TABLE_REWRITE_DONE (R227). -/
def execPointTableRewriteDone (s : State) : Host.Outcome State Fault Refusal :=
  .next (s.modTrust fun t => { t with rewriting := false, rewrRegs := [], rewrPts := [] })

end Sys2Proof.Machine
end

