-- ==== Sys2Proof/Machine/Faults.lean ====
section
/-! DEFINITION. Faults that the monitors detect, the recovery of an island or a store, checkpoints, and RECOVER (R553,
R562, R566 to R580, R615 to R617). -/
namespace Sys2Proof.Machine

/-! ### RECOVER (R580) -/

/-- Whether the detection of an FC4 fault of a code goes on: FAULT_IN low while FAULT_IN_EN is live at 1, or a DRAM channel that failed training. -/
def State.persists (s : State) (code : Nat) : Bool :=
  (code == 0xE06 && s.cellar.faultIn && s.faultInEn) || (code == 0xC03 && s.dram.failed)

/-- Whether an FC4 detection has been absent for 1 s: `since` is when it was last present. -/
def State.absent (s : State) (code since : Nat) : Bool := !s.persists code && since + 1000000 ≤ s.us

/-- The FC4 entries that a log number and its successors name. -/
def State.fc4From (s : State) (seq : Nat) : List LogEntry :=
  s.cellar.log.filter fun e => e.cls == 4 && (e.seq == seq || ahead e.seq seq)

/-- The instant until which the detection of a log entry was last present. -/
def State.fc4Seen (s : State) (e : LogEntry) : Nat :=
  (s.cellar.ss3.filter fun d => d.fc4 && d.code == e.code).foldl (fun a d => max a d.since) e.time

/-- Whether the detection of every FC4 entry concerned has been absent for 1 s (R580). -/
def State.causesGone (s : State) (seq : Nat) : Bool :=
  (s.cellar.ss3.filter (·.fc4)).all (fun d => s.absent d.code d.since)
  && (s.fc4From seq).all fun e => s.absent e.code (s.fc4Seen e)

/-- Whether handling of an FC3 fault runs (R557, R580). -/
def State.fc3Runs (s : State) : Bool :=
  s.cellar.recov.any fun r => (s.cellar.log ++ s.cellar.mirror).any fun e => e.seq == r.logSeq && e.cls == 3

/-- RECOVER's response. -/
def recoverResp (result due : Nat) : List Byte := leBytes 1 result ++ zeros 3 ++ leBytes 4 due

/-- The effect of RECOVER. -/
def State.recover (s : State) (action seq : Nat) : CmdRes :=
  if action = 1 then
    if !(s.cellar.log ++ s.cellar.mirror).any (fun e => e.seq == seq && e.cls == 4) then .bad s stBadField
    else if s.fc3Runs then .ok s (recoverResp 2 0)
    else if !s.causesGone seq then .ok s (recoverResp 1 0)
    else
      let due := w32 (s.outA.frameNum + 2)
      .ok (s.modCellar fun c => { c with liftAt := some due }) (recoverResp 0 due)
  else if action = 2 then
    let t := s.cellar.outOfSvc.foldl (fun (a : State) k => a.startRecovery k 0xE08 seq false) s
    .ok (t.modCellar fun c => { c with outOfSvc := [] }) (recoverResp 0 0)
  else .bad s stBadField

/-- RECOVER's card. -/
def recoverCard : Card :=
  { hostCard 0xD01 16 8 (fun p => allZero (bytesAt p 1 3) && allZero (bytesAt p 8 8)) with
    host := false, owner := true, maint := true }

/-- RECOVER's act. -/
def recoverAct (s : State) (c : Cmd) : CmdRes := s.recover (nAt c.payload 0 1) (nAt c.payload 4 4)

/-- RECOVER (R580). -/
def execRecover (f : Nat) (s : State) : Host.Outcome State Fault Refusal := .next (s.hostCommand f recoverCard recoverAct)

/-! ### FAULT_IN and HEARTBEAT (R551, R553) -/

/-- FAULT_IN (R553): the level after its filter. -/
def execFaultIn (low : Bool) (s : State) : Host.Outcome State Fault Refusal :=
  .next (if !s.cellar.ctlRuns then s.modCellar fun c => { c with faultIn := low }
    else if low then
      let t := s.modCellar fun c => { c with faultIn := true }
      if t.faultInEn then t.faultInFault else t
    else
      let t := s.modCellar fun c => { c with faultIn := false }
      if s.cellar.faultIn && s.faultInEn then t.faultInSeen else t)

/-- HEARTBEAT_TOGGLE (R551): every 10 ms while Cellar runs and the controller is not in SS4. -/
def execHeartbeatToggle (s : State) : Host.Outcome State Fault Refusal :=
  .next (if !s.cellar.ctlRuns || s.cellar.ss4 then s
    else
      let t := s.atUs (s.cellar.hbAt + 10000)
      t.modCellar fun c => { c with heartbeat := !c.heartbeat, hbAt := t.us })

/-- What the wall supervisor takes from the pins (R552): valid while SAFE_OUT is high and HEARTBEAT has changed within the last
25 ms, counted while Cellar's clock runs. -/
def State.supervisorValid (s : State) : Bool :=
  !(s.cellar.safeLow && !s.power.safeOutOff) && s.us < s.cellar.hbAt + 25000

/-! ### Checkpoints (R567, R568, R571, R574) -/

/-- CHECKPOINT_BY_VOLUME (R568): 256 MiB of entries since the start of the newest complete checkpoint. -/
def execCheckpointByVolume (s : State) : Host.Outcome State Fault Refusal :=
  .next (if s.power.hearth && s.cellar.ckptBusy.isNone && 268435456 ≤ s.cellar.jBytes then
      s.ckptStart s.outA.frameNum false
    else s)

/-- A checkpoint completes: older journal entries are freed (R567). -/
def State.ckptComplete (s : State) (k : Checkpoint) : State :=
  let s := s.modCellar fun c =>
    let kept := c.journal.drop (k.pos - (c.jPos - c.journal.length))
    { c with ckptBusy := none, ckptForced := false, ckptTries := 0, ckpt := some k, ckptFrame := k.frame, journal := kept,
             jBytes := (kept.map fun e => Config.journalBytes e.1.kind).sum }
  s.jAppend (.ckptDone k.frame) true

/-- CHECKPOINT_DONE (R568, R574): a forced checkpoint that fails begins again, and one that fails twice is fault
0x0E07. -/
def execCheckpointDone (ok : Bool) (s : State) : Host.Outcome State Fault Refusal :=
  .next (match s.cellar.ckptBusy with
    | none => s
    | some k =>
      if ok then s.ckptComplete k
      else if !s.cellar.ckptForced then s.modCellar fun c => { c with ckptBusy := none }
      else if s.cellar.ckptTries = 0 then
        s.modCellar fun c =>
          { c with ckptTries := 1,
                   ckptBusy := some { k with frame := s.outA.frameNum, pos := c.jPos, pend := s.commits.pend,
                                             landings := s.landings.map (·.sets), channels := s.chans,
                                             zoneA := s.outA.zone, zoneB := s.outB.zone } }
      else
        (s.modCellar fun c => { c with ckptBusy := none, ckptForced := false, ckptTries := 0 }).fault
          { code := 0xE07, cls := 4, island := 255, detail := 0, force := .ss3All })

/-! ### Replay (R570, R572, R574) -/

/-- An entry whose runtime fields the point image gives; one that the image does not hold was never received. -/
def Point.restore (q : Point) (im : Option (Int × Nat × Nat)) : Point :=
  match im with
  | none => q.owner
  | some (v, b, fl) =>
    let q1 := { q with value := v, birth := b, received := bitOf fl 0, expired := bitOf fl 1, srcInv := bitOf fl 2 }
    { q1 with check := q1.crc }

/-- The point table as the point image and the later point entries give it (R570, R572). -/
def State.restorePoints (s : State) : State :=
  s.modTrust fun t => { t with points := t.points.map fun e => (e.1, e.2.restore (tfind s.cellar.image e.1)) }

/-- Whether a recovery waits for its replay: not one of a link, which ends when the link is ACTIVE again. -/
def Recovery.waitsReplay (r : Recovery) : Bool := !r.replayed && r.code != 0x505 && r.code != 0x601

/-- ISLAND_REPLAY_DONE (R572): an island whose clock has lock has its sets back and may rejoin; a store is back in
service. While a forced checkpoint is written, no recovery uses the journal (R574). -/
def execIslandReplayDone (isl : Nat) (s : State) : Host.Outcome State Fault Refusal :=
  .next (match s.cellar.recov.find? fun r => r.island == isl && r.waitsReplay with
    | none => s
    | some r =>
      if r.code = 0x407 ∧ r.store = true then s.endHandling fun q => q == r
      else if s.cellar.ckptForced then s
      else if r.store then s.restorePoints.endHandling fun q => q == r
      else if (s.landing isl).powered && (s.landing isl).pllLocked then
        (s.modCellar fun c =>
          { c with recov := c.recov.map fun q => if q = r then { q with replayed := true } else q,
                   hearthAt := if isl = 53 then s.us else c.hearthAt }).wake isl
      else s)

/-- ISLAND_REJOIN_TIMEOUT (R562): 100 ms after its reset an island that has not rejoined is held out of service. -/
def execIslandRejoinTimeout (isl : Nat) (s : State) : Host.Outcome State Fault Refusal :=
  .next (match s.cellar.recov.find? fun r => r.island == isl && !r.store && r.rejoin.isNone with
    | none => s
    | some r =>
      ((s.atUs (r.resetAt + 100000)).modCellar fun c =>
        { c with recov := c.recov.filter fun q => !(q.island == isl && !q.store),
                 outOfSvc := if isl ∈ c.outOfSvc then c.outOfSvc else c.outOfSvc ++ [isl] }).fault
        { code := 0xE08, cls := 4, island := isl, detail := 0, force := .ss3All })

/-! ### Clocks (R613 to R617) -/

/-- An island's clock in MHz (R613). -/
def islandMhz (isl : Nat) : Nat :=
  if isl < 44 ∨ isl = 55 ∨ isl = 56 ∨ isl = 59 ∨ isl = 62 ∨ isl = 63 then 1200
  else if isl < 49 ∨ isl = 58 then 1000
  else if isl < 53 then 1067
  else if isl = 53 then 1600
  else if isl = 54 then 200
  else if isl = 57 then 500
  else if isl = 60 then 400
  else 100

/-- Whether a count over 2^14 reference cycles lies within a tolerance of nominal, in parts per million (R615, R616). -/
def inPpm (isl count ppm : Nat) : Bool :=
  let nominal : Int := islandMhz isl * 16384
  let d := (25 * (count : Int) - nominal).natAbs
  d * 1000000 ≤ ppm * (islandMhz isl * 16384)

/-- A locked PLL declares loss (R616): its clock is gated off, and the island recovers from fault 0x0003. -/
def State.pllLoss (s : State) (isl : Nat) : State :=
  let s := s.modLanding isl fun l =>
    { l with pllLocked := false, lockWins := 0, gated := true, lossCount := sat 16 (l.lossCount + 1) }
  (s.fault { code := 0x3, cls := 3, island := isl, detail := isl, force := s.islandForce isl }).requeue isl

/-- PLL_WINDOW (R615, R616): the count of an island clock over one window. -/
def execPllWindow (isl count : Nat) (s : State) : Host.Outcome State Fault Refusal :=
  let l := s.landing isl
  .next (if !l.present || !l.powered || l.gated || !s.cellar.ctlRuns then s
    else if l.pllLocked then if inPpm isl count 500 then s else s.pllLoss isl
    else (s.modLanding isl fun l =>
      if inPpm isl count 100 then { l with lockWins := min 3 (l.lockWins + 1), pllLocked := 2 ≤ l.lockWins }
      else { l with lockWins := 0 }).wake isl)

/-- REF_EDGE_TIMEOUT (R616): no reference edge for 4 µs. -/
def execRefEdgeTimeout (isl : Nat) (s : State) : Host.Outcome State Fault Refusal :=
  let l := s.landing isl
  .next (if l.present && l.powered && l.pllLocked && s.cellar.ctlRuns then s.pllLoss isl else s)

/-! ### Hearth, lockstep and the crystal (R562) -/

/-- Fault 0x0E01: FC3 of Hearth. -/
def State.hearthFault (s : State) (detail : Nat) : State :=
  s.fault { code := 0xE01, cls := 3, island := 53, detail := detail, force := .none }

/-- HEARTH_HEARTBEAT_TIMEOUT (R562): no Hearth heartbeat to Cellar for 50 ms. -/
def execHearthHeartbeatTimeout (s : State) : Host.Outcome State Fault Refusal :=
  .next (if !s.power.hearth || s.cellar.recov.any (fun r => r.island == 53 && !r.replayed) || 53 ∈ s.cellar.outOfSvc then s
    else (s.atUs (s.cellar.hearthAt + 50000)).hearthFault 0)

/-- LOCKSTEP_MISMATCH (R562). -/
def execLockstepMismatch (u : LockUnit) (s : State) : Host.Outcome State Fault Refusal :=
  .next (if !s.cellar.ctlRuns then s
    else match u with
      | .hearth => if s.power.hearth then s.hearthFault 0 else s
      | .cellar => s.fault { code := 0xE04, cls := 4, island := 54, detail := 0, force := .ss4 }
      | .threshold =>
        if (s.landing 60).powered then s.fault { code := 0xD02, cls := 4, island := 60, detail := 0, force := .ss4 } else s)

/-- CRYSTAL_STOP (R562). -/
def execCrystalStop (s : State) : Host.Outcome State Fault Refusal :=
  .next (if s.cellar.ctlRuns then s.fault { code := 0xE05, cls := 4, island := 54, detail := 0, force := .ss4 } else s)

/-- CRYSTAL_DEVIATION (R562): more than 500 ppm from both other references. -/
def execCrystalDeviation (s : State) : Host.Outcome State Fault Refusal :=
  .next (if s.cellar.ctlRuns then s.fault { code := 0x408, cls := 4, island := 54, detail := 0, force := .ss4 } else s)

end Sys2Proof.Machine
end

