-- ==== Sys2Proof/Machine/Transom.lean ====
section
/-! DEFINITION. The Transom engine: rails, waveforms, zone updates, blinking, the DC ledger, Cellar messages, the
power-loss procedure, and VCOM calibration (R326 to R362, R390 to R392, R504). -/
namespace Sys2Proof.Machine

/-! ### Settings and pixels -/

/-- A live word of TRM. -/
def State.tw (s : State) (off : Nat) : Nat := s.lv .trm .A off

/-- TR_W and TR_H, live. -/
def State.trGeom (s : State) : Nat × Nat := (fld (s.tw 4) 0 12, fld (s.tw 4) 16 10)

/-- A zone's live rectangle. -/
def State.zoneAt (s : State) (z : Nat) : Nat × Nat × Nat × Nat := zoneRect s.tw z

/-- A zone's live BLINK. -/
def State.blink (s : State) (z : Nat) : Bool := bitOf (s.tw (0x24 + 8 * z)) 31

/-- BLINK_HALF_MS in crystal cycles. -/
def State.blinkHalf (s : State) : Nat := fld (s.tw 0x10) 0 15 * 25000

/-- A pixel's place in the planes of the store. -/
def pixKey (x y : Nat) : Nat := y * 2560 + x

/-- The pixels of a rectangle, line by line. -/
def rectPix (r : Nat × Nat × Nat × Nat) : List Nat :=
  (List.range r.2.2.2).flatMap fun j => (List.range r.2.2.1).map fun i => pixKey (r.1 + i) (r.2.1 + j)

/-- The pixels of the whole panel. -/
def State.panelPix (s : State) : List Nat := rectPix (0, 0, s.trGeom.1, s.trGeom.2)

/-- A pixel's level in an image of rows of w / 4 bytes (R328, R504). -/
def imagePix (get : Nat → Byte) (w i j : Nat) : Nat := fld (get (j * (w / 4) + i / 4)).toNat (2 * (i % 4)) 2

/-- Copies an image into a rectangle of a plane. -/
def loadPlane (p : Table Nat) (r : Nat × Nat × Nat × Nat) (get : Nat → Byte) : Table Nat :=
  (List.range r.2.2.2).foldl (fun a j => (List.range r.2.2.1).foldl (fun a i =>
    tset 0 a (pixKey (r.1 + i) (r.2.1 + j)) (imagePix get r.2.2.1 i j)) a) p

/-- Copies a rectangle between planes. -/
def copyPix (src dst : Table Nat) (ps : List Nat) : Table Nat := ps.foldl (fun a p => tset 0 a p (tget 0 src p)) dst

/-- Plane M for a message (R352): the owner's image of that safe state where one of the panel's size is installed, else
the ROM message, black on white. -/
def State.planeM (s : State) (m p : Nat) : Nat :=
  let g := s.trGeom
  match if m = 3 then s.trust.msgSs3 else s.trust.msgSs4 with
  | some i =>
    if i.w = g.1 ∧ i.h = g.2 then imagePix (fun k => i.image.getD k 0) i.w (p % 2560) (p / 2560)
    else if Config.romMessage g.1 g.2 p % 2 = 1 then 3 else 0
  | none => if Config.romMessage g.1 g.2 p % 2 = 1 then 3 else 0

/-! ### Rails (R331 to R334) -/

/-- The rail enabled after one (R332). -/
def railNext : Rail → Option Rail
  | .vgl => some .vgh
  | .vgh => some .vsl
  | .vsl => some .vsh
  | .vsh => some .vcom
  | .vcom => none

/-- Every rail is good. -/
def Transom.good (t : Transom) : Bool := t.rails.length == 5

/-- Starts taking the rails down in the reverse order (R333). -/
def Transom.down (t : Transom) : Transom :=
  match t.falling, t.ramping with
  | some _, _ => t
  | none, some r => { t with ramping := none, falling := some r }
  | none, none => { t with falling := t.rails.getLast?, rails := t.rails.dropLast }

/-- An update or a message that waits, for which rails that are off are requested (R343, R347, R352, R354). -/
def Transom.wants (t : Transom) : Bool :=
  !t.pending.isEmpty || t.toggleDue != 0 || t.release || (t.message.isSome && t.message != t.shown)

/-- Requests the rails where something waits for them. -/
def State.wantRails (s : State) : State :=
  if s.transom.wants then s.modTrm fun t => t.requestRails s.clk s.trEn else s

/-! ### Events (R504, R510) -/

/-- The TRANSOM_UPDATE event: zone, outcome (0 SHOWN, 1 SUPERSEDED, 2 ABORTED, 3 ZONE_CHANGED), range, tag, frames. -/
def State.trEvent (s : State) (issuer zone outcome range tag frames : Nat) : State :=
  s.event issuer 0x8700 (leBytes 1 zone ++ leBytes 1 outcome ++ leBytes 1 range ++ zeros 1 ++ leBytes 4 tag
    ++ leBytes 2 frames)

/-- Ends a request that never started. -/
def State.trDrop (s : State) (r : TrReq) (outcome : Nat) : State := s.trEvent r.issuer r.zone outcome 0 r.tag 0

/-! ### Drive sequences (R336, R344, R350) -/

/-- The codes of a transition entry. -/
def State.transCodes (s : State) (range a b : Nat) : List Nat := wfCodes s.tw (0x10000 + 8 * (16 * range + 4 * a + b))

/-- The codes of a clear entry. -/
def State.clearCodes (s : State) (range : Nat) : List Nat := wfCodes s.tw (0x10400 + 8 * range)

/-- The compensation frames of a pixel whose level changes: n of R350. -/
def State.compFrames (s : State) (led : Int) : Nat :=
  if fld (s.tw 0xC) 0 15 < led.natAbs then min led.natAbs (fld (s.tw 0xC) 16 5) else 0

/-- The sequences of the pixels whose target differs from plane D (R344), with their compensation; pixels without one
wait at hold until the longest has ended (R350). Answers the frames of the compensation phase too. -/
def State.buildSeqs (s : State) (range : Nat) (ps : List Nat) (target : Nat → Nat) : Nat × List PixSeq :=
  let t := s.transom
  let ch := ps.filter fun p => tget 0 t.planeD p ≠ target p
  let n := (ch.map fun p => s.compFrames (tget 0 t.ledger p)).foldl max 0
  (n, ch.map fun p =>
    let led := tget 0 t.ledger p
    let k := s.compFrames led
    { pix := p, target := target p, net := 0,
      codes := if k = 0 then List.replicate n 0 ++ s.transCodes range (tget 0 t.planeD p) (target p)
        else List.replicate k (if 0 < led then 2 else 1) ++ s.transCodes range (if 0 < led then 0 else 3) (target p) })

/-- The range of a temperature under the live thresholds (R338). -/
def State.trRange (s : State) (t : Int) : Nat := ((List.range 7).filter fun k => trmTh s.tw (k + 1) ≤ t).length

/-- The range of an update that starts now (R338, R339, R346): the latest good reading under the thresholds live at the
start, so that an update which starts with a new set runs wholly under it; range 3 without a good reading. -/
def State.useRange (s : State) : Nat :=
  match s.transom.reading with
  | none => 3
  | some t => s.trRange t

/-- Adds an update. A pixel whose sequence is empty has reached the end of it: plane D takes its target (R344). -/
def State.startUpdate (s : State) (zone : Nat) (kind : TrKind) (issuer tag : Nat) (comp : Nat) (seqs : List PixSeq) : State :=
  let k := s.useRange
  s.modTrm fun t =>
    { t with range := k, planeD := (seqs.filter (·.codes.isEmpty)).foldl (fun d q => tset 0 d q.pix q.target) t.planeD,
             compPh := if comp = 0 then t.compPh else sat 16 (t.compPh + 1),
             running := t.running ++ [{ zone := zone, kind := kind, issuer := issuer, tag := tag, seqs := seqs,
                                        frames := 0, compN := comp, range := k, aborted := false }] }

/-- Starts an update of pixels to their targets. -/
def State.startTo (s : State) (zone : Nat) (kind : TrKind) (issuer tag : Nat) (ps : List Nat) (target : Nat → Nat) : State :=
  let b := s.buildSeqs s.useRange ps target
  s.startUpdate zone kind issuer tag b.1 b.2

/-- Starts a clear of pixels with the clear entry of the current range (R359, R360). -/
def State.startClear (s : State) (zone : Nat) (kind : TrKind) (ps : List Nat) : State :=
  let cs := s.clearCodes s.useRange
  s.startUpdate zone kind 0 0 0 (ps.map fun p => { pix := p, codes := cs, target := 0, net := 0 })

/-- The area of an update. -/
def State.areaOf (s : State) (zone : Nat) : List Nat := if zone < 16 then rectPix (s.zoneAt zone) else s.panelPix

/-- The zone of a pixel, if a used zone holds it. -/
def State.zoneOfPix (s : State) (p : Nat) : Option Nat :=
  (List.range 16).find? fun z =>
    let r := s.zoneAt z
    r.1 ≤ p % 2560 && p % 2560 < r.1 + r.2.2.1 && r.2.1 ≤ p / 2560 && p / 2560 < r.2.1 + r.2.2.2

/-! ### Frames (R344, R349) -/

/-- The change of a ledger entry by a drive code. -/
def codeSign (c : Nat) : Int := if c = 1 then 1 else if c = 2 then -1 else 0

/-- A ledger entry saturates (R349). -/
def clampLedger (i : Int) : Int := max (-32768) (min 32767 i)

/-- One pixel's next code: its ledger entry, and plane D when its sequence ends. -/
def Transom.drive (t : Transom) (q : PixSeq) (bal : Bool) : Transom :=
  match q.codes with
  | [] => t
  | c :: cs =>
    { t with ledger := tset 0 t.ledger q.pix (clampLedger (tget 0 t.ledger q.pix + codeSign c)),
             planeD := if cs.isEmpty && !bal then tset 0 t.planeD q.pix q.target else t.planeD }

/-- One pixel's sequence after a frame. -/
def PixSeq.step (q : PixSeq) : PixSeq :=
  match q.codes with
  | [] => q
  | c :: cs => { q with codes := cs, net := q.net + codeSign c }

/-- The drive code of a pixel in the frame in progress: the next code of its sequence, hold where it has none (R329). -/
def Transom.codeAt (t : Transom) (p : Nat) : Nat :=
  ((t.running.flatMap (·.seqs)).findSome? fun q => if q.pix = p then q.codes.head? else none).getD 0

/-- The bytes of a line: byte k carries the codes of pixels 4k to 4k + 3, pixel 4k in bits [1:0] (R328). -/
def Transom.lineBytes (t : Transom) (w y : Nat) : List Byte :=
  (List.range (w / 4)).map fun k =>
    BitVec.ofNat 8 ((List.range 4).foldl (fun a i => a + 4 ^ i * t.codeAt (pixKey (4 * k + i) y)) 0)

/-- A line is written when at least one of its pixels has a code other than hold (R329). -/
def Transom.lineWritten (t : Transom) (w y : Nat) : Bool := (List.range w).any fun x => t.codeAt (pixKey x y) != 0

/-- The bus over one line of the gate scan: a written line shifts its bytes, is latched and has its gate enabled; a skipped
line keeps TR_GOE low (R327, R328). -/
def trLine (y : Nat) (written : Bool) (bytes : List Byte) : TrLine :=
  { gsp := y == 0, goe := written, soe := written, sle := written,
    data := if written then bytes.mapIdx fun k b => (k == 0, b) else [] }

/-- The gate scan of the frame in progress, of which the lines that a test takes carry their drive; a VCOM calibration
writes every line with hold (R328, R329, R391). -/
def State.gateScan (s : State) (line : Nat → Bool) : List TrLine :=
  let g := s.trGeom
  let t := s.transom
  (List.range g.2).map fun y =>
    if t.vcomLeft ≠ 0 then trLine y true (zeros (g.1 / 4))
    else trLine y (line y && t.lineWritten g.1 y) (t.lineBytes g.1 y)

/-- The frame in progress has been scanned, its drive applied on the lines that a test takes. -/
def State.driveFrame (s : State) (line : Nat → Bool) : State :=
  let b := s.gateScan line
  s.modTrm fun t =>
    t.running.foldl (fun a u => (u.seqs.filter fun q => line (q.pix / 2560)).foldl (fun a q => a.drive q u.aborted) a) { t with bus := b }

/-- An update after a frame: the net drive counts the current phase alone (R355). -/
def TrUpdate.step (u : TrUpdate) : TrUpdate :=
  let seqs := u.seqs.map PixSeq.step
  { u with frames := u.frames + 1,
           seqs := if u.frames + 1 = u.compN then seqs.map fun q => { q with net := 0 } else seqs }

/-- The frames that remain of an update's current phase. -/
def TrUpdate.left (u : TrUpdate) : Nat :=
  if u.frames < u.compN then u.compN - u.frames else (u.seqs.map (·.codes.length)).foldl max 0

/-- Every sequence of an update has ended. -/
def TrUpdate.isDone (u : TrUpdate) : Bool := u.seqs.all (·.codes.isEmpty)

/-! ### Endings -/

/-- The first toggle of a blinking zone after an update of it is due BLINK_HALF_MS later (R347). -/
def State.scheduleBlink (s : State) (z : Nat) : State :=
  s.modTrm fun t => { t with toggleAt := t.toggleAt.filter (·.1 ≠ z) ++ (if s.blink z then [(z, s.clk + s.blinkHalf)] else []) }

/-- A zone mask without a zone. -/
def maskDrop (m z : Nat) : Nat := if bitOf m z then m - 2 ^ z else m

/-- A zone mask with a zone. -/
def maskAdd (m z : Nat) : Nat := if bitOf m z then m else m + 2 ^ z

/-- An update that has ended SHOWN (R344, R347, R354, R359, R360). -/
def State.endShown (s : State) (u : TrUpdate) : State :=
  let s := s.modTrm fun t => { t with updates := sat 16 (t.updates + 1) }
  match u.kind with
  | .host => (s.trEvent u.issuer u.zone 0 u.range u.tag u.frames).scheduleBlink u.zone
  | .toggle =>
    (s.modTrm fun t => { t with blinkB := if bitOf t.blinkB u.zone then maskDrop t.blinkB u.zone else maskAdd t.blinkB u.zone }).scheduleBlink u.zone
  | .message => s
  | .release => (List.range 16).foldl (fun a z => a.scheduleBlink z) (s.modTrm fun t => { t with blinkB := 0 })
  | .clear => s.modTrm fun t => { t with clears := maskDrop t.clears u.zone, abortedZ := maskDrop t.abortedZ u.zone }
  | .balance =>
    s.modTrm fun t =>
      if t.balance = 1 then { t with balance := 2 }
      else { t with balance := 0, uncertain := false, clears := 0, abortedZ := 0 }

/-- An update that ended before its target was reached; `lost` marks its zone aborted (R334, R355). -/
def State.endAborted (s : State) (u : TrUpdate) (lost : Bool) : State :=
  let s := if lost then
      { s with transom := { s.transom with
                  abortedZ := if u.zone < 16 then maskAdd s.transom.abortedZ u.zone else 0xFFFF,
                  pfAborts := sat 16 (s.transom.pfAborts + 1) },
               mram := { s.mram with trCounts := (s.mram.trCounts.1, sat 16 (s.transom.pfAborts + 1)) } }
    else s
  match u.kind with
  | .host => (s.trEvent u.issuer u.zone 2 u.range u.tag u.frames).scheduleBlink u.zone
  | .toggle => s.scheduleBlink u.zone
  | .message => s.modTrm fun t => { t with shown := none }
  | .release => s.modTrm fun t => { t with hold := true, release := t.message.isNone }
  | .clear | .balance => s

/-- Ends the updates whose sequences have all ended. -/
def State.endUpdates (s : State) : State :=
  let done := s.transom.running.filter (·.isDone)
  let s := s.modTrm fun t => { t with running := t.running.filter fun u => !u.isDone }
  done.foldl (fun a u => if u.aborted then a.endAborted u true else a.endShown u) s

/-! ### The update doorway (R48, R346) -/

/-- The zones whose position or size differs between two sets. -/
def zonesChanged (a b : Nat → Nat) : List Nat := (List.range 16).filter fun z => zoneRect a z ≠ zoneRect b z

/-- The pending TRM copies are live: the latest of them works, each posts its event, and changed zones end their pending
requests. The configuration record is written (R356). -/
def State.trDoorway (s : State) : State :=
  let ps := s.pendsOf .trm 0
  match ps.reverse with
  | [] => s
  | q :: _ =>
    let old := s.tw
    let s1 := s.modLanding 61 fun l => { l.setLive .trm .A q.cid q.words with liveCommitA := q.cid }
    let s2 := { s1 with
      commits := { s1.commits with pend := s1.commits.pend.filter fun (p : Pend) => p.blk ≠ Blk.trm,
                                   newest := putNewest s1.commits.newest 0 .trm .A q.cid q.words },
      mram := { s1.mram with trmCfg := s1.mram.trmCfg.write s1.us q.words } }
    let s3 := ps.foldl (fun a p => a.event p.issuer 0x8100 (doorwayData p.cid 0 3 0 0 0)) s2
    let zs := zonesChanged old s3.tw
    let s4 := (s3.transom.pending.filter fun (r : TrReq) => r.zone ∈ zs).foldl (fun (a : State) r => a.trDrop r 3) s3
    let s5 := s4.modTrm fun t =>
      { t with pending := t.pending.filter fun r => !(r.zone ∈ zs),
               planeT := zs.foldl (fun a z => copyPix t.planeD a (rectPix (s4.zoneAt z))) t.planeT,
               blinkB := zs.foldl maskDrop t.blinkB,
               toggleAt := t.toggleAt.filter fun e => s4.blink e.1,
               toggleDue := (List.range 16).foldl (fun m z => if s4.blink z then m else maskDrop m z) t.toggleDue }
    (List.range 16).foldl (fun a z =>
      if a.blink z ∧ ¬ bitOf (old (0x24 + 8 * z)) 31 = true then a.scheduleBlink z else a) s5

/-! ### Starts (R343 to R348, R352, R354, R359, R360, R390) -/

/-- A zone whose update is running, or the whole panel's. -/
def Transom.busy (t : Transom) (z : Nat) : Bool := t.running.any fun u => u.zone == z || u.zone == 16

/-- A zone's update may start, hold, calibration and commits apart: a pending request, or a toggle due; no update of it
running, no load of it in progress, no clear of it outstanding. -/
def Transom.zoneReady (t : Transom) (z : Nat) : Bool :=
  (t.pending.any (·.zone == z) || (bitOf t.toggleDue z && !t.loading.any (·.zone == z))) && !t.busy z && !bitOf t.clears z

/-- A forced message that is not on the panel, or a release of the hold. -/
def Transom.msgDue (t : Transom) : Bool := t.release || (t.message.isSome && t.message != t.shown)

/-- Some update would start at a boundary at which none runs. -/
def State.anyStart (s : State) : Bool :=
  let t := s.transom
  t.uncertain || t.msgDue || (!t.vcomReq && (t.clears != 0 || (!t.hold && (List.range 16).any t.zoneReady)))

/-- Starts one zone's update: its newest pending request, or its toggle. -/
def State.startZone (s : State) (z : Nat) : State :=
  let t := s.transom
  let area := rectPix (s.zoneAt z)
  match t.pending.find? (·.zone == z) with
  | some r =>
    let pT := copyPix t.planeP t.planeT area
    let s1 := s.modTrm fun t =>
      { t with planeT := pT, pending := t.pending.filter (·.zone ≠ z), blinkB := maskDrop t.blinkB z,
               toggleDue := maskDrop t.toggleDue z, toggleAt := t.toggleAt.filter (·.1 ≠ z) }
    s1.startTo z .host r.issuer r.tag area (tget 0 pT)
  | none =>
    let s1 := s.modTrm fun t => { t with toggleDue := maskDrop t.toggleDue z }
    s1.startTo z .toggle 0 0 area (tget 0 (if bitOf t.blinkB z then t.planeT else t.planeB))

/-- Starts the clears that R360 leaves outstanding, on zones with no update running. -/
def State.startClears (s : State) : State :=
  (List.range 16).foldl (fun a z =>
    if bitOf a.transom.clears z && !a.transom.busy z then a.startClear z .clear (a.areaOf z) else a) s

/-- The starts of a frame boundary, in their order: the balancing refresh; a Cellar message or the release of the hold,
behind the clears; VCOM calibration; then clears and zone updates. -/
def State.trStarts (s : State) : State :=
  let t := s.transom
  let quiet := t.running.isEmpty
  if t.uncertain then
    if quiet then (s.modTrm fun t => { t with balance := max 1 t.balance }).startClear 16 .balance s.panelPix else s
  else if t.msgDue then
    if t.clears ≠ 0 then s.startClears
    else if !quiet then s
    else
      match t.message with
      | some m => (s.modTrm fun t => { t with shown := some m }).startTo 16 .message 0 0 s.panelPix (s.planeM m)
      | none =>
        (s.modTrm fun t => { t with hold := false, release := false, shown := none }).startTo 16 .release 0 0 s.panelPix
          (fun p => if (s.zoneOfPix p).isSome then tget 0 t.planeT p else 0)
  else if t.vcomReq then
    if quiet then s.modTrm fun t => { t with vcomReq := false, vcomLeft := 34 } else s
  else
    let s1 := s.startClears
    if t.hold || (!(s.pendsOf .trm 0).isEmpty && !quiet) then s1
    else (List.range 16).foldl (fun a z => if a.transom.zoneReady z then a.startZone z else a) s1

/-- The marker is written before a pixel is first driven after a restore (R357). -/
def State.markDirty (s : State) : State :=
  let drives := s.transom.running.any fun u => u.seqs.any fun q => q.codes.head? == some 1 || q.codes.head? == some 2
  if s.transom.dirtied || !drives then s
  else { s with transom := { s.transom with dirtied := true },
                mram := { s.mram with marker := s.mram.marker.write s.us (w32 (s.transom.restoredSeq + 1)) } }

/-! ### VCOM calibration (R390 to R392) -/

/-- VCOM_EN, live. -/
def State.vcomEn (s : State) : Bool := bitOf (s.lv .cal .A 0x100) 4

/-- A calibration ends before its 34 frames. -/
def State.vcomAbort (s : State) : State :=
  if s.transom.vcomLeft = 0 then s
  else s.modTrm fun t => { t with vcomLeft := 0, vcomStop := false, vcomAborts := sat 16 (t.vcomAborts + 1), vcomAt := some s.us, vcomTemp := t.temp }

/-- One frame of a calibration; the last trims the booster and reports the best VCOM, as the measurement gives. A forced
message, a rail fault or the power-fail indication since the frame began ends the calibration with the frame (R392). -/
def State.vcomFrame (s : State) : State :=
  let t := s.transom
  if t.vcomLeft = 0 then s
  else if t.powerLoss || t.msgDue || t.vcomStop then s.vcomAbort
  else if t.vcomLeft = 1 then
    s.drawn.modTrm fun t =>
      { t with vcomLeft := 0, vcomOpt := Config.measuredVcom s.free % 301, vcomTrim := Config.freeValue s.free,
               vcomRuns := sat 16 (t.vcomRuns + 1), vcomAt := some s.us, vcomTemp := t.temp }
  else s.modTrm fun t => { t with vcomLeft := t.vcomLeft - 1 }

/-! ### The power-loss procedure (R355, R356) -/

/-- The engine has driven its last frame: the record's write begins, over the copy that is not the newest, and the rails
go down. -/
def State.trFlush (s : State) : State :=
  { s with transom := { s.transom.down with flushing := some s.us },
           mram := { s.mram with ledger := s.mram.ledger.spare } }

/-- The procedure has ended: record written, rails off. -/
def Transom.lossOver (t : Transom) : Bool :=
  t.powerLoss && t.flushing.isNone && t.running.isEmpty && t.rails.isEmpty && t.falling.isNone && t.ramping.isNone

/-- Whether a waveform frame is in progress. -/
def Transom.inFrame (t : Transom) : Bool := !t.running.isEmpty || t.vcomLeft != 0

/-- The power-fail indication (R355): nothing more starts; with no frame in progress the record is written at once. -/
def State.trPowerFail (s : State) : State :=
  if s.transom.powerLoss then s
  else
    let s := s.modTrm fun t => { t with powerLoss := true }
    if s.transom.inFrame then s else s.trFlush

/-- What the frame in progress at the indication leaves to be done: a phase with at most 2 frames left completes, any
other ends in a balancing phase. -/
def TrUpdate.cut (u : TrUpdate) : TrUpdate :=
  if u.left ≤ 2 then
    if u.frames < u.compN then
      { u with aborted := true, seqs := u.seqs.map fun q => { q with codes := q.codes.take u.left } }
    else u
  else
    { u with aborted := true,
             seqs := u.seqs.map fun q =>
               { q with codes := List.replicate (min q.net.natAbs 2) (if 0 < q.net then 2 else 1) } }

/-- The procedure after a frame. -/
def State.trLossFrame (s : State) : State :=
  let s1 := if s.transom.lossBal then s
    else (s.modTrm fun t => { t with lossBal := true, running := t.running.map TrUpdate.cut }).endUpdates
  if s1.transom.inFrame then s1 else s1.trFlush

/-! ### WAVEFORM_FRAME -/

/-- Crystal cycles of a waveform frame, 1/85 s (R328), rounded up. -/
def wavePeriod : Nat := 294118

/-- The frame in progress ends: drive, ledger, plane D, calibration, endings. -/
def State.frameOver (s : State) : State :=
  let s := s.atClk (s.transom.frameAt + wavePeriod)
  let s := s.driveFrame fun _ => true
  let s := s.modTrm fun t => { t with running := t.running.map TrUpdate.step }
  (s.vcomFrame.endUpdates).modTrm fun t => { t with frameAt := s.clk }

/-- What a boundary starts: the update doorway first, when an update starts and none runs (R346); while the Transom is
off, no update can, and the doorway falls at the boundary. -/
def State.trBoundary (s : State) : State :=
  if s.transom.powerLoss then s
  else if !s.trEn then
    (if s.transom.running.isEmpty then s.trDoorway.wantRails.modTrm fun t => { t with bus := [] } else s)
  else if !s.transom.good || s.transom.vcomLeft != 0 then s
  else
    let s := if s.transom.running.isEmpty && s.anyStart then s.trDoorway else s
    if !s.trEn then s else s.trStarts.markDirty.endUpdates

/-- WAVEFORM_FRAME: the boundary that ends the frame in progress, if one is, and starts the next (R328, R343 to R360,
R390 to R392). -/
def execWaveformFrame (s : State) : Host.Outcome State Fault Refusal :=
  .next (
    if !s.power.vauxValid && !s.transom.powerLoss then s
    else if s.transom.inFrame then
      let s1 := s.frameOver
      if s1.transom.powerLoss then s1.trLossFrame.markDirty else s1.trBoundary
    else
      let s1 := ((s.modTrm fun t => { t with bus := [] }).atClk (s.transom.rampAt + 12500)).trBoundary
      if s1.transom.inFrame then s1.modTrm fun t => { t with frameAt := s1.clk }
      else if s1.transom = s.transom ∧ s1.commits = s.commits then s else s1)

/-! ### TRANSOM_UPDATE (R341, R342, R504) -/

/-- TRANSOM_UPDATE's card. -/
def transomCard : Card :=
  hostCard 0x700 32 4 fun p => nAt p 1 1 < 2 && nAt p 2 2 == 0 && allZero (bytesAt p 0x18 8)

/-- TRANSOM_UPDATE: the zone's pending request is replaced and the load begins; the command completes with the load. -/
def execTransomUpdate (f : Nat) (s : State) : Host.Outcome State Fault Refusal :=
  .next (s.hostCommand f transomCard fun s c =>
    let p := c.payload
    let z := nAt p 0 1
    let r := s.zoneAt z
    let len := r.2.2.2 * (r.2.2.1 / 4)
    let bl := s.blink z
    if 16 ≤ z ∨ r.2.2.1 = 0 ∨ nAt p 8 8 % 64 ≠ 0 ∨ (bl = true ∧ (nAt p 1 1 = 0 ∨ nAt p 0x10 8 % 64 ≠ 0)) then .bad s stBadField
    else if !s.inPool f (nAt p 8 8) len || (bl && !s.inPool f (nAt p 0x10 8) len) then poolBreach s 16
    else if !s.trEn then .bad s stNotReady
    else
      let q : TrReq :=
        { zone := z, issuer := f, tag := nAt p 4 4, cmdId := c.cmdId, respLen := c.respLen, respOk := c.e.respOk,
          image := nAt p 8 8, alt := if bl then some (nAt p 0x10 8) else none, rect := r }
      let s1 := (s.transom.pending.filter (·.zone == z)).foldl (fun a r => a.trDrop r 1) s
      { CmdRes.ok (s1.modTrm fun t => { t with pending := t.pending.filter (·.zone ≠ z), loading := t.loading ++ [q] }) [] with
        later := true })

/-- TRANSOM_LOAD_DONE: the image is in plane P (and B), the pending flag is set and the command completes. A request that
a later load of its zone has replaced ends SUPERSEDED, one whose zone has changed since ends ZONE_CHANGED. While module DRAM
grants no read, the load waits (R441, R450). -/
def execTransomLoadDone (z : Nat) (s : State) : Host.Outcome State Fault Refusal :=
  .next (match s.transom.loading.find? (·.zone == z) with
    | none => s
    | some r =>
      if s.dram.st ≠ 2 then s
      else
        let rest := s.transom.loading.eraseP fun q => q.zone == z
        let s1 := (s.modTrm fun t => { t with loading := rest }).modBox r.issuer fun b =>
          b.postCompletion s.us r.cmdId stDeferred 0 r.respLen r.respOk (leBytes 4 r.tag)
        if r.rect ≠ s.zoneAt z then s1.trDrop r 3
        else if rest.any (·.zone == z) then s1.trDrop r 1
        else
          let get := fun (base k : Nat) => memGet s.dram.mem (base + k)
          (s1.modTrm fun t =>
            { t with planeP := loadPlane t.planeP r.rect (get r.image),
                     planeB := (match r.alt with | none => t.planeB | some a => loadPlane t.planeB r.rect (get a)),
                     pending := t.pending ++ [r] }).wantRails)

/-- BLINK_TOGGLE: a toggle is due BLINK_HALF_MS after the zone's previous update of its kind ended (R347). -/
def execBlinkToggle (z : Nat) (s : State) : Host.Outcome State Fault Refusal :=
  .next (match s.transom.toggleAt.find? (·.1 == z) with
    | none => s
    | some e =>
      if s.transom.powerLoss || !s.trEn || !s.blink z then s
      else
        ((s.atClk e.2).modTrm fun t => { t with toggleAt := t.toggleAt.filter (·.1 ≠ z), toggleDue := maskAdd t.toggleDue z }).wantRails)

/-! ### Temperature (R338, R339) and VCOM requests (R390) -/

/-- The resistance of TR_NTC at a whole temperature in °C, in 1/1024 Ω: 10 kΩ at 25 °C with B = 3435 K, R = R25 times
the exponential of B (1/T - 1/T25), its series taken to 40 terms. -/
def ntcOhms (t : Int) : Nat :=
  let tk := (t * 100 + 27315).toNat
  let num := 343500 * (if t < 25 then 29815 - tk else tk - 29815)
  let den := tk * 29815
  let sum := ((List.range 40).foldl (fun (a : Nat × Nat) k =>
    let term := a.2 * num / (den * (k + 1))
    (a.1 + term, term)) (2 ^ 64, 2 ^ 64)).1
  if t < 25 then 10240000 * sum / 2 ^ 64 else 10240000 * 2 ^ 64 / sum

/-- The whole degrees of a reading between -40 °C and +100 °C, rounded down; none outside. -/
def ntcTemp (ohms : Nat) : Option Int :=
  if ntcOhms (-40) < 1024 * ohms ∨ 1024 * ohms < ntcOhms 100 then none
  else ((List.range 141).reverse.map fun (k : Nat) => (k : Int) - 40).find? fun t => 1024 * ohms ≤ ntcOhms t

/-- NTC_MEASURE: a reading, and the request of a VCOM calibration when TEMP has moved by 10 °C. TEMP is a whole number of
degrees at or next above the reading, which the manual does not round for us. -/
def execNtcMeasure (ohms : Nat) (s : State) : Host.Outcome State Fault Refusal :=
  .next (
    if !s.cellar.ctlRuns then s
    else match ntcTemp ohms with
      | none =>
        (s.modTrm fun t => { t with ntcFault := true }).fault
          { code := 0x802, cls := 1, island := 61, detail := 0, force := .none }
      | some d =>
        let temp := d + (s.freeBelow 2 : Nat)
        let s1 := s.drawn.modTrm fun t =>
          { t with ntcFault := false, temp := temp, reading := some d }
        let t := s1.transom
        if s1.vcomEn && t.vcomAt.isSome && t.vcomLeft == 0 && 10 ≤ (temp - t.vcomTemp).natAbs then
          s1.modTrm fun t => { t with vcomReq := true }
        else s1)

/-- VCOM_CAL_DUE: VCOM_PERIOD_H hours of Cellar time after the previous calibration ended. -/
def execVcomCalDue (s : State) : Host.Outcome State Fault Refusal :=
  .next (match s.transom.vcomAt with
    | none => s
    | some t =>
      if !s.vcomEn || s.transom.vcomLeft != 0 || s.transom.vcomReq || s.transom.powerLoss then s
      else (s.atUs (t + fld (s.lv .cal .A 0x108) 0 8 * 3600000000)).modTrm fun t => { t with vcomReq := true })

/-! ### Rail rows -/

/-- RAIL_GOOD: the next rail is enabled 0.5 ms later; with the last, updates can start (R332). The first time after VAUX
became valid, a VCOM calibration is requested (R390). -/
def execRailGood (r : Rail) (s : State) : Host.Outcome State Fault Refusal :=
  .next (
    if s.transom.ramping ≠ some r then s
    else
      let s := s.atClk s.transom.rampAt
      let first := r == .vcom && !s.transom.railsSeen
      s.modTrm fun t =>
        { t with rails := t.rails ++ [r], ramping := railNext r,
                 rampAt := if (railNext r).isSome then s.clk + 12500 else s.clk,
                 railsSeen := t.railsSeen || r == .vcom, vcomReq := t.vcomReq || (first && s.vcomEn) })

/-- A rail fault (R334): running updates end ABORTED with the drive that the lines already scanned have received, a
calibration ends with its frame (R392), the rails go down, Cellar is told. How far the scan had come is open. -/
def State.railFault (s : State) : State :=
  let lines := s.freeBelow (s.trGeom.2 + 1)
  let s1 := if s.transom.running.isEmpty then s else s.drawn.driveFrame fun y => y < lines
  let us := s1.transom.running
  let s2 := (s1.modTrm fun t => { t with running := [], vcomStop := t.vcomLeft != 0, railFaults := sat 16 (t.railFaults + 1) }.down)
  let s3 := us.foldl (fun a u => a.endAborted u false) s2
  let s4 := s3.fault { code := 0x801, cls := 2, island := 61, detail := 0, force := .none }
  if s4.transom.powerLoss && s4.transom.flushing.isNone && !us.isEmpty then s4.trFlush else s4

/-- RAIL_ENABLE_TIMEOUT: a rail not good within 2 ms of its enable (R332). -/
def execRailEnableTimeout (r : Rail) (s : State) : Host.Outcome State Fault Refusal :=
  .next (if s.transom.ramping ≠ some r then s else (s.atClk (s.transom.rampAt + 50000)).railFault)

/-- RAIL_OUT_OF_BAND: an enabled rail leaves its band for more than 100 µs (R334), be it while the rails go down and its
own turn has not come. -/
def execRailOutOfBand (r : Rail) (s : State) : Host.Outcome State Fault Refusal :=
  .next (if r ∈ s.transom.rails then s.railFault else s)

/-- RAILS_IDLE_TIMEOUT: 100 ms after the last waveform frame with nothing pending or ready (R333). -/
def execRailsIdleTimeout (s : State) : Host.Outcome State Fault Refusal :=
  .next (
    let t := s.transom
    if !t.good || t.falling.isSome || t.inFrame || t.powerLoss || (s.trEn && (t.wants || t.uncertain || t.clears != 0 || t.vcomReq))
    then s
    else (s.atClk (max t.frameAt (t.rampAt + 12500) + 2500000)).modTrm Transom.down)

/-- The restore at a start (R358, R360, R650): the TRM sets from the newest configuration record; plane D and the ledger
from the newest ledger record, certain when its SEQ is at least DIRTY_SEQ and its geometry is the live set's; planes T
and B equal to plane D, no request pending, the hold set. An uncertain ledger's refresh requests the rails. -/
def State.trRestore (s : State) : State :=
  let words : RegMap := (s.mram.trmCfg.newest.map (·.val)).getD []
  let s := s.modLanding 61 fun l => l.setLive .trm .A 0 words
  let s : State := { s with
    commits := { s.commits with newest := putNewest s.commits.newest 0 .trm .A 0 words },
    shadow := (s.shadow.filter fun e => e.1 != Blk.trm) ++ (if words = [] then [] else [(Blk.trm, words)]) }
  let dirty := (s.mram.marker.newest.map (·.val)).getD 0
  let led := s.mram.ledger.newest
  let sure : Bool := match led with
    | none => false
    | some r => decide (dirty ≤ r.seq) && (r.val.w, r.val.h) == s.trGeom
  let d := (led.map (·.val.planeD)).getD []
  let n := if sure then s.mram.trCounts.1 else sat 16 (s.mram.trCounts.1 + 1)
  let z := (led.map (·.val.aborted)).getD 0
  let s : State := { s with
    mram := { s.mram with trCounts := (n, s.mram.trCounts.2) },
    transom := { Transom.reset with
      planeD := d, planeT := d, planeB := d, ledger := (led.map (·.val.ledger)).getD [], uncertain := !sure, abortedZ := z,
      clears := z, uncertN := n, pfAborts := s.mram.trCounts.2,
      vcomTrim := (s.mram.calCfg.newest.map (·.val.trim)).getD 0, restoredSeq := (led.map (·.seq)).getD 0 } }
  if sure then s else s.modTrm fun t => t.requestRails s.clk s.trEn

/-- The power-loss procedure's end puts Cellar into SS4 without a message (R620); where a start waits for it, the restore
follows (R360). -/
def State.lossEnds (s : State) : State :=
  if !s.transom.lossOver then s
  else if s.transom.restoreWait then s.trRestore
  else s.enterSs4 false false

/-- RAIL_OFF: a falling rail is off and the next is switched off; once all are off, waiting updates request them again. -/
def execRailOff (r : Rail) (s : State) : Host.Outcome State Fault Refusal :=
  .next (
    if s.transom.falling ≠ some r then s
    else
      let s1 := s.modTrm fun t => { t with falling := t.rails.getLast?, rails := t.rails.dropLast }
      if s1.transom.powerLoss then s1.lossEnds else s1.wantRails)

/-- LEDGER_FLUSH_DONE: the ledger record is written and valid (R356). -/
def execLedgerFlushDone (s : State) : Host.Outcome State Fault Refusal :=
  .next (match s.transom.flushing with
    | none => s
    | some at_ =>
      let t := s.transom
      let g := s.trGeom
      let rec_ : LedgerRec := { planeD := t.planeD, ledger := t.ledger, w := g.1, h := g.2, aborted := t.abortedZ }
      ((s.modTrm fun t => { t with flushing := none }).modMram fun m => { m with ledger := m.ledger.write at_ rec_ }).lossEnds)

end Sys2Proof.Machine
end

