-- ==== Sys2Proof/Machine/Functions.lean ====
section
/-! DEFINITION. The functions as the PCIe bus sees them: configuration requests, SR-IOV, function level resets
(R457, R458, R485, R651). -/
namespace Sys2Proof.Machine

/-! ### A function level reset (R485) -/

/-- A SUBMIT_OPS of the function in progress ends after its last ingested packet: what is left of it is discarded with
cause 0x02 (R125), and those behind it have not begun. -/
def State.endSubs (s : State) (f c : Nat) : State :=
  match (s.chan c).subs with
  | [] => s
  | b :: _ =>
    let s := if b.func = f ∧ b.pos < b.total ∧ 0 < b.pos then s.unframed c (w32 ((s.chan c).lastSeq + 1)) true else s
    s.modChan c fun k => { k with subs := k.subs.filter fun x => x.func != f,
                                  paused := if b.func = f then none else k.paused }

/-- R485: fetching stops and the rings are disabled; fetched commands end without completions; queued blitter lists are
removed and a running one completes without events; ingest ends. -/
def State.resetFunction (s : State) (f : Nat) : State :=
  let s := s.modBox f fun b =>
    { b with sqEn := false, cqEn := false, eqEn := false, ready := [], running := 0, cqHeld := false, eqHeld := false }
  let s := (List.range 4).foldl (fun a c => a.endSubs f c) s
  { s with
    trust := { s.trust with admitQ := s.trust.admitQ.filter fun a => a.func != f,
                            pointCmds := s.trust.pointCmds.filter fun a => a.func != f,
                            pointQ := s.trust.pointQ.filter fun a => a.func != f },
    ring := { s.ring with relays := s.ring.relays.filter fun (a : RelayCmd) => a.func != f },
    transom := { s.transom with loading := s.transom.loading.filter fun a => a.issuer != f },
    cams := s.cams.map fun c => { c with bus := c.bus.filter fun j => !(j.host && j.func == f) },
    blit := { s.blit with queue := s.blit.queue.filter fun q => q.func != f,
                          noEvents := s.blit.noEvents || (match s.blit.run with | none => false | some r => r.func == f) } }

/-- FUNCTION_LEVEL_RESET (R485). -/
def execFunctionLevelReset (f : Nat) (s : State) : Host.Outcome State Fault Refusal :=
  .next (if s.power.endpoint && (s.box f).present then s.resetFunction f else s)

/-! ### Configuration space (R457, R458, R651) -/

/-- Where the PCI Express capability stands, and behind it the MSI-X capability, in the first 256 bytes; the vendor-specific
capability, and behind it the SR-IOV capability, beyond them: double words at free places that do not meet (log entry 9). -/
def pcieCap : Nat := 0x40 + 4 * (Config.pciePlace % 8)
def msixCap : Nat := 0xA0 + 4 * (Config.msixPlace % 16)
def vsecCap : Nat := 0x100 + 4 * (Config.vsecPlace % 128)
def sriovCap : Nat := 0x400 + 4 * (Config.sriovPlace % 128)

/-- The address bits and the type bits of a word of a BAR of the PF, or of the VFs in the SR-IOV capability (R459): BAR0 of
16 KiB and BAR2 of 32 MiB, 64-bit and not prefetchable. -/
def barBits (off : Nat) : Option (Nat × Nat) :=
  let k := if off < 0x20 then off else off - sriovCap
  let first := if off < 0x20 then 0x10 else 0x24
  if k = first then some (0xFFFFC000, 4)
  else if k = first + 8 then some (0xFE000000, 4)
  else if k = first + 4 ∨ k = first + 12 then some (0xFFFFFFFF, 0)
  else none

/-- A double word of a function's configuration space: identity and class code, BARs, MSI-X, PCI Express and SR-IOV
capabilities with the properties of R457 and R459, the capability of R458, and what the PCIe specification lays out. -/
def State.configWord (s : State) (f off : Nat) : Nat :=
  let v := vsecCap
  let q := sriovCap
  let m := msixCap
  let e := pcieCap
  let any := Config.configSpace f off
  if f = 0 ∧ off = 0 then 0x71281F2A
  else if off = 0 then 0xFFFFFFFF
  else if off = 8 then 0x03800000 + any % 256
  else if 0x10 ≤ off ∧ off < 0x28 ∧ (f ≠ 0 ∨ 0x20 ≤ off) then 0
  else if f = 0 ∧ (barBits off).isSome then ((tfind s.bars off).getD 0).toNat + ((barBits off).getD (0, 0)).2
  else if off = m then any / 0x8000000 * 0x8000000 + 65536 * (vectorsOf f - 1) + any % 65536 / 256 * 256 + 0x11
  else if off = m + 4 then 0x2000
  else if off = m + 8 then 0x3000
  else if off = e + 4 then 0x10000000 + any % 0x10000000 / 8 * 8 + 2
  else if off = e + 0xC then any / 4096 * 4096 + 0x800 + 128 + 5
  else if f = 0 ∧ off = 0x2C then any % 65536 + 65536 * (if s.variant = .E2 then 0xE2 else 0xE1)
  else if off = v then any / 65536 * 65536 + 0x000B
  else if off = v + 4 then 0x01810001
  else if off = v + 8 then 0x31525A49
  else if off = v + 0xC then (if s.variant = .E2 then 0xE2 else 0xE1) + 0xB000 + 65536 * f + 0x1000000
  else if off = v + 0x10 then s.fwVersion
  else if off = v + 0x14 then 0
  else if f = 0 ∧ off = q + 8 then b2n s.vfEnable
  else if f = 0 ∧ off = q + 0xC then 31 + 65536 * 31
  else if f = 0 ∧ off = q + 0x10 then s.numVfs
  else if f = 0 ∧ off = q + 0x18 then 0x71290000 + any % 65536
  else any

/-- VF Enable changes: the VFs are there with their pages at reset, or each is disabled as R485 says. -/
def State.setVfs (s : State) (on : Bool) : State :=
  if on == s.vfEnable then s
  else if on then
    { s with vfEnable := true,
             boxes := s.boxes.mapIdx fun k b => if 1 ≤ k ∧ k ≤ s.numVfs then Letterbox.reset true else b }
  else
    let s := (List.range 31).foldl (fun (a : State) k => if (a.box (k + 1)).present then a.resetFunction (k + 1) else a) s
    { s with vfEnable := false, boxes := s.boxes.mapIdx fun k b => if 1 ≤ k then Letterbox.reset false else b }

/-- A write of the PF's configuration space: its BARs and those of the VFs, VF Enable, and NumVFs, 0 to 31, while that is
0. -/
def State.configWrite (s : State) (f off : Nat) (bs : List Byte) : State :=
  let q := sriovCap
  if f ≠ 0 ∨ 0x20 ≤ off ∧ off < 0x28 then s
  else if off = q + 8 then s.setVfs (bitOf (leNat bs) 0)
  else if (barBits off).isSome then
    { s with bars := tset 0 s.bars off (BitVec.ofNat 32 (leNat bs &&& ((barBits off).getD (0, 0)).1)) }
  else if off = q + 0x10 ∧ s.vfEnable = false ∧ leNat bs % 65536 ≤ 31 then { s with numVfs := leNat bs % 65536 }
  else s

/-- CONFIG_REQUEST (R651): retried, with no data, until the endpoint is ready; then a read answers with a double word, and a
write takes effect. -/
def execConfigRequest (f off : Nat) (wdata : Option (List Byte)) (s : State) : Host.Outcome State Fault Refusal :=
  .next (if !s.power.endpoint || !(s.box f).present then { s with lastRead := [] }
    else match wdata with
      | none => { s with lastRead := leBytes 4 (s.configWord f (off / 4 * 4)) }
      | some bs => s.configWrite f off bs)

end Sys2Proof.Machine
end

