-- ==== Sys2Proof/Machine/Sessions.lean ====
section
/-! DEFINITION. Sessions and attestation: OPEN_SESSION and its admission, CLOSE_SESSION, ATTEST (R209, R501, R502,
R532 to R539, R606, R653 to R655). -/
namespace Sys2Proof.Machine

/-! ### Keys (R536, R538) -/

/-- The ASCII bytes of KDF-UPD, KDF-RCP and CLS. -/
def csUpd : List Byte := [0x4B, 0x44, 0x46, 0x2D, 0x55, 0x50, 0x44]
def csKdfRcp : List Byte := [0x4B, 0x44, 0x46, 0x2D, 0x52, 0x43, 0x50]
def csCls : List Byte := [0x43, 0x4C, 0x53]

/-- The 46-byte string that session keys are derived over. -/
def sessionString (num count : Nat) (boot : List Byte) (time : Nat) : List Byte :=
  leBytes 2 num ++ leBytes 4 count ++ fitTo 32 boot ++ leBytes 8 time

/-! ### OPEN_SESSION (R535 to R537) -/

/-- Trailer fields of an OPEN_SESSION, from its payload. -/
def openKey (p : List Byte) : Nat := nAt p 1576 2
def openCount (p : List Byte) : Nat := nAt p 1580 4
def openBoot (p : List Byte) : List Byte := bytesAt p 1584 32

/-- The highest OPEN_COUNT accepted for a key since Threshold started. -/
def State.lastOpen (s : State) (key : Nat) : Nat := ((s.trust.opens.find? (·.1 == key)).map (·.2)).getD 0

/-- R535: an OPEN_SESSION authenticates. -/
def State.openOk (s : State) (c : Cmd) : Bool :=
  let p := c.payload
  c.dataLen == 2896 && s.trust.lifecycle == 2 && openBoot p == fitTo 32 s.trust.bootId && s.lastOpen (openKey p) < openCount p
  && (match s.trust.pkg.bind fun g => g.sources[openKey p]? with
      | none => false
      | some k => k.first ≤ nAt p 0 2 && nAt p 0 2 ≤ k.last
          && Config.falconVerify k.key (signedMsg domSession (p.take 1616)) (p.drop 1616))

/-- Whether an OPEN_SESSION goes to another controller of the ring: its BOOT_ID is not the head's. -/
def State.openRelayed (s : State) (c : Cmd) : Bool :=
  s.relays && c.dataLen == 2896 && openBoot c.payload != fitTo 32 s.trust.bootId

/-- OPEN_SESSION's card; its rights are judged at admission (R654). -/
def openCard : Card :=
  { hostCard 0x500 2896 40 (fun p => allZero (bytesAt p 2 6) && allZero (bytesAt p 1578 2)) with
    judged4 := true, rights := fun s c => s.openOk c || s.openRelayed c, journals := true }

/-- Opens a session (R209, R536, R537). -/
def State.openSession (s : State) (p : List Byte) : State × List Byte :=
  let num := nAt p 0 2
  let ss := Config.mlkemDecap s.identityKeys (bytesAt p 8 1568)
  let str := sessionString num (openCount p) s.trust.bootId s.us
  let x : Session :=
    { num := num, srcKey := openKey p, updKey := kmac256 ss str csUpd 32, rcpKey := kmac256 ss str csKdfRcp 32,
      opened := s.us, highSeq := 0, recent := [] }
  let s := match s.sessionOf num with
    | none => s
    | some q => s.closeSessions [q]
  let s := s.modTrust fun t =>
    { t with sessions := t.sessions ++ [x],
             opens := (t.opens.filter fun e => e.1 != openKey p) ++ [(openKey p, openCount p)] }
  let s := s.journal (.session num true s.us) true
  (s, s.receipt num 3 0 true)

/-- An admitted OPEN_SESSION acts, or travels on along the ring. -/
def openAct (s : State) (c : Cmd) : CmdRes :=
  if s.openRelayed c then { CmdRes.ok (s.relayOut c stOk [] false) [] with later := true }
  else if 16384 ≤ nAt c.payload 0 2 then .bad s stBadField
  else let r := s.openSession c.payload; .ok r.1 r.2

/-- OPEN_SESSION at its fetch (R654, R655): checks 1 and 3 of R475, then its place in the queue, which holds the later
updates of its session (R502). -/
def execOpenSession (f : Nat) (s : State) : Host.Outcome State Fault Refusal :=
  .next (match s.fetches f with
    | none => s
    | some e =>
      if nAt e.raw 0 2 ≠ 0x500 ∨ s.journalRoom = false then s
      else
        let c : Cmd := { f := f, e := e }
        let q := s.trust.admitQ.length
        let s := s.pop f
        if c.check3 then (s.complete f e stFaultState 0 []).drain f
        else if 4096 ≤ q then
          ((s.modTrust fun t => { t with admitBusy := sat 16 (t.admitBusy + 1) }).complete f e stBusyRetry (cdiv q 8) []).drain f
        else
          let i : PointIn := { func := f, ord := 0, slot := 0, update := bytesAt c.payload 0 48, openS := true }
          (s.modTrust fun t =>
            { t with admitQ := t.admitQ ++ [{ func := f, entry := e }], pointQ := t.pointQ ++ [i] }).drain f)

/-- The function that Threshold serves next: after the one it served last, in rising number (R654). -/
def State.nextAdmit (s : State) : Option Nat :=
  ((List.range 32).map fun k => (s.trust.admitFn + 1 + k) % 32).find? fun f => s.trust.admitQ.any (·.func == f)

/-- Removes the first entry that satisfies a test. -/
def dropFirst {α : Type} (p : α → Bool) : List α → List α
  | [] => []
  | x :: xs => if p x then xs else x :: dropFirst p xs

/-- SESSION_ADMISSION (R653, R654): the next queued OPEN_SESSION is judged, no sooner than 125 µs after the one before. -/
def execSessionAdmission (s : State) : Host.Outcome State Fault Refusal :=
  .next (if !s.power.admitOn then s
    else match s.nextAdmit with
      | none => s
      | some f =>
        match s.trust.admitQ.find? (·.func == f) with
        | none => s
        | some a =>
          let s := s.atUs s.trust.admitUs
          let s := s.modTrust fun t =>
            { t with admitUs := s.us + 125, admitQ := dropFirst (·.func == f) t.admitQ, admitFn := f,
                     pointQ := dropFirst (fun i => i.openS && i.func == f) t.pointQ }
          let c : Cmd := { f := f, e := a.entry }
          ((s.judge openCard c none openAct).finish c).drain f)

/-- ADMISSION_START (R653): 20 ms after the owner package became live. -/
def execAdmissionStart (s : State) : Host.Outcome State Fault Refusal :=
  .next (match s.trust.liveUs with
    | none => s
    | some t => if s.power.admitOn then s else (s.atUs (t + 20000)).modPower fun p => { p with admitOn := true })

/-! ### CLOSE_SESSION (R538) -/

/-- R538: a CLOSE_SESSION is accepted. -/
def State.closeOk (s : State) (c : Cmd) : Bool :=
  let p := c.payload
  c.dataLen == 32
  && (match s.sessionOf (nAt p 0 2) with
      | none => false
      | some x => p.drop 16 == kmacTag x.updKey (p.take 16) csCls && x.highSeq < nAt p 8 8)

/-- Whether a CLOSE_SESSION goes to the ring: its session is not open on the head (R606). -/
def State.closeRelayed (s : State) (c : Cmd) : Bool :=
  s.relays && c.dataLen == 32 && (s.sessionOf (nAt c.payload 0 2)).isNone

/-- CLOSE_SESSION's card. -/
def closeCard : Card :=
  { hostCard 0x501 32 40 (fun p => allZero (bytesAt p 2 6)) with
    judged4 := true, rights := fun s c => s.closeOk c || s.closeRelayed c, journals := true }

/-- Closes a session; its receipt is tagged with its own receipt key. -/
def State.closeSession (s : State) (p : List Byte) : State × List Byte :=
  let num := nAt p 0 2
  match s.sessionOf num with
  | none => (s, [])
  | some x => (s.closeSessions [x], s.receipt num 3 (nAt p 8 8) true)

/-- CLOSE_SESSION (R538), once no input of its session that was fetched before it still waits (R502). -/
def execCloseSession (f : Nat) (s : State) : Host.Outcome State Fault Refusal :=
  .next (match s.fetches f with
    | none => s
    | some e =>
      if s.trust.pointQ.any fun i => i.session == nAt ({ f := f, e := e : Cmd }).payload 0 2 then s
      else
        s.hostCommand f closeCard fun s c =>
          if s.closeRelayed c then { CmdRes.ok (s.relayOut c stOk [] false) [] with later := true }
          else let r := s.closeSession c.payload; .ok r.1 r.2)

/-! ### ATTEST (R532, R533) -/

/-- One measurement. -/
def measurement (id value : Nat) (digest : List Byte) : List Byte :=
  leBytes 4 id ++ zeros 4 ++ leBytes 8 value ++ fitTo 64 digest

/-- The Falcon key of certificate k of the chain: 0 device, 1 issuing key, 2 root (R514, R515). -/
def State.certKey (s : State) (k : Nat) : List Byte := bytesAt s.trust.chain (4680 * k + 0x20) 1793

/-- The measurement list without its signature. -/
def State.attestBody (s : State) (nonce : List Byte) : List Byte :=
  let t := s.trust
  leBytes 2 1 ++ leBytes 2 6 ++ leBytes 1 t.lifecycle ++ zeros 3 ++ leBytes 8 t.serial ++ fitTo 32 nonce
  ++ fitTo 32 t.bootId ++ leBytes 8 s.us ++ zeros 8
  ++ measurement 1 0xB0 (Config.romDigest 0) ++ measurement 2 0 (Config.romDigest 1)
  ++ (match t.firmware with
      | none => measurement 3 0 []
      | some w => measurement 3 (w.version + 0x100000000 * w.secVer) w.digest)
  ++ measurement 4 (b2n t.root1) (shake256 (s.certKey 2) 64)
  ++ measurement 5 0 (match t.ownerKey with | none => [] | some k => shake256 k 64)
  ++ (match t.pkg with | none => measurement 6 0 [] | some p => measurement 6 p.version p.digest)

/-- ATTEST's card. -/
def attestCard : Card := hostCard 0xC01 32 1856 noReserved

/-- ATTEST (R532); a controller without identity keys answers NOT_READY (R523, R545). -/
def execAttest (f : Nat) (s : State) : Host.Outcome State Fault Refusal :=
  .next (s.hostCommand f attestCard fun s c =>
    if s.trust.lifecycle = 3 ∨ s.trust.identity = false then .bad s stNotReady
    else
      let b := s.attestBody (c.payload.take 32)
      .ok s (b ++ fitTo 1280 (Config.falconSign s.identityKeys (signedMsg domAttest b))))

end Sys2Proof.Machine
end

