-- ==== Sys2Proof/Machine/Install.lean ====
section
/-! DEFINITION. Owner packages as bytes, what INSTALL_PACKAGE asks of them, the lifecycle, and firmware images (R225,
R238, R239, R514, R516 to R531). -/
namespace Sys2Proof.Machine

/-! ### The directory (R527, R528) -/

/-- A section: its entries' bytes and COUNT. -/
structure Section where
  typ   : Nat
  off   : Nat
  len   : Nat
  count : Nat
  deriving DecidableEq, Repr

/-- LENGTH of a package. -/
def pkgLength (b : List Byte) : Nat := nAt b 0x10 4

/-- The directory of a package. -/
def pkgDir (b : List Byte) : List Section :=
  (List.range (min 32 (nAt b 0xC 4))).map fun k =>
    let d := bytesAt b (0x80 + 16 * k) 16
    { typ := nAt d 0 4, off := nAt d 4 4, len := nAt d 8 4, count := nAt d 12 4 }

/-- The entries of a section of a type, of a fixed size; none where the section is absent. -/
def pkgEntries (b : List Byte) (typ size : Nat) : List (List Byte) :=
  match (pkgDir b).find? (·.typ == typ) with
  | none => []
  | some d => (List.range d.count).map fun k => bytesAt b (d.off + size * k) size

/-- Entry size and largest COUNT of a section type with entries of one size, and whether COUNT is fixed. -/
def sectionShape (typ : Nat) : Option (Nat × Nat × Bool) :=
  match typ with
  | 0x01 => some (32, 524288, false)
  | 0x02 => some (160, 4096, false)
  | 0x03 => some (4, 64, true)
  | 0x04 => some (136, 256, false)
  | 0x05 => some (520, 32, true)
  | 0x06 => some (8, 32, true)
  | 0x07 => some (8328, 32, true)
  | 0x08 => some (8, 4, true)
  | 0x09 => some (1800, 1024, false)
  | 0x0A => some (1800, 8, false)
  | 0x0B => some (8, 32, true)
  | 0x0C => some (12, 256, false)
  | 0x0E => some (1800, 1, true)
  | 0x0F => some (1800, 1, true)
  | 0x10 => some (6040, 1, true)
  | _ => none

/-- Whether a directory entry's place and size stand. -/
def Section.ok (d : Section) (dirEnd length : Nat) : Bool :=
  d.off % 8 == 0 && dirEnd ≤ d.off && d.off + d.len ≤ length
  && (if d.typ = 0x0D then d.count ≤ 2
      else match sectionShape d.typ with
        | none => false
        | some (size, most, fixed) => d.len == size * d.count && d.count ≤ most && (!fixed || d.count == most))

/-- R527: header and directory. -/
def pkgHeadOk (b : List Byte) : Bool :=
  let n := pkgLength b
  let ds := pkgDir b
  bytesAt b 0 4 == [0x44, 0x58, 0x4E, 0x50] && nAt b 4 2 == 1 && nAt b 6 2 == 0 && 1 ≤ nAt b 0xC 4 && nAt b 0xC 4 ≤ 32
  && allZero (bytesAt b 0x14 12) && allZero (bytesAt b 0x60 32) && n + 1280 ≤ 66060288
  && b.length == up8 (n + 1280) && allZero (b.drop (n + 1280))
  && ds.all (·.ok (0x80 + 16 * ds.length) n) && (ds.map (·.typ)).eraseDups.length == ds.length
  && ds.foldl (fun a d => max a (d.off + d.len)) 0 == n
  && ds.any (·.typ == 0x0E)

/-! ### Entries (R221, R238, R239, R528) -/

/-- A point entry. -/
def pointOf (e : List Byte) : Point :=
  { id := nAt e 0 4, session := nAt e 4 2, style := nAt e 6 1, cell := nAt e 7 1, region := nAt e 8 2, maxAge := nAt e 0xA 3,
    limitLo := sgn 32 (nAt e 0x10 4), limitHi := sgn 32 (nAt e 0x14 4), received := false, expired := false, srcInv := false,
    check := 0, value := 0, birth := 0 }

/-- Whether a point entry is defined. -/
def pointDefined (e : List Byte) : Bool := bitOf (nAt e 0xD 1) 3

/-- No reserved field or encoding of a point entry is used, and its runtime fields are zero; a defined one's MAX_AGE and
decimals are in their ranges. -/
def pointForm (e : List Byte) : Bool :=
  let q := pointOf e
  (nAt e 0xD 1 == 0 || nAt e 0xD 1 == 8) && nAt e 0xE 2 == 0 && allZero (bytesAt e 0x18 8)
  && q.session < 16384 && q.kind ≤ 4 && q.cell < 16 && q.region < 4096 && q.maxAge < 0x400000
  && (!pointDefined e || ((q.kind != 0 || q.arg ≤ 9) && 10 ≤ q.maxAge && q.maxAge ≤ 3600000))

/-- A region record. -/
def regionOfBytes (e : List Byte) : Region :=
  { chan := nAt e 0 1, out := outOf (nAt e 1 1), x := nAt e 4 2 + 65536 * nAt e 0x12 1, y := nAt e 6 2 + 65536 * nAt e 0x13 1,
    w := nAt e 8 2, h := nAt e 0xA 2, cols := (List.range 6).map fun k => nAt e (0xC + k) 1,
    cells := (List.range 16).map fun k =>
      { cx := nAt e (0x20 + 8 * k) 2, cy := nAt e (0x22 + 8 * k) 2, cw := nAt e (0x24 + 8 * k) 2, ch := nAt e (0x26 + 8 * k) 2 } }

/-- No two of a list of rectangles meet. -/
def rectsApart : List (Nat × Nat × Nat × Nat) → Bool
  | [] => true
  | r :: rs => rs.all (fun q => !rectsMeet r q) && rectsApart rs

/-- The used cells of a region. -/
def Region.used (g : Region) : List Cell := g.cells.filter (·.cw ≠ 0)

/-- No reserved field or encoding of a region record is used; a defined one's size is in its range, and its cells lie inside
its border and apart (R225). -/
def regionForm (ring : Bool) (e : List Byte) : Bool :=
  let g := regionOfBytes e
  nAt e 2 2 ≤ 1 && g.chan ≤ 3 && nAt e 1 1 ≤ 1 && g.cols.all (· < 64) && (ring || nAt e 0x12 2 == 0)
  && allZero (bytesAt e 0x14 12)
  && (nAt e 2 2 == 0
      || (3 ≤ g.w && g.w ≤ 1024 && 3 ≤ g.h && g.h ≤ 256
          && g.used.all (fun c => 1 ≤ c.cx && 1 ≤ c.cy && 1 ≤ c.ch && c.cx + c.cw + 1 ≤ g.w && c.cy + c.ch + 1 ≤ g.h)
          && rectsApart (g.used.map fun c => (c.cx, c.cy, c.cw, c.ch))))

/-- A mask of rows of `n` bytes. -/
def maskOf (n h : Nat) (bs : List Byte) : List Nat := (List.range h).map fun y => nAt bs (n * y) n

/-- A glyph of the atlas. -/
def glyphOf (e : List Byte) : Glyph :=
  { code := nAt e 0 1, gw := nAt e 1 1, gh := nAt e 2 1, adv := nAt e 3 1, mask := maskOf 4 (min 32 (nAt e 2 1)) (e.drop 8) }

/-- No reserved field or encoding of a glyph is used. -/
def glyphForm (e : List Byte) : Bool :=
  let g := glyphOf e
  1 ≤ g.gw && g.gw ≤ 32 && 1 ≤ g.gh && g.gh ≤ 32 && 1 ≤ g.adv && g.adv ≤ 32 && nAt e 4 4 == 0

/-- A string set. -/
def stringsOf (e : List Byte) : List (List Nat) :=
  (List.range (min 16 (nAt e 0 1))).map fun k =>
    let b := bytesAt e (8 + 32 * k) 32
    (List.range (min 24 (nAt b 0 1))).map fun i => nAt b (1 + i) 1

/-- No reserved field or encoding of a string set is used. -/
def stringsForm (e : List Byte) : Bool :=
  nAt e 0 1 ≤ 16 && allZero (bytesAt e 1 7)
  && (List.range 16).all fun k => let b := bytesAt e (8 + 32 * k) 32; nAt b 0 1 ≤ 24 && allZero (bytesAt b 25 7)

/-- A symbol set. -/
def symbolsOf (e : List Byte) : List Glyph :=
  (List.range (min 16 (nAt e 0 1))).map fun k =>
    let b := bytesAt e (8 + 520 * k) 520
    { code := k, gw := nAt b 0 1, gh := nAt b 1 1, adv := 0, mask := maskOf 8 (min 64 (nAt b 1 1)) (b.drop 8) }

/-- No reserved field or encoding of a symbol set is used. -/
def symbolsForm (e : List Byte) : Bool :=
  nAt e 0 1 ≤ 16 && allZero (bytesAt e 1 7)
  && (List.range 16).all fun k =>
    let b := bytesAt e (8 + 520 * k) 520
    nAt b 0 1 ≤ 64 && nAt b 1 1 ≤ 64 && allZero (bytesAt b 2 6)

/-- An entry of SOURCES. -/
def sourceOf (e : List Byte) : SourceKey :=
  { key := e.take 1793, first := nAt e 1793 2, last := nAt e 1795 2, chans := nAt e 1797 1 }

/-- The messages of a MESSAGES section, one after the other. -/
def messagesOf : Nat → List Byte → List Message
  | 0, _ => []
  | n + 1, b =>
    let w := nAt b 2 2
    let h := nAt b 4 2
    let len := h * (w / 4)
    { st := nAt b 0 1, w := w, h := h, image := bytesAt b 8 len } :: messagesOf n (b.drop (8 + up8 len))

/-- No reserved field or encoding of the messages is used, and they fill their section. -/
def messagesForm : Nat → List Byte → Bool
  | 0, b => b.isEmpty
  | n + 1, b =>
    let len := nAt b 4 2 * (nAt b 2 2 / 4)
    (nAt b 0 1 == 3 || nAt b 0 1 == 4) && nAt b 1 1 == 0 && nAt b 6 2 == 0 && 8 + up8 len ≤ b.length
    && allZero (bytesAt b (8 + len) (up8 len - len)) && messagesForm n (b.drop (8 + up8 len))

/-- The bytes of a section, and its COUNT. -/
def pkgSection (b : List Byte) (typ : Nat) : List Byte × Nat :=
  match (pkgDir b).find? (·.typ == typ) with
  | none => ([], 0)
  | some d => (bytesAt b d.off d.len, d.count)

/-- No reserved field or encoding is used in any section (R225). -/
def pkgFormOk (ring : Bool) (b : List Byte) : Bool :=
  (pkgEntries b 1 32).all pointForm && (pkgEntries b 2 160).all (regionForm ring)
  && (pkgEntries b 3 4).all (fun e => nAt e 0 4 < 0x40000000) && (pkgEntries b 4 136).all glyphForm
  && (pkgEntries b 5 520).all stringsForm && (pkgEntries b 6 8).all (fun e => sgn 32 (nAt e 0 4) < sgn 32 (nAt e 4 4))
  && (pkgEntries b 7 8328).all symbolsForm
  && (pkgEntries b 8 8).all (fun e => nAt e 0 8 ≤ 1)
  && (pkgEntries b 9 1800).all (fun e =>
      let k := sourceOf e; k.first ≤ k.last && k.last < 16384 && k.chans < 16 && nAt e 1798 2 == 0)
  && (pkgEntries b 10 1800).all (fun e => allZero (e.drop 1793))
  && (pkgEntries b 11 8).all (fun e => nAt e 0 1 ≤ 3 && nAt e 1 3 == 0 && nAt e 4 4 < 0x20000)
  && (pkgEntries b 12 12).all (fun e => nAt e 0 1 < 17 && nAt e 1 3 == 0 && nAt e 4 4 % 4 == 0)
  && (pkgEntries b 14 1800).all (fun e => allZero (e.drop 1793)) && (pkgEntries b 15 1800).all (fun e => allZero (e.drop 1793))
  && (let m := pkgSection b 13; messagesForm m.2 m.1)

/-! ### The package (R225, R528, R529) -/

/-- The rights that hold without a RIGHTS section (R477). -/
def defaultRights : List Rights :=
  { host := true, expert := true, mask := 0x1FFFF } :: List.replicate 31 { host := false, expert := false, mask := 0 }

/-- A certificate of a KIND other than 4 (R514): its format, and its reserved fields, VARIANT and KEM_KEY zero. -/
def certForm (kind : Nat) (cert : List Byte) : Bool :=
  nAt cert 0 2 == 1 && nAt cert 2 1 == kind && allZero (bytesAt cert 3 5) && allZero (bytesAt cert 0x18 8)
  && allZero (bytesAt cert 0x721 1575)

/-- R529's conditions of a CLAIM, apart from the lifecycle. -/
def State.claimGood (s : State) (b : List Byte) : Bool :=
  let t := (pkgSection b 16).1
  let cert := bytesAt t 0x50 4680
  certForm 3 cert && nAt cert 0x10 8 == nAt (bytesAt s.trust.chain 9360 4680) 8 8
  && Config.falconVerify (s.certKey 2) (signedMsg domCertify (cert.take 0xD48)) (cert.drop 0xD48)
  && Config.falconVerify (bytesAt cert 0x20 1793) (signedMsg domCertify (t.take 4760)) (t.drop 4760)
  && nAt t 0 8 == s.trust.serial && nAt t 8 8 == 0 && bytesAt t 0x10 64 == bytesAt b 0x20 64

/-- A package read from its bytes. -/
def State.readPackage (s : State) (b : List Byte) : Package :=
  let n := pkgLength b
  let key := ((pkgEntries b 14 1800).headD []).take 1793
  { version := nAt b 8 4,
    points := ((pkgEntries b 1 32).filter pointDefined).foldl (fun t e => tput t (nAt e 0 4 % 524288) (pointOf e)) [],
    regions := ((pkgEntries b 2 160).zipIdx.filter fun e => nAt e.1 2 2 == 1).map fun e => (e.2, regionOfBytes e.1),
    palette := (pkgEntries b 3 4).map fun e => nAt e 0 4, glyphs := (pkgEntries b 4 136).map glyphOf,
    strings := (pkgEntries b 5 520).map stringsOf, scales := (pkgEntries b 6 8).map fun e => (sgn 32 (nAt e 0 4), sgn 32 (nAt e 4 4)),
    symbols := (pkgEntries b 7 8328).map symbolsOf, prot := (pkgEntries b 8 8).map fun e => nAt e 0 1 == 1,
    sources := (pkgEntries b 9 1800).map sourceOf, maints := (pkgEntries b 10 1800).map (·.take 1793),
    rights := if (pkgDir b).any (·.typ == 11) then
        (pkgEntries b 11 8).map fun e => { host := bitOf (nAt e 0 1) 0, expert := bitOf (nAt e 0 1) 1, mask := nAt e 4 4 }
      else defaultRights,
    locks := (pkgEntries b 12 12).filterMap fun e =>
      (blkOf (nAt e 0 1)).map fun k => (k, nAt e 4 4, BitVec.ofNat 32 (nAt e 8 4)),
    messages := (let m := pkgSection b 13; messagesOf m.2 m.1), ownerKey := key,
    nextKey := ((pkgEntries b 15 1800).head?).map (·.take 1793), claim := (pkgDir b).any (·.typ == 16),
    sigOk := Config.falconVerify key (signedMsg domPackage (b.take n)) (bytesAt b n 1280), claimOk := s.claimGood b,
    digest := shake256 (b.take (n + 1280)) 64, raw := b }

/-- A point of the package names a region and a cell that are defined (R225). -/
def Package.placed (p : Package) (q : Point) : Option (Region × Cell) :=
  match tfind p.regions q.region with
  | none => none
  | some g =>
    match g.cells[q.cell]? with
    | none => none
    | some c => if c.cw = 0 then none else some (g, c)

/-- Whether what a point draws fits its cell (R225). -/
def Package.fits (p : Package) (q : Point) (c : Cell) : Bool :=
  match q.kind with
  | 1 => (p.strings.getD q.arg []).all fun t =>
      p.textWidth t ≤ c.cw && t.all fun k => match p.glyph k with | none => true | some g => g.gh ≤ c.ch
  | 2 => q.arg < p.scales.length
  | 3 | 4 => (p.symbols.getD q.arg []).all fun g => g.gw ≤ c.cw && g.gh ≤ c.ch
  | _ => true

/-- The hogel grid of an output as committed live. -/
def State.grid (s : State) (o : OutId) : Nat × Nat := let m := s.liveSettings.mode (s.eff o); (m.w, m.h)

/-- Whether a region lies in the live grid of its output (R225). -/
def State.regionPlaced (s : State) (g : Region) : Bool := s.regionFits (s.grid g.out) g

/-- R225. -/
def State.pkgSound (s : State) (p : Package) : Bool :=
  p.points.all (fun e => match p.placed e.2 with | none => false | some g => p.fits e.2 g.2)
  && (p.points.map fun e => (e.2.region, e.2.cell)).eraseDups.length == p.points.length
  && p.regions.all (fun e => s.regionPlaced e.2 && (e.2.out == .A || (s.variant == .E2 && !s.locked)))
  && [OutId.A, OutId.B].all fun o => rectsApart ((p.regions.filter (·.2.out == o)).map fun e => (e.2.x, e.2.y, e.2.w, e.2.h))

/-- Two defined points take one table entry (R220). -/
def pointsApart (b : List Byte) : Bool :=
  let ids := ((pkgEntries b 1 32).filter pointDefined).map fun e => nAt e 0 4 % 524288
  ids.eraseDups.length == ids.length

/-- The versions of every live or stored package; a record that does not verify stores none (R406, R513). -/
def State.pkgVersions (s : State) : List Nat :=
  (match s.trust.pkg with | none => [] | some p => [p.version])
  ++ (match s.pkgRecs.a with | none => [] | some r => [r.val.version])
  ++ (match s.pkgRecs.b with | none => [] | some r => [r.val.version])

/-- R529, apart from the VERSION rule. -/
def State.pkgGood (s : State) (b : List Byte) (p : Package) : Bool :=
  pkgHeadOk b && pkgFormOk (s.isHead || s.isMember) b && pointsApart b && s.pkgSound p
  && shake256 p.ownerKey 64 == bytesAt b 0x20 64 && p.sigOk
  && (if s.trust.lifecycle = 2 then !p.claim && s.trust.ownerKey == some p.ownerKey
      else s.trust.lifecycle == 1 && p.claim && p.claimOk)

/-- INSTALL_PACKAGE's card: the package stands before the trailer. -/
def installCard : Card :=
  { hostCard 0xC02 0 8 noReserved with
    host := false, owner := true, body := fun p => p.length - trailerLen }

/-- DUE of a package (R530, R607): in a ring, one that names no device is due a second later. -/
def State.pkgDue (s : State) (dev0 : Bool) : Nat :=
  w32 (s.outA.frameNum + 2 + (if s.relays && dev0 then (s.liveSettings.mode .A).rate else 0))

/-- An accepted package (R522, R530). -/
def State.install (s : State) (p : Package) (due : Nat) : State :=
  let t := s.trust
  let key := match p.nextKey with
    | some k => some k
    | none => if p.claim then some p.ownerKey else t.ownerKey
  let s := s.modMram fun m => { m with pkg := m.pkg.writeSealed s.trust.serial 0x50 Package.payload s.us p }
  let s := if p.claim || p.nextKey.isSome then s.writeOwner key t.counter else s
  s.modTrust fun t =>
    { t with pending := some p, pendDue := due, ownerKey := key, lifecycle := if p.claim then 2 else t.lifecycle,
             undefine := false }

/-- RETRY_AFTER while a package is pending (R531): the time to DUE's doorway in milliseconds, rounded up, reckoned as R33's
is; open before the first frame (log entry 94). -/
def State.pkgRetry (s : State) : Nat :=
  let x := s.outA
  let k := w32 (s.trust.pendDue + 0x100000000 - x.frameNum)
  if x.frameNum = 0 then 1 + s.freeBelow 0xFFFFFFFE
  else max 1 (cdiv (x.startOf (w32 (x.frameNum + 1)) + (k - 1) * (s.liveSettings.mode .A).period - s.clk) 25000)

/-- What INSTALL_PACKAGE does with a package: refused, or due at a frame. -/
def State.installAct (s : State) (b : List Byte) (due : Nat) : CmdRes :=
  if s.trust.pending.isSome then
    { CmdRes.bad s.drawn stBusyRetry with retry := s.pkgRetry }
  else
    let p := s.readPackage b
    if !s.pkgGood b p || !(s.pkgVersions.all (· < p.version)) then .bad s stBadField
    else { CmdRes.ok (s.install p due) (leBytes 4 p.version ++ leBytes 4 due) with status := stDeferred }

/-- INSTALL_PACKAGE (R529, R530). -/
def execInstallPackage (f : Nat) (s : State) : Host.Outcome State Fault Refusal :=
  .next (s.command f installCard
    (fun s c => some (s.readPackage (installCard.bodyOf c)).ownerKey)
    (fun s c => s.installAct (installCard.bodyOf c) (s.pkgDue (nAt (installCard.trailerOf c) 8 8 == 0))))

/-! ### The lifecycle (R520 to R523) -/

/-- Leaving OWNED (R523). -/
def State.leaveOwned (s : State) (lifecycle : Nat) : State :=
  let s := s.closeSessions s.trust.sessions
  let s := (s.modMram fun m => { m with pkg := .blank }).writeOwner none s.trust.counter
  s.modTrust fun t =>
    { t with lifecycle := lifecycle, ownerKey := none, pending := none, pendB := 0, undefine := true,
             identity := t.identity && lifecycle != 3 }

/-- SET_LIFECYCLE's card. -/
def setLifecycleCard : Card :=
  { hostCard 0xC03 8 0 (fun p => allZero (bytesAt p 1 7)) with host := false, owner := true }

/-- SET_LIFECYCLE's act. -/
def setLifecycleAct (s : State) (c : Cmd) : CmdRes :=
  let st := nAt c.payload 0 1
  if s.trust.lifecycle ≠ 2 ∨ (st ≠ 1 ∧ st ≠ 3) then .bad s stBadField else .ok (s.leaveOwned st) []

/-- SET_LIFECYCLE (R522). -/
def execSetLifecycle (f : Nat) (s : State) : Host.Outcome State Fault Refusal :=
  .next (s.hostCommand f setLifecycleCard setLifecycleAct)

/-! ### Firmware (R516 to R519) -/

/-- The layout of R516. -/
def fwLayout (b : List Byte) : Bool :=
  let n := nAt b 0x10 4
  bytesAt b 0 4 == [0x48, 0x52, 0x54, 0x48] && nAt b 4 2 == 1 && nAt b 6 2 == 0 && nAt b 0xC 4 ≤ 63 && n % 4096 == 0
  && n ≤ 15728640 && nAt b 0x14 1 ≤ 3 && allZero (bytesAt b 0x15 43) && b.length == 0x1288 + n + 1280

/-- A firmware image read from its bytes: what R517 asks of it. -/
def State.readFw (s : State) (b : List Byte) : FwImage :=
  let n := 0x1288 + nAt b 0x10 4
  let cert := bytesAt b 0x40 4680
  let certOk := certForm 2 cert
    && Config.falconVerify (s.certKey 2) (signedMsg domCertify (cert.take 0xD48)) (cert.drop 0xD48)
  { version := nAt b 8 4, secVer := nAt b 0xC 4, variants := nAt b 0x14 1, layoutOk := fwLayout b,
    certOk0 := !s.trust.root1 && certOk, certOk1 := s.trust.root1 && certOk,
    sigOk := Config.falconVerify (bytesAt cert 0x20 1793) (signedMsg domFw (b.take n)) (bytesAt b n 1280),
    digest := shake256 b 64, raw := b }

/-- R517: an image passes. -/
def State.fwPasses (s : State) (w : FwImage) : Bool :=
  w.layoutOk && bitOf w.variants (if s.variant = .E2 then 0 else 1) && s.trust.fusedVer ≤ w.secVer
  && (if s.trust.root1 then w.certOk1 else w.certOk0) && w.sigOk

/-- UPDATE_FIRMWARE's card. -/
def firmwareCard : Card :=
  { hostCard 0xC05 0 0 noReserved with host := false, owner := true, body := fun p => p.length - trailerLen }

/-- UPDATE_FIRMWARE on an image. -/
def State.firmwareAct (s : State) (b : List Byte) : CmdRes :=
  let w := s.readFw b
  if s.fwPasses w then .ok (s.modMram fun m => { m with fw := m.fw.writeSealed s.trust.serial 0x41 FwImage.payload s.us w }) [] else .bad s stBadField

/-- UPDATE_FIRMWARE (R519). -/
def execUpdateFirmware (f : Nat) (s : State) : Host.Outcome State Fault Refusal :=
  .next (s.hostCommand f firmwareCard fun s c => s.firmwareAct (firmwareCard.bodyOf c))

end Sys2Proof.Machine
end

