-- ==== Sys2Proof/Machine/Queries.lean ====
section
/-! DEFINITION. The GET_ commands, which have no effect and return live values (R494), the violation counters and the
fault log (R508, R515, R563). -/
namespace Sys2Proof.Machine

/-- A GET_ command that names an output. -/
def outCard (opcode resp : Nat) : Card := hostCard opcode 1 resp fun p => nAt p 0 1 ≤ 1

/-- A GET_ command that names an output: refused where an E1 has none (R5). -/
def State.queryOut (s : State) (f opcode resp : Nat) (g : State → OutId → List Byte) : State :=
  s.hostCommand f (outCard opcode resp) fun s c =>
    let o := outOf (nAt c.payload 0 1)
    if s.noOutB o then .bad s stBadField else .ok s (g s o)

/-- GET_MODE (R494): VIEW_DIV as R87 gives. -/
def execGetMode (f : Nat) (s : State) : Host.Outcome State Fault Refusal :=
  .next (s.queryOut f 0x301 16 fun s o =>
    leBytes 4 (s.liveWord .syn (4 * o.num)) ++ leBytes 4 (s.lv .syn o (8 + 4 * o.num))
    ++ leBytes 4 (s.roSyn 0x10) ++ leBytes 4 (s.frameOf o))

/-- GET_LINK (R494). -/
def execGetLink (f : Nat) (s : State) : Host.Outcome State Fault Refusal :=
  .next (s.queryOut f 0x601 16 fun s o =>
    let l := s.link o
    leBytes 1 l.st.ctorIdx
    ++ leBytes 1 (b2n l.bcLock + 2 * b2n (s.out o).held + 4 * b2n l.psafe + 8 * b2n s.lockPair)
    ++ leBytes 1 (s.cap o 2 1) ++ leBytes 1 (s.cap o 3 1) ++ leBytes 2 (s.cap o 4 2) ++ leBytes 2 (s.cap o 6 2)
    ++ leBytes 1 (s.cap o 8 1) ++ leBytes 1 (s.cap o 9 1) ++ leBytes 2 (s.cap o 0xA 2) ++ leBytes 4 (s.frameOf o))

/-- GET_TRANSOM (R494). -/
def execGetTransom (f : Nat) (s : State) : Host.Outcome State Fault Refusal :=
  .next (s.hostCommand f (getCard 0x701 12) fun s _ =>
    let t := s.transom
    .ok s (leBytes 1 s.engine
      ++ leBytes 1 (b2n (t.rails.length == 5) + 2 * b2n t.uncertain + 4 * b2n t.ntcFault)
      ++ leBytes 1 t.range ++ leBytes 1 (unsgn 8 t.temp) ++ leBytes 2 s.runningZones ++ leBytes 2 s.pendingZones
      ++ leBytes 2 t.updates ++ leBytes 2 (sat 16 s.ledgerPeak)))

/-- SOURCE, live, as an output's block reads it: output A's in locked operation (R409). -/
def State.liveSource (s : State) (o : OutId) : Nat := fld (s.lv .cal (s.eff o) (0x40 * (s.eff o).num)) 0 2

/-- GET_CAL's card: under HOST or MAINTAINER. -/
def getCalCard : Card := { outCard 0x902 14 with maint := true }

/-- GET_CAL's act. -/
def getCalAct (s : State) (c : Cmd) : CmdRes :=
  let o := outOf (nAt c.payload 0 1)
  if s.noOutB o then .bad s stBadField
  else
    let k := s.calib
    .ok s (leBytes 1 s.optState ++ leBytes 1 k.curSlot ++ leBytes 1 (s.liveSource o) ++ zeros 1
      ++ leBytes 2 k.measured.length ++ leBytes 2 k.passes ++ leBytes 2 k.abandoned
      ++ leBytes 2 (s.rampOf (s.eff o)).pos ++ leBytes 2 s.transom.vcomOpt)

/-- GET_CAL (R494). -/
def execGetCal (f : Nat) (s : State) : Host.Outcome State Fault Refusal := .next (s.hostCommand f getCalCard getCalAct)

/-- GET_POOL (R494). -/
def execGetPool (f : Nat) (s : State) : Host.Outcome State Fault Refusal :=
  .next (s.hostCommand f (getCard 0xB00 16) fun s _ =>
    let p := poolOf (fun off => s.lv .sys .A off) f
    .ok s (leBytes 8 p.1 ++ leBytes 8 p.2))

/-- GET_RING (R494). -/
def execGetRing (f : Nat) (s : State) : Host.Outcome State Fault Refusal :=
  .next (s.hostCommand f (getCard 0xE01 16) fun s _ =>
    let r := s.ring
    .ok s (leBytes 1 s.ringState ++ leBytes 1 (b2n (s.ringState == 4) + 2 * b2n s.headBit) ++ leBytes 2 r.ownId
      ++ leBytes 2 r.devices ++ leBytes 2 r.hopsE ++ leBytes 2 r.hopsW ++ zeros 2 ++ leBytes 4 r.missed))

/-- GET_THERMAL (R494). -/
def execGetThermal (f : Nat) (s : State) : Host.Outcome State Fault Refusal :=
  .next (s.hostCommand f (getCard 0xF01 16) fun s _ =>
    .ok s (leBytes 2 (unsgn 16 (s.reading s.hottest)) ++ leBytes 1 s.hottest
      ++ leBytes 1 ((List.range 68).filter fun n => (s.sensor n).broken).length
      ++ leBytes 2 (unsgn 16 s.largestRise) ++ leBytes 1 s.power.stepReq ++ leBytes 1 s.stepLive
      ++ leBytes 4 s.graceLeft ++ leBytes 2 (sat 16 s.power.vmainMv) ++ leBytes 2 (sat 16 s.power.vauxMv)))

/-- The log entry at an index; an index that no entry has reached reads zero. -/
def State.logAt (s : State) (i : Nat) : List Byte :=
  match s.cellar.log.find? fun e => e.seq % 256 == i % 256 with
  | none => zeros 32
  | some e => e.bytes

/-- GET_FAULTS's card. -/
def getFaultsCard : Card := { hostCard 0xD00 4 0 noReserved with resp := fun p => 32 * nAt p 2 2 }

/-- GET_FAULTS (R494, R563). -/
def execGetFaults (f : Nat) (s : State) : Host.Outcome State Fault Refusal :=
  .next (s.hostCommand f getFaultsCard fun s c =>
      let first := nAt c.payload 0 2
      let n := nAt c.payload 2 2
      if 256 ≤ first ∨ n = 0 ∨ 256 < n then .bad s stBadField
      else .ok s ((List.range n).flatMap fun i => s.logAt (first + i)))

/-- GET_IDENTITY (R515). -/
def execGetIdentity (f : Nat) (s : State) : Host.Outcome State Fault Refusal :=
  .next (s.hostCommand f (getCard 0xC00 14048) fun s _ => .ok s (leBytes 4 3 ++ zeros 4 ++ fitTo 14040 s.trust.chain))

/-- READ_VIOLATIONS's card: owner-authenticated. -/
def readViolationsCard : Card := { getCard 0xC04 32 with host := false, owner := true }

/-- READ_VIOLATIONS's act. -/
def readViolationsAct (s : State) (_ : Cmd) : CmdRes :=
  .ok s (((List.range 6).flatMap fun k => leBytes 4 (s.cellar.viol.getD k 0)) ++ leBytes 8 s.cellar.violTotal)

/-- READ_VIOLATIONS (R508). -/
def execReadViolations (f : Nat) (s : State) : Host.Outcome State Fault Refusal :=
  .next (s.hostCommand f readViolationsCard readViolationsAct)

end Sys2Proof.Machine
end

