-- ==== Sys2Proof/Machine/RingTime.lean ====
section
/-! DEFINITION. One frame on every tile: READY and START tokens, the head's starts, a member's starts, and a member
without START (R597 to R602, R604, R608, R609). -/
namespace Sys2Proof.Machine

/-! ### Tokens -/

/-- This member has word from the head (R609). -/
def State.heard (s : State) : State := s.modRing fun r => { r with headAt := s.us, isolated := false }

/-- A received TOKEN of a KIND on an ACTIVE port. -/
def State.tokenIs (s : State) (p : RPort) (kind : Nat) (b : List Byte) : Bool :=
  ctlIs 0x40 b && nAt b 1 1 == kind && (s.rport p).active

/-- Cellar time in ns, a crystal cycle being 40 ns (R218). -/
def State.ns (s : State) : Nat := 40 * s.clk

/-- A token on its way: forwarded in its direction of travel, or at the end of a line sent back, returning. -/
def State.passReady (s : State) (p : RPort) (b : List Byte) : State :=
  if (s.rport p.other).active then s.sendCtl p.other (fitTo 28 b)
  else if bitOf (nAt b 0x10 1) 1 then s
  else s.sendCtl p (tokenBlock 0 (nAt b 2 2) (nAt b 4 4) (nAt b 8 4) (nAt b 0xC 4) (setFld (nAt b 0x10 1) 1 1 1) (nAt b 0x12 2))

/-- Whether this member's own conditions 3 and 4 of R161 hold for a frame. -/
def State.ownReady (s : State) (n : Nat) : Bool :=
  let os := s.startOuts .A
  s.startN os == n && !(s.startInfos os n).isEmpty && s.bandReady os n && os.all s.tePermits

/-- READY tokens that wait here go on once the conditions hold (R599); those of frames begun are dropped. -/
def State.releaseReady (s : State) : State :=
  let live := s.ring.readyHeld.filter fun e => ahead (nAt e.2 4 4) s.outA.frameNum
  let go := live.filter fun e => s.ownReady (nAt e.2 4 4)
  go.foldl (fun a e => a.passReady e.1 e.2)
    (s.modRing fun r => { r with readyHeld := live.filter fun e => !(s.ownReady (nAt e.2 4 4)) })

/-- TOKEN_READY (R599): at the head it counts the direction that it is back from; a member hands it on. -/
def execTokenReady (p : RPort) (block : List Byte) (s : State) : Host.Outcome State Fault Refusal :=
  let back := bitOf (nAt block 0x10 1) 1
  .next (if !s.tokenIs p 0 block then s
    else if s.headBit then
      if s.ring.readyN = some (nAt block 4 4) then
        s.modRing fun r => { r with readyBack := r.readyBack ++ [if back then p else p.other] }
      else s
    else
      let s := s.heard
      if back then s.passReady p block
      else (s.modRing fun r => { r with readyHeld := r.readyHeld ++ [(p, block)] }).releaseReady)

/-- TOKEN_START (R597): the first START of a frame is forwarded, with this hop added, and sets the start; the head's
own comes back to no effect. -/
def execTokenStart (p : RPort) (block : List Byte) (s : State) : Host.Outcome State Fault Refusal :=
  let n := nAt block 4 4
  .next (if !s.tokenIs p 1 block || s.headBit then s
    else if s.ring.lastStart = some n then s.heard
    else
      let delay := nAt block 8 4
      let el := nAt block 0xC 4 + (s.rport p).hopNs
      let s := s.heard.modRing fun r =>
        { r with lastStart := some n, startN := some (n, s.ns + delay - el, bitOf (nAt block 0x10 1) 0), ownTiming := false }
      if (s.rport p.other).active then
        s.sendCtl p.other (tokenBlock 1 (nAt block 2 2) n delay el (nAt block 0x10 1) (nAt block 0x12 2 + 1))
      else s)

/-! ### The head's starts (R597, R599, R602) -/

/-- DELAY in crystal cycles, rounded up. -/
def State.delayClk (s : State) : Nat := cdiv s.ring.lMax 40

/-- START(N) on both ports. -/
def State.sendStart (s : State) (n flags : Nat) : State :=
  s.activePorts.foldl (fun a p => a.sendCtl p (tokenBlock 1 s.ring.ownId n s.ring.lMax 0 flags 0)) s

/-- The instant from which the head may send START(N): none bounds frame 1. -/
def State.headStartClk (s : State) (os : List OutId) : Nat :=
  os.foldl (fun a o =>
    let x := s.out o
    match (if x.frameNum = 0 then none else x.info x.frameNum) with
    | none => a
    | some i =>
      max a (max (x.fsClk + i.mode.period - s.delayClk) (x.feClk + max (25 * i.mode.vmin - s.delayClk) 1000))) 0

/-- READY(N) is back from every direction (R599). -/
def State.readyAll (s : State) (n : Nat) : Bool := s.ring.readyN == some n && s.activePorts.all (· ∈ s.ring.readyBack)

/-- HEAD_START_SEND (R597, R599): START(N) goes out, and the head's own frame starts DELAY later. -/
def execHeadStartSend (s : State) : Host.Outcome State Fault Refusal :=
  let os := s.startOuts .A
  let n := s.startN os
  .next (if !s.isHead || !s.mayStart os n || !s.readyAll n || !s.bandReady os n || !os.all s.tePermits then s
    else
      let s := (s.atClk (s.headStartClk os)).sendStart n 0
      let s := s.atClk (s.clk + s.delayClk)
      s.beginFrame os n false (s.teWaited os n))

/-- HEAD_START_FORCED (R599): START(N) with FORCED; the head starts by force unless its own conditions held. -/
def execHeadStartForced (s : State) : Host.Outcome State Fault Refusal :=
  let os := s.startOuts .A
  let n := s.startN os
  let own := s.bandReady os n && os.all s.tePermits
  .next (if !s.isHead || !s.mayStart os n || (own && s.readyAll n) || os.any (fun q => (s.out q).frameNum == 0) then s
    else
      let at_ := os.foldl (fun a o =>
        let x := s.out o
        match x.info x.frameNum with
        | none => a
        | some i => max a (x.feClk + max (25 * i.mode.vmax - s.delayClk) 1000)) 0
      let s := (s.atClk at_).sendStart n 1
      let s := s.atClk (s.clk + s.delayClk)
      if own then s.beginFrame os n false (s.teWaited os n) else s.forceFrame os n)

/-! ### A member's starts (R600) -/

/-- Gives the frame that an output has in preparation another number; the one after it moves along. -/
def renum (m n k : Nat) : Nat := if k = m then n else if k = w32 (m + 1) then w32 (n + 1) else k

/-- An output's records of the frame in preparation under START's number. -/
def Output.renumber (x : Output) (m n : Nat) : Output :=
  let f := renum m n
  { x with frames := x.frames.map (fun i => { i with frame := f i.frame }),
           bands := x.bands.map (fun b => { b with frame := f b.frame }),
           cache := x.cache.map (fun k => { k with frame := f k.frame }),
           front := x.front.map (fun k => { k with frame := f k.frame }),
           rows := x.rows.map (fun r => { r with frame := f r.frame }),
           regions := x.regions.map (fun r => { r with frame := f r.frame }),
           fresh := x.fresh.map f, prepFrame := f x.prepFrame, frameNum := w32 (n + 0xFFFFFFFF) }

/-- This controller's next frame takes START's FRAME as its number: on the outputs that share the doorway, and in the
records of their doorway. -/
def State.adopt (s : State) (os : List OutId) (m n : Nat) : State :=
  if m = n then s
  else
    let on := fun (o : OutId) => os.contains o
    let s := os.foldl (fun (a : State) o =>
      (a.modOut o fun x => x.renumber m n).modDoor o fun d =>
        { d with closeN := renum m n d.closeN, swapN := renum m n d.swapN }) s
    { s with
      slices := s.slices.map fun k =>
        match k with
        | none => none
        | some p => if on p.out then some { p with frame := renum m n p.frame } else some p,
      landings := s.landings.map fun (l : Landing) =>
        { l with swapA := if on .A then renum m n l.swapA else l.swapA, swapB := if on .B then renum m n l.swapB else l.swapB,
                 liveFrame := if on .A then renum m n l.liveFrame else l.liveFrame },
      commits := { s.commits with pend := s.commits.pend.map fun (p : Pend) =>
        { p with fixA := if on .A then p.fixA.map (renum m n) else p.fixA,
                 fixB := if on .B then p.fixB.map (renum m n) else p.fixB } },
      chans := s.chans.map fun (c : Channel) => { c with pending := c.pending.map fun (k : SceneCommit) =>
        { k with fixA := if on .A then k.fixA.map (renum m n) else k.fixA,
                 fixB := if on .B then k.fixB.map (renum m n) else k.fixB } } }

/-- Pending commits whose target the adopted number has reached become live at the start (R600): they are fixed for the
frame, which is derived again, and every landing of the protocol takes them. -/
def State.takeDue (s : State) (os : List OutId) (n : Nat) : State :=
  let joint := (s.door .A).joint
  let pend := os.foldl (fun ps q => s.fixCopies q joint n [] ps) s.commits.pend
  let chans := s.chans.map fun (c : Channel) =>
    { c with pending := os.foldl (fun ks q => s.fixScenes q joint n false ks) c.pending }
  if pend = s.commits.pend ∧ (chans.map (·.pending)) = s.chans.map (·.pending) then s
  else
    let s := { s with commits := { s.commits with pend := pend }, chans := chans }
    let s := os.foldl (fun (a : State) o => a.modOut o fun x => { x with frames := x.frames.filter fun i => i.frame != n }) s
    os.foldl (fun a o => ((List.range 64).filter a.inDoor).foldl (fun b k => b.swapLanding k o n) a) s

/-- A member's start lies more than 2 µs from the instant of R597 (R600). -/
def State.misaligned (s : State) (due : Nat) : State :=
  if due ≤ s.ns + 2000 ∧ s.ns ≤ due + 2000 then s
  else
    ((s.modRing fun r => { r with missed := w32 (r.missed + 1) }).ringEvent 3 (some s.ring.ownId)).fault
      { code := 0x1006, cls := 0, island := 255, detail := s.outA.frameNum, force := .none }

/-- MEMBER_FRAME_START (R600): at the later of R597's instant and this controller's own FRAME_END + VBLANK_MIN. -/
def execMemberFrameStart (s : State) : Host.Outcome State Fault Refusal :=
  let os := s.startOuts .A
  let m := s.startN os
  .next (match s.ring.startN with
    | none => s
    | some (n, due, forced) =>
      if !s.isMember || !s.mayStart os m then s
      else
        let own := s.bandReady os m && os.all s.tePermits
        let least := os.foldl (fun a o =>
          let x := s.out o
          match (if x.frameNum = 0 then none else x.info x.frameNum) with
          | none => a
          | some i => max a (x.feClk + 25 * i.mode.vmin)) (cdiv due 40)
        let s := ((s.atClk least).adopt os m n).takeDue os n
        let s := s.modRing fun r => { r with startN := none }
        let s := if forced && !own then s.forceFrame os n else s.beginFrame os n false (s.teWaited os n)
        s.misaligned due)

/-- START_TIMEOUT (R601, R646): no START by FRAME_END + VBLANK_MAX + 10 µs, or, for frame 1, within 1 s of CLOSE(1). -/
def execStartTimeout (s : State) : Host.Outcome State Fault Refusal :=
  let x := s.outA
  let lost := fun (t : State) =>
    (t.modRing fun r => { r with ownTiming := true }).fault
      { code := 0x1003, cls := 2, island := 255, detail := w32 (x.frameNum + 1), force := .none }
  .next (if s.headBit || s.ring.ownTiming || s.ring.startN.isSome || !s.power.hearth || !x.inBlank then s
    else if x.frameNum = 0 then
      if (s.ring.east.block || s.ring.west.block) && s.power.closed1 then lost (s.atClk ((s.door .A).closeClk + 25000000))
      else s
    else if !s.isMember then s
    else match x.info x.frameNum with
      | none => s
      | some i => lost (s.atClk (x.feClk + 25 * i.mode.vmax + 250)))

/-- ISOLATION_TIMEOUT (R609): 1 s without a path to the head. -/
def execIsolationTimeout (s : State) : Host.Outcome State Fault Refusal :=
  .next (if s.isMember && !s.ring.isolated then
      (s.atUs (s.ring.headAt + 1000000)).modRing fun r => { r with isolated := true }
    else s)

/-- What a port's packet buffer holds of packets received and not yet taken on, in bytes (R592, R605). -/
def State.rxHeld (s : State) (p : RPort) : Nat :=
  (s.chans.map fun (c : Channel) => c.rxBytes.length + (c.rxQueue.map (·.2.length)).sum).sum + (s.rport p).group.length

/-- An ACK (R590, R592): the highest PKT_SEQ received in order, and the room of the buffer in 32-byte units. -/
def State.sendAck (s : State) (p : RPort) : State :=
  let held := s.rxHeld p
  let s := s.modRport p fun r => { r with ackSent := s.clk }
  s.sendCtl p (leBytes 1 0x31 ++ zeros 3 ++ leBytes 4 (w32 ((s.rport p).rxSeq + 0xFFFFFFFF))
    ++ leBytes 4 ((524288 - held) / 32))

end Sys2Proof.Machine
end

