-- ==== Sys2Proof/Machine/RingNet.lean ====
section
/-! DEFINITION. The packets of a ring at a controller that receives them: ENUM, SCENE, MIRROR, RELAY and VIEWERS
(R585, R591, R592, R596, R603 to R607). -/
namespace Sys2Proof.Machine

/-! ### Reception (R591, R592) -/

/-- A packet of a TYPE at an ACTIVE port: discarded when its CRC fails or its PKT_SEQ is out of order; one of another
TYPE is not this row's. A member has word from the head with it (R609). An ACK tells of the space that is free again. -/
def State.recvPkt (s : State) (p : RPort) (typ : Nat) (pkt : List Byte) (k : State → State) : State :=
  let r := s.rport p
  if !r.active || !packetGood pkt || nAt pkt 0xC 4 != r.rxSeq || nAt pkt 0 1 != typ then s
  else
    let s := s.modRport p fun r => { r with rxSeq := w32 (r.rxSeq + 1) }
    let t := k (if s.headBit then s else s.heard)
    if (t.rport p).active then t.sendAck p else t

/-- A packet's body: what stands between the header and the CRC. -/
def pktBody (pkt : List Byte) : List Byte := (pkt.drop 16).take (pkt.length - 20)

/-- A packet's FLAGS. -/
def pktReturning (pkt : List Byte) : Bool := bitOf (nAt pkt 1 1) 1
def pktLast (pkt : List Byte) : Bool := bitOf (nAt pkt 1 1) 2

/-- Sends a packet on in its direction of travel. -/
def State.forwardPkt (s : State) (p : RPort) (pkt : List Byte) : State :=
  s.sendPacket p.other (nAt pkt 0 1) (nAt pkt 1 1) (nAt pkt 2 2) (nAt pkt 4 2) (nAt pkt 6 2 + 1) (pktBody pkt)

/-! ### ENUM (R585, R596) -/

/-- This controller's entry, with the hop that the packet came by. -/
def State.enumEntry (s : State) (p : RPort) : Member :=
  { id := s.ring.ownId, hopNs := (s.rport p).hopNs, serial := s.trust.serial }

/-- The entries that the head has numbered: a member takes its own ID and keeps it in MRAM. -/
def State.takeId (s : State) (ms : List Member) : State :=
  match ms.find? fun m => m.serial == s.trust.serial with
  | none => s
  | some m =>
    if m.id = s.ring.ownId ∨ m.id = 0 then s
    else (s.modRing fun r => { r with ownId := m.id }).modMram fun t => { t with ringId := t.ringId.write s.us m.id }

/-- ENUM (R596): a member appends its entry and forwards the packet, or at the end of a line sends it back; the head
takes the entries. A packet with LAST carries the IDs that the head has assigned. -/
def execEnumPkt (p : RPort) (pkt : List Byte) (s : State) : Host.Outcome State Fault Refusal :=
  .next (s.recvPkt p 5 pkt fun s =>
    let ms := enumEntries pkt
    if s.headBit then
      if pktLast pkt then s
      else if pktReturning pkt then s.enumBack p false ms
      else s.enumBack p.other true ms
    else if pktLast pkt then (s.takeId ms).forwardPkt p pkt
    else if pktReturning pkt then s.forwardPkt p pkt
    else
      let body := enumBody (ms ++ [s.enumEntry p])
      let src := nAt pkt 2 2
      let hops := nAt pkt 6 2 + 1
      if (s.rport p.other).active then s.sendPacket p.other 5 0 src 0xFFFF hops body
      else s.sendPacket p 5 2 src 0xFFFF hops body)

/-! ### SCENE (R605) -/

/-- How much of the OPS packet at the end of a run of bytes is still to come; 0 at a packet's end. -/
def opsMissing (bs : List Byte) : Nat := if bs.length < 8 then 8 - bs.length else max 16 (nAt bs 4 4) - bs.length

/-- A member's channel takes the forwarded packets that wait, in order; the store may pause it (R129). -/
def drainRing (c : Nat) : Nat → State → State
  | 0, s => s
  | n + 1, s =>
    let k := s.chan c
    match k.rxQueue with
    | [] => s
    | (base, p) :: _ =>
      if !k.enabled then drainRing c n (s.modChan c fun k => { k with rxQueue := k.rxQueue.drop 1 })
      else if p = [] then
        drainRing c n (s.modChan c fun k =>
          { k with rxQueue := k.rxQueue.drop 1, openPkts := [], covered := none, orphan := false,
                   discarded := sat 32 (k.discarded + k.openPkts.length) })
      else if 8 ≤ k.pending.length ∨ s.journalRoom = false then s
      else
        let r := (s.beforeIngest p).ingestOps c p false true (some base)
        match r.2 with
        | .waits => r.1
        | _ => drainRing c n (r.1.modChan c fun k => { k with rxQueue := k.rxQueue.drop 1 })

/-- A fragment of a forwarded stream at its offset: bytes taken already from the other side are dropped, padding behind the
end of an OPS packet is no part of it, and a gap begins the stream anew. -/
def Channel.takeFragment (k : Channel) (pos base : Nat) (discard : Bool) (data : List Byte) : Channel :=
  if pos < k.rxPos ∧ ¬ k.rxPos = 0 then k
  else
    let k := if pos = k.rxPos then k else { k with rxPos := pos, rxBytes := [] }
    if discard then { k with rxQueue := k.rxQueue ++ [(base, [])] }
    else
      let have_ := k.rxBytes ++ data
      let n := if k.rxBytes.length < 8 then max 16 (nAt have_ 4 4) else k.rxBytes.length + opsMissing k.rxBytes
      let got := have_.take n
      let k := { k with rxPos := pos + (got.length - k.rxBytes.length) }
      if got.length = n then { k with rxBytes := [], rxQueue := k.rxQueue ++ [(base, got)] } else { k with rxBytes := got }

/-- SCENE (R605). -/
def execScenePkt (p : RPort) (pkt : List Byte) (s : State) : Host.Outcome State Fault Refusal :=
  .next (s.recvPkt p 1 pkt fun s =>
    let c := nAt pkt 0x10 1
    if s.headBit then s
    else if 4 ≤ c then s.forwardPkt p pkt
    else
      let s := s.modChan c fun k =>
        k.takeFragment (nAt pkt 0x18 8) (nAt pkt 0x14 4) (bitOf (nAt pkt 0x11 1) 0) ((pktBody pkt).drop 16)
      (drainRing c (s.chan c).rxQueue.length s).forwardPkt p pkt)

/-! ### MIRROR (R603, R604) -/

/-- The block windows by number (R459). -/
def blkOfNum (n : Nat) : Option Blk := allBlks.find? fun b => b.num == n

/-- The offsets and values of a MIRROR packet. -/
def mirrorPairs (pkt : List Byte) : List (Nat × Nat) :=
  (List.range (min (nAt pkt 0x1C 4) 8192)).map fun k => (nAt pkt (0x20 + 8 * k) 4, nAt pkt (0x24 + 8 * k) 4)

/-- A block's shadow as a mirrored commit leaves it: mirrored words at their reset values, but for the pairs. -/
def State.mirrorShadow (s : State) (b : Blk) (ws : List (Nat × Nat)) : State :=
  let m := (s.shadowOf b).filter fun e => !mirroredWord b e.1
  let s := { s with shadow := (s.shadow.filter fun e => e.1 != b) ++ [(b, m)] }
  (ws.filter fun e => mirroredWord b e.1).foldl (fun a e => a.writeWord b e.1 e.2) s

/-- The member commits the blocks together for TARGET_FRAME; where that has passed, for its next doorway, and the target
is missed; a commit that fails R80 is fault 0x1007. -/
def State.mirrorCommit (s : State) (g : MirrorGrp) : State :=
  let blks := g.words.map (·.1)
  let s := g.words.foldl (fun (a : State) w => a.mirrorShadow w.1 (w.2.map fun e => (e.1, e.2.toNat))) s
  let ask := fun (s : State) (kind : Nat) =>
    s.accept { issuer := 32, blks := blks, ports := [], kind := kind, out := .A, target := g.frame }
  let r := ask s 1
  if r.status = stDeferred then r.st
  else if r.status = stBadField then
    s.fault { code := 0x1007, cls := 2, island := 255, detail := g.cid, force := .none }
  else
    let r2 := ask s 0
    let t := if r2.status = stDeferred then r2.st else s
    (t.modRing fun r => { r with missed := w32 (r.missed + 1) }).ringEvent 3 (some s.ring.ownId)

/-- MIRROR (R603): what has come already from the other side has no effect again. -/
def execMirrorPkt (p : RPort) (pkt : List Byte) (s : State) : Host.Outcome State Fault Refusal :=
  .next (s.recvPkt p 2 pkt fun s =>
    if s.headBit then s
    else
      let s := s.forwardPkt p pkt
      let cid := nAt pkt 0x14 4
      match blkOfNum (nAt pkt 0x10 1) with
      | none => s
      | some b =>
        if s.ring.mirrorDone = some cid || !b.mirrored then s
        else
          let g : MirrorGrp := match s.ring.mirror with
            | none => { cid := cid, frame := nAt pkt 0x18 4, words := [] }
            | some g => if g.cid = cid then g else { cid := cid, frame := nAt pkt 0x18 4, words := [] }
          let ws : RegMap := (mirrorPairs pkt).map fun e => (e.1, BitVec.ofNat 32 e.2)
          let g := { g with words := (g.words.filter fun w => w.1 != b) ++ [(b, ws)] }
          if pktLast pkt then
            (s.modRing fun r => { r with mirror := none, mirrorDone := some cid }).mirrorCommit g
          else s.modRing fun r => { r with mirror := some g })

/-! ### RELAY (R606, R607) -/

/-- A relayed command as this controller's own letterbox would see it. -/
def relayCmd (opcode : Nat) (payload : List Byte) (area : Nat) : Cmd :=
  { f := 0,
    e := { raw := leBytes 2 opcode ++ zeros 6 ++ leBytes 8 8 ++ leBytes 4 payload.length
                    ++ leBytes 4 (if area = 16 then 0 else area) ++ leBytes 8 8 ++ zeros 32,
           data := some payload, respOk := true } }

/-- The cards with a trailer, which name a DEVICE. -/
def trailedCards : List Card :=
  [installCard, setLifecycleCard, readViolationsCard, firmwareCard, recoverCard, setCalCard, applyCalCard, getCalCard]

/-- Whether a relayed command designates this controller. -/
def State.designated (s : State) (c : Cmd) : Bool :=
  if c.opcode = 0x500 then openBoot c.payload == fitTo 32 s.trust.bootId
  else if c.opcode = 0x501 then (s.sessionOf (nAt c.payload 0 2)).isSome
  else match trailedCards.find? fun k => k.opcode == c.opcode with
    | none => false
    | some k => k.hasTrailer c && (nAt (k.trailerOf c) 8 8 == s.trust.serial || nAt (k.trailerOf c) 8 8 == 0)

/-- A relayed command for DEVICE 0. -/
def forAll (c : Cmd) : Bool :=
  match trailedCards.find? fun k => k.opcode == c.opcode with
  | none => false
  | some k => k.hasTrailer c && nAt (k.trailerOf c) 8 8 == 0

/-- A designated command is judged and acts. `due` is the DUE that the head gave a package for every controller. -/
def State.relayJudge (s : State) (c : Cmd) (due : Nat) : CmdRes :=
  let op := c.opcode
  if op = 0x500 then s.judge openCard c none openAct
  else if op = 0x501 then s.judge closeCard c none fun s c => let r := s.closeSession c.payload; .ok r.1 r.2
  else if op = 0xC02 then
    s.judge installCard c (some (s.readPackage (installCard.bodyOf c)).ownerKey) fun s c =>
      s.installAct (installCard.bodyOf c) (if due = 0 then s.pkgDue false else due)
  else if op = 0xC03 then s.judge setLifecycleCard c none setLifecycleAct
  else if op = 0xC04 then s.judge readViolationsCard c none readViolationsAct
  else if op = 0xC05 then s.judge firmwareCard c none fun s c => s.firmwareAct (firmwareCard.bodyOf c)
  else if op = 0xD01 then s.judge recoverCard c none recoverAct
  else if op = 0x900 then s.judge setCalCard c none setCalAct
  else if op = 0x901 then s.judge applyCalCard c none applyCalAct
  else s.judge getCalCard c none getCalAct

/-- R607: the status of a command for every controller, as it circulates. -/
def joinStatus (st own : Nat) : Nat := if st = noneActed ∨ st = stOk ∨ st = stDeferred then own else st

/-- Whether update k of a relayed SUBMIT_POINTS is for this controller: its receipt is still empty, and its session is open
here or an open of it waits (R502, R606). -/
def State.relayMine (s : State) (i : RelayIn) (k : Nat) : Bool :=
  let num := nAt i.payload (48 * k + 4) 2
  emptyReceipt (bytesAt i.resp (40 * k) 40)
  && ((s.sessionOf num).isSome || s.trust.pointQ.any fun j => j.openS && j.session == num)

/-- The updates of a relayed SUBMIT_POINTS that are for this controller wait for the KMAC engines with the others of their
sessions (R212); the rest keep their receipts. -/
def State.relayPoints (s : State) (i : RelayIn) : State :=
  let n := min (i.payload.length / 48) 4096
  let mine := (List.range n).filter (s.relayMine i)
  let ord := s.nextOrd
  let ins := mine.map fun k =>
    ({ func := 32, ord := ord, slot := k, update := bytesAt i.payload (48 * k) 48, openS := false } : PointIn)
  let cmd : PointsCmd :=
    { relay := some i.tag, func := 32, ord := ord, entry := (relayCmd i.op i.payload i.resp.length).e,
      receipts := (List.range n).map fun k => if k ∈ mine then none else some (bytesAt i.resp (40 * k) 40) }
  s.modTrust fun t => { t with pointQ := t.pointQ ++ ins, pointCmds := t.pointCmds ++ [cmd] }

/-- How a relayed command was answered here: what has come already from the other side is answered as before. -/
def State.relayKeep (s : State) (tag st : Nat) (rs : List Byte) : State :=
  s.modRing fun r => { r with relayDone := (r.relayDone ++ [(tag, st, rs)]).drop (r.relayDone.length + 1 - 4096) }

/-- A relayed command at a member: the state, and the STATUS and response area with which it travels on. One that has
come already from the other side is answered as before. -/
def State.relayAct (s : State) (tag opcode status : Nat) (payload resp : List Byte) : State × Nat × List Byte :=
  let c := relayCmd opcode payload resp.length
  let all := forAll c
  let put := fun (st : Nat) (rs : List Byte) => if all then (joinStatus status st, resp) else (st, rs)
  match s.ring.relayDone.find? fun d => d.1 == tag with
  | some d => (s, if d.2.1 = noneActed then (status, resp) else put d.2.1 d.2.2)
  | none =>
    if opcode = 0x502 ∨ s.designated c = false then (s.relayKeep tag noneActed [], status, resp)
    else
      let r := s.relayJudge c (if all then nAt resp 4 4 else 0)
      let rs := fitTo resp.length r.resp
      ((r.st.postAll r.evs).relayKeep tag r.status rs, put r.status rs)

/-- The packets of a relayed command leave a member: on in their direction of travel, or back at the end of a line. -/
def State.relayPass (s : State) (i : RelayIn) (status : Nat) (resp : List Byte) : State :=
  let on := (s.rport i.port.other).active
  s.sendRelay (if on then i.port.other else i.port) (!on) i.src i.hops i.op status i.tag i.payload resp

/-- The oldest relayed command of a member, and whether it has travelled on: an OPEN_SESSION or CLOSE_SESSION once the
inputs of its session that came before it are judged (R502), a SUBMIT_POINTS once its own are (R212), any other at once. -/
def State.relayFront (s : State) (i : RelayIn) : State × Bool :=
  let gone := fun (s : State) (st : Nat) (rs : List Byte) =>
    ((s.modRing fun r => { r with relayIn := r.relayIn.drop 1 }).relayPass i st rs, true)
  if (i.op = 0x500 ∨ i.op = 0x501) ∧ (s.trust.pointQ.any fun j => j.session == nAt i.payload 0 2) = true then (s, false)
  else
    match s.trust.pointCmds.find? (·.relay == some i.tag) with
    | some c =>
      if !c.receipts.all (·.isSome) then (s, false)
      else
        let rs := fitTo i.resp.length (c.receipts.flatMap fun r => r.getD (zeros 40))
        let s := s.modTrust fun t => { t with pointCmds := t.pointCmds.filter fun d => d.ord != c.ord }
        gone (s.relayKeep i.tag stOk rs) stOk rs
    | none =>
      let seen := s.ring.relayDone.any (·.1 == i.tag)
      if i.op = 0x502 ∧ seen = false ∧ ((List.range (min (i.payload.length / 48) 4096)).any (s.relayMine i)) = true then
        (s.relayPoints i, false)
      else
        let r := s.relayAct i.tag i.op i.status i.payload i.resp
        gone r.1 r.2.1 r.2.2

/-- A member's relayed commands travel on in order. -/
def drainRelays : Nat → State → State
  | 0, s => s
  | n + 1, s =>
    match s.ring.relayIn with
    | [] => s
    | i :: _ => let r := s.relayFront i; if r.2 then drainRelays n r.1 else r.1

/-- Receipts that a direction brings for places that are still empty. -/
def mergeReceipts (a b : List Byte) : List Byte :=
  (List.range (a.length / 40)).flatMap (fun k =>
    let x := bytesAt a (40 * k) 40
    if emptyReceipt x then bytesAt b (40 * k) 40 else x) ++ a.drop (a.length / 40 * 40)

/-- A relayed command is back at the head from a direction. -/
def State.relayBack (s : State) (dir : RPort) (tag opcode status : Nat) (resp : List Byte) : State :=
  (s.modRing fun r => { r with relays := r.relays.map fun (c : RelayCmd) =>
    if c.tag ≠ tag ∨ dir ∉ c.left then c
    else
      let c := { c with left := c.left.filter (· != dir) }
      if opcode = 0x502 then { c with resp := mergeReceipts c.resp resp }
      else if status = noneActed then c
      else if c.dev0 then { c with status := some (match c.status with | none => status | some st => joinStatus st status) }
      else { c with status := some status, resp := resp } }).endRelays

/-- RELAY (R606, R607). -/
def execRelayPkt (p : RPort) (pkt : List Byte) (s : State) : Host.Outcome State Fault Refusal :=
  .next (s.recvPkt p 3 pkt fun s =>
    let group := (s.rport p).group ++ (pktBody pkt).drop 16
    if !pktLast pkt then s.modRport p fun r => { r with group := group }
    else
      let s := s.modRport p fun r => { r with group := [] }
      let op := nAt pkt 0x10 2
      let status := nAt pkt 0x12 2
      let tag := nAt pkt 0x14 4
      let n := nAt pkt 0x18 4
      let payload := group.take n
      let resp := fitTo (min (nAt pkt 0x1C 4) 1048576) (group.drop n)
      let src := nAt pkt 2 2
      let hops := nAt pkt 6 2 + 1
      if s.headBit then s.relayBack (if pktReturning pkt then p else p.other) tag op status resp
      else if pktReturning pkt then s.sendRelay p.other true src hops op status tag payload resp
      else
        let i : RelayIn := { port := p, src := src, hops := hops, op := op, status := status, tag := tag, payload := payload,
                             resp := resp }
        let s := s.modRing fun r => { r with relayIn := r.relayIn ++ [i] }
        drainRelays s.ring.relayIn.length s)

/-! ### VIEWERS (R607) -/

/-- VIEWERS: the head's positions, as if the host had given them (R382). -/
def execViewersPkt (p : RPort) (pkt : List Byte) (s : State) : Host.Outcome State Fault Refusal :=
  .next (s.recvPkt p 4 pkt fun s =>
    if s.headBit then s
    else
      let body := pktBody pkt
      let n := min (nAt body 0 1) 64
      let s := if n = 0 then s else
        { s with track := { s.track with
            viewers := (List.range n).foldl (fun a k => addViewer a (viewerAt body s.us k)) s.track.viewers,
            lastPos := s.us, lost := false } }
      s.forwardPkt p pkt)

/-! ### A received fragment's room (R592, R605) -/

/-- The members' channels go on as their stores find room (R605). -/
def State.drainAll (s : State) : State := (List.range 4).foldl (fun a c => drainRing c (a.chan c).rxQueue.length a) s

/-- ACK_TIMER (R592, R599, R605): every 2 µs; on a member what waited for room, or for a READY's conditions, goes on. -/
def execAckTimer (p : RPort) (s : State) : Host.Outcome State Fault Refusal :=
  .next (if !(s.rport p).active then s
    else
      let s := s.atClk ((s.rport p).ackSent + 50)
      (if s.headBit then s else drainRelays s.ring.relayIn.length s.drainAll).sendAck p |>.releaseReady)

end Sys2Proof.Machine
end

