-- ==== Sys2Proof/Machine/Upkeep.lean ====
section
/-! DEFINITION. The upkeep of memory: scrubs of SRAM and DRAM, DRAM retraining, and drawing resources that are loaded
again (R430, R431, R438, R439, R448, R449). -/
namespace Sys2Proof.Machine

/-! ### The MEM block's doorway (R49, R449) -/

/-- The training window of MEM: the latest pending set is live, and each copy posts its event. -/
def State.memWindow (s : State) : State :=
  let ps := s.pendsOf .mem 0
  match ps.reverse with
  | [] => s
  | q :: _ =>
    let s1 : State := { s with
      dram := { s.dram with liveWords := q.words },
      landings := s.landings.mapIdx fun k l => if 49 ≤ k ∧ k ≤ 52 ∧ l.present = true then { l with liveCommitA := q.cid } else l,
      commits := { s.commits with pend := s.commits.pend.filter fun (p : Pend) => p.blk ≠ Blk.mem,
                                  newest := putNewest s.commits.newest 0 .mem .A q.cid q.words } }
    ps.foldl (fun a p => a.event p.issuer 0x8100 (doorwayData p.cid 0 4 0 0 0)) s1

/-! ### Retraining (R448) -/

/-- The output whose vertical blanking retraining keeps to. -/
def State.retrainOut (s : State) : OutId := if s.linkEn .A || s.variant == .E1 then .A else .B

/-- The controller of a channel in the present blanking. -/
def State.blankKey (s : State) (ch : Nat) : Nat := ch / 2 + 4 * (s.out s.retrainOut).frameNum

/-- Whether the controller island's temperature has changed by 5 °C since a channel's latest retraining. -/
def State.retrainHot (s : State) (ch : Nat) : Bool :=
  80 ≤ ((s.sensor (49 + ch / 2)).temp - s.dram.retrTemp.getD ch 0).natAbs

/-- A channel retrains; the MEM block's window opens with it (R449). -/
def State.retrain (s : State) (ch : Nat) (forced : Bool) : State :=
  let s := s.memWindow
  s.modDram fun d =>
    { d with retrains := sat 16 (d.retrains + 1), retrForced := if forced then sat 16 (d.retrForced + 1) else d.retrForced,
             retrAt := d.retrAt.set ch s.us, retrTemp := d.retrTemp.set ch (s.sensor (49 + ch / 2)).temp,
             blankDone := (d.blankDone.filter fun k => k / 4 == (s.out s.retrainOut).frameNum) ++ [s.blankKey ch] }

/-- DRAM_RETRAIN (R448): when RETRAIN_MS is over or the temperature has changed; with RETRAIN_BLANK, in a blanking in
which no channel of the controller has retrained, or by force after 2 × RETRAIN_MS. -/
def execDramRetrain (ch : Nat) (s : State) : Host.Outcome State Fault Refusal :=
  .next (if s.dram.st ≠ 2 ∨ 8 ≤ ch then s
    else
      let w := s.lv .mem .A 0
      let ms := fld w 0 10
      let at_ := s.dram.retrAt.getD ch 0
      let t := if s.retrainHot ch then s else s.atUs (at_ + 1000 * ms)
      if !bitOf w 10 || ((s.out s.retrainOut).inBlank && !(s.dram.blankDone.contains (s.blankKey ch))) then t.retrain ch false
      else (s.atUs (at_ + 2000 * ms)).retrain ch true)

/-! ### DRAM scrub (R438, R439) -/

/-- What Cellar hears of an uncorrectable DRAM word (R562): in the journal overflow ring or the Hearth region a checkpoint
is forced. -/
def State.dramFault (s : State) (addr src : Nat) : State :=
  if addr < 0x40000000 then
    (s.fault { code := 0xC02, cls := 2, island := 49 + addr / 512 % 4, detail := src, force := .none }).forceCkpt
  else s.fault { code := 0xC01, cls := 2, island := 49 + addr / 512 % 4, detail := src, force := .none }

/-- DRAM_PATROL_SCRUB (R438): the block at an address is read; an uncorrectable word stays as it is. LAST_UE_SRC of a
scrub, which no requester reads, is left open. -/
def execDramPatrolScrub (addr : Nat) (ecc : Ecc) (s : State) : Host.Outcome State Fault Refusal :=
  .next (if s.dram.st ≠ 2 ∨ s.dataEnd ≤ addr then s
    else
      let w := addr / 8
      match (if w ∈ s.dram.badWords then Ecc.uncorrectable else ecc) with
      | .clean => s
      | .corrected => s.modDram fun d => { d with corrected := w32 (d.corrected + 1) }
      | .uncorrectable =>
        let src := s.freeBelow 16
        let s := s.drawn.modDram fun d =>
          { d with badWords := if w ∈ d.badWords then d.badWords else d.badWords ++ [w] }
        (s.dramUe src [w]).dramFault addr src)

/-! ### SRAM scrub (R430, R431) -/

/-- A channel of a plane row that is taken as not expanded: the bands not yet synthesised wait for it again (R431). -/
def Output.unexpand (x : Output) (frame c : Nat) : Output :=
  { x with bands := x.bands.map fun b =>
      if b.frame = frame ∧ b.done = false then { b with prepDone := b.prepDone.filter (· != c) } else b }

/-- Word `idx` of the plane cache: the rows of the cache lie in the order in which they were expanded, output A's first. -/
def State.cacheUe (s : State) (idx : Nat) : State :=
  let n := s.outA.cache.length
  let o := if idx < n then OutId.A else OutId.B
  match (s.out o).cache[if idx < n then idx else idx - n]? with
  | none => s
  | some r =>
    (s.modOut o fun x => x.unexpand r.frame r.chan).fault
      { code := 0xC05, cls := 1, island := 32 + r.chan, detail := 4096 * r.chan + 16384 * o.num, force := .none }

/-- A CHECK value that fails. -/
def Point.broken (q : Point) : Point := { q with check := if q.crc = 1 then 2 else 1 }

/-- The entry of the point table at an index: its CHECK fails (R237); the second error within 1 s is fault 0x0406. -/
def State.pointUe (s : State) (idx : Nat) : State :=
  let again := match s.trust.pointUes with | none => false | some t => s.us < t + 1000000
  let s := s.modTrust fun t =>
    { t with points := t.points.map fun e => if e.1 = idx then (e.1, e.2.broken) else e, pointUes := some s.us }
  if again then
    (s.fault { code := 0x406, cls := 3, island := 62, detail := 2, force := .ss1All }).interruptPoints
  else s

/-- The rays of a word of 8 bytes in a row: two, at places `p` and `p + 1`, in the row's order of hogels. -/
def blackSpan (w p : Nat) (e : Nat × List Nat) : Nat × List Nat :=
  let per := e.2.length / max 1 (min 64 (w - e.1))
  (e.1, e.2.mapIdx fun j c => if e.1 * per + j = p ∨ e.1 * per + j = p + 1 then 0 else c)

/-- The hogel columns of a row that hold places `p` and `p + 1`. -/
def RowBuf.columns (r : RowBuf) (w p : Nat) : List Nat :=
  match r.spans with
  | [] => []
  | e :: _ =>
    let per := max 1 (e.2.length / max 1 (min 64 (w - e.1)))
    [p / per, (p + 1) / per].eraseDups

/-- Word `idx` of the ray row stores, 8 rows of 15,360 words each, output A's first (R156): its rays are black, and the
hogels of safety regions among them are marked for the frame (R431). -/
def State.rowUe (s : State) (idx : Nat) : State :=
  let o := if idx < 122880 then OutId.A else OutId.B
  let p := 2 * (idx % 15360)
  match (s.out o).rows[idx % 122880 / 15360]? with
  | none => s
  | some r =>
    match (s.out o).info r.frame with
    | none => s
    | some i =>
      let y := r.row / max 1 i.mode.hy
      let xs := r.columns i.mode.w p
      let hit := (s.regionsOn o).filter fun e => xs.any fun x => e.2.has x y
      let s := s.modOut o fun x =>
        { x with rows := x.rows.map fun q => if q.frame = r.frame ∧ q.row = r.row
                   then { q with spans := q.spans.map (blackSpan i.mode.w p) } else q,
                 invarBad := x.invarBad ++ hit.flatMap fun e =>
                   (xs.filter fun c => e.2.has c y).map fun c => (c, y, e.2.chan) }
      if hit.isEmpty then
        s.fault { code := 0x503, cls := 2, island := 42 + o.num, detail := 16384 * o.num, force := .none }
      else hit.foldl (fun (a : State) e => a.fault
        { code := 0x503, cls := 2, island := 42 + o.num, detail := s.regionDetail o e.1, force := .ss1 o e.1 }) s

/-- What an uncorrectable word of an area brings (R431, R562). -/
def State.sramUe (s : State) (area : SramArea) (idx : Nat) : State :=
  match area with
  | .planeCache => s.cacheUe idx
  | .pointTable => s.pointUe idx
  | .journal => (s.fault { code := 0xC04, cls := 2, island := 255, detail := 10, force := .none }).forceCkpt
  | .rowStore => s.rowUe idx
  | .blitStaging =>
    (s.modBlit fun b => { b with stageBad := b.stageBad || b.run.isSome }).fault
      { code := 0xC06, cls := 2, island := 58, detail := 5, force := .none }
  | .hearthSram => s.hearthFault 9
  | .ispFifo =>
    (s.truncate (idx % 4) 3).fault { code := 0xC07, cls := 2, island := 57, detail := 7, force := .none }
  | .atlas =>
    (s.modTrust fun t => { t with resBad := if idx % 4 ∈ t.resBad then t.resBad else t.resBad ++ [idx % 4] }).fault
      { code := 0xC08, cls := 2, island := 40, detail := 4096 * (idx % 4), force := .ss1Chan (idx % 4) }

/-- Whether an area of the shared SRAM is powered (R622): in STANDBY the plane cache is off. -/
def State.sramOn (s : State) (area : SramArea) : Bool := s.power.rails && (s.power.standby != 3 || area != .planeCache)

/-- SRAM_PATROL_SCRUB (R430, R431). -/
def execSramPatrolScrub (area : SramArea) (idx : Nat) (ecc : Ecc) (s : State) : Host.Outcome State Fault Refusal :=
  .next (if !s.sramOn area then s
    else match ecc with
      | .clean => s
      | .corrected => s.modDram fun d => { d with sCorr := w32 (d.sCorr + 1) }
      | .uncorrectable => (s.modDram fun d => { d with sUncorr := sat 16 (d.sUncorr + 1) }).sramUe area idx)

/-- RESOURCE_RELOAD_DONE (R431): the drawing resources are there again. -/
def execResourceReloadDone (s : State) : Host.Outcome State Fault Refusal :=
  .next (s.modTrust fun t => { t with resBad := [] })

end Sys2Proof.Machine
end

