-- ==== Sys2Proof/Machine/Power.lean ====
section
/-! DEFINITION. Starts, supplies, power states and heat: the three kinds of start, what follows the supplies and PERST#,
STANDBY, throttling and thermal stops (R358, R389, R517, R518, R531, R552, R581, R618 to R638, R640 to R653). -/
namespace Sys2Proof.Machine

/-! ### A start (R640 to R643) -/

/-- What a start keeps of Cellar: its log and counts. SS4 ends, recoveries give way to the start, and SS3 stays where an
FC4 fault forced it (R580), except where that was a step on the way into SS4 (R620, R634). The point image follows the
point table. -/
def Cellar.restarted (c : Cellar) (now : Nat) (pts : Table Point) : Cellar :=
  { Cellar.reset with
    log := c.log, logSeq := c.logSeq, mirror := c.mirror, fc2 := c.fc2, fc3 := c.fc3, fc4 := c.fc4,
    escalations := c.escalations, lastFc3 := c.lastFc3, forcedCkpt := c.forcedCkpt, ss4Entries := c.ss4Entries,
    ss4Times := c.ss4Times, viol := c.viol, violTotal := c.violTotal, lastUe := c.lastUe, faultIn := c.faultIn,
    ss3 := c.ss3.filter fun d => d.fc4 && d.code != 0xF15 && d.code != 0xF01,
    image := (pts.filter fun e => e.2.received).map fun e => (e.1, (e.2.value, e.2.birth, e.2.flags)),
    ctlRuns := true, safeLow := true, psafeAll := false, heartbeat := c.heartbeat, hbAt := now }

/-- Cellar after a cold start: the log is lost, and MRAM gives the mirror, LOG_SEQ and the count of SS4 entries. -/
def Cellar.cold (c : Cellar) (m : Mram) : Cellar :=
  { Cellar.reset with
    logSeq := m.logSeq, mirror := (m.mirror.newest.map (·.val)).getD [], ss4Entries := (m.ss4.newest.map (·.val.1)).getD 0,
    faultIn := c.faultIn, ctlRuns := true, safeLow := true, psafeAll := false }

/-- Threshold at a start: fuses and identity, the owner state record, a new BOOT_ID (R534), no session; a warm start keeps
the point table (R642). The images of the Transom store's messages stay unless VAUX was lost. -/
def State.trustStart (s : State) (kind : Nat) : Trust :=
  let t := s.trust
  let o := s.ownerRecs.newest
  { Trust.factory with
    lifecycle := if s.identRec.isSome then t.lifecycle else 3, identity := t.identity && s.identRec.isSome, serial := t.serial, chain := t.chain, root1 := t.root1,
    fusedVer := t.fusedVer, bootN := t.bootN + 1,
    bootId := (List.range 32).map fun k => Config.entropy (32 * (t.bootN + 1) + k),
    ownerKey := o.bind (·.val.1), counter := (o.map (·.val.2)).getD 0, points := if kind = 2 then t.points else [],
    msgSs3 := if kind = 0 then none else t.msgSs3, msgSs4 := if kind = 0 then none else t.msgSs4 }

/-- The live sets that a start restores from MRAM, with their shadow copies: CAL (R408); TRM is `trRestore`'s. -/
def State.restoreCal (s : State) : State :=
  let m := s.calRestored
  let put := fun (a : State) (o : OutId) =>
    { a.modLanding (42 + o.num) (fun l => l.setLive .cal o 0 m) with
      commits := { a.commits with newest := putNewest a.commits.newest 0 .cal o 0 m } }
  let s := s.outs.foldl put s
  let src := fun (o : OutId) => fld (regGet s.variant .cal m (0x40 * o.num)) 0 2
  { s with shadow := (s.shadow.filter fun e => e.1 != .cal) ++ (if m = [] then [] else [(.cal, m)]),
           calib := { s.calib with dirs := (s.mram.calCfg.newest.map (·.val.dirs)).getD 0, rampA := { Ramp.reset with source := src .A, origin := src .A },
                                   rampB := { Ramp.reset with source := src .B, origin := src .B } } }

/-- What a start of a kind, 0 cold, 1 main, 2 warm, leaves before anything is restored (R640): everything but what the kind
keeps is at its reset value. -/
def State.afresh (s : State) (kind : Nat) : State :=
  let now := if kind = 0 then 0 else s.clk
  let p := s.power
  let trust := s.trustStart kind
  { State.reset with
    pending := s.pending, variant := s.variant, clk := now, free := s.free, mram := s.mram,
    trust := { trust with sweepUs := now / 25, admitUs := now / 25 },
    landings := (List.range 64).map fun n =>
      let l := Landing.reset (s.variant.hasIsland n)
      if kind ≠ 0 ∧ (n = 54 ∨ n = 61) then
        { l with pllLocked := (s.landing n).pllLocked, lossCount := (s.landing n).lossCount }
      else l,
    cellar := if kind = 0 then s.cellar.cold s.mram else s.cellar.restarted (now / 25) trust.points,
    transom := { s.transom with loading := [], hold := true, release := false },
    sensors := if kind = 0 then State.reset.sensors else s.sensors,
    ring := Ring.reset ((s.mram.ringId.newest.map (·.val)).getD 0),
    power := { Power.reset with
      vauxValid := true, vauxMv := p.vauxMv, vmainValid := p.vmainValid, vmainMv := p.vmainMv, perst := p.perst,
      perstAt := p.perstAt, startKind := kind, startClk := now, vmainClk := p.vmainClk, thermStop := p.thermStop,
      lockout := p.lockout && kind != 0 } }

/-- The live and shadow TRM sets lie in the Transom store and stand as they were (R330). -/
def State.keepTrm (r s : State) : State :=
  let trm := s.liveMap 61 .trm .A
  let r := r.modLanding 61 fun l => l.setLive .trm .A 0 trm
  { r with commits := { r.commits with newest := putNewest r.commits.newest 0 .trm .A 0 trm },
           shadow := r.shadow ++ s.shadow.filter fun e => e.1 == Blk.trm }

/-- A start of a kind (R640): the state afresh, with what MRAM restores. The power-loss procedure, where one still runs,
ends with its own settings first (R360). -/
def State.restart (s : State) (kind : Nat) : State :=
  let r := s.afresh kind
  let r := if kind = 0 then { r with transom := { r.transom with frameAt := 0, rampAt := 0 } } else r
  let r := (r.domainsOff [54, 61]).restoreCal.noteLifts
  let seed := s.lv .cpt .A 8
  let r := if kind = 0 then [54, 61].foldl (fun a k => a.modLanding k fun l => l.relock seed k) r else r
  if kind = 0 ∨ s.transom.powerLoss = true then
    if s.transom.powerLoss && !s.transom.lossOver then
      (r.keepTrm s).modTrm fun t => { t with restoreWait := true }
    else r.trRestore
  else r.keepTrm s

/-- Every module sensor reads at least 20 °C below its throttle threshold (R637). -/
def State.modulesCool (s : State) : Bool :=
  [64, 65, 66, 67].all fun n => !(s.sensor n).noSample && s.reading n ≤ throttleAt n - 320

/-- Where a start goes on from Cellar: after a thermal stop R637 is met first; then the rails are sequenced, the domains are
switched on, and every PLL begins a lock sequence (R24, R643). -/
def State.goRails (s : State) : State :=
  if s.power.thermStop && !s.modulesCool then s.modPower fun p => { p with thermWait := true }
  else
    let seed := s.lv .cpt .A 8
    { s with power := { s.power with rails := true, thermWait := false, thermStop := false },
             landings := s.landings.mapIdx fun k l =>
               if l.present ∧ k ≠ 54 ∧ k ≠ 61 then l.relock seed k else l }

/-! ### VAUX (R552, R619, R620, R638, R643) -/

/-- VAUX_VALID (R619, R643): a cold start. -/
def execVauxValid (mv : Nat) (s : State) : Host.Outcome State Fault Refusal :=
  .next (if s.power.vauxValid ∨ mv < 2700 then s
    else (s.restart 0).modPower fun p => { p with vauxMv := mv, vmainValid := false })

/-- VAUX_INVALID (R619, R620): Cellar is held in reset, SAFE_OUT driven low, HEARTBEAT low (R551). The power-loss procedure
of the Transom, where one runs, goes on. -/
def execVauxInvalid (mv : Nat) (s : State) : Host.Outcome State Fault Refusal :=
  .next (if !s.power.vauxValid || 2700 ≤ mv then s
    else
      let s := if s.power.powerFail then s.enterSs4 false false else s
      let s := ((s.dropCommands.boxesReset.domainsOff []).unpowered).modCellar fun c =>
        { c with ctlRuns := false, safeLow := true, heartbeat := false, psafeAll := true }
      (s.modPower fun p => { p with vauxValid := false, vauxMv := mv, vmainValid := false, rails := false, hearth := false,
                                    endpoint := false, ready := false }).drivePsafe)

/-- VAUX_RAIL_BELOW_1V5 (R552): SAFE_OUT is released; the Transom engine has no supply left. -/
def execVauxRailBelow1v5 (mv : Nat) (s : State) : Host.Outcome State Fault Refusal :=
  .next (if s.power.vauxValid ∨ 1500 ≤ mv then s
    else (s.modPower fun p => { p with safeOutOff := true, vauxMv := mv }).modTrm fun _ => .reset)

/-- POWER_FAIL (R620): the land voltage lies 100 mV below the internal rail, or below 2.8 V. SS3 without its message; the
Transom's power-loss procedure begins. -/
def execPowerFail (mv : Nat) (s : State) : Host.Outcome State Fault Refusal :=
  .next (if !s.power.vauxValid || s.power.powerFail || (2800 ≤ mv && s.power.vauxMv < mv + 100) then s
    else
      let s := s.modPower fun p => { p with powerFail := true }
      let s := s.trPowerFail
      (s.fault { code := 0xF15, cls := 4, island := 255, detail := 0, force := .ss3Quiet }).lossEnds)

/-- VAUX_LOW (R638): below 3.0 V for 1 s while valid. -/
def execVauxLow (mv : Nat) (s : State) : Host.Outcome State Fault Refusal :=
  .next (if !s.power.vauxValid || 3000 ≤ mv then s
    else (s.modPower fun p => { p with vauxMv := mv }).fault
      { code := 0xF14, cls := 2, island := 255, detail := 0, force := .none })

/-! ### VMAIN (R618, R621, R636) -/

/-- A stop's shutdown record (R636). -/
def State.shutdownRecord (s : State) (cause orderly n : Nat) (temp rise : Int) : State :=
  let stops := (s.mram.shutdown.newest.map (·.val.stops)).getD 0
  let r : Shutdown :=
    { cause := cause, orderly := orderly, sensor := n, step := s.stepLive, temp := temp, rise := rise, time := s.us,
      frame := s.outA.frameNum, stops := w32 (stops + 1) }
  s.modMram fun m => { m with shutdown := m.shutdown.write s.us r }

/-- OFF-HOLD (R621): SS4 with DISPLAY NOT VALID, which does not count towards the limit of R581. -/
def State.goOffHold (s : State) : State := (s.enterSs4 true false).modPower fun p => { p with offHold := true }

/-- One cycle of the 25 MHz crystal with no command waiting: Cellar time runs while VAUX is valid (R218, R619), and 100 ms
after VAUX became valid without VMAIN the controller is in OFF-HOLD (R643). -/
def State.tick (s : State) : State :=
  let t := idle s
  if t.power.vauxValid && !t.power.vmainValid && !t.power.offHold && 2500000 ≤ t.clk then t.goOffHold else t

/-- VMAIN_VALID (R618, R640, R643): a cold start goes on; or a main start begins. After three entries into SS4 within
10 minutes nothing starts (R581). -/
def execVmainValid (mv : Nat) (s : State) : Host.Outcome State Fault Refusal :=
  .next (if !s.power.vauxValid || s.power.vmainValid || mv < 10800 then s
    else
      let first := s.power.startKind = 0 ∧ s.power.offHold = false ∧ s.cellar.ss4 = false ∧ s.power.rails = false
      let s := s.modPower fun p => { p with vmainValid := true, vmainMv := mv, vmainClk := s.clk, offHold := false }
      if s.power.lockout then s
      else if first then s.goRails
      else (s.restart 1).goRails)

/-- VMAIN_LOST (R618, R621, R638). -/
def execVmainLost (mv : Nat) (s : State) : Host.Outcome State Fault Refusal :=
  .next (if !s.power.vauxValid || !s.power.vmainValid || 10500 ≤ mv then s
    else
      let s := s.modPower fun p => { p with vmainValid := false, vmainMv := mv }
      (s.fault { code := 0xF10, cls := 0, island := 255, detail := 0, force := .ss4Off }).modPower fun p => { p with offHold := true })

/-- VMAIN_RANGE_FAULT (R618). -/
def execVmainRangeFault (mv : Nat) (s : State) : Host.Outcome State Fault Refusal :=
  .next (if !s.power.vmainValid || !((10500 ≤ mv && mv < 10800) || (13200 < mv && mv ≤ 14000)) then s
    else (s.modPower fun p => { p with vmainMv := mv }).fault
      { code := 0xF11, cls := 2, island := 255, detail := 0, force := .none })

/-- VMAIN_OVERVOLTAGE (R618, R636). -/
def execVmainOvervoltage (mv : Nat) (s : State) : Host.Outcome State Fault Refusal :=
  .next (if !s.cellar.ctlRuns || mv ≤ 14000 then s
    else
      let s := s.modPower fun p => { p with vmainMv := mv }
      (s.shutdownRecord 5 0 64 (s.reading 64) (s.riseOf 64)).fault
        { code := 0xF12, cls := 4, island := 255, detail := 0, force := .ss4 })

/-- REGULATOR_FAULT (R618, R636): a regulator output outside ±5 %. -/
def execRegulatorFault (mv : Nat) (s : State) : Host.Outcome State Fault Refusal :=
  .next (if !s.cellar.ctlRuns || !s.power.rails then s
    else (s.shutdownRecord 6 0 64 (s.reading 64) (s.riseOf 64)).fault
      { code := 0xF13, cls := 4, island := 255, detail := mv, force := .ss4 })

/-! ### PERST# (R581, R640, R641) -/

/-- PERST_ASSERT (R641): in SS4, or while VMAIN is valid and the endpoint is ready, every island but IS54 and IS61 is held
in reset behind PSAFE, with SAFE_OUT low and the Transom held; in SS4 nothing of it shows. During a start it holds only
the endpoint. -/
def execPerstAssert (s : State) : Host.Outcome State Fault Refusal :=
  .next (if s.power.perst then s
    else
      let s1 := s.modPower fun p => { p with perst := true, perstAt := s.clk }
      if s.cellar.ss4 then s1.modPower fun p => { p with perstApplied := true }
      else if s.power.vmainValid && s.power.endpoint then
        let s1 := (List.range 32).foldl State.requeue s1
        let s1 := (s1.dropCommands.boxesReset.unpowered).modCellar fun c => { c with psafeAll := true, safeLow := true }
        let s1 := { s1 with
          landings := s1.landings.mapIdx fun k l => if k = 54 ∨ k = 61 then l else { l with inProtocol := false },
          transom := if s1.transom.powerLoss then s1.transom else { s1.transom with hold := true, release := false } }
        (s1.modPower fun p => { p with perstApplied := true, endpoint := false, ready := false, hearth := false }).drivePsafe
      else s1.modPower fun p => { p with endpoint := false })

/-- PERST_DEASSERT (R581, R640, R641): a warm start after an assertion to which R641 applied, in SS4 only after 100 ms and
not beyond the limit of R581. -/
def execPerstDeassert (s : State) : Host.Outcome State Fault Refusal :=
  .next (if !s.power.perst then s
    else
      let long := s.power.perstAt + 2500000 ≤ s.clk
      let s1 := s.modPower fun p => { p with perst := false, perstApplied := false, perstAt := s.clk }
      if s.power.perstApplied && s.power.vmainValid && (!s.cellar.ss4 || (long && !s.power.lockout)) then
        (s1.restart 2).goRails
      else s1)

/-! ### Boot (R517, R518, R531, R643 to R652) -/

/-- The firmware image that Threshold starts Hearth with, the copy it stands in (0 A, 1 B), and whether it is the
fallback (R517). -/
def State.bootImage (s : State) : Option (FwImage × Nat × Bool) :=
  let fw := s.fwRecs
  let a := fw.a.map fun r => (r.val, 0)
  let b := fw.b.map fun r => (r.val, 1)
  let newA := match fw.a, fw.b with
    | some x, some y => recNewer x y
    | some _, none => true
    | _, _ => false
  let l := if newA then [a, b] else [b, a]
  match l.filterMap id with
  | [] => none
  | x :: xs =>
    if s.fwPasses x.1 then some (x.1, x.2, false)
    else (xs.find? fun y => s.fwPasses y.1).map fun y => (y.1, y.2, true)

/-- BOOT_VERIFY_DONE (R517, R643): Hearth is released, and the links and ring ports begin to train; or the boot has failed.
The audit chain goes on from its tail in MRAM (R543, R545). -/
def execBootVerifyDone (s : State) : Host.Outcome State Fault Refusal :=
  .next (if !s.power.rails || s.power.hearth || s.cellar.ss4 then s
    else match s.bootImage with
      | none => s.fault { code := 0xD01, cls := 4, island := 60, detail := 0, force := .ss4 }
      | some b =>
        let s := s.modTrust fun t => { t with firmware := some b.1, bootCopy := b.2.1, fallback := b.2.2 }
        let s := (s.modPower fun p => { p with hearth := true }).modCellar fun c => { c with hearthAt := s.us }
        let tail := s.tailRecs.newest
        let s := s.modAudit fun a =>
          { a with startDue := some 0, segment := (tail.map (·.val.1)).getD 0,
                   prevHash := (tail.map (·.val.2)).getD (zeros 64) }
        let s := s.outs.foldl (fun a o => a.linkEnLive o) ((s.idlePort 0).idlePort 1)
        ((s.startPort .east).startPort .west).drivePsafe)

/-- R531: a stored package passes R529 again, apart from the VERSION rule; the owner key slot holds its own key, or the one
that its NEXT_KEY put there. -/
def State.storedOk (s : State) (p : Package) : Bool :=
  p.sigOk && s.pkgSound p && s.trust.lifecycle == 2
  && (s.trust.ownerKey == some p.ownerKey || (p.nextKey.isSome && s.trust.ownerKey == p.nextKey))

/-- PACKAGE_CHECK_DONE (R531, R645): a stored package that passes becomes live at frame 1; one that fails is not used, and
CLOSE(1) keeps waiting. -/
def execPackageCheckDone (s : State) : Host.Outcome State Fault Refusal :=
  .next (if !s.power.hearth || s.power.pkgChecked then s
    else
      let done := s.modPower fun p => { p with pkgChecked := true }
      match s.pkgRecs.newest with
      | none => done
      | some r =>
        if s.storedOk r.val then done.modTrust fun t => { t with pending := some r.val, pendDue := 1 } else s)

/-- DRAM_TRAINED (R441, R449, R562, R643): the MEM block's window falls and zeroing begins; a channel that fails is fault
0x0C03. -/
def execDramTrained (ok : Bool) (s : State) : Host.Outcome State Fault Refusal :=
  .next (if !s.power.hearth || s.dram.st != 0 || s.dram.failed then s
    else if ok then
      s.memWindow.modDram fun d =>
        { d with st := 1, mem := [], badWords := [], retrAt := List.replicate 8 s.us,
                 retrTemp := (List.range 8).map fun c => (s.sensor (49 + c / 2)).temp }
    else
      (s.modDram fun d => { d with failed := true }).fault
        { code := 0xC03, cls := 4, island := 255, detail := 0, force := .ss3All })

/-- DRAM_ZEROING_DONE (R441, R450): every requester is granted. -/
def execDramZeroingDone (s : State) : Host.Outcome State Fault Refusal :=
  .next (if s.dram.st = 1 then s.modDram fun d => { d with st := 2 } else s)

/-- ENDPOINT_READY (R651). -/
def execEndpointReady (s : State) : Host.Outcome State Fault Refusal :=
  .next (if s.power.rails && s.power.vmainValid && !s.power.perst && !s.cellar.ss4 then
      s.modPower fun p => { p with endpoint := true }
    else s)

/-- LETTERBOX_READY (R518, R652): READY reads 1; an image of a higher SECURITY_VERSION raises the fused one. -/
def execLetterboxReady (s : State) : Host.Outcome State Fault Refusal :=
  .next (if !s.power.hearth || !s.power.endpoint || s.power.ready then s
    else
      let v := (s.trust.firmware.map (·.secVer)).getD 0
      (s.modPower fun p => { p with ready := true, readyUs := s.us }).modTrust fun t =>
        { t with fusedVer := max t.fusedVer v })

/-- VERIFY_TIMEOUT (R649): ACTIVE for 2 s without a verified frame. -/
def execVerifyTimeout (o : OutId) (s : State) : Host.Outcome State Fault Refusal :=
  let x := s.out o
  .next (if (s.link o).st ≠ .active || x.verified || x.knownV || s.cellar.ss3.any (fun d => d.out == o && d.code == 0xE09) then s
    else (s.atUs (x.activeAt + 2000000)).fault
      { code := 0xE09, cls := 2, island := 44 + o.num, detail := 0, force := .ss3 o })

/-! ### STANDBY (R450, R622, R623) -/

/-- STANDBY_REACHED (R623): the frame in progress on each output has ended; every domain outside STANDBY is off, DRAM is in
self-refresh, and what was prepared for the next frame is given up. -/
def execStandbyReached (s : State) : Host.Outcome State Fault Refusal :=
  .next (if s.power.standby ≠ 2 ∨ s.power.stdFrames ≠ [] then s
    else
      let o := fun (x : Output) =>
        { x with prepFrame := w32 (x.frameNum + 1), prepY := 0, regions := [],
                 frames := x.frames.filter fun i => i.frame == x.frameNum }
      let a := s.outA.frameNum
      let b := s.outB.frameNum
      let s := ((s.domainsOff [48, 53, 54, 60, 61, 62, 63]).unpowered)
      let s := (List.range 4).foldl (fun a p => a.idlePort p) s
      let s := { s with
        outA := o s.outA, outB := o s.outB,
        landings := s.landings.map fun (l : Landing) => { l with swapA := a, swapB := b },
        commits := { s.commits with
          doors := s.commits.doors.map fun (d : OutId × Door) =>
            (d.1, { d.2 with closeN := (s.out d.1).frameNum, swapN := (s.out d.1).frameNum, closing := false }),
          pend := s.commits.pend.map fun (p : Pend) =>
            { p with fixA := p.fixA.filter fun n => !ahead n a, fixB := p.fixB.filter fun n => !ahead n b } },
        power := { s.power with standby := 3 },
        dram := { s.dram with st := 3 } }
      s.drivePsafe)

/-! ### Heat (R628 to R637) -/

/-- The group of a sensor (R630). -/
def sensorGroup (n : Nat) : List Nat :=
  if n < 32 then List.range 32 else if n < 48 then (List.range 16).map (· + 32)
  else if n < 64 then (List.range 16).map (· + 48) else [64, 65, 66, 67]

/-- Sorted insertion. -/
def insertInt (x : Int) : List Int → List Int
  | [] => [x]
  | y :: ys => if x ≤ y then x :: y :: ys else y :: insertInt x ys

/-- The median of a list: of an even number, the mean of the middle two. -/
def medianOf (xs : List Int) : Int :=
  let l := xs.foldl (fun a x => insertInt x a) []
  let n := l.length
  if n % 2 = 1 then l.getD (n / 2) 0 else (l.getD (n / 2 - 1) 0 + l.getD (n / 2) 0) / 2

/-- The median of a sensor's group, over the sensors that give samples. -/
def State.groupMedian (s : State) (n : Nat) : Int :=
  medianOf (((sensorGroup n).filter fun k => !(s.sensor k).noSample).map fun k => (s.sensor k).temp)

/-- A sensor after a sample, its rise over 50 samples (500 ms), and the counts of R630 against the group's median. -/
def Sensor.sample (x : Sensor) (t med : Int) : Sensor :=
  let rise := if x.hist.length < 50 then 0 else 2 * (t - x.hist.headD t)
  let rep := !x.noSample && t == x.temp
  let same := if rep then x.same + 1 else 1
  let medAt := if rep then x.medAt else med
  let far := if 240 < (t - med).natAbs then x.far + 1 else 0
  let bad := decide (t < -800) || decide (2400 < t) || (decide (500 ≤ same) && decide (32 ≤ (med - medAt).natAbs))
    || decide (100 ≤ far)
  let good := if bad then 0 else x.good + 1
  { x with temp := t, hist := (x.hist ++ [t]).drop (x.hist.length + 1 - 50), same := same, medAt := medAt, far := far,
           good := good, broken := bad || (x.broken && decide (good < 6000)), noSample := false, rise := rise }

/-- A throttle request condition of a sensor (R629). -/
def State.reqCond (s : State) (n : Nat) : Bool := decide (throttleAt n ≤ s.reading n) || decide (48 ≤ s.riseOf n)

/-- Whether a group is critical: more than a quarter of its sensors are broken (R630); a sensor whose domain is off is
not judged (R628). -/
def State.groupBroken (s : State) (n : Nat) : Bool :=
  let g := (sensorGroup n).filter fun k => 64 ≤ k || (s.landing k).present
  g.length < 4 * (g.filter fun k => (s.sensor k).broken && !(s.sensor k).noSample).length

/-- The cut-off threshold of a sensor (R629). -/
def cutOffAt (n : Nat) : Int := if n < 64 then 1840 else 1760

/-- The cause of a critical condition of a sensor, if one holds: 1 temperature, 2 rise, 3 broken group (R629, R636). -/
def State.critical (s : State) (n : Nat) : Option Nat :=
  if (if n < 64 then 1760 else 1680) ≤ s.reading n then some 1
  else if 240 ≤ s.riseOf n then some 2
  else if s.groupBroken n then some 3 else none

/-- A critical condition (R634): an orderly stop, SS3 first, where 100 ms are left before cut-off; else SS4 at once. -/
def State.thermalStop (s : State) (n cause : Nat) : State :=
  let t := s.reading n
  let r := s.riseOf n
  let orderly := r ≤ 0 || r ≤ 10 * (cutOffAt n - t)
  let s := if orderly then s.dark s.outs 0xF01 true true else s
  let s := (s.shutdownRecord cause (b2n orderly) n t r).modPower fun p => { p with thermStop := true }
  s.fault { code := 0xF01, cls := 4, island := if n < 64 then n else 255, detail := n, force := .ss4 }

/-- GRACE_MS, live, in µs. -/
def State.graceUs (s : State) : Nat := fld (s.lv .cpt .A 4) 0 15 * 1000

/-- A throttle request (R631): the next step, the sensor and its reading, and the grace time. -/
def State.requestStep (s : State) (n : Nat) : State :=
  let k := s.power.stepLive + 1
  (s.modPower fun p => { p with reqs := sat 16 (p.reqs + 1), stepReq := min 2 k, graceEnd := some (s.us + s.graceUs) }).eventAll
    0x8F00 (leBytes 1 k ++ leBytes 1 n ++ leBytes 2 (unsgn 16 (s.reading n)) ++ leBytes 4 (s.graceUs / 1000))

/-- Every sensor is at least 5 °C below its throttle threshold, with its rise below 1 °C/s (R632). -/
def State.coolNow (s : State) : Bool :=
  s.sampled.all fun n => decide (s.reading n ≤ throttleAt n - 80) && decide (s.riseOf n < 16)

/-- SENSOR_SAMPLE (R628 to R634, R637). -/
def execSensorSample (n : Nat) (t : Int) (s : State) : Host.Outcome State Fault Refusal :=
  .next (
    if 68 ≤ n ∨ s.cellar.ctlRuns = false ∨ (n < 64 ∧ (s.landing n).powered = false) ∨ (s.sensor n).cal = true then s
    else
      let was := (s.sensor n).broken
      let first := s.modSensor n fun x => { x with temp := t, noSample := false }
      let s := s.modSensor n fun x => x.sample t (first.groupMedian n)
      let s := if (s.sensor n).broken && !was then
          s.fault { code := 0xF03, cls := 2, island := if n < 64 then n else 255, detail := n, force := .none }
        else s
      let s := s.modPower fun p => { p with coolAt := if s.coolNow then some (p.coolAt.getD s.us) else none }
      if s.power.thermWait then (if s.modulesCool then s.goRails else s)
      else if s.cellar.ss4 || !s.power.rails then s
      else match s.critical n with
        | some cause => s.thermalStop n cause
        | none =>
          if s.reqCond n && s.power.graceEnd.isNone && s.power.stepLive == 0 then s.requestStep n else s)

/-- R86, R633: some output's load can still be lowered by the next step; in locked operation output A's settings are the
whole panel's (R60, R70, R73). -/
def State.canLower (s : State) : Bool :=
  s.power.stepLive < 2 && (s.ownOuts s.locked).any fun o =>
    let g := s.liveSettings
    let m := g.mode o
    let code := slotStep1 g o (s.out o).zone
    liveDiv code m s.power.stepLive != liveDiv code m (s.power.stepLive + 1)

/-- GRACE_EXPIRY (R631, R633): the step is enforced, at each output's next doorway, while a sensor is within 2 °C of its
threshold or a rise still 3 °C/s; otherwise the request lapses. -/
def execGraceExpiry (s : State) : Host.Outcome State Fault Refusal :=
  .next (match s.power.graceEnd with
    | none => s
    | some t =>
      let s := (s.atUs t).modPower fun p => { p with graceEnd := none, stepReq := 0 }
      let hot := s.sampled.any fun n => decide (throttleAt n - 32 ≤ s.reading n) || decide (48 ≤ s.riseOf n)
      if hot && s.canLower then
        s.modPower fun p => { p with stepLive := p.stepLive + 1, enforced := sat 16 (p.enforced + 1), stepAt := s.us,
                                     coolAt := none }
      else s)

/-- THROTTLE_STEP_TIMER (R632): after 10 s of the cool condition a step is removed; after 10 s at a step, with a request
condition holding, the next is requested. -/
def execThrottleStepTimer (s : State) : Host.Outcome State Fault Refusal :=
  .next (if s.power.stepLive = 0 then s
    else match s.power.coolAt with
      | some t =>
        let s := s.atUs (t + 10000000)
        s.modPower fun p => { p with stepLive := p.stepLive - 1, stepAt := s.us, coolAt := some s.us }
      | none =>
        match s.power.graceEnd, s.sampled.find? s.reqCond with
        | none, some n => (s.atUs (s.power.stepAt + 10000000)).requestStep n
        | _, _ => s)

/-- THERMAL_CUTOFF (R635): every domain but PD58 off, SS4, code 0x0F02, the shutdown record. -/
def execThermalCutoff (n : Nat) (s : State) : Host.Outcome State Fault Refusal :=
  .next (if !s.cellar.ctlRuns || 68 ≤ n then s
    else
      let s := (s.domainsOff [54, 61]).unpowered
      let s := s.fault { code := 0xF02, cls := 4, island := if n < 64 then n else 255, detail := n, force := .ss4 }
      (s.shutdownRecord 4 0 n (s.reading n) (s.riseOf n)).modPower fun p => { p with thermStop := true })

/-- SENSOR_OFFSET_CAL (R389): while a sensor's offset is calibrated it repeats its previous reading, which is no sample. -/
def execSensorOffsetCal (n : Nat) (done : Bool) (s : State) : Host.Outcome State Fault Refusal :=
  .next (if s.cellar.ctlRuns then s.modSensor n fun x => { x with cal := !done } else s)

end Sys2Proof.Machine
end

