-- ==== Sys2Proof/Machine/Dispatch.lean ====
section
/-! DEFINITION. The meaning of every command, one arm for each row of the opcode table. -/
namespace Sys2Proof.Machine

def exec (i : Instr) (s : State) : Host.Outcome State Fault Refusal :=
  match i with
  | .getInfo f => Sys2Proof.Machine.execGetInfo f s
  | .getStatus f => Sys2Proof.Machine.execGetStatus f s
  | .commit f => Sys2Proof.Machine.execCommit f s
  | .writeFields f => Sys2Proof.Machine.execWriteFields f s
  | .readFields f => Sys2Proof.Machine.execReadFields f s
  | .submitOps f => Sys2Proof.Machine.execSubmitOps f s
  | .setStream f => Sys2Proof.Machine.execSetStream f s
  | .getScene f => Sys2Proof.Machine.execGetScene f s
  | .setMode f => Sys2Proof.Machine.execSetMode f s
  | .getMode f => Sys2Proof.Machine.execGetMode f s
  | .setLayer f => Sys2Proof.Machine.execSetLayer f s
  | .setChannel f => Sys2Proof.Machine.execSetChannel f s
  | .setAuditChain f => Sys2Proof.Machine.execSetAuditChain f s
  | .openSession f => Sys2Proof.Machine.execOpenSession f s
  | .closeSession f => Sys2Proof.Machine.execCloseSession f s
  | .submitPoints f => Sys2Proof.Machine.execSubmitPoints f s
  | .setScanout f => Sys2Proof.Machine.execSetScanout f s
  | .getLink f => Sys2Proof.Machine.execGetLink f s
  | .retrain f => Sys2Proof.Machine.execRetrain f s
  | .transomUpdate f => Sys2Proof.Machine.execTransomUpdate f s
  | .getTransom f => Sys2Proof.Machine.execGetTransom f s
  | .i2cXfer f => Sys2Proof.Machine.execI2cXfer f s
  | .setViewers f => Sys2Proof.Machine.execSetViewers f s
  | .setCal f => Sys2Proof.Machine.execSetCal f s
  | .applyCal f => Sys2Proof.Machine.execApplyCal f s
  | .getCal f => Sys2Proof.Machine.execGetCal f s
  | .submitBlit f => Sys2Proof.Machine.execSubmitBlit f s
  | .getPool f => Sys2Proof.Machine.execGetPool f s
  | .setPool f => Sys2Proof.Machine.execSetPool f s
  | .getIdentity f => Sys2Proof.Machine.execGetIdentity f s
  | .attest f => Sys2Proof.Machine.execAttest f s
  | .installPackage f => Sys2Proof.Machine.execInstallPackage f s
  | .setLifecycle f => Sys2Proof.Machine.execSetLifecycle f s
  | .readViolations f => Sys2Proof.Machine.execReadViolations f s
  | .updateFirmware f => Sys2Proof.Machine.execUpdateFirmware f s
  | .getFaults f => Sys2Proof.Machine.execGetFaults f s
  | .recover f => Sys2Proof.Machine.execRecover f s
  | .setRing f => Sys2Proof.Machine.execSetRing f s
  | .getRing f => Sys2Proof.Machine.execGetRing f s
  | .setPower f => Sys2Proof.Machine.execSetPower f s
  | .getThermal f => Sys2Proof.Machine.execGetThermal f s
  | .registerWrite f bar off data => Sys2Proof.Machine.execRegisterWrite f bar off data s
  | .expertWindowReadDenied f off size => Sys2Proof.Machine.execExpertWindowReadDenied f off size s
  | .timeLoRead f => Sys2Proof.Machine.execTimeLoRead f s
  | .sqTail f val entries => Sys2Proof.Machine.execSqTail f val entries s
  | .cqHead f val => Sys2Proof.Machine.execCqHead f val s
  | .eqHead f val => Sys2Proof.Machine.execEqHead f val s
  | .sqEn f on => Sys2Proof.Machine.execSqEn f on s
  | .cqEn f on => Sys2Proof.Machine.execCqEn f on s
  | .eqEn f on => Sys2Proof.Machine.execEqEn f on s
  | .retrainWrite f word => Sys2Proof.Machine.execRetrainWrite f word s
  | .recalNow f port word => Sys2Proof.Machine.execRecalNow f port word s
  | .mgmtI2cTransfer index wdata rlen => Sys2Proof.Machine.execMgmtI2cTransfer index wdata rlen s
  | .configRequest f off wdata => Sys2Proof.Machine.execConfigRequest f off wdata s
  | .functionLevelReset f => Sys2Proof.Machine.execFunctionLevelReset f s
  | .vectorCoalesceExpiry f ring => Sys2Proof.Machine.execVectorCoalesceExpiry f ring s
  | .vauxValid mv => Sys2Proof.Machine.execVauxValid mv s
  | .vauxInvalid mv => Sys2Proof.Machine.execVauxInvalid mv s
  | .powerFail mv => Sys2Proof.Machine.execPowerFail mv s
  | .vmainValid mv => Sys2Proof.Machine.execVmainValid mv s
  | .vmainLost mv => Sys2Proof.Machine.execVmainLost mv s
  | .vmainRangeFault mv => Sys2Proof.Machine.execVmainRangeFault mv s
  | .vmainOvervoltage mv => Sys2Proof.Machine.execVmainOvervoltage mv s
  | .regulatorFault mv => Sys2Proof.Machine.execRegulatorFault mv s
  | .vauxLow mv => Sys2Proof.Machine.execVauxLow mv s
  | .perstAssert => Sys2Proof.Machine.execPerstAssert s
  | .perstDeassert => Sys2Proof.Machine.execPerstDeassert s
  | .faultIn low => Sys2Proof.Machine.execFaultIn low s
  | .heartbeatToggle => Sys2Proof.Machine.execHeartbeatToggle s
  | .bootVerifyDone => Sys2Proof.Machine.execBootVerifyDone s
  | .packageCheckDone => Sys2Proof.Machine.execPackageCheckDone s
  | .dramTrained ok => Sys2Proof.Machine.execDramTrained ok s
  | .dramZeroingDone => Sys2Proof.Machine.execDramZeroingDone s
  | .bankCopyDone => Sys2Proof.Machine.execBankCopyDone s
  | .endpointReady => Sys2Proof.Machine.execEndpointReady s
  | .letterboxReady => Sys2Proof.Machine.execLetterboxReady s
  | .verifyTimeout o => Sys2Proof.Machine.execVerifyTimeout o s
  | .doorwayClose o => Sys2Proof.Machine.execDoorwayClose o s
  | .doorwaySwap o => Sys2Proof.Machine.execDoorwaySwap o s
  | .landingSwap isl o => Sys2Proof.Machine.execLandingSwap isl o s
  | .landingTimeout isl o => Sys2Proof.Machine.execLandingTimeout isl o s
  | .bandPrepStart o y => Sys2Proof.Machine.execBandPrepStart o y s
  | .bandPrepDone o y c => Sys2Proof.Machine.execBandPrepDone o y c s
  | .frontPlaneRow o y c flip => Sys2Proof.Machine.execFrontPlaneRow o y c flip s
  | .expectationDone o r flip => Sys2Proof.Machine.execExpectationDone o r flip s
  | .signatureCompare o r => Sys2Proof.Machine.execSignatureCompare o r s
  | .signatureDeadline o r => Sys2Proof.Machine.execSignatureDeadline o r s
  | .prepBudgetSpent o => Sys2Proof.Machine.execPrepBudgetSpent o s
  | .spanDispatch slice => Sys2Proof.Machine.execSpanDispatch slice s
  | .spanComplete slice => Sys2Proof.Machine.execSpanComplete slice s
  | .spanWatchdog slice => Sys2Proof.Machine.execSpanWatchdog slice s
  | .rowPacing o => Sys2Proof.Machine.execRowPacing o s
  | .frameStart o => Sys2Proof.Machine.execFrameStart o s
  | .forcedStart o => Sys2Proof.Machine.execForcedStart o s
  | .frameEnd o => Sys2Proof.Machine.execFrameEnd o s
  | .deskewSlotDue p => Sys2Proof.Machine.execDeskewSlotDue p s
  | .tePinChange o level => Sys2Proof.Machine.execTePinChange o level s
  | .teMsg o block => Sys2Proof.Machine.execTeMsg o block s
  | .teTimeout o => Sys2Proof.Machine.execTeTimeout o s
  | .trainReport o block => Sys2Proof.Machine.execTrainReport o block s
  | .capsMsg o block => Sys2Proof.Machine.execCapsMsg o block s
  | .crcEcho o block => Sys2Proof.Machine.execCrcEcho o block s
  | .statusMsg o block => Sys2Proof.Machine.execStatusMsg o block s
  | .linkQuality o block => Sys2Proof.Machine.execLinkQuality o block s
  | .backchannelLoss o => Sys2Proof.Machine.execBackchannelLoss o s
  | .echoTimeout o => Sys2Proof.Machine.execEchoTimeout o s
  | .panelFaultClear o => Sys2Proof.Machine.execPanelFaultClear o s
  | .trainPhaseTimeout o => Sys2Proof.Machine.execTrainPhaseTimeout o s
  | .trainDeskewRepeat o => Sys2Proof.Machine.execTrainDeskewRepeat o s
  | .panelRstRelease o => Sys2Proof.Machine.execPanelRstRelease o s
  | .linkRetryCycle o => Sys2Proof.Machine.execLinkRetryCycle o s
  | .eiExitStart o => Sys2Proof.Machine.execEiExitStart o s
  | .eiExitDone lane => Sys2Proof.Machine.execEiExitDone lane s
  | .eyeRefresh lane eye ctle => Sys2Proof.Machine.execEyeRefresh lane eye ctle s
  | .laneCalDue lane => Sys2Proof.Machine.execLaneCalDue lane s
  | .laneCalStart port => Sys2Proof.Machine.execLaneCalStart port s
  | .laneCalDone lane => Sys2Proof.Machine.execLaneCalDone lane s
  | .laneCalAbort lane => Sys2Proof.Machine.execLaneCalAbort lane s
  | .opsPacket c bytes readOk => Sys2Proof.Machine.execOpsPacket c bytes readOk s
  | .storePauseTimeout c => Sys2Proof.Machine.execStorePauseTimeout c s
  | .storeCompaction => Sys2Proof.Machine.execStoreCompaction s
  | .pointUpdate k engine lanesAgree => Sys2Proof.Machine.execPointUpdate k engine lanesAgree s
  | .pointSweep => Sys2Proof.Machine.execPointSweep s
  | .pointTableRewriteDone => Sys2Proof.Machine.execPointTableRewriteDone s
  | .admissionStart => Sys2Proof.Machine.execAdmissionStart s
  | .sessionAdmission => Sys2Proof.Machine.execSessionAdmission s
  | .auditRecordDone c => Sys2Proof.Machine.execAuditRecordDone c s
  | .auditSeal => Sys2Proof.Machine.execAuditSeal s
  | .blitListStart => Sys2Proof.Machine.execBlitListStart s
  | .blitCopy ue => Sys2Proof.Machine.execBlitCopy ue s
  | .blitFill ue => Sys2Proof.Machine.execBlitFill ue s
  | .blitStretch ue => Sys2Proof.Machine.execBlitStretch ue s
  | .blitBlend ue => Sys2Proof.Machine.execBlitBlend ue s
  | .blitConvert ue => Sys2Proof.Machine.execBlitConvert ue s
  | .camFrameStart port vc => Sys2Proof.Machine.execCamFrameStart port vc s
  | .camLongPacket port pkt => Sys2Proof.Machine.execCamLongPacket port pkt s
  | .camFrameEnd port vc => Sys2Proof.Machine.execCamFrameEnd port vc s
  | .camFrameTimeout port => Sys2Proof.Machine.execCamFrameTimeout port s
  | .camTrig port => Sys2Proof.Machine.execCamTrig port s
  | .pipelineFrameDone pipe => Sys2Proof.Machine.execPipelineFrameDone pipe s
  | .zoneCopyUpdate o => Sys2Proof.Machine.execZoneCopyUpdate o s
  | .viewerHoldExpiry k => Sys2Proof.Machine.execViewerHoldExpiry k s
  | .trackingLost => Sys2Proof.Machine.execTrackingLost s
  | .calPhaseEnd => Sys2Proof.Machine.execCalPhaseEnd s
  | .calMapsBuilt o => Sys2Proof.Machine.execCalMapsBuilt o s
  | .calRampEnd o => Sys2Proof.Machine.execCalRampEnd o s
  | .waveformFrame => Sys2Proof.Machine.execWaveformFrame s
  | .transomLoadDone z => Sys2Proof.Machine.execTransomLoadDone z s
  | .blinkToggle z => Sys2Proof.Machine.execBlinkToggle z s
  | .vcomCalDue => Sys2Proof.Machine.execVcomCalDue s
  | .ntcMeasure ohms => Sys2Proof.Machine.execNtcMeasure ohms s
  | .railGood rail => Sys2Proof.Machine.execRailGood rail s
  | .railEnableTimeout rail => Sys2Proof.Machine.execRailEnableTimeout rail s
  | .railOutOfBand rail => Sys2Proof.Machine.execRailOutOfBand rail s
  | .railsIdleTimeout => Sys2Proof.Machine.execRailsIdleTimeout s
  | .ledgerFlushDone => Sys2Proof.Machine.execLedgerFlushDone s
  | .helloBlk p block => Sys2Proof.Machine.execHelloBlk p block s
  | .ringTrainReport p block => Sys2Proof.Machine.execRingTrainReport p block s
  | .ringTrainTimeout p => Sys2Proof.Machine.execRingTrainTimeout p s
  | .joinRetry p => Sys2Proof.Machine.execJoinRetry p s
  | .pingBlk p block => Sys2Proof.Machine.execPingBlk p block s
  | .pingTimer p => Sys2Proof.Machine.execPingTimer p s
  | .ackBlk p block => Sys2Proof.Machine.execAckBlk p block s
  | .ackTimer p => Sys2Proof.Machine.execAckTimer p s
  | .retxTimeout p => Sys2Proof.Machine.execRetxTimeout p s
  | .tokenReady p block => Sys2Proof.Machine.execTokenReady p block s
  | .tokenStart p block => Sys2Proof.Machine.execTokenStart p block s
  | .headStartSend => Sys2Proof.Machine.execHeadStartSend s
  | .headStartForced => Sys2Proof.Machine.execHeadStartForced s
  | .memberFrameStart => Sys2Proof.Machine.execMemberFrameStart s
  | .startTimeout => Sys2Proof.Machine.execStartTimeout s
  | .isolationTimeout => Sys2Proof.Machine.execIsolationTimeout s
  | .ringPortDown p => Sys2Proof.Machine.execRingPortDown p s
  | .enumTimer => Sys2Proof.Machine.execEnumTimer s
  | .enumPkt p pkt => Sys2Proof.Machine.execEnumPkt p pkt s
  | .scenePkt p pkt => Sys2Proof.Machine.execScenePkt p pkt s
  | .mirrorPkt p pkt => Sys2Proof.Machine.execMirrorPkt p pkt s
  | .relayPkt p pkt => Sys2Proof.Machine.execRelayPkt p pkt s
  | .viewersPkt p pkt => Sys2Proof.Machine.execViewersPkt p pkt s
  | .checkpointByVolume => Sys2Proof.Machine.execCheckpointByVolume s
  | .checkpointDone ok => Sys2Proof.Machine.execCheckpointDone ok s
  | .islandReplayDone isl => Sys2Proof.Machine.execIslandReplayDone isl s
  | .islandRejoinTimeout isl => Sys2Proof.Machine.execIslandRejoinTimeout isl s
  | .pllWindow isl count => Sys2Proof.Machine.execPllWindow isl count s
  | .refEdgeTimeout isl => Sys2Proof.Machine.execRefEdgeTimeout isl s
  | .hearthHeartbeatTimeout => Sys2Proof.Machine.execHearthHeartbeatTimeout s
  | .lockstepMismatch u => Sys2Proof.Machine.execLockstepMismatch u s
  | .crystalStop => Sys2Proof.Machine.execCrystalStop s
  | .crystalDeviation => Sys2Proof.Machine.execCrystalDeviation s
  | .sensorSample n t => Sys2Proof.Machine.execSensorSample n t s
  | .graceExpiry => Sys2Proof.Machine.execGraceExpiry s
  | .throttleStepTimer => Sys2Proof.Machine.execThrottleStepTimer s
  | .thermalCutoff n => Sys2Proof.Machine.execThermalCutoff n s
  | .sensorOffsetCal n done => Sys2Proof.Machine.execSensorOffsetCal n done s
  | .dramRetrain ch => Sys2Proof.Machine.execDramRetrain ch s
  | .dramPatrolScrub addr ecc => Sys2Proof.Machine.execDramPatrolScrub addr ecc s
  | .sramPatrolScrub area idx ecc => Sys2Proof.Machine.execSramPatrolScrub area idx ecc s
  | .blockLockGained lane => Sys2Proof.Machine.execBlockLockGained lane s
  | .blockLockLost lane => Sys2Proof.Machine.execBlockLockLost lane s
  | .backchannelBlockDiscard o => Sys2Proof.Machine.execBackchannelBlockDiscard o s
  | .i2cTransferDone port ackOk rdata => Sys2Proof.Machine.execI2cTransferDone port ackOk rdata s
  | .railOff rail => Sys2Proof.Machine.execRailOff rail s
  | .resourceReloadDone => Sys2Proof.Machine.execResourceReloadDone s
  | .standbyReached => Sys2Proof.Machine.execStandbyReached s
  | .vauxRailBelow1v5 mv => Sys2Proof.Machine.execVauxRailBelow1v5 mv s

end Sys2Proof.Machine
end

