-- ==== Sys2Proof/Safety.lean ====
section
/-! DEFINITION. What counts as a whole machine, and the words in which the claims speak of a command's run. -/
namespace Sys2Proof.Machine

/-! ### The invariant -/

/-- What the machine is made of, which no command changes: the variant, which of its landings exist, the outputs that
have a doorway, and how many letterboxes, channels, lanes, camera ports, sensors, slices and pipelines there are. -/
def State.parts (s : State) : Variant × List Bool × List OutId × List Nat :=
  (s.variant, s.landings.map (·.present), s.commits.doors.map (·.1),
   [s.boxes.length, s.chans.length, s.lanes.length, s.cams.length, s.sensors.length, s.slices.length, s.pipes.length])

/-- The parts of a whole chip of a variant (R1 to R5, R17, R26): its islands and no others, both doorways' records, 32
letterboxes, four channels, 50 lanes, four camera ports, 68 sensors, 32 slices, two pipelines. -/
def Variant.parts (v : Variant) : Variant × List Bool × List OutId × List Nat :=
  (v, (List.range 64).map v.hasIsland, [.A, .B], [32, 4, 50, 4, 68, 32, 2])

/-- The invariant that every step keeps: the machine has exactly the parts of its variant, and module memory is in its
canonical form (addresses rising, no byte listed that reads as zeroing left it, R441). -/
def State.Inv (s : State) : Prop := s.parts = s.variant.parts ∧ Memory.wf s.dram.mem = true

/-! ### Commands -/

/-- The submission entry `e` at the head of function f's ring is fetched as a command of card `k` and passes every check of
R475 that comes before the command's own conditions; no ring's head relays it (R606), and a command that journals has room
(R571). An entry is of 64 bytes (R466). `claim` is the key of R529. -/
def State.runs (s : State) (f : Nat) (k : Card) (e : SqEntry) (claim : State → Cmd → Option (List Byte)) : Prop :=
  let s1 := s.pop f
  let c : Cmd := { f := f, e := e }
  s.fetches f = some e ∧ c.opcode = k.opcode ∧ (k.journals = true → s.journalRoom = true)
  ∧ ¬ (s1.relays = true ∧ k.hasTrailer c = true ∧ nAt (k.trailerOf c) 8 8 ≠ s1.trust.serial)
  ∧ s1.check2 k f = false ∧ c.check3 = false ∧ s1.check4 k c (claim s1 c) = false ∧ k.check5 c = false ∧ k.check6 c = false
  ∧ (s1.power.standby = 3 ∨ s1.power.standby = 2 → k.opcode ∈ standbyActs) ∧ s1.replayHit c = false
  ∧ (needsIsland c.opcode c.payload).any (· ∈ s1.cellar.outOfSvc) = false ∧ e.raw.length = 64

/-- A command whose card has no claim runs. -/
def State.hostRuns (s : State) (f : Nat) (k : Card) (e : SqEntry) : Prop := s.runs f k e fun _ _ => none

/-- A function's completion ring has gained the entry that ends a command (R466, R468): its CMD_ID, status, RETRY_AFTER,
and the response in INLINE_RESP or in the response buffer. More entries may follow it: those of entries with an undefined
opcode behind it, which complete at once (R475). -/
def Letterbox.gained (b b' : Letterbox) (e : SqEntry) (status retry : Nat) (resp : List Byte) : Prop :=
  ∃ c more, b'.cq = b.cq ++ c :: more ∧ c.cmdId = nAt e.raw 4 4 ∧ c.status = status ∧ c.retry = retry
    ∧ c.inl = (if nAt e.raw 0x14 4 = 0 then fitTo 16 resp else zeros 16)
    ∧ c.resp = (if nAt e.raw 0x14 4 = 0 then [] else resp.take (nAt e.raw 0x14 4))

/-- Two states that differ in nothing but their letterboxes. -/
def State.sameButBoxes (s t : State) : Prop := t = { s with boxes := t.boxes }

/-- The payload of a submission entry (R466). -/
def payloadOf (e : SqEntry) : List Byte := ({ f := 0, e := e } : Cmd).payload

/-- A command has completed with OK and a response, and nothing but letterboxes has changed. -/
def State.answers (s t : State) (f : Nat) (e : SqEntry) (resp : List Byte) : Prop :=
  s.sameButBoxes t ∧ (s.box f).gained (t.box f) e stOk 0 resp

/-- A commit asked for in a state meets none of the grounds for refusing it (R28 to R36, R44, R80, R491); R625's commit
that leaves STANDBY is spoken of apart. -/
def State.mayCommit (u : State) (r : CommitReq) : Prop :=
  (∃ kind, r.doorKind = some kind ∧ u.refused r kind = none) ∧ ¬ (u.power.standby = 3 ∧ .cpt ∈ r.blks)

/-- A commit asked for in `u` has been accepted: its command has completed with OK_DEFERRED and the response of R495, the
next commit ID is taken, and a copy of each block it names, or of each camera port, is pending under that ID with the words
that the shadow set holds (R26, R28, R30, R491). Beside the letterboxes nothing changes but the commits, the journal in
Cellar, a camera's reset pin (R366) and what a ring's head mirrors to its ports (R603). -/
def State.committed (s u : State) (f : Nat) (e : SqEntry) (r : CommitReq) (t : State) : Prop :=
  (∃ kind, r.doorKind = some kind ∧ (s.box f).gained (t.box f) e stDeferred 0
    (leBytes 4 u.commits.nextId ++ leBytes 4 (u.takenDue r kind) ++ leBytes 1 kind.code ++ leBytes 1 (u.takenUnit r kind)
      ++ zeros 6))
  ∧ t.commits.nextId = nextCid u.commits.nextId
  ∧ (∀ x ∈ r.units, ∃ p ∈ t.commits.pend, p.cid = u.commits.nextId ∧ p.issuer = r.issuer ∧ p.blk = x.1 ∧ p.port = x.2
      ∧ p.words = u.freeze x.1 x.2)
  ∧ t = { u with boxes := t.boxes, commits := t.commits, cellar := t.cellar, cams := t.cams, ring := t.ring }

/-! ### Faults -/

/-- The fault log has gained the entry of a fault of an island (255 where none is concerned, R563): the next sequence
number, the code and the island, at the present time. -/
def State.logs (s t : State) (code island : Nat) : Prop :=
  ∃ e ∈ t.cellar.log, e.seq = s.cellar.logSeq ∧ e.code = code ∧ e.island = island ∧ e.time = s.us

/-- Two states that differ in nothing but what handling a fault may touch without entering SS4: the letterboxes it is
reported to, Cellar and its records in MRAM, the Transom that Cellar's message may take, the outputs and links whose
PSAFE and frames it spoils, and the landings, channels, lanes and spans of slices that a recovery resets. -/
def State.sameButHandling (s t : State) : Prop :=
  t = { s with boxes := t.boxes, cellar := t.cellar, mram := t.mram, transom := t.transom, outA := t.outA, outB := t.outB,
               linkA := t.linkA, linkB := t.linkB, landings := t.landings, chans := t.chans, lanes := t.lanes,
               slices := t.slices }

/-- The machine enters SS4 (R550): every force line and SAFE_OUT low, HEARTBEAT stopped, the links' PSAFE asserted, the
endpoint and READY gone, every letterbox page at its reset values, every domain but that of islands 54 and 61 off. Nothing
else changes but what loses its power with them and the log. -/
def State.entersSs4 (s t : State) : Prop :=
  t.cellar.ss4 = true ∧ t.cellar.psafeAll = true ∧ t.cellar.safeLow = true ∧ t.cellar.heartbeat = false
  ∧ t.linkA.psafe = true ∧ t.linkB.psafe = true ∧ t.power.endpoint = false ∧ t.power.ready = false
  ∧ (∀ f, f < s.boxes.length → t.box f = Letterbox.reset (s.box f).present)
  ∧ (∀ n, n ≠ 54 → n ≠ 61 → (t.landing n).powered = false)
  ∧ t = { s with boxes := t.boxes, power := t.power, cellar := t.cellar, mram := t.mram, chans := t.chans,
                 trust := t.trust, ring := t.ring, transom := t.transom, cams := t.cams, landings := t.landings,
                 sensors := t.sensors, outA := t.outA, outB := t.outB, linkA := t.linkA, linkB := t.linkB,
                 lanes := t.lanes, slices := t.slices, pipes := t.pipes }

/-! ### A ring -/

/-- A packet of a TYPE comes in order at an ACTIVE port, its CRC good (R591, R592). -/
def State.receives (s : State) (p : RPort) (typ : Nat) (pkt : List Byte) : Prop :=
  (s.rport p).active = true ∧ packetGood pkt = true ∧ nAt pkt 0xC 4 = (s.rport p).rxSeq ∧ nAt pkt 0 1 = typ

/-- The port counts the packet that it has taken; on a member it is word from the head (R592, R609). -/
def State.received (s : State) (p : RPort) : State :=
  let t := s.modRport p fun r => { r with rxSeq := (r.rxSeq + 1) % 0x100000000 }
  if s.headBit then t else { t with ring := { t.ring with headAt := s.us, isolated := false } }

/-- Two states that differ in nothing but their rings. -/
def State.sameButRing (s t : State) : Prop := t = { s with ring := t.ring }

/-! ### Panel links -/

/-- An ACTIVE link has begun to retrain (R291): LINK_DROPS counts it, fault 0x0601 of its island is logged, and its output
shows SS3 behind PSAFE. Beside what handling the fault touches, only lanes and a free value change, and the clock where the
row waits. -/
def State.retrains (s t : State) (o : OutId) : Prop :=
  (t.link o).st ≠ .active ∧ (t.link o).drops = min 65535 ((s.link o).drops + 1) ∧ (t.link o).psafe = true
  ∧ ({ s with clk := t.clk } : State).logs t 0x601 (44 + o.num)
  ∧ (o ∈ s.outs → ∃ d ∈ t.cellar.ss3, d.out = o ∧ d.code = 0x601)
  ∧ ({ s with clk := t.clk, free := t.free, lanes := t.lanes } : State).sameButHandling t

/-! ### Scenes -/

/-- A scene without the places of its tiles in the store: its planes, and what each tile holds. -/
def scenePlain (ps : List Plane) : List Plane :=
  ps.map fun q => { q with tiles := q.tiles.map fun x : Nat × Tile => (x.1, { x.2 with bufs := [], off := 0 }) }

/-! ### Points -/

/-- A receipt has gone into its SUBMIT_POINTS: the command keeps it until every update has one, and then completes with OK
and all of them in order (R482, R503). The head of a ring relays the command before it completes, and on another member they
travel on with it (R606). -/
def State.receiptGoes (s t : State) (i : PointIn) (rc : List Byte) : Prop :=
  ∀ w, (s.trust.pointCmds.find? fun c => c.ord == i.ord) = some w →
    ((w.receipts.set i.slot (some rc)).all (·.isSome) = false ∨ w.relay.isSome = true →
      (t.trust.pointCmds.find? fun c => c.ord == i.ord) = some { w with receipts := w.receipts.set i.slot (some rc) }
      ∧ t.boxes = s.boxes) ∧
    ((w.receipts.set i.slot (some rc)).all (·.isSome) = true → w.relay = none → s.relays = false → w.func < s.boxes.length →
      w.entry.raw.length = 64 →
      (s.box w.func).cqEn = true → (s.box w.func).cqSize ≠ 0 →
      (t.trust.pointCmds.find? fun c => c.ord == i.ord) = none
      ∧ (s.box w.func).gained (t.box w.func) w.entry stOk 0
          ((w.receipts.set i.slot (some rc)).flatMap fun r => r.getD (zeros 40)))

/-! ### Cameras -/

/-- A frame whose remainder is dropped (R377): the port has no open frame, the drop and its cause are counted, and fault
0x0901 is logged where it does not repeat one less than a second old. -/
def State.truncates (s t : State) (port cause : Nat) : Prop :=
  (t.cam port).open_ = none ∧ (t.cam port).trunc = min 65535 ((s.cam port).trunc + 1) ∧ (t.cam port).cause = cause
  ∧ ((∀ l ∈ s.cellar.log, ¬ (l.code = 0x901 ∧ l.island = 57 ∧ s.us < l.time + 1000000)) → s.logs t 0x901 57)
  ∧ ({ s with cams := t.cams, pipes := t.pipes } : State).sameButHandling t

/-! ### The blitter -/

/-- The next command of the running list is one of an operation that may run: it is well formed (R418), its extents lie in
the pool of the list's function (R419), and it needs no scratch area, or the list gives one that is large enough, lies in
the pool, and meets neither rectangle nor the list (R424, R425). -/
def State.blits (s : State) (op : Nat) (l : BlitList) (c : BlitCmd) : Prop :=
  s.blit.run = some l ∧ s.blit.staging[s.blit.index]? = some c ∧ blitOp c = op ∧ s.dram.st = 2
  ∧ s.works 58 = true ∧ s.blit.stageBad = false ∧ blitOk l.func c = true
  ∧ s.inPool l.func (blitDst c).extent.1 (blitDst c).extent.2 = true
  ∧ (op ≠ 2 → s.inPool l.func (blitSrc c).extent.1 (blitSrc c).extent.2 = true)
  ∧ ∀ n, blitScratch c = some n →
      s.blit.scratch.1 ≠ 0 ∧ n ≤ s.blit.scratch.2 ∧ rangesMeet s.blit.scratch (blitDst c).extent = false
      ∧ rangesMeet s.blit.scratch (blitSrc c).extent = false
      ∧ rangesMeet s.blit.scratch (l.addr, 64 + 64 * s.blit.staging.length) = false
      ∧ s.inPool l.func s.blit.scratch.1 s.blit.scratch.2 = true

/-- A command of the running list has ended with a status: its STATUS word holds it; the list goes on to the next command
where that one has an operation, and is done behind the last (R413, R427). -/
def State.blitEnded (s t : State) (l : BlitList) (status : Nat) : Prop :=
  memRead t.dram.mem (l.addr + 64 + 64 * s.blit.index + 4) 4 = leBytes 4 status
  ∧ (∀ c, s.blit.staging[s.blit.index + 1]? = some c → 1 ≤ blitOp c → blitOp c ≤ 5 →
      t.blit.run = some l ∧ t.blit.index = s.blit.index + 1 ∧ t.blit.done = s.blit.done)
  ∧ (s.blit.staging.length ≤ s.blit.index + 1 → t.blit.run = none ∧ t.blit.done = w32 (s.blit.done + 1))

/-- The bytes of a list: its header and its commands. -/
def State.inList (s : State) (l : BlitList) (x : Nat) : Prop := l.addr ≤ x ∧ x < l.addr + 64 + 64 * s.blit.staging.length

end Sys2Proof.Machine
end

