-- ==== Sys2Proof/Certificates/Slice0/Obligations.lean ====
section
/-! DEFINITION. The statements for the provers. A `Clause.<Name>` states one part of the machine's behaviour; an
`Obligations.<Name>` is one statement of OBLIGATIONS.json, the conjunction of the clauses that belong together. Each
docstring names the rules of spec/ that the statement formalises, or the log entry of a choice of the model's. -/

open Sys2Proof Sys2Proof.Machine

/-! ### The queue, and the machine as a whole -/

/-- A step with a command at the front of the queue is that command's execution on the state with the queue's rest. -/
def Obligations.StepRunsTheFrontCommand : Prop :=
  ∀ (c : Instr) (rest : List Instr) (s : State), step { s with pending := c :: rest } = exec c { s with pending := rest }

/-- With no command waiting, one cycle of Cellar's crystal passes: Cellar time goes on while VAUX is valid, and nothing
else changes unless VMAIN is still missing 100 ms after VAUX became valid. The tick is the model's own choice (log
entry 1); R218 and R643 give what it does. -/
def Obligations.EmptyQueueRunsTheCrystal : Prop :=
  ∀ s : State, s.pending = [] →
    (s.power.vauxValid = false → step s = .next s) ∧
    (s.power.vauxValid = true → s.power.vmainValid = true ∨ s.power.offHold = true ∨ s.clk + 1 < 2500000 →
      step s = .next { s with clk := s.clk + 1 }) ∧
    (s.power.vauxValid = true → s.power.vmainValid = false → s.power.offHold = false → 2500000 ≤ s.clk + 1 →
      ∃ t, step s = .next t ∧ t.power.offHold = true ∧ t.cellar.ss4 = true)

/-- Every command answers a next state: none stops the machine, whatever its operands and the state. -/
def Obligations.EveryCommandAnswers : Prop := ∀ (c : Instr) (s : State), ∃ t, exec c s = .next t

/-- The machine right after reset is whole: the parts of an E2 and no others, and module memory in canonical form. -/
def Obligations.ResetIsWhole : Prop := State.reset.Inv

/-- Every step keeps the machine whole: no command changes the variant, adds or removes an island, an output, a
letterbox, a channel, a lane, a camera port, a sensor, a slice or a pipeline, and module memory stays canonical. -/
def Obligations.StepKeepsTheMachineWhole : Prop := ∀ s t : State, s.Inv → step s = .next t → t.Inv

/-- Right after reset every register word reads its reset value (R10), the letterboxes do not read READY and every
ring is disabled with its page at the reset values of R462, and no commit is pending: the first gets ID 1 (R26). -/
def Obligations.ResetHoldsTheResetValues : Prop :=
  (∀ b off, State.reset.sh b off = (resetWord .E2 b off).toNat) ∧
  (∀ b o off, b ≠ .cam → State.reset.lv b o off = (resetWord .E2 b off).toNat) ∧
  State.reset.power.ready = false ∧
  (∀ f, State.reset.box f = Letterbox.reset (f == 0)) ∧
  State.reset.commits.pend = [] ∧ State.reset.commits.nextId = 1

/-! ### The letterbox page -/

/-- Setting a ring's EN takes effect only when READY is 1, BASE is aligned and SIZE is valid; otherwise EN stays 0.
Enabling sets head and tail to 0 and the phase to 1 and clears DB_ERR; the event ring's enable also resets EVENT_SEQ and
clears EQ_DROPPED (R463). Clearing SQ_EN or EQ_EN touches nothing else; clearing CQ_EN also marks the function's commands in
flight, and a completion of a command so marked is discarded (R464). Enabling changes nothing but the function's letterbox. -/
def Clause.RingEnables : Prop :=
  ∀ (f : Nat) (s : State), s.hostOk f = true → f < s.boxes.length →
    exec (.sqEn f false) s = .next (s.modBox f fun b => { b with sqEn := false }) ∧
    ((s.box f).cqEn = false → exec (.cqEn f false) s = .next s) ∧
    ((s.box f).cqEn = true →
      exec (.cqEn f false) s = .next ((s.muteCommands f).modBox f fun b => { b with cqEn := false })) ∧
    (∀ us id status retry len ok resp,
      ((s.box f).postCompletion us (muteId id) status retry len ok resp).cq = (s.box f).cq) ∧
    exec (.eqEn f false) s = .next (s.modBox f fun b => { b with eqEn := false }) ∧
    ((s.box f).sqEn = false →
      (s.enOk (s.box f).sqBase (s.box f).sqSize = false → exec (.sqEn f true) s = .next s) ∧
      (s.enOk (s.box f).sqBase (s.box f).sqSize = true →
        exec (.sqEn f true) s = .next (s.modBox f fun b =>
          { b with sqEn := true, sqHead := 0, sqTail := 0, ready := [], dbErr := 0 }))) ∧
    ((s.box f).cqEn = false →
      (s.enOk (s.box f).cqBase (s.box f).cqSize = false → exec (.cqEn f true) s = .next s) ∧
      (s.enOk (s.box f).cqBase (s.box f).cqSize = true →
        ∃ t, exec (.cqEn f true) s = .next t ∧ s.sameButBoxes t ∧ (t.box f).cqEn = true ∧ (t.box f).cqHead = 0
          ∧ (t.box f).dbErr = 0 ∧ (∀ e ∈ (t.box f).cq, e.status = stBadOpcode)
          ∧ ((s.box f).ready = [] → (t.box f).cq = [] ∧ (t.box f).cqTail = 0 ∧ (t.box f).cqPhase = true)
          ∧ ∀ g, g ≠ f → t.box g = s.box g)) ∧
    ((s.box f).eqEn = false →
      (s.enOk (s.box f).eqBase (s.box f).eqSize = false → exec (.eqEn f true) s = .next s) ∧
      (s.enOk (s.box f).eqBase (s.box f).eqSize = true →
        exec (.eqEn f true) s = .next (s.modBox f fun b =>
          { b with eqEn := true, eqHead := 0, eqTail := 0, eqPhase := true, eq := [], eqHeld := false, evSeq := 0,
                   eqDropped := 0, overflow := false, dbErr := 0 })))

/-- A doorbell at or above its ring's SIZE, for a ring whose EN is 0, that returns entries the controller has not
written, or while READY is 0, is ignored and increments DB_ERR, which saturates at 0xFFFF (R471, R462). -/
def Clause.BadDoorbellsAreCounted : Prop :=
  ∀ (f val : Nat) (es : List SqEntry) (s : State), s.hostOk f = true → f < s.boxes.length →
    (s.power.ready = false ∨ (s.box f).sqEn = false ∨ (s.box f).sqSize ≤ val →
      exec (.sqTail f val es) s = .next (s.modBox f fun b => { b with dbErr := min 0xFFFF (b.dbErr + 1) })) ∧
    (s.power.ready = false ∨ (s.box f).cqEn = false ∨ (s.box f).cqSize ≤ val
        ∨ (s.box f).cqHeldN < (val + (s.box f).cqSize - (s.box f).cqHead) % (s.box f).cqSize →
      exec (.cqHead f val) s = .next (s.modBox f fun b => { b with dbErr := min 0xFFFF (b.dbErr + 1) })) ∧
    (s.power.ready = false ∨ (s.box f).eqEn = false ∨ (s.box f).eqSize ≤ val
        ∨ (s.box f).eqHeldN < (val + (s.box f).eqSize - (s.box f).eqHead) % (s.box f).eqSize →
      exec (.eqHead f val) s = .next (s.modBox f fun b => { b with dbErr := min 0xFFFF (b.dbErr + 1) }))

/-- A served doorbell: SQ_TAIL makes as many entries ready as it lies ahead of the tail; CQ_HEAD and EQ_HEAD return the
oldest entries (R469, R471). Beside the letterbox nothing changes; behind a doorbell that lets fetching go on, entries
with an undefined opcode at the head complete with BAD_OPCODE (check 1 of R475). -/
def Clause.GoodDoorbellsAreServed : Prop :=
  ∀ (f val : Nat) (es : List SqEntry) (s : State), s.hostOk f = true → f < s.boxes.length → s.power.ready = true →
    ((s.box f).sqEn = true → val < (s.box f).sqSize →
      es.length = (val + (s.box f).sqSize - (s.box f).sqTail) % (s.box f).sqSize →
      ∃ t, exec (.sqTail f val es) s = .next t ∧ s.sameButBoxes t ∧ (t.box f).sqTail = val
        ∧ (∃ bad, (s.box f).ready ++ es = bad ++ (t.box f).ready ∧ ∀ e ∈ bad, nAt e.raw 0 2 ∉ opcodes)
        ∧ ∀ g, g ≠ f → t.box g = s.box g) ∧
    ((s.box f).cqEn = true → val < (s.box f).cqSize →
      (val + (s.box f).cqSize - (s.box f).cqHead) % (s.box f).cqSize ≤ (s.box f).cqHeldN →
      ∃ t, exec (.cqHead f val) s = .next t ∧ s.sameButBoxes t ∧ (t.box f).cqHead = val
        ∧ (∃ more, (t.box f).cq
            = (s.box f).cq.drop ((val + (s.box f).cqSize - (s.box f).cqHead) % (s.box f).cqSize) ++ more
            ∧ ∀ e ∈ more, e.status = stBadOpcode)
        ∧ ∀ g, g ≠ f → t.box g = s.box g) ∧
    ((s.box f).eqEn = true → val < (s.box f).eqSize →
      (val + (s.box f).eqSize - (s.box f).eqHead) % (s.box f).eqSize ≤ (s.box f).eqHeldN →
      exec (.eqHead f val) s = .next (s.modBox f fun b =>
        { b with eq := b.eq.drop ((val + b.eqSize - b.eqHead) % b.eqSize), eqHead := val }))

/-- Ring enables and doorbells of a letterbox: `Clause.RingEnables`, `Clause.BadDoorbellsAreCounted`, `Clause.GoodDoorbellsAreServed`, together.
Rows concluded here to answer a next state: sqTail, cqHead, eqHead, sqEn, cqEn, eqEn. -/
def Obligations.LetterboxRings : Prop :=
  Clause.RingEnables ∧ Clause.BadDoorbellsAreCounted ∧ Clause.GoodDoorbellsAreServed

/-- A vector held back is raised once its interval since the last raise is over, a COALESCE_US above 1000 acting as
1000; a masked vector is left pending (R474). Without one held back nothing happens.
Rows concluded here to answer a next state: vectorCoalesceExpiry. -/
def Obligations.HeldVectorsAreRaised : Prop :=
  ∀ (f : Nat) (s : State), f < s.boxes.length →
    ((s.box f).cqHeld = false → exec (.vectorCoalesceExpiry f .cq) s = .next s) ∧
    ((s.box f).eqHeld = false → exec (.vectorCoalesceExpiry f .eq) s = .next s) ∧
    (∀ r, (s.box f).cqHeld = true → (s.box f).cqRaised = some r →
      ∃ t, exec (.vectorCoalesceExpiry f .cq) s = .next t
        ∧ t = { s with clk := max s.clk (25 * (r + min (s.box f).coalesce 1000)), boxes := t.boxes }
        ∧ (t.box f).cqHeld = false ∧ (t.box f).cqRaised = some t.us ∧ (t.box f).cq = (s.box f).cq
        ∧ ((s.box f).masked (s.box f).cqVec = false →
            tget 0 (t.box f).raised (s.box f).cqVec = tget 0 (s.box f).raised (s.box f).cqVec + 1)
        ∧ ((s.box f).masked (s.box f).cqVec = true →
            (s.box f).cqVec ∈ (t.box f).pba ∧ (t.box f).raised = (s.box f).raised)) ∧
    (∀ r, (s.box f).eqHeld = true → (s.box f).eqRaised = some r →
      ∃ t, exec (.vectorCoalesceExpiry f .eq) s = .next t
        ∧ t = { s with clk := max s.clk (25 * (r + min (s.box f).coalesce 1000)), boxes := t.boxes }
        ∧ (t.box f).eqHeld = false ∧ (t.box f).eqRaised = some t.us ∧ (t.box f).eq = (s.box f).eq
        ∧ ((s.box f).masked (s.box f).eqVec = false →
            tget 0 (t.box f).raised (s.box f).eqVec = tget 0 (s.box f).raised (s.box f).eqVec + 1)
        ∧ ((s.box f).masked (s.box f).eqVec = true →
            (s.box f).eqVec ∈ (t.box f).pba ∧ (t.box f).raised = (s.box f).raised))

/-! ### Register accesses -/

/-- A 4-byte BAR2 write of a function. Outside its grants, to a live set, to an undefined offset or to SEC it is ignored
and a violation is counted. To a shadow word with writable fields it sets the bits that are RW and not locked, and a
value in a locked bit that differs from the shadow is a violation (R10, R461, R603). No other shadow word changes, and
nothing but the shadow sets and Cellar's violation counters. A BAR0 write reaches the letterbox page alone. -/
def Clause.RegisterWrites : Prop :=
  ∀ (f off w : Nat) (b : Blk) (o : Nat) (s : State), s.hostOk f = true → s.power.ready = true → w < 2 ^ 32 →
    off % 4 = 0 → barBlk off = some (b, o) → ¬ (b = .spl ∧ o = 0x808) → ¬ (b = .lne ∧ o < 0x80 ∧ o % 0x20 = 0xC) →
    (s.granted f b = false ∨ 0x80000 ≤ o ∨ b = .sec ∨ findRun s.variant b o = none →
      exec (.registerWrite f 2 off (leBytes 4 w)) s = .next (s.violate 0)) ∧
    (∀ r, s.granted f b = true → o < 0x80000 → b ≠ .sec → findRun s.variant b o = some r → r.rw ≠ 0 →
      s.writeIgnored b o = false →
      ∃ t, exec (.registerWrite f 2 off (leBytes 4 w)) s = .next t
        ∧ t = { s with shadow := t.shadow, cellar := t.cellar }
        ∧ t.sh b o = mergeWrite (s.sh b o) w r.rw (s.heldBits b o &&& r.rw)
        ∧ (∀ c n, (c, n) ≠ (b, o) → t.sh c n = s.sh c n)
        ∧ t.cellar = (if (w &&& (s.heldBits b o &&& r.rw)) = (s.sh b o &&& (s.heldBits b o &&& r.rw)) then s.cellar
                      else (s.violate 0).cellar)) ∧
    exec (.registerWrite f 0 off (leBytes 4 w)) s = .next (s.modBox f fun x => x.writeWord f off w)

/-- Two reads with an effect. Each word read of a window that EXPERT_MASK does not grant reads zero and counts a
violation (R461); a read of TIME_LO gives Cellar time's low word and latches its high word in TIME_HI (R251). -/
def Clause.ReadsWithAnEffect : Prop :=
  ∀ (f off : Nat) (b : Blk) (o : Nat) (s : State), s.hostOk f = true →
    (barBlk off = some (b, o) → s.granted f b = false →
      (off % 4 = 0 →
        exec (.expertWindowReadDenied f off 4) s = .next { s.violate 0 with lastRead := zeros 4 }) ∧
      (off % 8 = 0 →
        exec (.expertWindowReadDenied f off 8) s = .next { (s.violate 0).violate 0 with lastRead := zeros 8 })) ∧
    (s.granted f .tvr = true →
      exec (.timeLoRead f) s
        = .next { s with timeHi := s.us / 2 ^ 32, lastRead := leBytes 4 (s.us % 2 ^ 32) }) ∧
    (s.granted f .tvr = false → exec (.timeLoRead f) s = .next { s.violate 0 with lastRead := zeros 4 })

/-- RETRAIN_A, RETRAIN_B and RECAL_NOW act on a write of 1 by a function granted their window; by another the write
counts a violation (R301, R324, R461). RECAL_NOW marks the port's lanes that the variant has. A retrain of an ACTIVE
link drops it, which Cellar logs as fault 0x0601, and trains it again; output B's bit does nothing on an E1 (R11). -/
def Clause.TriggerFieldsAct : Prop :=
  ∀ (f p : Nat) (w : Word) (s : State), s.power.ready = true → (s.box f).present = true →
    (s.granted f .spl = false → exec (.retrainWrite f w) s = .next (s.violate 0)) ∧
    (s.granted f .spl = true → w.getLsbD 0 = false → w.getLsbD 1 = false → exec (.retrainWrite f w) s = .next s) ∧
    (s.granted f .spl = true → w.getLsbD 0 = true → w.getLsbD 1 = false → s.linkA.st = .active →
      ∃ t, exec (.retrainWrite f w) s = .next t ∧ (t.linkA.st = .backchannel ∨ t.linkA.st = .blockLock)
        ∧ t.linkA.drops = min 0xFFFF (s.linkA.drops + 1) ∧ t.linkA.psafe = true ∧ s.logs t 0x601 44
        ∧ t.shadow = s.shadow ∧ t.chans = s.chans ∧ t.trust = s.trust ∧ t.dram = s.dram) ∧
    (s.granted f .spl = true → w.getLsbD 0 = false → w.getLsbD 1 = true → s.linkB.st = .active → s.variant = .E2 →
      ∃ t, exec (.retrainWrite f w) s = .next t ∧ (t.linkB.st = .backchannel ∨ t.linkB.st = .blockLock)
        ∧ t.linkB.drops = min 0xFFFF (s.linkB.drops + 1) ∧ t.linkB.psafe = true ∧ s.logs t 0x601 45
        ∧ t.shadow = s.shadow ∧ t.chans = s.chans ∧ t.trust = s.trust ∧ t.dram = s.dram) ∧
    (s.granted f .spl = true → w.getLsbD 0 = false → w.getLsbD 1 = true → s.variant = .E1 →
      exec (.retrainWrite f w) s = .next s) ∧
    (s.granted f .lne = false → exec (.recalNow f p w) s = .next (s.violate 0)) ∧
    (s.granted f .lne = true → w.getLsbD 0 = false → exec (.recalNow f p w) s = .next s) ∧
    (s.granted f .lne = true → w.getLsbD 0 = true →
      ∃ t, exec (.recalNow f p w) s = .next t ∧ t = { s with lanes := t.lanes }
        ∧ ∀ n, n < s.lanes.length → t.lane n
            = if n ∈ txLanes p ∧ s.variant.hasLane n = true then { s.lane n with recal := true } else s.lane n)

/-- BAR2 and BAR0 accesses: grants, locks, violations and fields that act: `Clause.RegisterWrites`, `Clause.ReadsWithAnEffect`, `Clause.TriggerFieldsAct`, together.
Rows concluded here to answer a next state: registerWrite, expertWindowReadDenied, timeLoRead, retrainWrite, recalNow. -/
def Obligations.RegisterAccesses : Prop :=
  Clause.RegisterWrites ∧ Clause.ReadsWithAnEffect ∧ Clause.TriggerFieldsAct

/-! ### Commands that answer -/

/-- A GET_ command has no effect: it completes with OK and the live values of its card, and nothing but letterboxes
changes (R494; the responses are those of the command tables of 15). GET_MODE, GET_LINK and GET_CAL answer for the output
that OUTPUT names, which an E1 must have (R5).
Rows concluded here to answer a next state: getInfo, getStatus, getScene, getMode, getLink, getTransom, getCal,
getPool, getIdentity, getFaults, getRing, getThermal. -/
def Obligations.QueriesAnswerAndChangeNothing : Prop :=
  ∀ (f : Nat) (e : SqEntry) (s : State) (o : OutId),
    (s.hostRuns f (getCard 0x100 16) e → ∃ t, exec (.getInfo f) s = .next t ∧ s.answers t f e
      (leBytes 1 s.variant.code ++ leBytes 1 0xB0 ++ leBytes 1 s.trust.lifecycle ++ leBytes 1 s.numVfs
        ++ leBytes 4 s.fwVersion ++ leBytes 8 s.us)) ∧
    (s.hostRuns f (getCard 0x101 16) e → ∃ t, exec (.getStatus f) s = .next t ∧ s.answers t f e
      (leBytes 1 (s.safeOf .A) ++ leBytes 1 (s.safeOf .B) ++ leBytes 1 s.powerCode ++ leBytes 1 s.stepLive
        ++ leBytes 4 s.outA.frameNum ++ leBytes 4 s.outB.frameNum
        ++ leBytes 4 (b2n s.locked + 2 * b2n (s.linkA.st == .active) + 4 * b2n (s.linkB.st == .active)
                      + 8 * b2n s.replayRuns))) ∧
    (s.hostRuns f getSceneCard e → nAt (payloadOf e) 0 1 < 4 → ∃ t, exec (.getScene f) s = .next t ∧ s.answers t f e
      (leBytes 4 (s.sceneId (nAt (payloadOf e) 0 1)) ++ leBytes 4 (s.chan (nAt (payloadOf e) 0 1)).discarded
        ++ leBytes 2 s.freeBuffers ++ leBytes 1 (s.ingest (nAt (payloadOf e) 0 1))
        ++ leBytes 1 (s.chan (nAt (payloadOf e) 0 1)).pending.length
        ++ leBytes 1 (b2n (s.protectedChan (nAt (payloadOf e) 0 1)) + 2 * b2n (s.streamEn (nAt (payloadOf e) 0 1))))) ∧
    (s.hostRuns f (outCard 0x301 16) e → outOf (nAt (payloadOf e) 0 1) = o → s.noOutB o = false →
      ∃ t, exec (.getMode f) s = .next t ∧ s.answers t f e
        (leBytes 4 (s.liveWord .syn (4 * o.num)) ++ leBytes 4 (s.lv .syn o (8 + 4 * o.num)) ++ leBytes 4 (s.roSyn 0x10)
          ++ leBytes 4 (s.frameOf o))) ∧
    (s.hostRuns f (outCard 0x601 16) e → outOf (nAt (payloadOf e) 0 1) = o → s.noOutB o = false →
      ∃ t, exec (.getLink f) s = .next t ∧ s.answers t f e
        (leBytes 1 (s.link o).st.ctorIdx
          ++ leBytes 1 (b2n (s.link o).bcLock + 2 * b2n (s.out o).held + 4 * b2n (s.link o).psafe + 8 * b2n s.lockPair)
          ++ leBytes 1 (s.cap o 2 1) ++ leBytes 1 (s.cap o 3 1) ++ leBytes 2 (s.cap o 4 2) ++ leBytes 2 (s.cap o 6 2)
          ++ leBytes 1 (s.cap o 8 1) ++ leBytes 1 (s.cap o 9 1) ++ leBytes 2 (s.cap o 0xA 2) ++ leBytes 4 (s.frameOf o))) ∧
    (s.hostRuns f (getCard 0x701 12) e → ∃ t, exec (.getTransom f) s = .next t ∧ s.answers t f e
      (leBytes 1 s.engine
        ++ leBytes 1 (b2n (s.transom.rails.length == 5) + 2 * b2n s.transom.uncertain + 4 * b2n s.transom.ntcFault)
        ++ leBytes 1 s.transom.range ++ leBytes 1 (unsgn 8 s.transom.temp) ++ leBytes 2 s.runningZones
        ++ leBytes 2 s.pendingZones ++ leBytes 2 s.transom.updates ++ leBytes 2 (sat 16 s.ledgerPeak))) ∧
    (s.hostRuns f getCalCard e → getCalCard.hasTrailer { f := f, e := e } = false →
      outOf (nAt (payloadOf e) 0 1) = o → s.noOutB o = false →
      ∃ t, exec (.getCal f) s = .next t ∧ s.answers t f e
        (leBytes 1 s.optState ++ leBytes 1 s.calib.curSlot ++ leBytes 1 (s.liveSource o) ++ zeros 1
          ++ leBytes 2 s.calib.measured.length ++ leBytes 2 s.calib.passes ++ leBytes 2 s.calib.abandoned
          ++ leBytes 2 (s.rampOf (s.eff o)).pos ++ leBytes 2 s.transom.vcomOpt)) ∧
    (s.hostRuns f (getCard 0xB00 16) e → ∃ t, exec (.getPool f) s = .next t ∧ s.answers t f e
      (leBytes 8 (poolOf (fun off => s.lv .sys .A off) f).1 ++ leBytes 8 (poolOf (fun off => s.lv .sys .A off) f).2)) ∧
    (s.hostRuns f (getCard 0xC00 14048) e → ∃ t, exec (.getIdentity f) s = .next t ∧ s.answers t f e
      (leBytes 4 3 ++ zeros 4 ++ fitTo 14040 s.trust.chain)) ∧
    (s.hostRuns f getFaultsCard e → nAt (payloadOf e) 0 2 < 256 → 0 < nAt (payloadOf e) 2 2 →
      nAt (payloadOf e) 2 2 ≤ 256 → ∃ t, exec (.getFaults f) s = .next t ∧ s.answers t f e
        ((List.range (nAt (payloadOf e) 2 2)).flatMap fun i => s.logAt (nAt (payloadOf e) 0 2 + i))) ∧
    (s.hostRuns f (getCard 0xE01 16) e → ∃ t, exec (.getRing f) s = .next t ∧ s.answers t f e
      (leBytes 1 s.ringState ++ leBytes 1 (b2n (s.ringState == 4) + 2 * b2n s.headBit) ++ leBytes 2 s.ring.ownId
        ++ leBytes 2 s.ring.devices ++ leBytes 2 s.ring.hopsE ++ leBytes 2 s.ring.hopsW ++ zeros 2
        ++ leBytes 4 s.ring.missed)) ∧
    (s.hostRuns f (getCard 0xF01 16) e → ∃ t, exec (.getThermal f) s = .next t ∧ s.answers t f e
      (leBytes 2 (unsgn 16 (s.reading s.hottest)) ++ leBytes 1 s.hottest
        ++ leBytes 1 ((List.range 68).filter fun n => (s.sensor n).broken).length ++ leBytes 2 (unsgn 16 s.largestRise)
        ++ leBytes 1 s.power.stepReq ++ leBytes 1 s.stepLive ++ leBytes 4 s.graceLeft
        ++ leBytes 2 (sat 16 s.power.vmainMv) ++ leBytes 2 (sat 16 s.power.vauxMv)))

/-! ### Commands that commit -/

/-- COMMIT and the basic commands that commit settings write their fields into the shadow sets, then commit the blocks of
their cards with their target, as one COMMIT would (R491; the cards of 15).
Rows concluded here to answer a next state: commit, setStream, setMode, setLayer, setChannel, setScanout, setPool,
setRing, setPower. -/
def Obligations.SettingsCommandsCommit : Prop :=
  ∀ (f : Nat) (e : SqEntry) (s : State),
    (s.hostRuns f commitCard e → (s.pop f).mayCommit (commitReq f (payloadOf e)) →
      ∃ t, exec (.commit f) s = .next t ∧ s.committed (s.pop f) f e (commitReq f (payloadOf e)) t) ∧
    (∀ u, s.hostRuns f setStreamCard e → nAt (payloadOf e) 0 1 < 4 → nAt (payloadOf e) 1 1 ≤ min s.numVfs 31 →
      u = (s.pop f).writeWord .scn (4 * nAt (payloadOf e) 0 1) (nAt (payloadOf e) 1 1 + 128 * nAt (payloadOf e) 2 1) →
      u.mayCommit (nextCommit f [.scn] .A) →
      ∃ t, exec (.setStream f) s = .next t ∧ s.committed u f e (nextCommit f [.scn] .A) t) ∧
    (∀ u r, s.hostRuns f setModeCard e → u = (s.pop f).writeMode (payloadOf e) →
      r = targetCommit f (modeBlks (payloadOf e)) (nAt (payloadOf e) 1 1) (nAt (payloadOf e) 0 1) (nAt (payloadOf e) 4 4) →
      u.mayCommit r → ∃ t, exec (.setMode f) s = .next t ∧ s.committed u f e r t) ∧
    (∀ u r, s.hostRuns f setLayerCard e → nAt (payloadOf e) 0 1 < 4 → nAt (payloadOf e) 1 1 < 7 →
      ((layerSurface (nAt (payloadOf e) 1 1) (payloadOf e)).1 = true →
        s.inPool f (layerSurface (nAt (payloadOf e) 1 1) (payloadOf e)).2.1
          (layerSurface (nAt (payloadOf e) 1 1) (payloadOf e)).2.2 = true) →
      u = (s.pop f).writeWords .cmp (0x1000 + 0x100 * nAt (payloadOf e) 0 1 + 0x20 * nAt (payloadOf e) 1 1) (payloadOf e)
        0x10 8 →
      r = targetCommit f [.cmp] (nAt (payloadOf e) 2 1) (nAt (payloadOf e) 3 1) (nAt (payloadOf e) 4 4) →
      u.mayCommit r → ∃ t, exec (.setLayer f) s = .next t ∧ s.committed u f e r t) ∧
    (∀ v u r, s.hostRuns f setChannelCard e → nAt (payloadOf e) 0 1 < 4 →
      v = (s.pop f).writeWords .cmp (0x10 * nAt (payloadOf e) 0 1) (payloadOf e) 0x10 4 →
      u = (if bitOf (nAt (payloadOf e) 3 1) 1 = true then
             v.writeFld .syn 0x20 (nAt (payloadOf e) 0 1) 1 (b2n (bitOf (nAt (payloadOf e) 3 1) 0)) else v) →
      r = targetCommit f (channelBlks (payloadOf e)) (nAt (payloadOf e) 1 1) (nAt (payloadOf e) 2 1)
        (nAt (payloadOf e) 4 4) →
      u.mayCommit r → ∃ t, exec (.setChannel f) s = .next t ∧ s.committed u f e r t) ∧
    (∀ u r, s.hostRuns f setScanoutCard e → u = (s.pop f).writeScanout (payloadOf e) →
      r = targetCommit f [.sco, .spl] (nAt (payloadOf e) 1 1) (nAt (payloadOf e) 0 1) (nAt (payloadOf e) 4 4) →
      u.mayCommit r → ∃ t, exec (.setScanout f) s = .next t ∧ s.committed u f e r t) ∧
    (∀ u, s.hostRuns f setPoolCard e → nAt (payloadOf e) 0 1 < 32 → nAt (payloadOf e) 2 2 < 512 →
      nAt (payloadOf e) 4 2 < 512 →
      u = (s.pop f).writeWord .sys (0x800 + 4 * nAt (payloadOf e) 0 1) (nAt (payloadOf e) 2 2 + 65536 * nAt (payloadOf e) 4 2) →
      u.mayCommit (nextCommit f [.sys] .A) →
      ∃ t, exec (.setPool f) s = .next t ∧ s.committed u f e (nextCommit f [.sys] .A) t) ∧
    (∀ u, s.hostRuns f setRingCard e →
      u = ((s.pop f).writeWord .rng 0 (nAt (payloadOf e) 0 1)).writeWord .rng 4 (nAt (payloadOf e) 2 2) →
      u.mayCommit (nextCommit f [.rng] .A) →
      ∃ t, exec (.setRing f) s = .next t ∧ s.committed u f e (nextCommit f [.rng] .A) t) ∧
    (∀ u, s.hostRuns f setPowerCard e → nAt (payloadOf e) 0 1 = 0 ∨ nAt (payloadOf e) 0 1 = 2 →
      100 ≤ nAt (payloadOf e) 2 2 → nAt (payloadOf e) 2 2 ≤ 30000 →
      u = ((s.pop f).writeWord .cpt 0 (nAt (payloadOf e) 0 1)).writeWord .cpt 4 (nAt (payloadOf e) 2 2) →
      u.mayCommit (nextCommit f [.cpt] .A) →
      ∃ t, exec (.setPower f) s = .next t ∧ s.committed u f e (nextCommit f [.cpt] .A) t)

/-- SET_CAL and APPLY_CAL act under a maintainer's trailer: Threshold stores the trailer's COUNTER, the fields go into the
CAL shadow set, and CAL is committed (R491, R525, R526). That a trailer verifies rests on Falcon, which the model leaves
opaque (log entry 3).
Rows concluded here to answer a next state: setCal, applyCal. -/
def Obligations.MaintainerCommandsCommit : Prop :=
  ∀ (f : Nat) (e : SqEntry) (s v u : State),
    (s.hostRuns f setCalCard e → setCalCard.hasTrailer { f := f, e := e } = true → nAt (payloadOf e) 1 1 < 4 →
      nAt (payloadOf e) 2 2 < 1024 → nAt (payloadOf e) 4 2 < 1024 →
      v = (s.pop f).storeCounter setCalCard { f := f, e := e } →
      u = ((v.writeWord .cal 0x100 (fld (nAt (payloadOf e) 0 1) 0 2 + 4 * nAt (payloadOf e) 1 1
              + 16 * fld (nAt (payloadOf e) 0 1) 2 1)).writeWord .cal 0x104
            (nAt (payloadOf e) 2 2 + 65536 * nAt (payloadOf e) 4 2)).writeWord .cal 0x108 (nAt (payloadOf e) 6 1) →
      u.mayCommit (nextCommit f [.cal] .A) →
      ∃ t, exec (.setCal f) s = .next t ∧ s.committed u f e (nextCommit f [.cal] .A) t ∧ t.trust.counter = v.trust.counter) ∧
    (∀ r, s.hostRuns f applyCalCard e → applyCalCard.hasTrailer { f := f, e := e } = true → nAt (payloadOf e) 2 1 < 3 →
      v = (s.pop f).storeCounter applyCalCard { f := f, e := e } →
      u = v.writeWord .cal (0x40 * nAt (payloadOf e) 0 1) (nAt (payloadOf e) 2 1) →
      r = targetCommit f [.cal] (nAt (payloadOf e) 1 1) (nAt (payloadOf e) 0 1) (nAt (payloadOf e) 4 4) →
      u.mayCommit r → ∃ t, exec (.applyCal f) s = .next t ∧ s.committed u f e r t ∧ t.trust.counter = v.trust.counter) ∧
    (nAt (setCalCard.trailerOf { f := f, e := e }) 8 8 ≠ 0 → setCalCard.hasTrailer { f := f, e := e } = true →
      (s.storeCounter setCalCard { f := f, e := e }).trust.counter = nAt (setCalCard.trailerOf { f := f, e := e }) 0x10 8)

/-! ### Commands that are refused -/

/-- A command outside its function's rights on grounds that need no payload completes with OK and a zero-filled response,
has no effect and raises no event; Cellar counts one violation (R475's check 2, R478, R479). It holds for every card. -/
def Obligations.WantOfRightsIsSilent : Prop :=
  ∀ (f : Nat) (k : Card) (e : SqEntry) (s : State) (act : State → Cmd → CmdRes),
    s.fetches f = some e → e.raw.length = 64 → nAt e.raw 0 2 = k.opcode → (k.journals = true → s.journalRoom = true) →
    s.check2 k f = true →
    ∃ t, s.hostCommand f k act = t
      ∧ (s.violate (if k.opcode = 0x200 then 2 else 1)).sameButBoxes t
      ∧ (s.box f).gained (t.box f) e stOk 0
          (zeros (if nAt e.raw 0x14 4 = 0 then 16 else min (nAt e.raw 0x14 4) (k.resp (payloadOf e))))

/-- A command whose status is not OK or OK_DEFERRED has no effect: whatever its act would have done, nothing changes but
letterboxes, and its completion carries the status (R475). The counter of the model's free values may move on. -/
def Obligations.RefusedCommandsHaveNoEffect : Prop :=
  ∀ (f : Nat) (k : Card) (e : SqEntry) (s : State) (act : State → Cmd → CmdRes) (r : CmdRes),
    s.hostRuns f k e → act ((s.pop f).storeCounter k { f := f, e := e }) { f := f, e := e } = r →
    r.status ≠ stOk → r.status ≠ stDeferred → r.later = false →
    ∃ t, s.hostCommand f k act = t ∧ t = { s with boxes := t.boxes, free := t.free }
      ∧ (s.box f).gained (t.box f) e r.status r.retry r.resp

/-! ### Commands that act at once -/

/-- READ_FIELDS answers with one word for each entry, in order, as a BAR2 read of it returns (R499), and has no effect
where no entry names TIME_LO; a single entry that names TIME_LO latches TIME_HI (R251). WRITE_FIELDS acts as its entries'
BAR2 writes, in order (R498). RETRAIN acts as the RETRAIN fields do (R291); SET_AUDIT_CHAIN takes a chain's first
descriptor, 32-byte aligned (R500).
Rows concluded here to answer a next state: writeFields, readFields, setAuditChain, retrain. -/
def Obligations.FieldAndControlCommands : Prop :=
  ∀ (f : Nat) (e : SqEntry) (s : State),
    (s.hostRuns f readFieldsCard e → 0 < nAt (payloadOf e) 0 2 → nAt (payloadOf e) 0 2 ≤ 512 →
      (∀ k, k < nAt (payloadOf e) 0 2 →
        ¬ (nAt (payloadOf e) (8 + 8 * k) 1 = 4 ∧ nAt (payloadOf e) (8 + 8 * k + 4) 4 = 0x18)) →
      ∃ t, exec (.readFields f) s = .next t ∧ s.answers t f e
        (fitTo (up8 (4 * nAt (payloadOf e) 0 2))
          ((List.range (nAt (payloadOf e) 0 2)).flatMap fun k => s.readEntry (payloadOf e) k))) ∧
    (s.hostRuns f readFieldsCard e → nAt (payloadOf e) 0 2 = 1 → nAt (payloadOf e) 8 1 = 4 →
      nAt (payloadOf e) 12 4 = 0x18 →
      ∃ t, exec (.readFields f) s = .next t ∧ t = { s with boxes := t.boxes, timeHi := s.us / 2 ^ 32 }) ∧
    (∀ u, s.hostRuns f writeFieldsCard e → 0 < nAt (payloadOf e) 0 2 → nAt (payloadOf e) 0 2 ≤ 256 →
      u = (List.range (nAt (payloadOf e) 0 2)).foldl (fun a k => a.writeEntry f (payloadOf e) k) (s.pop f) →
      ∃ t, exec (.writeFields f) s = .next t ∧ u.sameButBoxes t ∧ (s.box f).gained (t.box f) e stOk 0 []) ∧
    (∀ (o : OutId) (u : State), s.hostRuns f retrainCard e → outOf (nAt (payloadOf e) 0 1) = o → s.noOutB o = false →
      u = (s.pop f).writeRetrain o →
      ∃ t, exec (.retrain f) s = .next t ∧ u.sameButBoxes t ∧ (s.box f).gained (t.box f) e stOk 0 []) ∧
    (s.hostRuns f auditChainCard e → nAt (payloadOf e) 0 8 % 32 = 0 →
      ∃ t, exec (.setAuditChain f) s = .next t
        ∧ t = { s with boxes := t.boxes, audit := { s.audit with nextChain := some (nAt (payloadOf e) 0 8) } }
        ∧ (s.box f).gained (t.box f) e stOk 0 [])

/-! ### The PCIe function and the management port -/

/-- Before the endpoint is ready a configuration request is retried with no data (R651). Then a read answers with the double
word that R457 and R458 lay out: the PF's vendor and device, a VF's own as the PCIe specification has it, the class code, the
vendor-specific capability's ID, VSEC header, signature, variant with stepping, function and letterbox version, and firmware
version, and the SR-IOV VF counts and VF Device ID; and a write of the PF's BARs, of NumVFs, up to 31 while VF Enable is 0, or
of VF Enable takes effect (R457, R459). Where the capabilities lie is the implementation's (log entry 9). -/
def Clause.ConfigurationRequests : Prop :=
  ∀ (f off : Nat) (w : Option (List Byte)) (s : State),
    (s.power.endpoint = false ∨ (s.box f).present = false →
      exec (.configRequest f off w) s = .next { s with lastRead := [] }) ∧
    (s.power.endpoint = true → (s.box f).present = true →
      exec (.configRequest f off none) s = .next { s with lastRead := leBytes 4 (s.configWord f (off / 4 * 4)) } ∧
      s.configWord f 0 = (if f = 0 then 0x71281F2A else 0xFFFFFFFF) ∧
      s.configWord f 8 / 65536 = 0x0380 ∧
      s.configWord f vsecCap % 65536 = 0x000B ∧
      s.configWord f (vsecCap + 4) = 0x01810001 ∧
      s.configWord f (vsecCap + 8) = 0x31525A49 ∧
      s.configWord f (vsecCap + 0xC) = s.variant.code + 0xB0 * 256 + f * 65536 + 0x01000000 ∧
      s.configWord f (vsecCap + 0x10) = s.fwVersion ∧
      s.configWord f (vsecCap + 0x14) = 0 ∧
      (f = 0 → s.configWord f (sriovCap + 0xC) = 31 + 65536 * 31 ∧ s.configWord f (sriovCap + 0x10) = s.numVfs
        ∧ s.configWord f (sriovCap + 0x18) / 65536 = 0x7129) ∧
      (∀ bs, f ≠ 0 → exec (.configRequest f off (some bs)) s = .next s) ∧
      (∀ bs, f = 0 → off = 0x10 → exec (.configRequest f off (some bs)) s = .next
        { s with bars := tset 0 s.bars 0x10 (BitVec.ofNat 32 (leNat bs &&& 0xFFFFC000)) }) ∧
      (∀ bs, f = 0 → off = 0x18 → exec (.configRequest f off (some bs)) s = .next
        { s with bars := tset 0 s.bars 0x18 (BitVec.ofNat 32 (leNat bs &&& 0xFE000000)) }) ∧
      (∀ bs, f = 0 → off = sriovCap + 0x10 → s.vfEnable = false → leNat bs % 65536 ≤ 31 →
        exec (.configRequest f off (some bs)) s = .next { s with numVfs := leNat bs % 65536 }) ∧
      (∀ bs, f = 0 → off = sriovCap + 8 → s.vfEnable = false → bitOf (leNat bs) 0 = true →
        exec (.configRequest f off (some bs)) s = .next
          { s with vfEnable := true,
                   boxes := s.boxes.mapIdx fun k b => if 1 ≤ k ∧ k ≤ s.numVfs then Letterbox.reset true else b }))

/-- A function level reset disables the function's three rings, drops its fetched commands and its SUBMIT_OPS in progress,
and takes its lists from the blitter's queue; a running list of its goes on without events. Other functions' letterboxes
change by no more than the event that tells of packets discarded. Commits, sessions, points, pools and rights are
unaffected (R485). -/
def Clause.FunctionLevelReset : Prop :=
  ∀ (f : Nat) (s : State), s.power.endpoint = true → (s.box f).present = true → f < s.boxes.length →
    ∃ t, exec (.functionLevelReset f) s = .next t
      ∧ t.box f = { s.box f with sqEn := false, cqEn := false, eqEn := false, ready := [], running := 0, cqHeld := false,
                                 eqHeld := false }
      ∧ (∀ c, ∀ b ∈ (t.chan c).subs, c < 4 → b.func ≠ f)
      ∧ ((∀ c, ∀ b ∈ (s.chan c).subs, b.func ≠ f) → ∀ g, g ≠ f → t.box g = s.box g)
      ∧ t.blit = { s.blit with queue := s.blit.queue.filter fun q => q.func != f, noEvents := t.blit.noEvents }
      ∧ (∀ r, s.blit.run = some r → r.func = f → t.blit.noEvents = true)
      ∧ t.trust.points = s.trust.points ∧ t.trust.sessions = s.trust.sessions ∧ t.trust.pkg = s.trust.pkg
      ∧ t = { s with boxes := t.boxes, chans := t.chans, trust := t.trust, ring := t.ring, transom := t.transom,
                     cams := t.cams, blit := t.blit }

/-- While Cellar's controller runs, a transfer on the management port sets the index and reads with auto-increment, round
the 256 registers: 0x71, the variant's code, the status byte, and the two-byte fields of temperature, VMAIN, VAUX and the
fault log's sequence number, each latched whole with its first byte; every register behind them reads zero. Bytes written
are ignored. While the controller does not run nothing happens (R677). -/
def Clause.ManagementPortReads : Prop :=
  ∀ (i n : Nat) (w : List Byte) (s : State), i < 256 →
    (s.cellar.ctlRuns = false → exec (.mgmtI2cTransfer i w n) s = .next s) ∧
    (s.cellar.ctlRuns = true →
      (∃ t, exec (.mgmtI2cTransfer i w n) s = .next t
        ∧ t = { s with mgmtIdx := (i + n) % 256, mgmtLatch := t.mgmtLatch, lastRead := t.lastRead }
        ∧ t.lastRead.length = n) ∧
      (i = 0 → n = 12 → ∃ t, exec (.mgmtI2cTransfer i w n) s = .next t
        ∧ t.lastRead = leBytes 1 0x71 ++ leBytes 1 s.variant.code
            ++ leBytes 1 (s.worstSafe + 8 * b2n (!s.cellar.safeLow) + 16 * b2n s.power.vmainValid
                + 32 * b2n s.power.offHold)
            ++ zeros 1 ++ leBytes 2 (if s.power.vmainValid = true then unsgn 16 (s.reading s.hottest) else 0)
            ++ leBytes 2 (min 65535 s.power.vmainMv) ++ leBytes 2 (min 65535 s.power.vauxMv)
            ++ leBytes 2 (s.cellar.logSeq % 65536)) ∧
      (∀ v, s.mgmtWord i = some v → n = 2 →
        ∃ t, exec (.mgmtI2cTransfer i w n) s = .next t ∧ t.lastRead = leBytes 2 v) ∧
      (12 ≤ i → i + n ≤ 256 → ∃ t, exec (.mgmtI2cTransfer i w n) s = .next t ∧ t.lastRead = zeros n))

/-- Configuration requests, function level reset and the management port: `Clause.ConfigurationRequests`, `Clause.FunctionLevelReset`, `Clause.ManagementPortReads`, together.
Rows concluded here to answer a next state: mgmtI2cTransfer, configRequest, functionLevelReset. -/
def Obligations.FunctionsAndManagementPort : Prop :=
  Clause.ConfigurationRequests ∧ Clause.FunctionLevelReset ∧ Clause.ManagementPortReads

/-! ### Taking a fault -/

/-- The class of a fault of FC2 to FC4: one higher while another fault of FC3 or FC4 is handled (R557), FC4 where that is
FC3 and comes within one second of the FC3 fault before (R558) or while a forced checkpoint is written (R574), and SS4
beyond FC4. It has an
entry of its own in the log, which counts on. -/
def Clause.FaultsAreClassedAndLogged : Prop :=
  ∀ (x : FaultIn) (s : State), 2 ≤ x.cls → x.cls ≤ 4 →
    (∃ e ∈ (s.fault x).cellar.log, e.seq = s.cellar.logSeq ∧ e.code = x.code ∧ e.island = x.island ∧ e.time = s.us
      ∧ (∀ k, k = x.cls + (if s.handling = true then 1 else 0) →
          (k ≠ 3 → e.cls = min 4 k)
          ∧ (k = 3 → (∃ t, s.cellar.lastFc3 = some t ∧ s.us < t + 1000000) → e.cls = 4)
          ∧ (k = 3 → s.cellar.ckptForced = true → e.cls = 4)
          ∧ (k = 3 → s.cellar.ckptForced = false → (∀ t, s.cellar.lastFc3 = some t → t + 1000000 ≤ s.us) → e.cls = 3))) ∧
    (s.fault x).cellar.logSeq = w32 (s.cellar.logSeq + 1) ∧
    (s.handling = true → x.cls = 4 → (s.fault x).cellar.ss4 = true) ∧
    (x.cls = 4 → s.cellar.ss4 = false → (s.fault x).cellar.ss4 = false →
      ∀ o ∈ s.outs, ∃ d ∈ (s.fault x).cellar.ss3, d.out = o ∧ d.code = x.code)

/-- An FC0 or FC1 fault whose code and island are those of an entry less than a second old adds one to that entry's COUNT
and makes no new entry (R559): the log keeps its length and its sequence number. -/
def Clause.RecentFaultsAreCounted : Prop :=
  ∀ (x : FaultIn) (s : State) (e : LogEntry), s.handling = false → x.cls ≤ 1 → x.force ≠ .ss4 →
    (s.cellar.log.find? fun e => e.code == x.code && e.island == x.island && s.us < e.time + 1000000) = some e →
    (s.fault x).cellar.logSeq = s.cellar.logSeq ∧
    (s.fault x).cellar.log = (s.cellar.log.map fun g =>
      if g.seq = e.seq then { g with count := min 65535 (g.count + 1) } else g) ∧
    (s.fault x).cellar.recov = s.cellar.recov ∧ s.sameButHandling (s.fault x)

/-- The class, the log entry and the safe states of a fault: `Clause.FaultsAreClassedAndLogged`, `Clause.RecentFaultsAreCounted`, together. -/
def Obligations.FaultsAreClassedAndLogged : Prop :=
  Clause.FaultsAreClassedAndLogged ∧ Clause.RecentFaultsAreCounted

/-! ### What the monitors detect -/

/-- FAULT_IN low while FAULT_IN_EN is 1 is fault 0x0E06, once (R553); a fault of Cellar's lockstep, of Threshold's, of the
crystal or of its frequency puts the machine in SS4 (R562). -/
def Clause.MonitorsReportFaults : Prop :=
  ∀ s : State, s.cellar.ctlRuns = true →
    (s.faultInEn = false → exec (.faultIn true) s = .next { s with cellar := { s.cellar with faultIn := true } }) ∧
    (s.faultInEn = true → (s.cellar.ss3.any fun d => d.code == 0xE06) = true →
      exec (.faultIn true) s = .next { s with cellar := { s.cellar with faultIn := true } }) ∧
    (s.faultInEn = true → (∀ d ∈ s.cellar.ss3, d.code ≠ 0xE06) → s.handling = false →
      ∃ t, exec (.faultIn true) s = .next t ∧ s.logs t 0xE06 255 ∧ t.cellar.faultIn = true ∧ s.sameButHandling t
        ∧ ∀ o ∈ s.outs, ∃ d ∈ t.cellar.ss3, d.out = o ∧ d.code = 0xE06 ∧ d.fc4 = true) ∧
    (∃ t, exec (.faultIn false) s = .next t ∧ t = { s with cellar := t.cellar } ∧ t.cellar.faultIn = false
      ∧ t.cellar.log = s.cellar.log) ∧
    (s.cellar.ss4 = false →
      (∃ t, exec (.lockstepMismatch .cellar) s = .next t ∧ s.logs t 0xE04 54 ∧ s.entersSs4 t) ∧
      ((s.landing 60).powered = true →
        ∃ t, exec (.lockstepMismatch .threshold) s = .next t ∧ s.logs t 0xD02 60 ∧ s.entersSs4 t) ∧
      (∃ t, exec .crystalStop s = .next t ∧ s.logs t 0xE05 54 ∧ s.entersSs4 t) ∧
      (∃ t, exec .crystalDeviation s = .next t ∧ s.logs t 0x408 54 ∧ s.entersSs4 t))

/-- While Cellar is held in reset, or the unit concerned has no power, its monitors report nothing. -/
def Clause.NothingIsReportedWithoutCellar : Prop :=
  ∀ s : State,
    (s.cellar.ctlRuns = false →
      (∀ low, exec (.faultIn low) s = .next { s with cellar := { s.cellar with faultIn := low } }) ∧
      (∀ u, exec (.lockstepMismatch u) s = .next s) ∧ exec .crystalStop s = .next s ∧
      exec .crystalDeviation s = .next s ∧ exec .heartbeatToggle s = .next s ∧
      (∀ isl n, exec (.pllWindow isl n) s = .next s) ∧ (∀ isl, exec (.refEdgeTimeout isl) s = .next s)) ∧
    (s.power.hearth = false → exec .hearthHeartbeatTimeout s = .next s ∧ exec (.lockstepMismatch .hearth) s = .next s
      ∧ exec .checkpointByVolume s = .next s) ∧
    (∀ isl, (s.landing isl).present = false ∨ (s.landing isl).powered = false →
      (∀ n, exec (.pllWindow isl n) s = .next s) ∧ exec (.refEdgeTimeout isl) s = .next s)

/-- Fault 0x0E01 of Hearth (R562): no heartbeat for 50 ms, or a lockstep mismatch, while Hearth has power and is not being
recovered. It forces no safe state of its own. -/
def Clause.HearthFaultsAreReported : Prop :=
  ∀ s : State, s.power.hearth = true → s.cellar.ctlRuns = true →
    (∃ t, exec (.lockstepMismatch .hearth) s = .next t ∧ s.logs t 0xE01 53 ∧ s.sameButHandling t) ∧
    ((s.cellar.recov.any fun r => r.island == 53 && !r.replayed) = false → 53 ∉ s.cellar.outOfSvc →
      ∃ t, exec .hearthHeartbeatTimeout s = .next t ∧ (s.atUs (s.cellar.hearthAt + 50000)).logs t 0xE01 53
        ∧ (s.atUs (s.cellar.hearthAt + 50000)).sameButHandling t)

/-- Cellar's monitors report their faults, and nothing without power: `Clause.MonitorsReportFaults`, `Clause.NothingIsReportedWithoutCellar`, `Clause.HearthFaultsAreReported`, together.
Rows concluded here to answer a next state: faultIn, hearthHeartbeatTimeout, lockstepMismatch, crystalStop,
crystalDeviation. -/
def Obligations.MonitorsReportFaults : Prop :=
  Clause.MonitorsReportFaults ∧ Clause.NothingIsReportedWithoutCellar ∧ Clause.HearthFaultsAreReported

/-- HEARTBEAT is inverted every 10 ms while Cellar runs and the controller is not in SS4, where it stays low (R551). -/
def Clause.HeartbeatToggles : Prop :=
  ∀ s : State,
    (s.cellar.ctlRuns = true → s.cellar.ss4 = false →
      exec .heartbeatToggle s = .next { s with
        clk := max s.clk (25 * (s.cellar.hbAt + 10000)),
        cellar := { s.cellar with heartbeat := !s.cellar.heartbeat, hbAt := max s.clk (25 * (s.cellar.hbAt + 10000)) / 25 } }) ∧
    (s.cellar.ss4 = true → exec .heartbeatToggle s = .next s)

/-- A PLL has lock after three windows in a row whose count lies within 100 ppm of nominal; a window outside begins again
(R615); an island that can work goes on with what waits for it (R24). A locked one whose count lies within 500 ppm stays so; outside, or without a reference edge for 4 µs, it declares
loss: it has no lock, LOSS_COUNT goes up, and fault 0x0003 of its island is logged (R616). -/
def Clause.PllsLockAndLose : Prop :=
  ∀ (isl n : Nat) (s : State), s.cellar.ctlRuns = true → (s.landing isl).present = true →
    (s.landing isl).powered = true →
    ((s.landing isl).gated = false → (s.landing isl).pllLocked = false → inPpm isl n 100 = true →
      exec (.pllWindow isl n) s = .next ((s.modLanding isl fun l =>
        { l with lockWins := min 3 (l.lockWins + 1), pllLocked := 2 ≤ l.lockWins }).wake isl)) ∧
    ((s.landing isl).gated = false → (s.landing isl).pllLocked = false → inPpm isl n 100 = false →
      exec (.pllWindow isl n) s = .next ((s.modLanding isl fun l => { l with lockWins := 0 }).wake isl)) ∧
    ((s.landing isl).gated = false → (s.landing isl).pllLocked = true → inPpm isl n 500 = true →
      exec (.pllWindow isl n) s = .next s) ∧
    ((s.landing isl).gated = false → (s.landing isl).pllLocked = true → inPpm isl n 500 = false →
      ∃ t, exec (.pllWindow isl n) s = .next t ∧ s.logs t 3 isl ∧ (t.landing isl).pllLocked = false
        ∧ (t.landing isl).lossCount = min 65535 ((s.landing isl).lossCount + 1) ∧ t.commits = s.commits
        ∧ t.shadow = s.shadow ∧ t.dram = s.dram ∧ t.clk = s.clk) ∧
    ((s.landing isl).pllLocked = true →
      ∃ t, exec (.refEdgeTimeout isl) s = .next t ∧ s.logs t 3 isl ∧ (t.landing isl).pllLocked = false
        ∧ (t.landing isl).lossCount = min 65535 ((s.landing isl).lossCount + 1) ∧ t.commits = s.commits
        ∧ t.shadow = s.shadow ∧ t.dram = s.dram ∧ t.clk = s.clk)

/-- HEARTBEAT toggles; PLLs gain and lose lock: `Clause.HeartbeatToggles`, `Clause.PllsLockAndLose`, together.
Rows concluded here to answer a next state: heartbeatToggle, pllWindow, refEdgeTimeout. -/
def Obligations.HeartbeatAndPlls : Prop :=
  Clause.HeartbeatToggles ∧ Clause.PllsLockAndLose

/-! ### Checkpoints, replay and recovery -/

/-- A checkpoint begins once 256 MiB of entries lie behind the newest one (R568): it holds the pending
copies, every landing's sets, the channels and the zone copies as they are then, in the slot that does not hold the newest
complete one, and the journal notes its start. When it completes, the entries before its start are freed (R567); one that was not forced and
fails is dropped; a forced one begins again, and failing twice is fault 0x0E07 (R574). -/
def Clause.CheckpointsAreKept : Prop :=
  ∀ s : State,
    (s.power.hearth = true → s.cellar.ckptBusy = none → 268435456 ≤ s.cellar.jBytes →
      ∃ t, exec .checkpointByVolume s = .next t ∧ t = { s with cellar := t.cellar } ∧ t.cellar.ckptForced = false
        ∧ t.cellar.journal = s.cellar.journal ++ [(.ckptStart s.outA.frameNum, true)]
        ∧ t.cellar.ckptBusy = some
            { frame := s.outA.frameNum, slot := 1 - (s.cellar.ckpt.map (·.slot)).getD 1, pos := s.cellar.jPos, pend := s.commits.pend,
              landings := s.landings.map (·.sets), channels := s.chans, zoneA := s.outA.zone, zoneB := s.outB.zone }) ∧
    (s.cellar.ckptBusy ≠ none ∨ s.cellar.jBytes < 268435456 → exec .checkpointByVolume s = .next s) ∧
    (∀ ok, s.cellar.ckptBusy = none → exec (.checkpointDone ok) s = .next s) ∧
    (∀ k, s.cellar.ckptBusy = some k →
      (∃ t, exec (.checkpointDone true) s = .next t ∧ t = { s with cellar := t.cellar } ∧ t.cellar.ckpt = some k
        ∧ t.cellar.ckptBusy = none ∧ t.cellar.ckptForced = false ∧ t.cellar.ckptFrame = k.frame
        ∧ t.cellar.journal = s.cellar.journal.drop (k.pos - (s.cellar.jPos - s.cellar.journal.length))
            ++ [(.ckptDone k.frame, true)]) ∧
      (s.cellar.ckptForced = false →
        exec (.checkpointDone false) s = .next { s with cellar := { s.cellar with ckptBusy := none } }) ∧
      (s.cellar.ckptForced = true → s.cellar.ckptTries = 0 →
        ∃ t, exec (.checkpointDone false) s = .next t ∧ t = { s with cellar := t.cellar } ∧ t.cellar.ckptForced = true
          ∧ t.cellar.ckptTries = 1 ∧ t.cellar.journal = s.cellar.journal
          ∧ ∃ k', t.cellar.ckptBusy = some k' ∧ k'.frame = s.outA.frameNum ∧ k'.pos = s.cellar.jPos) ∧
      (s.cellar.ckptForced = true → s.cellar.ckptTries ≠ 0 → s.handling = false →
        ∃ t, exec (.checkpointDone false) s = .next t ∧ s.logs t 0xE07 255 ∧ s.sameButHandling t
          ∧ t.cellar.ckptBusy = none ∧ t.cellar.ckptForced = false))

/-- An island whose sets have been replayed, its clock locked, may rejoin (R572); a store's replay ends its recovery, and
the point table's gives its entries their runtime fields back. An island that has not rejoined 100 ms after its reset is
out of service, fault 0x0E08 (R562). Without such a recovery nothing happens. -/
def Clause.RecoveriesEnd : Prop :=
  ∀ (isl : Nat) (s : State),
    ((s.cellar.recov.find? fun r => r.island == isl && r.waitsReplay) = none →
      exec (.islandReplayDone isl) s = .next s) ∧
    (∀ r, (s.cellar.recov.find? fun r => r.island == isl && r.waitsReplay) = some r →
      (r.store = false → s.cellar.ckptForced = false → (s.landing isl).powered = true →
        (s.landing isl).pllLocked = true →
        exec (.islandReplayDone isl) s = .next (({ s with cellar := { s.cellar with
          recov := s.cellar.recov.map (fun q => if q = r then { q with replayed := true } else q),
          hearthAt := (if isl = 53 then s.us else s.cellar.hearthAt) } } : State).wake isl)) ∧
      (r.code ≠ 0x407 → s.cellar.ckptForced = true → exec (.islandReplayDone isl) s = .next s) ∧
      (r.store = true → s.cellar.ckptForced = false →
        ∃ t, exec (.islandReplayDone isl) s = .next t ∧ t = { s with cellar := t.cellar, trust := t.trust }
          ∧ r ∉ t.cellar.recov ∧ t.trust.sessions = s.trust.sessions ∧ t.trust.regions = s.trust.regions)) ∧
    ((s.cellar.recov.find? fun r => r.island == isl && !r.store && r.rejoin.isNone) = none →
      exec (.islandRejoinTimeout isl) s = .next s) ∧
    (∀ r, (s.cellar.recov.find? fun r => r.island == isl && !r.store && r.rejoin.isNone) = some r →
      ∃ t, exec (.islandRejoinTimeout isl) s = .next t ∧ isl ∈ t.cellar.outOfSvc
        ∧ (s.atUs (r.resetAt + 100000)).logs t 0xE08 isl
        ∧ t.commits = s.commits ∧ t.shadow = s.shadow ∧ t.dram = s.dram)

/-- Checkpoints begin and complete; recoveries end: `Clause.CheckpointsAreKept`, `Clause.RecoveriesEnd`, together.
Rows concluded here to answer a next state: checkpointByVolume, checkpointDone, islandReplayDone, islandRejoinTimeout. -/
def Obligations.CheckpointsAndRecoveries : Prop :=
  Clause.CheckpointsAreKept ∧ Clause.RecoveriesEnd

/-- RECOVER (R580). ACTION 1 names an FC4 entry: with no handling of an FC3 fault running and every such detection absent for a second,
what it forces is lifted at the doorway two frames on; its RESULT tells that handling runs (2) or a cause still present (1), with
no effect. ACTION 2 brings the islands out of service back: a recovery of each begins.
Rows concluded here to answer a next state: recover. -/
def Obligations.RecoverLifts : Prop :=
  ∀ (f : Nat) (e : SqEntry) (s u : State), s.hostRuns f recoverCard e →
    u = (s.pop f).storeCounter recoverCard { f := f, e := e } →
    (nAt (payloadOf e) 0 1 = 1 →
      (u.cellar.log ++ u.cellar.mirror).any (fun g => g.seq == nAt (payloadOf e) 4 4 && g.cls == 4) = true →
      ∃ t, exec (.recover f) s = .next t ∧
        (u.fc3Runs = true → t = { u with boxes := t.boxes }
          ∧ (s.box f).gained (t.box f) e stOk 0 (leBytes 1 2 ++ zeros 7)) ∧
        (u.fc3Runs = false → u.causesGone (nAt (payloadOf e) 4 4) = false → t = { u with boxes := t.boxes }
          ∧ (s.box f).gained (t.box f) e stOk 0 (leBytes 1 1 ++ zeros 7)) ∧
        (u.fc3Runs = false → u.causesGone (nAt (payloadOf e) 4 4) = true →
          t = { u with boxes := t.boxes,
                       cellar := { u.cellar with liftAt := some ((u.outA.frameNum + 2) % 0x100000000) } }
          ∧ (s.box f).gained (t.box f) e stOk 0
              (zeros 4 ++ leBytes 4 ((u.outA.frameNum + 2) % 0x100000000)))) ∧
    (nAt (payloadOf e) 0 1 = 2 → (∀ k ∈ u.cellar.outOfSvc, k ∉ [44, 45, 53]) →
      ∃ t, exec (.recover f) s = .next t ∧ t.cellar.outOfSvc = []
        ∧ t = { u with boxes := t.boxes, cellar := t.cellar, landings := t.landings }
        ∧ (∀ k ∈ u.cellar.outOfSvc, ∃ r ∈ t.cellar.recov, r.island = k ∧ r.code = 0xE08 ∧ r.replayed = false)
        ∧ (s.box f).gained (t.box f) e stOk 0 (zeros 8))

/-! ### Starts -/

/-- A cold start begins when VAUX becomes valid (R619, R640): Cellar time and the fault log begin again, sessions and the
point table are lost, every pending commit is dropped, and the records in MRAM are kept, the Transom's ledger
and counts apart, which R357 and R358 govern. Below 2.7 V, or while VAUX is valid already, nothing happens. -/
def Clause.ColdStart : Prop :=
  ∀ (mv : Nat) (s : State),
    (s.power.vauxValid = true ∨ mv < 2700 → exec (.vauxValid mv) s = .next s) ∧
    (s.power.vauxValid = false → 2700 ≤ mv →
      ∃ t, exec (.vauxValid mv) s = .next t ∧ t.pending = s.pending ∧ t.variant = s.variant ∧ t.clk = 0
        ∧ t.power.vauxValid = true ∧ t.power.vauxMv = mv ∧ t.power.vmainValid = false ∧ t.power.startKind = 0
        ∧ t.power.ready = false ∧ t.power.rails = false
        ∧ t.cellar.ctlRuns = true ∧ t.cellar.ss4 = false ∧ t.cellar.safeLow = true ∧ t.cellar.log = []
        ∧ t.cellar.logSeq = s.mram.logSeq ∧ t.commits.pend = [] ∧ t.commits.nextId = 1
        ∧ t.trust.points = [] ∧ t.trust.sessions = [] ∧ t.trust.bootN = s.trust.bootN + 1
        ∧ t.trust.ownerKey = s.ownerRecs.newest.bind (·.val.1) ∧ t.outA.frameNum = 0 ∧ t.outB.frameNum = 0
        ∧ (∀ f, t.box f = Letterbox.reset (f == 0)) ∧ t.mram = { s.mram with ledger := t.mram.ledger, trCounts := t.mram.trCounts })

/-- A main start begins when VMAIN becomes valid once the cold start has gone by (R640): Cellar time and the fault log stay,
sessions, points and pending commits are lost, and the rails are sequenced (R643). After three entries into SS4 within ten
minutes nothing starts (R581); the first time VMAIN is valid, the cold start goes on. -/
def Clause.MainStart : Prop :=
  ∀ (mv : Nat) (s : State),
    (s.power.vauxValid = false ∨ s.power.vmainValid = true ∨ mv < 10800 → exec (.vmainValid mv) s = .next s) ∧
    (s.power.vauxValid = true → s.power.vmainValid = false → 10800 ≤ mv →
      (s.power.lockout = true →
        exec (.vmainValid mv) s = .next { s with
          power := { s.power with vmainValid := true, vmainMv := mv, vmainClk := s.clk, offHold := false } }) ∧
      (s.power.lockout = false → s.power.thermStop = false → s.power.startKind = 0 → s.power.offHold = false →
        s.cellar.ss4 = false → s.power.rails = false →
        ∃ t, exec (.vmainValid mv) s = .next t ∧ t = { s with power := t.power, landings := t.landings }
          ∧ t.power.rails = true ∧ t.power.vmainValid = true ∧ t.power.vmainMv = mv
          ∧ ∀ n, n ≠ 54 → n ≠ 61 → (s.landing n).present = true →
              (t.landing n).powered = true ∧ (t.landing n).pllLocked = false ∧ (t.landing n).lockWins = 0) ∧
      (s.power.lockout = false → s.power.thermStop = false → s.power.startKind ≠ 0 ∨ s.power.offHold = true →
        ∃ t, exec (.vmainValid mv) s = .next t ∧ t.pending = s.pending ∧ t.variant = s.variant ∧ t.clk = s.clk
          ∧ t.power.rails = true ∧ t.power.vmainValid = true ∧ t.power.startKind = 1 ∧ t.power.offHold = false
          ∧ t.cellar.ss4 = false ∧ t.cellar.recov = [] ∧ t.cellar.log.map (·.seq) = s.cellar.log.map (·.seq)
          ∧ t.cellar.logSeq = s.cellar.logSeq ∧ t.commits.pend = [] ∧ t.trust.points = [] ∧ t.trust.sessions = []
          ∧ t.outA.frameNum = 0 ∧ ∀ f, t.box f = Letterbox.reset (f == 0)))

/-- The cold start and the main start: what is lost and what is kept: `Clause.ColdStart`, `Clause.MainStart`, together.
Rows concluded here to answer a next state: vauxValid, vmainValid. -/
def Obligations.ColdAndMainStart : Prop :=
  Clause.ColdStart ∧ Clause.MainStart

/-- An assertion of PERST# in SS4, or while VMAIN is valid and the endpoint is ready, calls for a warm start: PSAFE is
asserted on every output, SAFE_OUT goes low, the Transom is held (R641). At any other time it holds only the endpoint. -/
def Clause.PerstHolds : Prop :=
  ∀ s : State,
    (s.power.perst = true → exec .perstAssert s = .next s) ∧
    (s.power.perst = false → s.cellar.ss4 = true →
      exec .perstAssert s = .next { s with
        power := { s.power with perst := true, perstAt := s.clk, perstApplied := true } }) ∧
    (s.power.perst = false → s.cellar.ss4 = false → s.power.vmainValid = false ∨ s.power.endpoint = false →
      exec .perstAssert s = .next { s with
        power := { s.power with perst := true, perstAt := s.clk, endpoint := false } }) ∧
    (s.power.perst = false → s.cellar.ss4 = false → s.power.vmainValid = true → s.power.endpoint = true →
      ∃ t, exec .perstAssert s = .next t ∧ t.power.perst = true ∧ t.power.perstApplied = true ∧ t.power.perstAt = s.clk
        ∧ t.power.endpoint = false ∧ t.power.ready = false ∧ t.cellar.safeLow = true ∧ t.linkA.psafe = true
        ∧ t.linkB.psafe = true ∧ (s.transom.powerLoss = false → t.transom.hold = true)
        ∧ (∀ n, n ≠ 54 → n ≠ 61 → n < s.landings.length → (t.landing n).inProtocol = false)
        ∧ t.clk = s.clk ∧ t.commits = s.commits ∧ t.shadow = s.shadow ∧ t.cellar.log = s.cellar.log
        ∧ t.trust.points = s.trust.points ∧ t.dram = s.dram ∧ t.mram = s.mram)

/-- PERST#'s deassertion begins a warm start after an assertion to which R641 applied (R640), in SS4 only one of 100 ms and
not beyond the limit of R581: Cellar time, the fault log and the point table stay; sessions and pending commits are lost. -/
def Clause.WarmStart : Prop :=
  ∀ s : State,
    (s.power.perst = false → exec .perstDeassert s = .next s) ∧
    (s.power.perst = true → s.power.perstApplied = false ∨ s.power.vmainValid = false
        ∨ (s.cellar.ss4 = true ∧ (s.clk < s.power.perstAt + 2500000 ∨ s.power.lockout = true)) →
      exec .perstDeassert s = .next { s with
        power := { s.power with perst := false, perstApplied := false, perstAt := s.clk } }) ∧
    (s.power.perst = true → s.power.perstApplied = true → s.power.vmainValid = true → s.power.thermStop = false →
      s.cellar.ss4 = false ∨ (s.power.perstAt + 2500000 ≤ s.clk ∧ s.power.lockout = false) →
      ∃ t, exec .perstDeassert s = .next t ∧ t.pending = s.pending ∧ t.variant = s.variant ∧ t.clk = s.clk
        ∧ t.power.rails = true ∧ t.power.perst = false ∧ t.power.startKind = 2 ∧ t.cellar.ss4 = false
        ∧ t.cellar.log.map (·.seq) = s.cellar.log.map (·.seq) ∧ t.trust.points = s.trust.points
        ∧ t.trust.sessions = [] ∧ t.commits.pend = [] ∧ t.outA.frameNum = 0
        ∧ ∀ f, t.box f = Letterbox.reset (f == 0))

/-- PERST# and the warm start: what is lost and what is kept: `Clause.PerstHolds`, `Clause.WarmStart`, together.
Rows concluded here to answer a next state: perstAssert, perstDeassert. -/
def Obligations.PerstAndWarmStart : Prop :=
  Clause.PerstHolds ∧ Clause.WarmStart

/-- What follows the rails (R643): DRAM trains, or its failing is fault 0x0C03; zeroing ends; the endpoint is ready where
PERST# is not asserted (R651); READY reads 1 once Hearth runs and the endpoint is ready (R652), and the firmware's
SECURITY_VERSION raises the fused one (R518). The stored owner package becomes live at frame 1 where it passes (R645). -/
def Clause.StartUpGoesOn : Prop :=
  ∀ s : State,
    (s.power.hearth = true → s.dram.st = 0 → s.dram.failed = false → s.pendsOf .mem 0 = [] →
      (∃ t, exec (.dramTrained true) s = .next t ∧ t = { s with dram := t.dram } ∧ t.dram.st = 1 ∧ t.dram.mem = []
        ∧ t.dram.liveWords = s.dram.liveWords) ∧
      (s.handling = false → ∃ t, exec (.dramTrained false) s = .next t ∧ s.logs t 0xC03 255 ∧ t.dram.failed = true
        ∧ t.dram.st = 0 ∧ ({ s with dram := t.dram } : State).sameButHandling t)) ∧
    (s.power.hearth = false ∨ s.dram.st ≠ 0 ∨ s.dram.failed = true → ∀ ok, exec (.dramTrained ok) s = .next s) ∧
    (s.dram.st = 1 → exec .dramZeroingDone s = .next { s with dram := { s.dram with st := 2 } }) ∧
    (s.dram.st ≠ 1 → exec .dramZeroingDone s = .next s) ∧
    (s.power.rails = true → s.power.vmainValid = true → s.power.perst = false → s.cellar.ss4 = false →
      exec .endpointReady s = .next { s with power := { s.power with endpoint := true } }) ∧
    (s.power.rails = false ∨ s.power.vmainValid = false ∨ s.power.perst = true ∨ s.cellar.ss4 = true →
      exec .endpointReady s = .next s) ∧
    (∀ fw, s.power.hearth = true → s.power.endpoint = true → s.power.ready = false → s.trust.firmware = some fw →
      exec .letterboxReady s = .next { s with
        power := { s.power with ready := true, readyUs := s.us },
        trust := { s.trust with fusedVer := max s.trust.fusedVer fw.secVer } }) ∧
    (s.power.hearth = false ∨ s.power.endpoint = false ∨ s.power.ready = true →
      exec .letterboxReady s = .next s) ∧
    (s.power.hearth = true → s.power.pkgChecked = false →
      (s.pkgRecs.newest = none →
        exec .packageCheckDone s = .next { s with power := { s.power with pkgChecked := true } }) ∧
      (∀ r, s.pkgRecs.newest = some r → s.storedOk r.val = true →
        exec .packageCheckDone s = .next { s with
          power := { s.power with pkgChecked := true },
          trust := { s.trust with pending := some r.val, pendDue := 1 } }) ∧
      (∀ r, s.pkgRecs.newest = some r → s.storedOk r.val = false → exec .packageCheckDone s = .next s))

/-- Threshold verifies the firmware once the rails are good (R517, R643): an image that passes releases Hearth, and the audit
chain goes on from its tail in MRAM; with none that passes, fault 0x0D01 puts the machine in SS4. -/
def Clause.FirmwareIsVerified : Prop :=
  ∀ s : State,
    (s.power.rails = false ∨ s.power.hearth = true ∨ s.cellar.ss4 = true → exec .bootVerifyDone s = .next s) ∧
    (s.power.rails = true → s.power.hearth = false → s.cellar.ss4 = false →
      (s.bootImage = none → ∃ t, exec .bootVerifyDone s = .next t ∧ s.logs t 0xD01 60 ∧ s.entersSs4 t) ∧
      (∀ img copy fb, s.bootImage = some (img, copy, fb) →
        ∃ t, exec .bootVerifyDone s = .next t ∧ t.power.hearth = true ∧ t.trust.firmware = some img
          ∧ t.trust.bootCopy = copy ∧ t.trust.fallback = fb ∧ t.audit.startDue = some 0
          ∧ (s.tailRecs.newest = none → t.audit.segment = 0 ∧ t.audit.prevHash = zeros 64)
          ∧ (∀ r, s.tailRecs.newest = some r → t.audit.segment = r.val.1 ∧ t.audit.prevHash = r.val.2)
          ∧ t.clk = s.clk ∧ t.cellar.log = s.cellar.log ∧ t.trust.points = s.trust.points ∧ t.mram = s.mram))

/-- Start-up after the rails: DRAM, firmware, endpoint, READY, package: `Clause.StartUpGoesOn`, `Clause.FirmwareIsVerified`, together.
Rows concluded here to answer a next state: bootVerifyDone, packageCheckDone, dramTrained, dramZeroingDone,
endpointReady, letterboxReady. -/
def Obligations.StartUpGoesOn : Prop :=
  Clause.StartUpGoesOn ∧ Clause.FirmwareIsVerified

/-! ### Supplies -/

/-- What Cellar measures of VAUX and VMAIN (R618 to R621, R638): VAUX below 3.0 V is fault 0x0F14; the power-fail
indication is fault 0x0F15 and SS3 on every output; VMAIN outside its range is fault 0x0F11; VMAIN lost is fault 0x0F10 and leads to OFF-HOLD,
which does not count towards R581's limit; an overvoltage or a regulator's fault writes a shutdown record (R636) and enters
SS4. -/
def Clause.SupplyFaults : Prop :=
  ∀ (mv : Nat) (s : State),
    (s.power.vauxValid = true → mv < 3000 →
      ∃ t, exec (.vauxLow mv) s = .next t ∧ s.logs t 0xF14 255 ∧ t.power = { s.power with vauxMv := mv }
        ∧ ({ s with power := t.power } : State).sameButHandling t) ∧
    (s.power.vauxValid = false ∨ 3000 ≤ mv → exec (.vauxLow mv) s = .next s) ∧
    (s.power.vauxValid = true → s.power.powerFail = false → mv < 2800 ∨ mv + 100 ≤ s.power.vauxMv →
      s.handling = false →
      ∃ t, exec (.powerFail mv) s = .next t ∧ s.logs t 0xF15 255 ∧ t.power.powerFail = true
        ∧ (s.transom.restoreWait = false → t.transom.powerLoss = true)
        ∧ (∀ o ∈ s.outs, ∃ d ∈ t.cellar.ss3, d.out = o ∧ d.code = 0xF15) ∧ t.commits.pend = s.commits.pend
        ∧ t.power.lockout = s.power.lockout) ∧
    (s.power.vmainValid = true → (10500 ≤ mv ∧ mv < 10800) ∨ (13200 < mv ∧ mv ≤ 14000) →
      ∃ t, exec (.vmainRangeFault mv) s = .next t ∧ s.logs t 0xF11 255 ∧ t.power = { s.power with vmainMv := mv }
        ∧ ({ s with power := t.power } : State).sameButHandling t) ∧
    (s.power.vmainValid = false ∨ mv < 10500 ∨ (10800 ≤ mv ∧ mv ≤ 13200) ∨ 14000 < mv →
      exec (.vmainRangeFault mv) s = .next s) ∧
    (s.power.vauxValid = true → s.power.vmainValid = true → mv < 10500 → s.cellar.ss4 = false →
      ∃ t, exec (.vmainLost mv) s = .next t ∧ s.logs t 0xF10 255 ∧ s.entersSs4 t ∧ t.power.offHold = true ∧ t.power.vmainValid = false
        ∧ t.power.vmainMv = mv ∧ t.power.lockout = s.power.lockout) ∧
    (s.power.vauxValid = false ∨ s.power.vmainValid = false ∨ 10500 ≤ mv → exec (.vmainLost mv) s = .next s) ∧
    (s.cellar.ctlRuns = true → s.cellar.ss4 = false → 14000 < mv →
      ∃ t r, exec (.vmainOvervoltage mv) s = .next t ∧ s.logs t 0xF12 255 ∧ s.entersSs4 t
        ∧ t.mram.shutdown = s.mram.shutdown.write s.us r ∧ r.cause = 5 ∧ r.orderly = 0) ∧
    (s.cellar.ctlRuns = true → s.power.rails = true → s.cellar.ss4 = false →
      ∃ t r, exec (.regulatorFault mv) s = .next t ∧ s.logs t 0xF13 255 ∧ s.entersSs4 t
        ∧ t.mram.shutdown = s.mram.shutdown.write s.us r ∧ r.cause = 6 ∧ r.orderly = 0)

/-- When VAUX stops being valid, Cellar is held in reset: SAFE_OUT low, HEARTBEAT low, PSAFE asserted, no letterbox READY
(R551, R619). Below 1.5 V its drive of SAFE_OUT ends, and the Transom engine has no supply (R552). -/
def Clause.LosingVaux : Prop :=
  ∀ (mv : Nat) (s : State),
    (s.power.vauxValid = true → mv < 2700 →
      ∃ t, exec (.vauxInvalid mv) s = .next t ∧ t.power.vauxValid = false ∧ t.power.vauxMv = mv
        ∧ t.power.vmainValid = false ∧ t.power.ready = false ∧ t.power.endpoint = false ∧ t.cellar.ctlRuns = false
        ∧ t.cellar.safeLow = true ∧ t.cellar.heartbeat = false ∧ t.linkA.psafe = true ∧ t.linkB.psafe = true
        ∧ (∀ f, f < s.boxes.length → t.box f = Letterbox.reset (s.box f).present)
        ∧ (s.power.powerFail = false → t.mram = s.mram) ∧ t.clk = s.clk ∧ t.pending = s.pending) ∧
    (s.power.vauxValid = false ∨ 2700 ≤ mv → exec (.vauxInvalid mv) s = .next s) ∧
    (s.power.vauxValid = false → mv < 1500 →
      exec (.vauxRailBelow1v5 mv) s = .next { s with
        power := { s.power with safeOutOff := true, vauxMv := mv }, transom := .reset }) ∧
    (s.power.vauxValid = true ∨ 1500 ≤ mv → exec (.vauxRailBelow1v5 mv) s = .next s)

/-- What the supply monitors do, and the loss of VAUX: `Clause.SupplyFaults`, `Clause.LosingVaux`, together.
Rows concluded here to answer a next state: vauxInvalid, powerFail, vmainLost, vmainRangeFault, vmainOvervoltage,
regulatorFault, vauxLow, vauxRailBelow1v5. -/
def Obligations.SuppliesFail : Prop :=
  Clause.SupplyFaults ∧ Clause.LosingVaux

/-! ### STANDBY and heat -/

/-- An output whose link has been ACTIVE for 2 s without a verified frame raises fault 0x0E09, once: SS3 on that output
(R649). STANDBY is reached once the frame in progress on each output has ended: what is not on in STANDBY is off, and DRAM
is in self-refresh (R622, R623).
Rows concluded here to answer a next state: verifyTimeout, standbyReached. -/
def Obligations.VerificationAndStandby : Prop :=
  ∀ s : State,
    (∀ o, (s.link o).st = .active → (s.out o).verified = false → (s.out o).knownV = false →
      (∀ d ∈ s.cellar.ss3, ¬ (d.out = o ∧ d.code = 0xE09)) → s.handling = false →
      ∃ t, exec (.verifyTimeout o) s = .next t
        ∧ (s.atUs ((s.out o).activeAt + 2000000)).logs t 0xE09 (44 + o.num)
        ∧ (s.atUs ((s.out o).activeAt + 2000000)).sameButHandling t
        ∧ ∃ d ∈ t.cellar.ss3, d.out = o ∧ d.code = 0xE09 ∧ d.fc4 = false) ∧
    (∀ o, (s.link o).st ≠ .active ∨ (s.out o).verified = true ∨ (s.out o).knownV = true →
      exec (.verifyTimeout o) s = .next s) ∧
    (s.power.standby ≠ 2 ∨ s.power.stdFrames ≠ [] → exec .standbyReached s = .next s) ∧
    (s.power.standby = 2 → s.power.stdFrames = [] →
      ∃ t, exec .standbyReached s = .next t ∧ t.power = { s.power with standby := 3 } ∧ t.dram = { s.dram with st := 3 }
        ∧ (∀ n, n ∉ [48, 53, 54, 60, 61, 62, 63] → (t.landing n).powered = false)
        ∧ (∀ n, n ∈ [48, 53, 54, 60, 61, 62, 63] → (t.landing n).powered = (s.landing n).powered)
        ∧ t.linkA.psafe = true ∧ t.linkB.psafe = true ∧ t.outA.frameNum = s.outA.frameNum
        ∧ t.commits.pend.map (·.cid) = s.commits.pend.map (·.cid) ∧ t.trust = s.trust ∧ t.cellar = s.cellar
        ∧ t.boxes = s.boxes ∧ t.shadow = s.shadow ∧ t.mram = s.mram)

/-- A sample of a temperature sensor that runs and is not being calibrated is kept (R628), and one found broken is fault
0x0F03 (R630, R638); in SS4, or before the rails are up, nothing else follows but the time since which all are cool.
While a sensor's offset is calibrated it gives no sample (R389). -/
def Clause.SensorsAreSampled : Prop :=
  ∀ (n : Nat) (x : Int) (s : State),
    (68 ≤ n ∨ s.cellar.ctlRuns = false ∨ (s.sensor n).cal = true ∨ (n < 64 ∧ (s.landing n).powered = false) →
      exec (.sensorSample n x) s = .next s) ∧
    (n < 68 → n < s.sensors.length → s.cellar.ctlRuns = true → (s.sensor n).cal = false →
      (64 ≤ n ∨ (s.landing n).powered = true) → s.power.thermWait = false →
      s.cellar.ss4 = true ∨ s.power.rails = false →
      ∃ t m, exec (.sensorSample n x) s = .next t ∧ t.sensor n = (s.sensor n).sample x m ∧ (t.sensor n).temp = x
        ∧ (t.sensor n).noSample = false ∧ (∀ k, k ≠ n → t.sensor k = s.sensor k)
        ∧ ({ s with sensors := t.sensors, power := { s.power with coolAt := t.power.coolAt } } : State).sameButHandling t
        ∧ ((t.sensor n).broken = true → (s.sensor n).broken = false → s.logs t 0xF03 (if n < 64 then n else 255))
        ∧ ((t.sensor n).broken = false ∨ (s.sensor n).broken = true → t.cellar = s.cellar)) ∧
    (∀ done, s.cellar.ctlRuns = true → exec (.sensorOffsetCal n done) s
      = .next (s.modSensor n fun y => { y with cal := !done })) ∧
    (∀ done, s.cellar.ctlRuns = false → exec (.sensorOffsetCal n done) s = .next s)

/-- A throttle request condition with none in hand raises THROTTLE_REQUEST and starts the grace time (R631); a critical
condition is fault 0x0F01, with SS4 and a shutdown record (R634, R636). -/
def Clause.HotSensorsAct : Prop :=
  ∀ (n : Nat) (x : Int) (s : State), n < 68 → n < s.sensors.length → s.cellar.ctlRuns = true →
    (s.sensor n).cal = false → (64 ≤ n ∨ (s.landing n).powered = true) → s.cellar.ss4 = false →
    s.power.rails = true → s.power.thermWait = false → (s.sensor n).broken = false → (s.sensor n).hist = [] →
    (s.sensor n).far = 0 → (s.sensor n).same ≤ 1 →
    (∀ k, (s.sensor k).broken = false) →
    (throttleAt n ≤ x → x < (if n < 64 then 1760 else 1680) → s.power.graceEnd = none → s.power.stepLive = 0 →
      ∃ t, exec (.sensorSample n x) s = .next t ∧ t = { s with sensors := t.sensors, power := t.power, boxes := t.boxes }
        ∧ t.power.stepReq = 1 ∧ t.power.graceEnd = some (s.us + s.graceUs)
        ∧ t.power.reqs = min 65535 (s.power.reqs + 1)) ∧
    ((if n < 64 then 1760 else 1680) ≤ x → x ≤ 2400 →
      ∃ t r, exec (.sensorSample n x) s = .next t ∧ s.logs t 0xF01 (if n < 64 then n else 255) ∧ t.cellar.ss4 = true
        ∧ t.power.thermStop = true ∧ t.mram.shutdown = s.mram.shutdown.write s.us r ∧ r.cause = 1 ∧ r.sensor = n
        ∧ r.temp = x)

/-- The grace time's end enforces the step while a sensor is within 2 °C of its threshold or rises by 3 °C/s (R631), unless
no output can lower its load (R633); otherwise the request lapses. Ten seconds of cool sensors remove a step; ten seconds
at a step under a request condition request the next (R632). Cut-off is fault 0x0F02, SS4 and a shutdown record (R635). -/
def Clause.ThrottlingAndCutOff : Prop :=
  ∀ s : State,
    (s.power.graceEnd = none → exec .graceExpiry s = .next s) ∧
    (∀ g, s.power.graceEnd = some g →
      (s.canLower = true → (∃ n ∈ s.sampled, throttleAt n - 32 ≤ s.reading n ∨ 48 ≤ s.riseOf n) →
        exec .graceExpiry s = .next { s with
          clk := max s.clk (25 * g),
          power := { s.power with graceEnd := none, stepReq := 0, stepLive := s.power.stepLive + 1,
                                  enforced := min 65535 (s.power.enforced + 1),
                                  stepAt := max s.clk (25 * g) / 25, coolAt := none } }) ∧
      (s.canLower = false ∨ (∀ n ∈ s.sampled, s.reading n < throttleAt n - 32 ∧ s.riseOf n < 48) →
        exec .graceExpiry s = .next { s with
          clk := max s.clk (25 * g), power := { s.power with graceEnd := none, stepReq := 0 } })) ∧
    (s.power.stepLive = 0 → exec .throttleStepTimer s = .next s) ∧
    (∀ c, s.power.stepLive ≠ 0 → s.power.coolAt = some c →
      exec .throttleStepTimer s = .next { s with
        clk := max s.clk (25 * (c + 10000000)),
        power := { s.power with stepLive := s.power.stepLive - 1, stepAt := max s.clk (25 * (c + 10000000)) / 25,
                                coolAt := some (max s.clk (25 * (c + 10000000)) / 25) } }) ∧
    (s.power.stepLive ≠ 0 → s.power.coolAt = none → s.power.graceEnd = none →
      (∃ n ∈ s.sampled, s.reqCond n = true) →
      ∃ t, exec .throttleStepTimer s = .next t
        ∧ t = { s with clk := max s.clk (25 * (s.power.stepAt + 10000000)), power := t.power, boxes := t.boxes }
        ∧ t.power.stepReq = min 2 (s.power.stepLive + 1) ∧ t.power.graceEnd = some (t.us + s.graceUs)) ∧
    (∀ n, s.cellar.ctlRuns = true → n < 68 → s.cellar.ss4 = false →
      ∃ t r, exec (.thermalCutoff n) s = .next t ∧ s.logs t 0xF02 (if n < 64 then n else 255) ∧ s.entersSs4 t
        ∧ t.power.thermStop = true ∧ t.mram.shutdown = s.mram.shutdown.write s.us r ∧ r.cause = 4 ∧ r.sensor = n)

/-- Temperature samples, throttling, critical heat and cut-off: `Clause.SensorsAreSampled`, `Clause.HotSensorsAct`, `Clause.ThrottlingAndCutOff`, together.
Rows concluded here to answer a next state: sensorSample, graceExpiry, throttleStepTimer, thermalCutoff,
sensorOffsetCal. -/
def Obligations.HeatIsWatched : Prop :=
  Clause.SensorsAreSampled ∧ Clause.HotSensorsAct ∧ Clause.ThrottlingAndCutOff

/-! ### Upkeep of memory -/

/-- The patrol scrub of module DRAM (R438): a corrected word is counted; an uncorrectable one is counted, noted as the
latest, and is fault 0x0C01, or 0x0C02 with a forced checkpoint where Cellar or Hearth keeps its data there (R439, R562,
R574). A clean block, and one beyond the data area, changes nothing. -/
def Clause.DramIsScrubbed : Prop :=
  ∀ (a : Nat) (ecc : Ecc) (s : State),
    (s.dram.st ≠ 2 ∨ s.dataEnd ≤ a → exec (.dramPatrolScrub a ecc) s = .next s) ∧
    (s.dram.st = 2 → a < s.dataEnd → a / 8 ∉ s.dram.badWords →
      exec (.dramPatrolScrub a .clean) s = .next s ∧
      exec (.dramPatrolScrub a .corrected) s = .next { s with
        dram := { s.dram with corrected := (s.dram.corrected + 1) % 0x100000000 } }) ∧
    (s.dram.st = 2 → a < s.dataEnd → ecc = .uncorrectable ∨ a / 8 ∈ s.dram.badWords →
      ∃ t, exec (.dramPatrolScrub a ecc) s = .next t
        ∧ s.logs t (if a < 0x40000000 then 0xC02 else 0xC01) (49 + a / 512 % 4)
        ∧ t.dram.uncorr = min 65535 (s.dram.uncorr + 1) ∧ t.dram.ueAddr = 8 * (a / 8) ∧ a / 8 ∈ t.dram.badWords
        ∧ t.dram.mem = s.dram.mem ∧ (a < 0x40000000 → t.cellar.ckptForced = true)
        ∧ ({ s with dram := t.dram, free := t.free } : State).sameButHandling t)

/-- The patrol scrub of the shared SRAM (R430, R431): a corrected word is counted; an uncorrectable one is counted and
reported as R562's table says: the journal's forces a checkpoint, a blit's staging 0x0C06, Hearth's 0x0E01, the atlas's
0x0C08; a point entry's makes its CHECK fail, and the second within a second is fault 0x0406. -/
def Clause.SramIsScrubbed : Prop :=
  ∀ (area : SramArea) (i : Nat) (s : State),
    (∀ ecc, s.sramOn area = false → exec (.sramPatrolScrub area i ecc) s = .next s) ∧
    (s.sramOn area = true →
      exec (.sramPatrolScrub area i .clean) s = .next s ∧
      exec (.sramPatrolScrub area i .corrected) s = .next { s with
        dram := { s.dram with sCorr := (s.dram.sCorr + 1) % 0x100000000 } } ∧
      (∃ t, exec (.sramPatrolScrub area i .uncorrectable) s = .next t
        ∧ t.dram = { s.dram with sUncorr := min 65535 (s.dram.sUncorr + 1) } ∧ t.clk = s.clk ∧ t.commits = s.commits
        ∧ (area = .journal → s.logs t 0xC04 255 ∧ t.cellar.ckptForced = true)
        ∧ (area = .blitStaging → s.logs t 0xC06 58 ∧ (s.blit.run ≠ none → t.blit.stageBad = true))
        ∧ (area = .hearthSram → s.logs t 0xE01 53)
        ∧ (area = .atlas → s.logs t 0xC08 40 ∧ i % 4 ∈ t.trust.resBad)
        ∧ (area = .pointTable → t.trust.pointUes = some s.us
            ∧ (∀ u, s.trust.pointUes = some u → s.us < u + 1000000 → s.logs t 0x406 62)
            ∧ (s.trust.pointUes = none → t.cellar = s.cellar ∧ t.boxes = s.boxes
                ∧ ∀ e ∈ t.trust.points, e.1 = i → e.2.check ≠ e.2.crc)))) ∧
    exec .resourceReloadDone s = .next { s with trust := { s.trust with resBad := [] } }

/-- A DRAM channel retrains when RETRAIN_MS is over, its controller's temperature has changed by 5 °C, or by force (R448);
the MEM set pending latest is live with it (R449). Only a channel of a DRAM in service retrains. -/
def Clause.DramRetrains : Prop :=
  ∀ (ch : Nat) (s : State),
    (s.dram.st ≠ 2 ∨ 8 ≤ ch → exec (.dramRetrain ch) s = .next s) ∧
    (s.dram.st = 2 → ch < 8 → s.dram.retrAt.length = 8 →
      ∃ t, exec (.dramRetrain ch) s = .next t ∧ t.dram.retrains = min 65535 (s.dram.retrains + 1)
        ∧ t.dram.retrAt.getD ch 0 = t.us ∧ s.clk ≤ t.clk ∧ t.dram.mem = s.dram.mem ∧ t.dram.st = 2
        ∧ (s.retrainHot ch = false →
            25 * (s.dram.retrAt.getD ch 0 + 1000 * fld (s.lv .mem .A 0) 0 10) ≤ t.clk)
        ∧ (bitOf (s.lv .mem .A 0) 10 = false → t.dram.retrForced = s.dram.retrForced)
        ∧ (∀ q, (s.pendsOf .mem 0).getLast? = some q → t.dram.liveWords = q.words)
        ∧ (∀ p ∈ t.commits.pend, s.pendsOf .mem 0 ≠ [] → p.blk ≠ .mem)
        ∧ (s.pendsOf .mem 0 = [] → t = { s with clk := t.clk, dram := t.dram } ∧ t.dram.liveWords = s.dram.liveWords)
        ∧ t = { s with clk := t.clk, dram := t.dram, commits := t.commits, landings := t.landings, boxes := t.boxes })

/-- Patrol scrubs of DRAM and SRAM, and retraining: `Clause.DramIsScrubbed`, `Clause.SramIsScrubbed`, `Clause.DramRetrains`, together.
Rows concluded here to answer a next state: dramRetrain, dramPatrolScrub, sramPatrolScrub, resourceReloadDone. -/
def Obligations.MemoryIsKept : Prop :=
  Clause.DramIsScrubbed ∧ Clause.SramIsScrubbed ∧ Clause.DramRetrains

/-! ### The calibration agent -/

/-- A calibration step goes on by phases, each over when its frames have ended (R395): one with no usable camera frame ends
the step (R397); the fourth measures the view, and with the last view of the output the pass is complete (R398). -/
def Clause.CalibrationGoesOn : Prop :=
  ∀ s : State,
    (s.calib.step = none → exec .calPhaseEnd s = .next s) ∧
    (∀ c, s.calib.step = some c →
      (s.phaseOver c = false → exec .calPhaseEnd s = .next s) ∧
      (s.phaseOver c = true → c.usable = 0 →
        exec .calPhaseEnd s = .next { s with calib := { s.calib with step := some { c with phase := 5 } } }) ∧
      (s.phaseOver c = true → c.usable ≠ 0 → c.phase < 4 →
        exec .calPhaseEnd s = .next { s with
          calib := { s.calib with step := some { c with phase := c.phase + 1, usable := 0 } } }) ∧
      (s.phaseOver c = true → c.usable ≠ 0 → c.phase = 4 →
        ∃ t, exec .calPhaseEnd s = .next t ∧ t = { s with calib := t.calib } ∧ t.calib.step = none
          ∧ t.calib.done = min 65535 (s.calib.done + 1)
          ∧ ((s.calib.measured ++ c.group).eraseDups.length < s.usedViews c.out →
              t.calib.measured = (s.calib.measured ++ c.group).eraseDups ∧ t.calib.passes = s.calib.passes
                ∧ t.calib.building = false)
          ∧ (s.usedViews c.out ≤ (s.calib.measured ++ c.group).eraseDups.length →
              t.calib.measured = [] ∧ t.calib.passes = min 65535 (s.calib.passes + 1)
                ∧ t.calib.building = true)))

/-- The maps of a pass go into a bank that is neither selected, nor a ramp's origin, nor stored as selected (R400, R406),
with its MRAM records; while both banks are in use the agent waits. The bank, where two are free, and the maps' bytes are
free values. A ramp that has ended writes the calibration configuration record, and a start copies the selected banks
into module DRAM (R408). -/
def Clause.MapsAreBuiltAndCopied : Prop :=
  ∀ s : State,
    (∀ o, s.calib.building = false ∨ o ≠ s.calOut → exec (.calMapsBuilt o) s = .next s) ∧
    (∀ o, s.bankFree o 0 = false → s.bankFree o 1 = false → exec (.calMapsBuilt o) s = .next s) ∧
    (∀ o, s.calib.building = true → o = s.calOut → s.bankFree o 0 = true ∨ s.bankFree o 1 = true →
      bitOf (s.lv .cal .A 0x100) 1 = false →
      ∃ t k, exec (.calMapsBuilt o) s = .next t ∧ k < 2 ∧ s.bankFree o k = true ∧ t.calib.building = false
        ∧ (∀ m ∈ s.bankMaps o, ∃ e ∈ t.mram.banks, e.1 = bankType m.1 k m.2)
        ∧ (∀ e ∈ s.mram.banks, (∀ m ∈ s.bankMaps o, e.1 ≠ bankType m.1 k m.2) → e ∈ t.mram.banks)
        ∧ t = { s with free := t.free, boxes := t.boxes, dram := t.dram, mram := t.mram, calib := t.calib }) ∧
    (∀ o, (s.rampOf (s.eff o)).pos = 256 →
      exec (.calRampEnd o) s = .next { s with
        mram := { s.mram with calCfg := s.mram.calCfg.write s.us s.calRecord } }) ∧
    (∀ o, (s.rampOf (s.eff o)).pos ≠ 256 → exec (.calRampEnd o) s = .next s) ∧
    (s.power.hearth = true → s.dram.st = 1 ∨ s.dram.st = 2 → s.power.banksIn = false →
      ∃ t, exec .bankCopyDone s = .next t ∧ t.power = { s.power with banksIn := true }
        ∧ t = { s with power := t.power, dram := t.dram } ∧ t.dram.st = s.dram.st
        ∧ ∀ b at_, s.bankCopies = [(b, at_)] → t.dramGet at_ b.length = b) ∧
    (s.power.hearth = false ∨ s.dram.st = 0 ∨ s.dram.st = 3 ∨ s.power.banksIn = true →
      exec .bankCopyDone s = .next s)

/-- Calibration phases, passes, maps and their banks: `Clause.CalibrationGoesOn`, `Clause.MapsAreBuiltAndCopied`, together.
Rows concluded here to answer a next state: bankCopyDone, calPhaseEnd, calMapsBuilt, calRampEnd. -/
def Obligations.PanelsAreCalibrated : Prop :=
  Clause.CalibrationGoesOn ∧ Clause.MapsAreBuiltAndCopied

/-! ### The ring: blocks and ports -/

/-- What is not whole has no effect: a CONTROL block whose CRC fails or whose subtype is another row's (R590), a block at a
port that is not ACTIVE, a packet whose CRC fails, that is out of order, or whose TYPE is another row's (R592). -/
def Obligations.BadRingInputIsDropped : Prop :=
  ∀ (p : RPort) (b : List Byte) (s : State),
    (ctlOk b = false →
      exec (.helloBlk p b) s = .next s ∧ exec (.ringTrainReport p b) s = .next s ∧ exec (.pingBlk p b) s = .next s ∧
      exec (.ackBlk p b) s = .next s ∧ exec (.tokenReady p b) s = .next s ∧ exec (.tokenStart p b) s = .next s) ∧
    ((s.rport p).active = false →
      exec (.pingBlk p b) s = .next s ∧ exec (.ackBlk p b) s = .next s ∧ exec (.tokenReady p b) s = .next s ∧
      exec (.tokenStart p b) s = .next s) ∧
    ((s.rport p).active = false ∨ packetGood b = false ∨ nAt b 0xC 4 ≠ (s.rport p).rxSeq →
      exec (.enumPkt p b) s = .next s ∧ exec (.scenePkt p b) s = .next s ∧ exec (.mirrorPkt p b) s = .next s ∧
      exec (.relayPkt p b) s = .next s ∧ exec (.viewersPkt p b) s = .next s)

/-- HELLO (R594, R595): in its HELLO phase a port whose partner has the same device code, and is no second head, is ACTIVE;
another partner is refused, fault 0x1004, and tried again after a second. While the port still trains the block is kept. -/
def Clause.HelloDecides : Prop :=
  ∀ (p : RPort) (b : List Byte) (s : State), ctlOk b = true → nAt b 0 1 = 0x20 →
    ((s.rport p).st = 4 → nAt b 0xD 1 = (if s.variant = .E2 then 0xE2 else 0xE1) →
      s.headBit = false ∨ bitOf (nAt b 0xC 1) 0 = false →
      ∃ t, exec (.helloBlk p b) s = .next t ∧ (t.rport p).st = 5 ∧ (t.rport p).rxSeq = 0 ∧ t.ring.known = true
        ∧ t = { s with ring := t.ring, boxes := t.boxes, free := t.free }) ∧
    ((s.rport p).st = 4 → nAt b 0xD 1 ≠ (if s.variant = .E2 then 0xE2 else 0xE1)
        ∨ (s.headBit = true ∧ bitOf (nAt b 0xC 1) 0 = true) →
      ∃ t, exec (.helloBlk p b) s = .next t ∧ (t.rport p).st = 7 ∧ (t.rport p).refused = true
        ∧ (t.rport p).retryAt = s.clk + 25000000 ∧ s.logs t 0x1004 (44 + p.no)
        ∧ ({ s with ring := t.ring } : State).sameButHandling t) ∧
    ((s.rport p).st = 1 ∨ (s.rport p).st = 2 ∨ (s.rport p).st = 3 →
      exec (.helloBlk p b) s = .next (s.modRport p fun r => { r with hello := some b })) ∧
    ((s.rport p).st = 0 ∨ 5 ≤ (s.rport p).st → exec (.helloBlk p b) s = .next s)

/-- A ring port's training goes on with its partner's reports (R594): block lock on every lane, EYE_MIN on every lane, the
deskew; its HELLO follows. A phase that runs out ends the attempt for 100 ms; then, as after a refusal's second, the port
starts again, where it may. -/
def Clause.RingPortsTrain : Prop :=
  ∀ (p : RPort) (b : List Byte) (s : State),
    (ctlOk b = true → nAt b 0 1 = 0x11 →
      ((s.rport p).st = 1 → nAt b 2 1 % 16 = 15 →
        ∃ t, exec (.ringTrainReport p b) s = .next t ∧ (t.rport p).st = 2 ∧ (t.rport p).block = true
          ∧ (t.rport p).phaseAt = s.clk ∧ t = { s with ring := t.ring, lanes := t.lanes }) ∧
      ((s.rport p).st = 1 → nAt b 2 1 % 16 ≠ 15 →
        ∃ t, exec (.ringTrainReport p b) s = .next t ∧ t = { s with lanes := t.lanes }) ∧
      ((s.rport p).st = 2 → s.lanes.length = 50 → (∀ k, k < 4 → s.eyeMin .A ≤ nAt b (4 + k) 1) →
        ∃ t, exec (.ringTrainReport p b) s = .next t ∧ (t.rport p).st = 3
          ∧ t = { s with ring := t.ring, lanes := t.lanes }) ∧
      ((s.rport p).st = 2 → s.lanes.length = 50 → (∃ k, k < 4 ∧ nAt b (4 + k) 1 < s.eyeMin .A) →
        ∃ t, exec (.ringTrainReport p b) s = .next t ∧ t = { s with lanes := t.lanes }) ∧
      ((s.rport p).st = 3 → nAt b 3 1 = 1 → (s.rport p).hello = none →
        ∃ t, exec (.ringTrainReport p b) s = .next t ∧ (t.rport p).st = 4
          ∧ (t.rport p).ctl = (s.rport p).ctl ++ [ctlBlock (s.helloBlock p)]
          ∧ t = { s with ring := t.ring, lanes := t.lanes }) ∧
      ((s.rport p).st = 0 → exec (.ringTrainReport p b) s = .next s)) ∧
    (∀ n, portBound (s.rport p).st = some n →
      ∃ t, exec (.ringTrainTimeout p) s = .next t ∧ t.clk = max s.clk ((s.rport p).phaseAt + n) ∧ (t.rport p).st = 6
        ∧ (t.rport p).retryAt = t.clk + 2500000 ∧ (t.rport p).hello = none
        ∧ ((s.rport p).st ≠ 3 → t = ({ s with clk := t.clk } : State).modRport p fun r =>
            { r with st := 6, retryAt := t.clk + 2500000, hello := none })
        ∧ t = { s with clk := t.clk, ring := t.ring }) ∧
    ((s.rport p).st = 6 → s.portMayRun p = true → s.pendsOf .lne 0 = [] →
      ∃ t, exec (.ringTrainTimeout p) s = .next t ∧ (t.rport p).st = 1 ∧ t.clk = max s.clk (s.rport p).retryAt
        ∧ (t.rport p).phaseAt = t.clk ∧ (∀ n ∈ txLanes p.no, n < s.lanes.length →
          (t.lane n).exiting = !((s.lane n).st == 1))
        ∧ t = { s with clk := t.clk, ring := t.ring, lanes := t.lanes }) ∧
    ((s.rport p).st = 7 → s.portMayRun p = true → s.pendsOf .lne 0 = [] →
      ∃ t, exec (.joinRetry p) s = .next t ∧ (t.rport p).st = 1 ∧ t.clk = max s.clk (s.rport p).retryAt
        ∧ t = { s with clk := t.clk, ring := t.ring, lanes := t.lanes }) ∧
    ((s.rport p).st = 0 ∨ (s.rport p).st = 5 ∨ (s.rport p).st = 7 → exec (.ringTrainTimeout p) s = .next s) ∧
    ((s.rport p).st ≠ 7 → exec (.joinRetry p) s = .next s)

/-- Ring ports train, join, refuse and retry: `Clause.HelloDecides`, `Clause.RingPortsTrain`, together.
Rows concluded here to answer a next state: helloBlk, ringTrainReport, ringTrainTimeout, joinRetry. -/
def Obligations.RingPortsTrain : Prop :=
  Clause.HelloDecides ∧ Clause.RingPortsTrain

/-- PING every millisecond (R593): a request is answered with its STAMP; a reply gives HOP_NS, half the round trip less the
partner's answer time, of which the manual gives only the bound of 100 ns. -/
def Clause.PingsMeasure : Prop :=
  ∀ (p : RPort) (b : List Byte) (s : State), (s.rport p).active = true →
    (ctlOk b = true → nAt b 0 1 = 0x30 → nAt b 2 1 = 0 →
      exec (.pingBlk p b) s = .next (s.modRport p fun r =>
        { r with ctl := r.ctl ++ [ctlBlock ([0x30, 0, 1, 0] ++ leBytes 4 (nAt b 4 4))] })) ∧
    (ctlOk b = true → nAt b 0 1 = 0x30 → nAt b 2 1 ≠ 0 →
      ∃ t d, exec (.pingBlk p b) s = .next t ∧ d ≤ 100
        ∧ (t.rport p).hopNs = (40 * ((s.clk + 0x100000000 - nAt b 4 4) % 0x100000000) - d) / 2
        ∧ t = { s with ring := t.ring, free := t.free }) ∧
    (∃ t, exec (.pingTimer p) s = .next t ∧ t.clk = max s.clk ((s.rport p).pingAt + 25000)
      ∧ (t.rport p).pingAt = t.clk
      ∧ (t.rport p).ctl = (s.rport p).ctl ++ [ctlBlock ([0x30, 0, 0, 0] ++ leBytes 4 (t.clk % 0x100000000))]
      ∧ t = { s with clk := t.clk, ring := t.ring })

/-- ACKs and resending (R592): an ACK covers the packets up to ACK_SEQ and no other; after 20 µs without an advance every
packet on its way is sent again, counted, fault 0x1002. A port sends an ACK every 2 µs. -/
def Clause.PacketsAreCoveredOrResent : Prop :=
  ∀ (p : RPort) (b : List Byte) (s : State),
    ((s.rport p).active = true → ctlOk b = true → nAt b 0 1 = 0x31 →
      ∃ t, exec (.ackBlk p b) s = .next t ∧ s.sameButRing t
        ∧ (t.rport p).unacked = (s.rport p).unacked.filter (fun e => ahead e.1 (nAt b 4 4))
        ∧ (t.rport p).txSeq = (s.rport p).txSeq ∧ (t.rport p).rxSeq = (s.rport p).rxSeq
        ∧ t.rport p.other = s.rport p.other) ∧
    ((s.rport p).active = false ∨ (s.rport p).inFlight = [] → exec (.retxTimeout p) s = .next s) ∧
    ((s.rport p).active = true → (s.rport p).inFlight ≠ [] →
      ∃ t, exec (.retxTimeout p) s = .next t ∧ t.clk = max s.clk ((s.rport p).ackAt + 500)
        ∧ (t.rport p).pkts = (s.rport p).pkts ++ (s.rport p).inFlight.map (·.2)
        ∧ (t.rport p).unacked = (s.rport p).unacked
        ∧ t.ring.retx = min 65535 (s.ring.retx + (s.rport p).inFlight.length)
        ∧ ({ s with clk := t.clk, ring := t.ring } : State).sameButHandling t) ∧
    ((s.rport p).active = false → exec (.ackTimer p) s = .next s ∧ exec (.pingTimer p) s = .next s) ∧
    ((s.rport p).active = true → s.headBit = true ∨ (∀ c, (s.chan c).rxQueue = []) → s.ring.readyHeld = [] →
      ∃ t, exec (.ackTimer p) s = .next t ∧ t = { s with clk := t.clk, ring := t.ring }
        ∧ t.clk = max s.clk ((s.rport p).ackSent + 50) ∧ (t.rport p).ackSent = t.clk
        ∧ ∃ blk, (t.rport p).ctl = (s.rport p).ctl ++ [ctlBlock blk]
            ∧ nAt blk 0 1 = 0x31 ∧ nAt blk 4 4 = ((s.rport p).rxSeq + 0xFFFFFFFF) % 0x100000000)

/-- Ring PINGs, ACKs and resending: `Clause.PingsMeasure`, `Clause.PacketsAreCoveredOrResent`, together.
Rows concluded here to answer a next state: pingBlk, pingTimer, ackBlk, ackTimer, retxTimeout. -/
def Obligations.RingPacketsAreCovered : Prop :=
  Clause.PingsMeasure ∧ Clause.PacketsAreCoveredOrResent

/-- A port that leaves ACTIVE is fault 0x1001, keeps nothing, and trains again (R608); a ring that was closed is open. Every
second the head sends ENUM on its ACTIVE ports (R596). -/
def Clause.PortsGoDownAndEnumerate : Prop :=
  ∀ (p : RPort) (s : State),
    ((s.rport p).active = false → exec (.ringPortDown p) s = .next s) ∧
    ((s.rport p).active = true → s.portMayRun p = false → s.headBit = false → s.ring.relays = [] → s.handling = false →
      ∃ t, exec (.ringPortDown p) s = .next t ∧ (t.rport p).st = 0 ∧ (t.rport p).unacked = []
        ∧ t.ring.closed = false ∧ s.logs t 0x1001 (44 + p.no)
        ∧ ({ s with ring := t.ring } : State).sameButHandling t) ∧
    ((s.rport p).active = true → s.ring.relays = [] →
      ∃ t, exec (.ringPortDown p) s = .next t ∧ ((t.rport p).st = 0 ∨ (t.rport p).st = 1) ∧ t.ring.closed = false) ∧
    (s.headBit = false ∨ s.power.hearth = false → exec .enumTimer s = .next s) ∧
    (s.headBit = true → s.power.hearth = true → s.activePorts ≠ [] →
      ∃ t, exec .enumTimer s = .next t ∧ t = { s with clk := t.clk, ring := t.ring }
        ∧ t.clk = max s.clk (25 * (s.ring.enumAt + 1000000)) ∧ t.ring.enumAt = t.us
        ∧ (∀ q, (s.rport q).active = true → (t.rport q).txSeq = ((s.rport q).txSeq + 1) % 0x100000000))

/-- ENUM at a member (R596): it appends its entry with the hop the packet came by, and sends it on, or back at the end of a
line. One that returns is handed on; from one with LAST a member takes the ID given to its serial number and keeps it in
MRAM (R585). -/
def Clause.MembersEnumerate : Prop :=
  ∀ (p : RPort) (b : List Byte) (s : State), s.receives p 5 b → s.headBit = false →
    (pktLast b = false → pktReturning b = false →
      ∃ t q, exec (.enumPkt p b) s = .next t ∧ s.sameButRing t
        ∧ q = (if (s.rport p.other).active then p.other else p)
        ∧ (t.rport q).txSeq = ((s.rport q).txSeq + 1) % 0x100000000
        ∧ t = ((s.received p).sendPacket q 5 (if (s.rport p.other).active then 0 else 2) (nAt b 2 2) 0xFFFF
            (nAt b 6 2 + 1)
            (enumBody (enumEntries b ++
              [{ id := s.ring.ownId, hopNs := (s.rport p).hopNs, serial := s.trust.serial }]))).sendAck p) ∧
    (pktLast b = false → pktReturning b = true →
      ∃ t, exec (.enumPkt p b) s = .next t ∧ t = ((s.received p).forwardPkt p b).sendAck p) ∧
    (∀ m, pktLast b = true → (enumEntries b).find? (fun m => m.serial == s.trust.serial) = some m → m.id ≠ 0 →
      m.id ≠ s.ring.ownId →
      ∃ t, exec (.enumPkt p b) s = .next t ∧ t.ring.ownId = m.id
        ∧ t = { s with ring := t.ring,
                       mram := { s.mram with ringId := s.mram.ringId.write s.us m.id } }) ∧
    (pktLast b = true → (enumEntries b).find? (fun m => m.serial == s.trust.serial) = none →
      ∃ t, exec (.enumPkt p b) s = .next t ∧ t = ((s.received p).forwardPkt p b).sendAck p)

/-- ENUM at the head (R596): one direction's entries wait for the other's; with both, the ring's size, its hops and L_max are
known, every entry has an ID, and the IDs are kept in both directions' lists. A packet with LAST has no effect. -/
def Clause.TheHeadEnumerates : Prop :=
  ∀ (p : RPort) (b : List Byte) (s : State), s.receives p 5 b → s.headBit = true →
    (pktLast b = true → exec (.enumPkt p b) s = .next ((s.received p).sendAck p)) ∧
    (pktLast b = false → pktReturning b = true → p = .east → s.ring.enumW = none →
      exec (.enumPkt p b) s = .next (({ s.received p with
        ring := { (s.received p).ring with enumE := some (enumEntries b) } } : State).sendAck p)) ∧
    (∀ w, pktLast b = false → pktReturning b = true → p = .east → s.ring.enumW = some w →
      ∃ t, exec (.enumPkt p b) s = .next t ∧ t.ring.enumed = true ∧ t.ring.enumE = none ∧ t.ring.enumW = none
        ∧ t.ring.membersE.map (·.serial) = (enumEntries b).map (·.serial)
        ∧ t.ring.membersW.map (·.serial) = w.map (·.serial)
        ∧ (∀ m ∈ t.ring.membersE, m.id ≠ 0) ∧ t.ring.closed = false
        ∧ t.ring.hopsE = (enumEntries b).length ∧ t.ring.hopsW = w.length
        ∧ t = { s with ring := t.ring, boxes := t.boxes, free := t.free })

/-- The ring's enumeration at members and at the head: `Clause.PortsGoDownAndEnumerate`, `Clause.MembersEnumerate`, `Clause.TheHeadEnumerates`, together.
Rows concluded here to answer a next state: ringPortDown, enumTimer, enumPkt. -/
def Obligations.RingsEnumerate : Prop :=
  Clause.PortsGoDownAndEnumerate ∧ Clause.MembersEnumerate ∧ Clause.TheHeadEnumerates

/-! ### The ring: packets -/

/-- MIRROR at a member (R603): it is sent on; what is not mirrored, or has come from the other side already, has no further
effect; blocks gather until the packet with LAST, at which the member commits them together. At the head a packet that is
back has no effect. Every packet taken is answered with an ACK (R592). -/
def Clause.MirrorsAreTaken : Prop :=
  ∀ (p : RPort) (b : List Byte) (s : State), s.receives p 2 b →
    (s.headBit = true → exec (.mirrorPkt p b) s = .next ((s.received p).sendAck p)) ∧
    (s.headBit = false → blkOfNum (nAt b 0x10 1) = none ∨ s.ring.mirrorDone = some (nAt b 0x14 4) →
      exec (.mirrorPkt p b) s = .next (((s.received p).forwardPkt p b).sendAck p)) ∧
    (∀ k, s.headBit = false → blkOfNum (nAt b 0x10 1) = some k → k.mirrored = true →
      s.ring.mirrorDone ≠ some (nAt b 0x14 4) → s.ring.mirror = none → pktLast b = false →
      exec (.mirrorPkt p b) s = .next ((((s.received p).forwardPkt p b).modRing fun r =>
        { r with mirror := some { cid := nAt b 0x14 4, frame := nAt b 0x18 4,
                                  words := [(k, (mirrorPairs b).map fun e => (e.1, BitVec.ofNat 32 e.2))] } }).sendAck p)) ∧
    (∀ k, s.headBit = false → blkOfNum (nAt b 0x10 1) = some k → k.mirrored = true →
      s.ring.mirrorDone ≠ some (nAt b 0x14 4) → pktLast b = true →
      ∃ t, exec (.mirrorPkt p b) s = .next t ∧ t.ring.mirror = none ∧ t.ring.mirrorDone = some (nAt b 0x14 4)
        ∧ t.clk = s.clk ∧ t.dram = s.dram ∧ t.trust = s.trust)

/-- SCENE and VIEWERS at a member (R605, R607): the packet is sent on, and the channel's stream, or the viewers, take what it
brings; at the head they have no effect. RELAY (R606): the fragments of a command gather until LAST; at the head the
command is then back from a direction. -/
def Clause.RelayedPacketsAreTaken : Prop :=
  ∀ (p : RPort) (b : List Byte) (s : State),
    (s.receives p 1 b →
      (s.headBit = true → exec (.scenePkt p b) s = .next ((s.received p).sendAck p)) ∧
      (s.headBit = false → 4 ≤ nAt b 0x10 1 → exec (.scenePkt p b) s = .next (((s.received p).forwardPkt p b).sendAck p)) ∧
      (s.headBit = false → nAt b 0x10 1 < 4 → (s.chan (nAt b 0x10 1)).rxQueue = [] →
        nAt b 0x18 8 < (s.chan (nAt b 0x10 1)).rxPos →
        exec (.scenePkt p b) s = .next (((s.received p).forwardPkt p b).sendAck p)) ∧
      (s.headBit = false → nAt b 0x10 1 < 4 → nAt b 0x10 1 < s.chans.length →
        (s.chan (nAt b 0x10 1)).rxQueue = [] → (s.chan (nAt b 0x10 1)).rxBytes = [] →
        nAt b 0x18 8 = (s.chan (nAt b 0x10 1)).rxPos → nAt b 0x11 1 = 0 →
        8 ≤ ((pktBody b).drop 16).length → ((pktBody b).drop 16).length < nAt ((pktBody b).drop 16) 4 4 →
        ∃ t, exec (.scenePkt p b) s = .next t ∧ (t.chan (nAt b 0x10 1)).rxBytes = (pktBody b).drop 16
          ∧ (t.chan (nAt b 0x10 1)).rxPos = nAt b 0x18 8 + ((pktBody b).drop 16).length
          ∧ t = { s with ring := t.ring, chans := t.chans })) ∧
    (s.receives p 4 b →
      (s.headBit = true → exec (.viewersPkt p b) s = .next ((s.received p).sendAck p)) ∧
      (s.headBit = false → nAt (pktBody b) 0 1 = 0 →
        exec (.viewersPkt p b) s = .next (((s.received p).forwardPkt p b).sendAck p)) ∧
      (s.headBit = false → nAt (pktBody b) 0 1 ≠ 0 →
        ∃ t, exec (.viewersPkt p b) s = .next t ∧ t.track.lastPos = s.us ∧ t.track.lost = false
          ∧ t = { s with ring := t.ring, track := t.track })) ∧
    (s.receives p 3 b →
      (pktLast b = false → exec (.relayPkt p b) s = .next (((s.received p).modRport p fun r =>
        { r with group := r.group ++ (pktBody b).drop 16 }).sendAck p)) ∧
      (pktLast b = true → s.headBit = true → (∀ c ∈ s.ring.relays, c.tag ≠ nAt b 0x14 4 ∧ c.left ≠ []) →
        exec (.relayPkt p b) s = .next (((s.received p).modRport p fun r => { r with group := [] }).sendAck p)) ∧
      (pktLast b = true → s.headBit = false → pktReturning b = false →
        ∃ t, exec (.relayPkt p b) s = .next t ∧ (t.rport p).group = [] ∧ t.clk = s.clk ∧ t.pending = s.pending))

/-- What mirrored, relayed, scene and viewer packets do: `Clause.MirrorsAreTaken`, `Clause.RelayedPacketsAreTaken`, together.
Rows concluded here to answer a next state: scenePkt, mirrorPkt, relayPkt, viewersPkt. -/
def Obligations.RingPacketsAct : Prop :=
  Clause.MirrorsAreTaken ∧ Clause.RelayedPacketsAreTaken

/-! ### The ring: frame starts -/

/-- READY and START (R597, R599): the head counts the directions from which READY of its frame is back; a member hands a
returning one on. The first START of a frame sets a member's start to its DELAY less the hops it has come, and goes on with
this hop added; the second has no effect but the word it brings (R609). -/
def Clause.TokensTravel : Prop :=
  ∀ (p : RPort) (b : List Byte) (s : State), (s.rport p).active = true → ctlOk b = true → nAt b 0 1 = 0x40 →
    (nAt b 1 1 = 0 → s.headBit = true → s.ring.readyN = some (nAt b 4 4) →
      exec (.tokenReady p b) s = .next { s with ring := { s.ring with
        readyBack := s.ring.readyBack ++ [if bitOf (nAt b 0x10 1) 1 then p else p.other] } }) ∧
    (nAt b 1 1 = 0 → s.headBit = true → s.ring.readyN ≠ some (nAt b 4 4) → exec (.tokenReady p b) s = .next s) ∧
    (nAt b 1 1 = 0 → s.headBit = false → bitOf (nAt b 0x10 1) 1 = true →
      ∃ t, exec (.tokenReady p b) s = .next t ∧ s.sameButRing t ∧ t.ring.headAt = s.us ∧ t.ring.isolated = false
        ∧ ((s.rport p.other).active = true →
            (t.rport p.other).ctl = (s.rport p.other).ctl ++ [ctlBlock (fitTo 28 b)])
        ∧ ((s.rport p.other).active = false → (t.rport p.other).ctl = (s.rport p.other).ctl)
        ∧ (t.rport p).ctl = (s.rport p).ctl) ∧
    (nAt b 1 1 = 1 → s.headBit = true → exec (.tokenStart p b) s = .next s) ∧
    (nAt b 1 1 = 1 → s.headBit = false → s.ring.lastStart = some (nAt b 4 4) →
      exec (.tokenStart p b) s = .next { s with ring := { s.ring with headAt := s.us, isolated := false } }) ∧
    (nAt b 1 1 = 1 → s.headBit = false → s.ring.lastStart ≠ some (nAt b 4 4) →
      ∃ t, exec (.tokenStart p b) s = .next t ∧ s.sameButRing t ∧ t.ring.lastStart = some (nAt b 4 4)
        ∧ t.ring.startN = some (nAt b 4 4, 40 * s.clk + nAt b 8 4 - (nAt b 0xC 4 + (s.rport p).hopNs),
            bitOf (nAt b 0x10 1) 0)
        ∧ t.ring.ownTiming = false
        ∧ ((s.rport p.other).active = true →
            (t.rport p.other).ctl = (s.rport p.other).ctl ++ [ctlBlock (tokenBlock 1 (nAt b 2 2) (nAt b 4 4)
              (nAt b 8 4) (nAt b 0xC 4 + (s.rport p).hopNs) (nAt b 0x10 1) (nAt b 0x12 2 + 1))]))

/-- The head starts a frame of its own ring once READY is back from everywhere and its own conditions hold (R599): START
goes out on every ACTIVE port, and its own frame begins L_max later (R597). By force it sends START with FORCED. Otherwise
nothing happens. -/
def Clause.TheHeadStarts : Prop :=
  ∀ (s : State) (os : List OutId) (n : Nat), os = s.startOuts .A → n = s.startN os →
    (s.isHead = false ∨ s.mayStart os n = false →
      exec .headStartSend s = .next s ∧ exec .headStartForced s = .next s) ∧
    (s.readyAll n = false ∨ s.bandReady os n = false ∨ os.all s.tePermits = false →
      exec .headStartSend s = .next s) ∧
    (s.isHead = true → s.mayStart os n = true → s.readyAll n = true → s.bandReady os n = true →
      os.all s.tePermits = true →
      ∃ t, exec .headStartSend s = .next t ∧ (∀ o ∈ os, (t.out o).frameNum = n ∧ (t.out o).inBlank = false
          ∧ (t.out o).forced = false ∧ (t.out o).fsClk = t.clk)
        ∧ t.clk = max s.clk (s.headStartClk os) + s.delayClk
        ∧ (∀ p, (s.rport p).active = true →
            (t.rport p).ctl = (s.rport p).ctl ++ [ctlBlock (tokenBlock 1 s.ring.ownId n s.ring.lMax 0 0 0)])) ∧
    (s.isHead = true → s.mayStart os n = true → s.readyAll n = false → (∀ o ∈ os, (s.out o).frameNum ≠ 0) →
      s.bandReady os n = false →
      ∃ t, exec .headStartForced s = .next t ∧ (∀ o ∈ os, (t.out o).frameNum = n ∧ (t.out o).inBlank = false
          ∧ (t.out o).forced = true)
        ∧ (∀ p, (s.rport p).active = true →
            (t.rport p).ctl = (s.rport p).ctl ++ [ctlBlock (tokenBlock 1 s.ring.ownId n s.ring.lMax 0 1 0)])) ∧
    (s.readyAll n = true → s.bandReady os n = true → os.all s.tePermits = true →
      exec .headStartForced s = .next s)

/-- A member starts the frame of the START it holds (R600), under START's number. Without a START in time it goes on by its
own timing generator, fault 0x1003 (R601); without a path to the head for a second it stands alone (R609). -/
def Clause.MembersStart : Prop :=
  ∀ s : State,
    (s.ring.startN = none → exec .memberFrameStart s = .next s) ∧
    (s.isMember = false ∨ s.mayStart (s.startOuts .A) (s.startN (s.startOuts .A)) = false →
      exec .memberFrameStart s = .next s) ∧
    (∀ due, s.ring.startN = some (s.startN (s.startOuts .A), due, false) → s.isMember = true → s.commits.pend = [] →
      (∀ c ∈ s.chans, c.pending = []) →
      s.mayStart (s.startOuts .A) (s.startN (s.startOuts .A)) = true →
      ∃ t, exec .memberFrameStart s = .next t ∧ t.ring.startN = none
        ∧ (∀ o ∈ s.startOuts .A, (t.out o).frameNum = s.startN (s.startOuts .A) ∧ (t.out o).inBlank = false
            ∧ (t.out o).forced = false)
        ∧ cdiv due 40 ≤ t.clk) ∧
    (s.headBit = true ∨ s.ring.ownTiming = true ∨ s.ring.startN ≠ none ∨ s.power.hearth = false →
      exec .startTimeout s = .next s) ∧
    (∀ i, s.headBit = false → s.ring.ownTiming = false → s.ring.startN = none → s.power.hearth = true →
      s.outA.inBlank = true → s.outA.frameNum ≠ 0 → s.isMember = true → s.outA.info s.outA.frameNum = some i →
      ∃ t, exec .startTimeout s = .next t ∧ t.ring = { s.ring with ownTiming := true }
        ∧ t.clk = max s.clk (s.outA.feClk + 25 * i.mode.vmax + 250)
        ∧ ({ s with clk := t.clk } : State).logs t 0x1003 255
        ∧ ({ s with clk := t.clk, ring := t.ring } : State).sameButHandling t) ∧
    (s.isMember = true → s.ring.isolated = false →
      exec .isolationTimeout s = .next { s with
        clk := max s.clk (25 * (s.ring.headAt + 1000000)), ring := { s.ring with isolated := true } }) ∧
    (s.isMember = false ∨ s.ring.isolated = true → exec .isolationTimeout s = .next s)

/-- READY and START tokens start the ring's frames: `Clause.TokensTravel`, `Clause.TheHeadStarts`, `Clause.MembersStart`, together.
Rows concluded here to answer a next state: tokenReady, tokenStart, headStartSend, headStartForced, memberFrameStart,
startTimeout, isolationTimeout. -/
def Obligations.RingFramesStart : Prop :=
  Clause.TokensTravel ∧ Clause.TheHeadStarts ∧ Clause.MembersStart

/-! ### Panel links -/

/-- A backchannel block is heard only under block lock. One whose header is two or more bits off every codeword, or whose CRC
fails where its kind carries one, is discarded and counted (R265, R267, R286); a header one bit off is taken and counted.
A CONTROL message of another SUBTYPE is not its row's. -/
def Clause.BackchannelMessagesAreChecked : Prop :=
  ∀ (o : OutId) (b : List Byte) (k : BcBlock) (s : State), k.out = o →
    ((s.link o).bcLock = false →
      exec (.trainReport o b) s = .next s ∧ exec (.capsMsg o b) s = .next s ∧ exec (.crcEcho o b) s = .next s ∧
      exec (.statusMsg o b) s = .next s ∧ exec (.linkQuality o b) s = .next s ∧ exec (.teMsg o b) s = .next s ∧
      exec (.backchannelBlockDiscard k) s = .next s) ∧
    ((s.link o).bcLock = true → ∀ u, u = s.modLink o (fun l => { l with bcErr := min (l.bcErr + 1) 65535 }) →
      (classHeader k.header = none → exec (.backchannelBlockDiscard k) s = .next u) ∧
      (∀ c, classHeader k.header = some (c, false) → c.hasCrc = true → ctlOk k.payload = false →
        exec (.backchannelBlockDiscard k) s = .next u) ∧
      (ctlOk b = false →
        exec (.trainReport o b) s = .next u ∧ exec (.capsMsg o b) s = .next u ∧ exec (.crcEcho o b) s = .next u ∧
        exec (.statusMsg o b) s = .next u ∧ exec (.linkQuality o b) s = .next u ∧ exec (.teMsg o b) s = .next u)) ∧
    ((s.link o).bcLock = true → ∀ c, (c.hasCrc = false ∨ ctlOk k.payload = true) →
      (classHeader k.header = some (c, false) → exec (.backchannelBlockDiscard k) s = .next s) ∧
      (classHeader k.header = some (c, true) →
        exec (.backchannelBlockDiscard k) s = .next (s.modLink o fun l => { l with bcFixed := l.bcFixed + 1 }))) ∧
    ((s.link o).bcLock = true → ctlOk b = true →
      (nAt b 0 1 ≠ 0x11 → exec (.trainReport o b) s = .next s) ∧ (nAt b 0 1 ≠ 0x20 → exec (.capsMsg o b) s = .next s) ∧
      (nAt b 0 1 ≠ 0x31 → exec (.crcEcho o b) s = .next s) ∧ (nAt b 0 1 ≠ 0x32 → exec (.statusMsg o b) s = .next s) ∧
      (nAt b 0 1 ≠ 0x33 → exec (.linkQuality o b) s = .next s) ∧ (nAt b 0 1 ≠ 0x30 → exec (.teMsg o b) s = .next s))

/-- A good echo in time: ECHO_OK, the frame that it names, no failures in a row (R249). One whose CRC differs, that comes
late, whose number fails to advance or that no frame sent carries, or none 2 ms after FRAME_END, is fault 0x0504 with SS1 on
the output's regions; the third frame in a row retrains the link, fault 0x0505 (R562). The echo of an earlier frame only
advances the number (DEDUCED, log entry 108). -/
def Clause.EchoesAreCompared : Prop :=
  ∀ (o : OutId) (b : List Byte) (s : State),
    ((s.link o).bcLock = true → ctlOk b = true → nAt b 0 1 = 0x31 → (s.link o).st = .active →
      (∀ d f, (s.out o).echoDue = some d → (s.out o).frameCrc = some f → s.us ≤ d → nAt b 4 4 = f.1 →
        nAt b 8 4 = f.2.toNat → (s.out o).echoStale f.1 = false →
        ∃ t, exec (.crcEcho o b) s = .next t ∧ (t.link o).echoOk = true ∧ (t.out o).echoFrame = f.1
          ∧ (t.out o).echoBad = 0 ∧ (t.out o).echoDue = none ∧ (t.out o).echoSeen = some f.1
          ∧ t = { s with linkA := t.linkA, linkB := t.linkB, outA := t.outA, outB := t.outB, cellar := t.cellar,
                         transom := t.transom }) ∧
      (((s.out o).echoStale (nAt b 4 4) = true ∨ (s.out o).frameCrc = none
          ∨ (∃ f, (s.out o).frameCrc = some f ∧ ahead (nAt b 4 4) f.1 = true)
          ∨ (∃ f d, (s.out o).frameCrc = some f ∧ (s.out o).echoDue = some d ∧ nAt b 4 4 = f.1
              ∧ (d < s.us ∨ nAt b 8 4 ≠ f.2.toNat))) →
        (s.out o).echoBad + 1 ≠ 3 → s.handling = false →
        ∃ t, exec (.crcEcho o b) s = .next t ∧ s.logs t 0x504 (44 + o.num)
          ∧ (t.out o).echoFail = min 65535 ((s.out o).echoFail + 1) ∧ (t.out o).echoBad = (s.out o).echoBad + 1
          ∧ s.sameButHandling t) ∧
      (∀ f, (s.out o).frameCrc = some f → (s.out o).echoStale (nAt b 4 4) = false → ahead f.1 (nAt b 4 4) = true →
        ahead (nAt b 4 4) f.1 = false →
        exec (.crcEcho o b) s = .next ((s.modLink o fun l => { l with bcAt := s.clk }).modOut o fun x =>
          { x with echoSeen := some (nAt b 4 4) }))) ∧
    ((s.out o).echoDue = none → exec (.echoTimeout o) s = .next s) ∧
    (∀ d, (s.out o).echoDue = some d → (s.link o).st ≠ .active → exec (.echoTimeout o) s = .next s) ∧
    (∀ d, (s.out o).echoDue = some d → (s.link o).st = .active → s.handling = false →
      ∃ t, exec (.echoTimeout o) s = .next t ∧ t.clk = max s.clk (25 * (d + 1))
        ∧ ({ s with clk := t.clk } : State).logs t 0x504 (44 + o.num)
        ∧ (t.out o).echoBad = (s.out o).echoBad + 1 ∧ (t.out o).echoDue = none
        ∧ ((s.out o).echoBad ≠ 2 → ({ s with clk := t.clk } : State).sameButHandling t)
        ∧ ((s.out o).echoBad = 2 → (t.link o).st ≠ .active ∧ ∃ e ∈ t.cellar.log, e.code = 0x505))

/-- STATUS (R287): a panel fault is fault 0x0603, counted; when STATE has read 0 or 1 for a second, its SS3 ends (R562). The
tearing-effect level of a TE message is taken as hold again after 1 ms (R260). -/
def Clause.StatusIsHeard : Prop :=
  ∀ (o : OutId) (b : List Byte) (s : State),
    ((s.link o).bcLock = true → ctlOk b = true → nAt b 0 1 = 0x32 →
      (nAt b 1 1 = 2 → s.handling = false →
        ∃ t, exec (.statusMsg o b) s = .next t ∧ s.logs t 0x603 (44 + o.num) ∧ (t.link o).statusSt = 2
          ∧ (t.link o).panelFaults = min 65535 ((s.link o).panelFaults + 1) ∧ (t.link o).panelFaultAt = none
          ∧ s.sameButHandling t) ∧
      (nAt b 1 1 ≠ 2 → exec (.statusMsg o b) s = .next (s.modLink o fun l =>
        { l with bcAt := s.clk, statusSt := nAt b 1 1,
                 panelFaultAt := if l.statusSt = 2 then some s.us else l.panelFaultAt }))) ∧
    ((s.link o).panelFaultAt = none → exec (.panelFaultClear o) s = .next s) ∧
    (∀ w, (s.link o).panelFaultAt = some w →
      ∃ t, exec (.panelFaultClear o) s = .next t ∧ t.clk = max s.clk (25 * (w + 1000000))
        ∧ (t.link o).panelFaultAt = none
        ∧ (∀ d ∈ t.cellar.ss3, ¬ (d.out = o ∧ d.code = 0x603 ∧ d.fc4 = false))
        ∧ t = { s with clk := t.clk, linkA := t.linkA, linkB := t.linkB, cellar := t.cellar, transom := t.transom }) ∧
    ((s.out o).teAt = none → exec (.teTimeout o) s = .next s) ∧
    (∀ w, (s.out o).teAt = some w →
      exec (.teTimeout o) s = .next (({ s with clk := max s.clk (w + 25000) } : State).modOut o fun x =>
        { x with teMsg := false, teAt := none }))

/-- Backchannel messages, CRC echoes and panel status: `Clause.BackchannelMessagesAreChecked`, `Clause.EchoesAreCompared`, `Clause.StatusIsHeard`, together.
Rows concluded here to answer a next state: teMsg, teTimeout, trainReport, capsMsg, crcEcho, statusMsg, linkQuality,
echoTimeout, panelFaultClear, backchannelBlockDiscard. -/
def Obligations.PanelMessagesAreChecked : Prop :=
  Clause.BackchannelMessagesAreChecked ∧ Clause.EchoesAreCompared ∧ Clause.StatusIsHeard

/-- The panel's messages carry a link's training from phase to phase (R288): block lock on all 16 lanes, EYE_MIN on every
lane, the deskew with the request for CAPS (R277), CAPS, and the VERIFY_CRC, with which the link is ACTIVE; a wrong one ends
the attempt. Until EYE_MIN is met a lane below it moves along its PRESET_ORDER (R314). -/
def Clause.LinksTrain : Prop :=
  ∀ (o : OutId) (b : List Byte) (s : State), (s.link o).bcLock = true → ctlOk b = true →
    (nAt b 0 1 = 0x11 → (s.link o).st = .blockLock → nAt b 2 2 = 0xFFFF →
      ∃ t, exec (.trainReport o b) s = .next t ∧ (t.link o).st = .equalise ∧ (t.link o).phaseAt = s.clk
        ∧ (∀ n ∈ txLanes o.num, n < s.lanes.length → (t.lane n).preset = s.presetAt n 0 ∧ (t.lane n).tried = 0)
        ∧ t = { s with linkA := t.linkA, linkB := t.linkB, lanes := t.lanes }) ∧
    (nAt b 0 1 = 0x11 → (s.link o).st = .deskew → nAt b 4 1 = 1 →
      exec (.trainReport o b) s = .next (s.modLink o fun l =>
        { l with bcAt := s.clk, st := .caps, phaseAt := s.clk, reqBlk := requestPayload 0x20, capsReq := true })) ∧
    (nAt b 0 1 = 0x11 → (s.link o).st = .verify → nAt b 1 1 = 4 → nAt b 8 4 = (s.link o).verifyCrc.toNat →
      ∃ t, exec (.trainReport o b) s = .next t ∧ (t.link o).st = .active ∧ (t.link o).echoOk = false
        ∧ (t.link o).panelRst = false ∧ (t.out o).activeAt = s.us
        ∧ (∀ d ∈ t.cellar.ss3, ¬ (d.out = o ∧ d.fc4 = false ∧ d.code ∈ [0x601, 0x602, 0x505, 0x1, 0x3]))
        ∧ t = { s with linkA := t.linkA, linkB := t.linkB, outA := t.outA, outB := t.outB, cellar := t.cellar,
                       transom := t.transom, boxes := t.boxes }) ∧
    (nAt b 0 1 = 0x11 → (s.link o).st = .verify → nAt b 1 1 = 4 → nAt b 8 4 ≠ (s.link o).verifyCrc.toNat →
      (s.link o).attempt < 3 → s.pendsOf .lne 0 = [] →
      ∃ t, exec (.trainReport o b) s = .next t ∧ (1 ≤ (s.link o).attempt → (t.link o).st = .reset)
        ∧ (t.link o).attempt = (s.link o).attempt + 1
        ∧ t = { s with lanes := t.lanes, linkA := t.linkA, linkB := t.linkB, outA := t.outA, outB := t.outB }) ∧
    (nAt b 0 1 = 0x20 → (s.link o).st = .caps →
      ∃ t, exec (.capsMsg o b) s = .next t
        ∧ t.link o = { s.link o with bcAt := s.clk, caps := some b, capsReq := false, st := .verify, phaseAt := s.clk,
                                     verifyCrc := verifyCrcFrom (s.trainSlots o) }
        ∧ t = { s with linkA := t.linkA, linkB := t.linkB, free := t.free }) ∧
    (nAt b 0 1 = 0x20 → (s.link o).st = .active → (s.link o).capsReq = true →
      ∃ t, exec (.capsMsg o b) s = .next t ∧ t.link o = { s.link o with bcAt := s.clk, caps := some b, capsReq := false }
        ∧ t = { s with linkA := t.linkA, linkB := t.linkB, outA := t.outA, outB := t.outB }) ∧
    (nAt b 0 1 = 0x33 → (s.link o).st = .equalise → s.lanes.length = 50 →
      ∃ t, exec (.linkQuality o b) s = .next t
        ∧ (t.link o).eye = (List.range 16).map (fun i => nAt b (1 + i) 1) ∧ (t.link o).corrected = nAt b 0x12 2
        ∧ (t.link o).hdrErr = nAt b 0x14 2
        ∧ (∀ i, i < 16 → (t.lane (16 * o.num + i)).eye = nAt b (1 + i) 1)
        ∧ ((∀ i, i < 16 → s.eyeMin o ≤ nAt b (1 + i) 1) → (t.link o).st = .deskew)
        ∧ ((∃ i, i < 16 ∧ nAt b (1 + i) 1 < s.eyeMin o) → (t.link o).st = .equalise)
        ∧ (∀ i n, i < 16 → n = 16 * o.num + i → nAt b (1 + i) 1 < s.eyeMin o →
            (s.lane n).tried < fld (s.laneWord n 0) 12 2 →
            (t.lane n).preset = s.presetAt n ((s.lane n).tried + 1) ∧ (t.lane n).tried = (s.lane n).tried + 1)
        ∧ t = { s with linkA := t.linkA, linkB := t.linkB, lanes := t.lanes })

/-- A phase that runs out, or a backchannel lost in training, ends the attempt (R288, R290): the next begins with PANEL_RST
low for 1 ms; after the third the link is DOWN, fault 0x0602, and a new cycle begins every second. In DESKEW more slots are
sent. -/
def Clause.TrainingAttemptsEnd : Prop :=
  ∀ (o : OutId) (s : State),
    ((s.link o).phaseBound = none → exec (.trainPhaseTimeout o) s = .next s) ∧
    ((s.link o).st = .disabled ∨ (s.link o).st = .reset ∨ (s.link o).st = .backchannel ∨ (s.link o).st = .down →
      exec (.backchannelLoss o) s = .next s) ∧
    (∀ n, (s.link o).phaseBound = some n → 1 ≤ (s.link o).attempt → (s.link o).attempt < 3 → s.pendsOf .lne 0 = [] →
      ∃ t, exec (.trainPhaseTimeout o) s = .next t ∧ t.clk = max s.clk ((s.link o).phaseAt + n)
        ∧ (t.link o).st = .reset ∧ (t.link o).attempt = (s.link o).attempt + 1 ∧ (t.link o).panelRst = true
        ∧ (t.link o).rstAt = some t.clk ∧ (t.link o).bcLock = false ∧ (t.link o).psafe = true
        ∧ (t.link o).trainings = min 65535 ((s.link o).trainings + 1)
        ∧ t = { s with clk := t.clk, free := t.free, lanes := t.lanes, linkA := t.linkA, linkB := t.linkB,
                       outA := t.outA, outB := t.outB }) ∧
    (∀ n, (s.link o).phaseBound = some n → 3 ≤ (s.link o).attempt →
      ∃ t, exec (.trainPhaseTimeout o) s = .next t ∧ t.clk = max s.clk ((s.link o).phaseAt + n)
        ∧ (t.link o).st = .down ∧ (t.link o).downAt = t.clk ∧ (t.link o).psafe = true
        ∧ ({ s with clk := t.clk } : State).logs t 0x602 (44 + o.num)
        ∧ ({ s with clk := t.clk, lanes := t.lanes } : State).sameButHandling t) ∧
    ((s.link o).st = .deskew → exec (.trainDeskewRepeat o) s = .next (s.modLink o fun l =>
      { l with deskews := (l.deskews + 8) % 0x100000000 })) ∧
    ((s.link o).st ≠ .deskew → exec (.trainDeskewRepeat o) s = .next s) ∧
    ((s.link o).rstAt = none → exec (.panelRstRelease o) s = .next s) ∧
    (∀ r, (s.link o).rstAt = some r →
      exec (.panelRstRelease o) s = .next (({ s with clk := max s.clk (r + 25000) } : State).modLink o fun l =>
        { l with st := .backchannel, panelRst := false, rstAt := none, phaseAt := max s.clk (r + 25000) })) ∧
    ((s.link o).st ≠ .down → exec (.linkRetryCycle o) s = .next s) ∧
    ((s.link o).st = .down → s.mayTrain o = true → s.pendsOf .lne 0 = [] →
      ∃ t, exec (.linkRetryCycle o) s = .next t ∧ t.clk = max s.clk ((s.link o).downAt + 25000000)
        ∧ (t.link o).attempt = 1 ∧ (t.link o).phaseAt = t.clk ∧ (t.link o).psafe = true
        ∧ (t.link o).st = (if (s.link o).bcLock then .blockLock else .backchannel)
        ∧ t = { s with clk := t.clk, free := t.free, lanes := t.lanes, linkA := t.linkA, linkB := t.linkB,
                       outA := t.outA, outB := t.outB })

/-- A link trains phase by phase, or its attempt ends: `Clause.LinksTrain`, `Clause.TrainingAttemptsEnd`, together.
Rows concluded here to answer a next state: trainReport, capsMsg, linkQuality, trainPhaseTimeout, trainDeskewRepeat,
panelRstRelease, linkRetryCycle. -/
def Obligations.LinksTrain : Prop :=
  Clause.LinksTrain ∧ Clause.TrainingAttemptsEnd

/-- An ACTIVE link retrains (R291): when its panel reports training again, or sends CAPS that nobody asked for, when a lane's
eye falls below EYE_MIN or header errors exceed their bound, and when its backchannel is lost for 100 µs. LINK_DROPS counts it, fault 0x0601 is logged, the
output shows SS3 behind PSAFE.
Rows concluded here to answer a next state: trainReport, capsMsg, linkQuality, backchannelLoss. -/
def Obligations.ActiveLinksRetrain : Prop :=
  ∀ (o : OutId) (b : List Byte) (s : State), (s.link o).st = .active → s.pendsOf .lne 0 = [] →
    ((s.link o).bcLock = true → ctlOk b = true → nAt b 0 1 = 0x11 →
      ∃ t, exec (.trainReport o b) s = .next t ∧ s.retrains t o) ∧
    ((s.link o).bcLock = true → ctlOk b = true → nAt b 0 1 = 0x20 → (s.link o).capsReq = false →
      ∃ t, exec (.capsMsg o b) s = .next t ∧ s.retrains t o) ∧
    ((s.link o).bcLock = true → ctlOk b = true → nAt b 0 1 = 0x33 →
      (∃ i, i < 16 ∧ nAt b (1 + i) 1 < s.eyeMin o) ∨ fld (s.lv .spl o 0x804) 8 8 < nAt b 0x14 2 →
      ∃ t, exec (.linkQuality o b) s = .next t ∧ s.retrains t o) ∧
    (∃ t, exec (.backchannelLoss o) s = .next t ∧ s.retrains t o ∧ (t.link o).bcLock = false)

/-- Electrical idle and DESKEW slots (R276, R317, R318): idle lanes begin their exit 1 µs before VBLANK_MIN is over; a lane
that has left idle carries data, and once every lane of its port does, a DESKEW slot follows, as after every 16,384 slots. -/
def Clause.LanesLeaveIdle : Prop :=
  ∀ (o : OutId) (n : Nat) (s : State),
    ((s.out o).inBlank = true → (s.link o).st = .active →
      ∃ t, exec (.eiExitStart o) s = .next t ∧ s.clk ≤ t.clk
        ∧ (∀ k ∈ txLanes o.num, k < s.lanes.length →
            t.lane k = (if (s.lane k).st = 2 then { s.lane k with exiting := true } else s.lane k))
        ∧ (∀ k, k ∉ txLanes o.num → t.lane k = s.lane k) ∧ t = { s with clk := t.clk, lanes := t.lanes }) ∧
    ((s.out o).inBlank = false ∨ (s.link o).st ≠ .active → exec (.eiExitStart o) s = .next s) ∧
    ((s.lane n).exiting = false ∨ laneTx n = false → exec (.eiExitDone n) s = .next s) ∧
    ((s.lane n).exiting = true → laneTx n = true →
      ∃ t, exec (.eiExitDone n) s = .next t ∧ t.lanes = s.lanes.modify n (fun l =>
            { l with st := 1, exiting := false, words := l.next.getD l.words, next := none })
        ∧ t = { s with lanes := t.lanes, linkA := t.linkA, linkB := t.linkB, ring := t.ring }
        ∧ (∀ k ∈ txLanes (lanePort n), k ≠ n ∧ (s.lane k).st ≠ 1 → t = { s with lanes := t.lanes })) ∧
    (∀ q : OutId, s.portActive q.num = true → s.lanesUp q.num = true →
      exec (.deskewSlotDue q.num) s = .next (s.modLink q fun l => { l with deskews := (l.deskews + 1) % 0x100000000 })) ∧
    (∀ q : RPort, s.portActive q.no = true → s.lanesUp q.no = true →
      exec (.deskewSlotDue q.no) s = .next (s.modRport q fun l => { l with deskews := (l.deskews + 1) % 0x100000000 })) ∧
    (∀ p, s.portActive p = false ∨ s.lanesUp p = false → exec (.deskewSlotDue p) s = .next s)

/-- Receive lanes (R307, R309, R310, R312): the EYE of a lane with block lock, or adapting towards it, lies within ±8 of the
margin of R309 (where within is free), its CTLE and DFE taps within their limits, the taps at zero while DFE_EN is 0; block
lock gained or lost, which for a backchannel lane is the backchannel's and a ring lane reports to its partner (R590), and
whose loss is fault 0x0701 (R562). -/
def Clause.ReceiveLanes : Prop :=
  ∀ (n : Nat) (eye : Openings) (q : Equaliser) (s : State),
    (laneTx n = true ∨ s.variant.hasLane n = false ∨ (s.lane n).st = 2 → exec (.eyeRefresh n eye q) s = .next s
      ∧ exec (.blockLockGained n) s = .next s) ∧
    ((s.lane n).lock = false → s.adaptsFully n = false → exec (.eyeRefresh n eye q) s = .next s) ∧
    (laneTx n = false → s.variant.hasLane n = true → (s.lane n).st ≠ 2 →
      ((s.lane n).lock = true ∨ s.adaptsFully n = true) → n < s.lanes.length →
      ∃ t, exec (.eyeRefresh n eye q) s = .next t
        ∧ (t.lane n).eye = min 255 (eyeMargin (34 ≤ n) eye + s.freeBelow 17 - 8) ∧ s.freeBelow 17 < 17
        ∧ fld (s.laneWord n 4) 0 4 ≤ (t.lane n).ctle
        ∧ (fld (s.laneWord n 4) 0 4 ≤ fld (s.laneWord n 4) 4 4 → (t.lane n).ctle ≤ fld (s.laneWord n 4) 4 4)
        ∧ (t.lane n).dfe.length = (if n < 34 then 3 else 12)
        ∧ (∀ k, ((t.lane n).dfe.getD k 0).natAbs ≤ (tapBound k).natAbs)
        ∧ (bitOf (s.laneWord n 4) 8 = false → ∀ x ∈ (t.lane n).dfe, x = 0)
        ∧ (∀ m, m ≠ n → t.lane m = s.lane m) ∧ (n < 34 → t.ring = s.ring)
        ∧ t = { s with lanes := t.lanes, ring := t.ring, free := t.free }) ∧
    (laneTx n = false → s.variant.hasLane n = true → (s.lane n).st ≠ 2 → n ≠ 32 → n ≠ 33 →
      exec (.blockLockGained n) s = .next ((s.modLane n fun l => { l with st := 1, lock := true }).ringTell n)) ∧
    (∀ o : OutId, s.variant.hasLane (32 + o.num) = true → (s.lane (32 + o.num)).st ≠ 2 → (s.link o).st ≠ .disabled →
      ∃ t, exec (.blockLockGained (32 + o.num)) s = .next t ∧ (t.link o).bcLock = true ∧ (t.link o).bcAt = s.clk
        ∧ ((s.link o).st = .backchannel → (t.link o).st = .blockLock ∧ (t.link o).phaseAt = s.clk)
        ∧ ((s.link o).st ≠ .backchannel → (t.link o).st = (s.link o).st)
        ∧ t = { s with linkA := t.linkA, linkB := t.linkB, lanes := t.lanes }) ∧
    (laneTx n = true ∨ (s.lane n).lock = false → exec (.blockLockLost n) s = .next s) ∧
    (laneTx n = false → (s.lane n).lock = true → n < s.lanes.length →
      ∃ t, exec (.blockLockLost n) s = .next t ∧ (t.lane n).lock = false ∧ (t.lane n).st = 0
        ∧ (t.lane n).lockLoss = min 65535 ((s.lane n).lockLoss + 1)
        ∧ (∀ o : OutId, n = 32 + o.num → (t.link o).bcLock = false)
        ∧ ({ s with ring := t.ring, free := t.free } : State).sameButHandling t)

/-- Lane calibration (R319, R320): a lane falls due after CAL_INTERVAL or a change of 5 °C; one at a time begins in its
port's blanking, in the first slot after the DESKEW slot behind FRAME_END, the one calibrated longest ago of those eligible;
it ends with new values, or without after 150 µs, and the lane leaves idle. -/
def Clause.LanesCalibrate : Prop :=
  ∀ (n p : Nat) (s : State),
    (laneTx n = false ∨ s.variant.hasLane n = false → exec (.laneCalDue n) s = .next s) ∧
    (laneTx n = true → s.variant.hasLane n = true →
      ∃ t, exec (.laneCalDue n) s = .next t ∧ t = { s with clk := t.clk, lanes := t.lanes }
        ∧ t.lanes = s.lanes.modify n (fun l => { l with due := true })
        ∧ (80 ≤ (s.reading (laneIsland n) - (s.lane n).calTemp).natAbs → t.clk = s.clk)
        ∧ ((s.reading (laneIsland n) - (s.lane n).calTemp).natAbs < 80 →
            (s.lane n).calAt + 25000000 * fld (s.laneWord n 8) 0 8 < t.clk)) ∧
    (∀ k, s.portActive p = true → (s.out (calOut p)).inBlank = true → (s.out (calOut p)).feClk ≠ 0 →
      s.clk ≤ (s.out (calOut p)).feClk + 1 →
      (∀ q ∈ txLanes p, (s.lane q).calBegan < (s.out (calOut p)).feClk) → s.calLane p = some k → s.pendsOf .lne 0 = [] →
      k ∈ txLanes p ∧ s.calEligible k = true ∧ (∀ q ∈ txLanes p, s.calEligible q = true → (s.lane k).calAt ≤ (s.lane q).calAt) ∧
      exec (.laneCalStart p) s = .next (s.modLane k fun l => { l with st := 3, exiting := false, calBegan := s.clk })) ∧
    (s.portActive p = false ∨ (s.out (calOut p)).inBlank = false ∨ (s.out (calOut p)).feClk + 1 < s.clk ∨ s.calLane p = none →
      exec (.laneCalStart p) s = .next s) ∧
    ((s.lane n).st = 3 →
      (s.clk ≤ (s.lane n).calBegan + 3750 → exec (.laneCalDone n) s = .next (s.modLane n fun l =>
        { l with st := 0, exiting := true, calCount := min (l.calCount + 1) 65535, calAt := s.clk,
                 calTemp := s.reading (laneIsland n), due := false, recal := false })) ∧
      ((s.lane n).calBegan + 3750 < s.clk → exec (.laneCalDone n) s = .next (s.modLane n fun l =>
        { l with st := 0, exiting := true, calAbort := min (l.calAbort + 1) 65535 })) ∧
      exec (.laneCalAbort n) s = .next (({ s with clk := max s.clk ((s.lane n).calBegan + 3750) } : State).modLane n
        fun l => { l with st := 0, exiting := true, calAbort := min (l.calAbort + 1) 65535 })) ∧
    ((s.lane n).st ≠ 3 → exec (.laneCalDone n) s = .next s ∧ exec (.laneCalAbort n) s = .next s)

/-- Lanes leave idle, watch their eye and calibrate: `Clause.LanesLeaveIdle`, `Clause.ReceiveLanes`, `Clause.LanesCalibrate`, together.
Rows concluded here to answer a next state: deskewSlotDue, eiExitStart, eiExitDone, eyeRefresh, laneCalDue,
laneCalStart, laneCalDone, laneCalAbort, blockLockGained, blockLockLost. -/
def Obligations.LanesAreCared : Prop :=
  Clause.LanesLeaveIdle ∧ Clause.ReceiveLanes ∧ Clause.LanesCalibrate

/-! ### The frame doorway -/

/-- CLOSE(N) of an output that may close (R38): the doorway record takes N; a copy for the next doorway that waits for no
island is fixed for N, and one whose frame lies ahead waits on. In locked operation output A's doorway is both outputs'. -/
def Clause.DoorwaysClose : Prop :=
  ∀ (o : OutId) (s : State), s.Inv →
    (s.mayClose (s.eff o) = false → exec (.doorwayClose o) s = .next s) ∧
    (s.mayClose (s.eff o) = true →
      ∃ t, exec (.doorwayClose o) s = .next t ∧ t.clk = s.clk ∧ t.shadow = s.shadow ∧ t.dram = s.dram
        ∧ t.commits.nextId = s.commits.nextId
        ∧ (t.door (s.eff o)).closeN = ((s.door (s.eff o)).closeN + 1) % 0x100000000
        ∧ (t.door (s.eff o)).closing = true ∧ (t.door (s.eff o)).closeClk = s.clk
        ∧ (t.door (s.eff o)).swapN = (s.door (s.eff o)).swapN
        ∧ (s.locked = true → (t.door .A).joint = true ∧ (t.door .B).joint = true ∧ (t.door .B).closing = true
            ∧ (t.door .B).closeN = (t.door .A).closeN)
        ∧ (s.locked = false → s.lockNext = false →
            (t.door o).joint = false ∧ t.door o.other = s.door o.other
            ∧ (∀ p q m, p ∈ s.commits.pend → p.waits = [] → p.target = .frame q m → s.eff q = o →
                ahead m ((s.door o).closeN + 1) = true → p ∈ t.commits.pend)
            ∧ ((∀ p ∈ s.commits.pend, p.target = .next ∧ p.waits = []) →
                t.commits.pend = s.commits.pend.map (fun p =>
                  if p.blk.kind = some .f ∧ p.needs o = true ∧ p.fixed o = none
                  then p.fix o (some (((s.door o).closeN + 1) % 0x100000000)) else p))))

/-- SWAP(N) follows CLOSE(N) (R39): the doorway record has swapped to N. A landing of the protocol then swaps between its
last work of the frame before and its first of N (R40): it works for N under the copies fixed for it. -/
def Clause.DoorwaysSwap : Prop :=
  ∀ (o : OutId) (isl : Nat) (s : State), s.Inv →
    ((s.door (s.eff o)).closing = false → exec (.doorwaySwap o) s = .next s) ∧
    ((s.door (s.eff o)).closing = true →
      ∃ t, exec (.doorwaySwap o) s = .next t ∧ (t.door (s.eff o)).swapN = (s.door (s.eff o)).closeN
        ∧ (t.door (s.eff o)).closing = false ∧ (t.door (s.eff o)).closeN = (s.door (s.eff o)).closeN
        ∧ (∀ r ∈ t.cellar.recov, r.rejoin ≠ some (s.eff o, (s.door (s.eff o)).closeN))
        ∧ t = { s with commits := t.commits, chans := t.chans, cellar := t.cellar, trust := t.trust,
                       transom := t.transom }) ∧
    (s.inDoor isl = false ∨ s.boundary isl o (s.door o).swapN = false
        ∨ ahead (s.door o).swapN ((s.landing isl).swapped o) = false → exec (.landingSwap isl o) s = .next s) ∧
    (s.outs.contains o = true → s.inDoor isl = true → ahead (s.door o).swapN ((s.landing isl).swapped o) = true →
      s.boundary isl o (s.door o).swapN = true →
      ∃ t, exec (.landingSwap isl o) s = .next t ∧ (t.landing isl).swapped o = (s.door o).swapN
        ∧ (o = .A → ∃ i, (t.outA.info (s.door o).swapN) = some i)
        ∧ (∀ p, s.commits.pend = [p] → p.fixed o = some (s.door o).swapN → p.needs o = true → p.blk.kind = some .f →
            isl ∈ p.blk.holders → o ∈ landingServes p.blk isl →
            ∃ e ∈ (t.landing isl).sets, e.blk = p.blk ∧ e.out = p.blk.slot o ∧ e.cid = p.cid ∧ e.words = p.words))

/-- An island that has not swapped 20 µs after CLOSE(N) is fault 0x0001; the frame's commits and scene commits are withheld
until it has rejoined, and SWAP is issued without them (R42). Another island that is late at the same CLOSE is reported too,
and what is withheld waits for both. -/
def Clause.LateLandingsAreReported : Prop :=
  ∀ (o : OutId) (isl : Nat) (s : State), s.Inv →
    (s.inDoor isl = false ∨ (s.door (s.eff o)).closing = false ∧ ((s.door (s.eff o)).late = [] ∨ isl ∈ (s.door (s.eff o)).late
        ∨ (s.door (s.eff o)).closeClk + 500 < s.clk) → exec (.landingTimeout isl o) s = .next s) ∧
    ((s.door (s.eff o)).closing = true → s.inDoor isl = true →
      ∃ t, exec (.landingTimeout isl o) s = .next t ∧ t.clk = max s.clk ((s.door (s.eff o)).closeClk + 500)
        ∧ ({ s with clk := t.clk } : State).logs t 1 isl ∧ (t.door (s.eff o)).closing = false
        ∧ (t.door (s.eff o)).swapN = (s.door (s.eff o)).closeN
        ∧ (∀ p ∈ s.commits.pend, p.fixed (s.eff o) = some (s.door (s.eff o)).closeN →
            ∃ q ∈ t.commits.pend, q.cid = p.cid ∧ q.blk = p.blk ∧ q.waits = [isl] ∧ q.fixed (s.eff o) = none)
        ∧ (isl ∉ [53, 54, 60] → ∀ c, ∀ k ∈ (s.chan c).pending, k.fixed (s.eff o) = some (s.door (s.eff o)).closeN →
            ∃ q ∈ (t.chan c).pending, q.pkts = k.pkts ∧ q.markId = k.markId ∧ q.waits = [isl]
              ∧ q.fixed (s.eff o) = none)) ∧
    ((s.door (s.eff o)).closing = false → s.inDoor isl = true → (s.door (s.eff o)).late ≠ [] →
      isl ∉ (s.door (s.eff o)).late → s.clk ≤ (s.door (s.eff o)).closeClk + 500 →
      ahead (s.door (s.eff o)).closeN ((s.landing isl).swapped (s.eff o)) = true →
      ∃ t, exec (.landingTimeout isl o) s = .next t ∧ t.clk = s.clk ∧ s.logs t 1 isl
        ∧ (∀ p ∈ s.commits.pend, p.waits = (s.door (s.eff o)).late →
            ∃ q ∈ t.commits.pend, q.cid = p.cid ∧ q.blk = p.blk ∧ q.waits = p.waits ++ [isl]))

/-- CLOSE and SWAP of the frame doorway, and late landings: `Clause.DoorwaysClose`, `Clause.DoorwaysSwap`, `Clause.LateLandingsAreReported`, together.
Rows concluded here to answer a next state: doorwayClose, doorwaySwap, landingSwap, landingTimeout. -/
def Obligations.Doorways : Prop :=
  Clause.DoorwaysClose ∧ Clause.DoorwaysSwap ∧ Clause.LateLandingsAreReported

/-! ### Preparation and synthesis -/

/-- Preparation of the next band starts where R140 lets it: the band's spans wait, and each region that begins in it takes
its snapshot of the point table (R234). A channel's preparation of a band completes once its composer has the band's rows;
the decoder lanes have then expanded the band for it, and every band in work that paces earlier (R141, R142). The budget of
R165 is spent while the formatter waits for the band. -/
def Clause.BandsArePrepared : Prop :=
  ∀ (o : OutId) (y c : Nat) (s : State),
    ((s.out o).prepY ≠ y ∨ (s.out o).info (s.out o).prepFrame = none → exec (.bandPrepStart o y) s = .next s) ∧
    (∀ i, (s.out o).info (s.out o).prepFrame = some i → (s.out o).prepY = y → y < i.mode.h → s.mayPrep o i y = true →
      ∃ t, exec (.bandPrepStart o y) s = .next t ∧ s.sameButHandling t
        ∧ (t.out o).bands = (s.out o).bands ++
            [{ frame := i.frame, y := y, expanded := [], prepDone := [], composed := [], cap := none, late := [],
               spans := i.spansOf y, undone := (i.spansOf y).length }]
        ∧ (y + 1 < i.mode.h → (t.out o).prepY = y + 1 ∧ (t.out o).prepFrame = (s.out o).prepFrame)
        ∧ (y + 1 = i.mode.h → (t.out o).prepY = 0 ∧ (t.out o).prepFrame = (i.frame + 1) % 0x100000000)
        ∧ (∀ e ∈ s.regionsOn o, e.2.y = y → i.carries e.2.chan = true → s.inDoor (40 + rendererOf e.1) = true →
            ∃ r ∈ (t.out o).regions, r.region = e.1 ∧ r.frame = i.frame ∧ r.tEval = s.us ∧ r.judged = false)) ∧
    (∀ b i, (s.out o).bands.find? (fun b => b.y == y && !(b.prepDone.contains c)) = some b →
      (s.out o).info b.frame = some i →
      (i.carries c = true → b.composed.contains c = true →
        ∃ t, exec (.bandPrepDone o y c) s = .next t ∧ t = { s with outA := t.outA, outB := t.outB }
          ∧ (t.out o).bands.map (fun k => { k with expanded := [] }) = (s.out o).bands.map (fun k =>
              { k with expanded := [],
                       prepDone := if k.frame = b.frame ∧ k.y = y then k.prepDone ++ [c] else k.prepDone })
          ∧ (∃ k, (t.out o).band b.frame y = some k ∧ c ∈ k.expanded)
          ∧ (∀ q e j, e ∈ (s.out q).bands → (s.out q).info e.frame = some j →
              (s.out q).bandAt j e < (s.out o).bandAt i b → ∀ d ∈ j.chans,
                ∃ k ∈ (t.out q).bands, k.frame = e.frame ∧ k.y = e.y ∧ d ∈ k.expanded)) ∧
      (i.carries c = false ∨ b.composed.contains c = false → exec (.bandPrepDone o y c) s = .next s)) ∧
    ((s.out o).bands.find? (fun b => b.y == y && !(b.prepDone.contains c)) = none →
      exec (.bandPrepDone o y c) s = .next s) ∧
    (∀ i b, (s.out o).info (s.out o).frameNum = some i →
      (s.out o).band (s.out o).frameNum ((s.out o).sendRow / i.mode.hy) = some b →
      ((s.out o).inBlank = false → (s.out o).budgetOut = false → b.missing i ≠ [] → b.cap = none →
        exec (.prepBudgetSpent o) s = .next
          (({ s with clk := max s.clk ((s.out o).waitFrom i.mode + (s.out o).budget) } :
              State).modOut o fun x => { x with budgetOut := true, budget := 0 })) ∧
      ((s.out o).inBlank = true ∨ (s.out o).budgetOut = true ∨ b.missing i = [] ∨ b.cap ≠ none →
        exec (.prepBudgetSpent o) s = .next s))

/-- The composer of a channel writes the front plane rows that a band lacks, and hands over the signature of each region
whose last row the band holds (R198, R202, R203); it works only for a frame that its landing has swapped to (R40), and on the
band that paces earliest (R199). -/
def Clause.FrontPlanesAreComposed : Prop :=
  ∀ (o : OutId) (y c : Nat) (flip : Word) (s : State),
    ((s.out o).bands.find? (fun b => b.y == y && !(b.composed.contains c)) = none →
      exec (.frontPlaneRow o y c flip) s = .next s) ∧
    (∀ b i, (s.out o).bands.find? (fun b => b.y == y && !(b.composed.contains c)) = some b →
      (s.out o).info b.frame = some i →
      (4 ≤ c ∨ i.carries c = false ∨ s.worksFor (36 + c) o b.frame = false
          ∨ s.composesFirst c ((s.out o).bandAt i b) = true →
        exec (.frontPlaneRow o y c flip) s = .next s) ∧
      (c < 4 → i.carries c = true → s.worksFor (36 + c) o b.frame = true →
        s.composesFirst c ((s.out o).bandAt i b) = false →
        ∃ t, exec (.frontPlaneRow o y c flip) s = .next t
          ∧ (t.out o).bands = (s.out o).bands.map (fun k =>
              if k.frame = b.frame ∧ k.y = y then { k with composed := k.composed ++ [c] } else k)
          ∧ (∀ j ∈ s.rowsToCompose o i y c, ∃ f ∈ (t.out o).front, f.frame = i.frame ∧ f.chan = c ∧ f.row = j)
          ∧ (∀ f ∈ (s.out o).front, f ∈ (t.out o).front)
          ∧ (∀ e ∈ s.regionsOnRow o c y, e.2.y + e.2.h = y + 1 → ∀ r ∈ (t.out o).regions, r.region = e.1 →
              r.frame = b.frame → r.sig.isSome = true)
          ∧ ({ s with dram := t.dram, audit := t.audit } : State).sameButHandling t))

/-- A free slice takes the span that R156 gives it; its rays go into the row store when it completes (R155); 4 t_band after
its dispatch the slice is reset, fault 0x0201, and the span waits to be dispatched again (R157). -/
def Clause.SpansAreSynthesised : Prop :=
  ∀ (k : Nat) (s : State),
    ((s.slices.getD k none).isSome = true ∨ s.slices.length ≤ k ∨ s.inDoor k = false → exec (.spanDispatch k) s = .next s) ∧
    (∀ o b row first i, s.slices.getD k none = none → k < s.slices.length → s.inDoor k = true →
      s.chooseSpan k = some (o, b, row, first) → (s.out o).info b.frame = some i →
      ∃ t sp, exec (.spanDispatch k) s = .next t ∧ t.slices.getD k none = some sp ∧ sp.out = o ∧ sp.frame = b.frame
        ∧ sp.row = row ∧ sp.first = first ∧ sp.len = min 64 (i.mode.w - first) ∧ sp.since = s.clk
        ∧ (∀ c, b.cap = some c → sp.cap = c) ∧ (b.cap = none → sp.cap = capOf i.mode (s.lag o) (s.out o).lastCap)
        ∧ (∀ j, j ≠ k → t.slices.getD j none = s.slices.getD j none)
        ∧ t = { s with slices := t.slices, outA := t.outA, outB := t.outB }) ∧
    (s.slices.getD k none = none → exec (.spanComplete k) s = .next s ∧ exec (.spanWatchdog k) s = .next s) ∧
    (∀ p i, s.slices.getD k none = some p → (s.out p.out).info p.frame = some i →
      (s.inDoor k = false → exec (.spanComplete k) s = .next s) ∧
      (s.inDoor k = true →
        ∃ t, exec (.spanComplete k) s = .next t ∧ t.slices.getD k none = none
          ∧ (t.out p.out).rows = (s.out p.out).rows.map (fun r =>
              if r.frame = p.frame ∧ r.row = p.row then
                { r with spans := r.spans ++ [(p.first, ((List.range p.len).flatMap fun j =>
                           (s.hogelRays p.out i p.cap p.late (p.first + j) p.row).1))],
                         left := r.left - 1 }
              else r)
          ∧ t = { s with slices := t.slices, outA := t.outA, outB := t.outB, chans := t.chans }) ∧
      (k < 32 →
        ∃ t, exec (.spanWatchdog k) s = .next t
          ∧ t.clk = max s.clk (p.since + cdiv (4 * i.mode.active) (i.mode.rate * i.mode.h))
          ∧ ({ s with clk := t.clk } : State).logs t 0x201 k ∧ t.slices.getD k none = none
          ∧ (∀ b ∈ (t.out p.out).bands, b.frame = p.frame → b.y = p.row / i.mode.hy → (p.row, p.first) ∈ b.spans)
          ∧ t.commits = s.commits ∧ t.shadow = s.shadow))

/-- Bands are prepared, composed and synthesised: `Clause.BandsArePrepared`, `Clause.FrontPlanesAreComposed`, `Clause.SpansAreSynthesised`, together.
Rows concluded here to answer a next state: bandPrepStart, bandPrepDone, frontPlaneRow, prepBudgetSpent, spanDispatch,
spanComplete, spanWatchdog. -/
def Obligations.BandsAreMade : Prop :=
  Clause.BandsArePrepared ∧ Clause.FrontPlanesAreComposed ∧ Clause.SpansAreSynthesised

/-! ### Regions: expectation and comparison -/

/-- The other renderer's expectation of a region, where it comes by its deadline (R246), and the comparison (R247): an equal
pair is judged; a mismatch is fault 0x0401 with SS1 on the region, or 0x0302 where R562 says so; a signature that stands
still is 0x0402, whatever else; one that is not there by its deadline is 0x0403.
Rows concluded here to answer a next state: expectationDone, signatureCompare, signatureDeadline. -/
def Obligations.RegionsAreCompared : Prop :=
  ∀ (o : OutId) (r : Nat) (flip : Word) (s : State),
    ((s.out o).regions.find? (fun g => g.region == r && g.expect.isNone && !g.judged) = none →
      exec (.expectationDone o r flip) s = .next s) ∧
    (∀ rf g p, (s.out o).regions.find? (fun g => g.region == r && g.expect.isNone && !g.judged) = some rf →
      s.regionOf o r = some g → s.pkgFor o = some p →
      (s.inDoor (40 + (1 - rendererOf r)) = false ∨ s.sigDeadline o r rf.frame = true →
        exec (.expectationDone o r flip) s = .next s) ∧
      (s.inDoor (40 + (1 - rendererOf r)) = true → s.sigDeadline o r rf.frame = false →
        exec (.expectationDone o r flip) s = .next (s.modOut o fun x => x.modRegion r rf.frame fun k =>
          { k with expect := some (p.expectation
                     ((((s.out o).info rf.frame).map fun i => i.fps.getD g.chan 0).getD 0) g rf ^^^ flip) }))) ∧
    ((s.out o).regions.find? (fun g => g.region == r && !g.judged && g.sig.isSome && g.expect.isSome) = none →
      exec (.signatureCompare o r) s = .next s) ∧
    (∀ rf, (s.out o).regions.find? (fun g => g.region == r && !g.judged && g.sig.isSome && g.expect.isSome) = some rf →
      ∃ t, exec (.signatureCompare o r) s = .next t
        ∧ (∀ g ∈ (t.out o).regions, g.region = r → g.frame = rf.frame → g.judged = true)
        ∧ (rf.sig = rf.expect → (t.out o).sigMis = (s.out o).sigMis
            ∧ ((s.out o).frozen rf = false → t.cellar.logSeq = s.cellar.logSeq)
            ∧ ((s.out o).frozen rf = true → s.logs t 0x402 255
                ∧ (t.out o).sigFreeze = min 65535 ((s.out o).sigFreeze + 1)))
        ∧ (rf.sig ≠ rf.expect → (t.out o).sigMis = min 65535 ((s.out o).sigMis + 1)
            ∧ (s.cellar.missFrames = [] → s.logs t 0x401 255)
            ∧ (s.cellar.missFrames = [(o, r, (rf.frame + 0xFFFFFFFF) % 0x100000000)] → rf.frame < 0x100000000 →
                s.logs t 0x302 (36 + s.chanOf o r)))
        ∧ t.commits = s.commits ∧ t.shadow = s.shadow ∧ t.clk = s.clk ∧ t.dram = s.dram) ∧
    ((s.out o).regions.find? (fun g =>
        g.region == r && !g.judged && (g.sig.isNone || g.expect.isNone) && s.sigDeadline o r g.frame) = none →
      exec (.signatureDeadline o r) s = .next s) ∧
    (∀ rf, (s.out o).regions.find? (fun g =>
        g.region == r && !g.judged && (g.sig.isNone || g.expect.isNone) && s.sigDeadline o r g.frame) = some rf →
      ∃ t, exec (.signatureDeadline o r) s = .next t ∧ s.logs t 0x403 255
        ∧ (t.out o).sigMissing = min 65535 ((s.out o).sigMissing + 1)
        ∧ ((s.out o).frozen rf = true → (t.out o).sigFreeze = min 65535 ((s.out o).sigFreeze + 1))
        ∧ (∀ g ∈ (t.out o).regions, g.region = r → g.frame = rf.frame → g.judged = true) ∧ s.sameButHandling t)

/-! ### Frames -/

/-- A frame starts at the first instant at which R161's four conditions hold, and by force VBLANK_MAX after FRAME_END while
its band or its tearing-effect indication is missing (R162). An ACTIVE link carries its FRAME_START block with the frame's
number (R279). Otherwise nothing happens. -/
def Clause.FramesStart : Prop :=
  ∀ (o : OutId) (os : List OutId) (n : Nat) (s : State), os = s.startOuts o → n = s.startN os →
    ((s.ringTimed = true ∧ .A ∈ os) ∨ s.mayStart os n = false →
      exec (.frameStart o) s = .next s ∧ exec (.forcedStart o) s = .next s) ∧
    (s.bandReady os n = false ∨ os.all s.tePermits = false → exec (.frameStart o) s = .next s) ∧
    (s.bandReady os n = true ∧ os.all s.tePermits = true → exec (.forcedStart o) s = .next s) ∧
    (s.ringTimed = false ∨ .A ∉ os → s.mayStart os n = true → s.bandReady os n = true → os.all s.tePermits = true →
      ∃ t, exec (.frameStart o) s = .next t ∧ t.clk = max s.clk (s.startClkOf os)
        ∧ (∀ q ∈ os, (t.out q).frameNum = n ∧ (t.out q).inBlank = false ∧ (t.out q).forced = false
            ∧ (t.out q).fsClk = t.clk ∧ (t.out q).sendRow = 0
            ∧ ((s.link q).st = .active → ∃ x : StartInfo, (t.link q).startBlk = x.payload ∧ x.frame = n))
        ∧ t = { s with clk := t.clk, free := t.free, outA := t.outA, outB := t.outB, linkA := t.linkA,
                       linkB := t.linkB, cellar := t.cellar, transom := t.transom, calib := t.calib,
                       audit := t.audit, power := t.power, slices := t.slices }) ∧
    (s.ringTimed = false ∨ .A ∉ os → s.mayStart os n = true → s.bandReady os n = false → s.lockStart os n = false →
      (∀ q ∈ os, (s.out q).frameNum ≠ 0) →
      ∃ t, exec (.forcedStart o) s = .next t ∧ t.clk = max s.clk (s.forcedClk os)
        ∧ (∀ q ∈ os, (t.out q).frameNum = n ∧ (t.out q).inBlank = false ∧ (t.out q).forced = true
            ∧ (t.out q).fsClk = t.clk)
        ∧ t = { s with clk := t.clk, free := t.free, outA := t.outA, outB := t.outB, linkA := t.linkA,
                       linkB := t.linkB, cellar := t.cellar, transom := t.transom, calib := t.calib,
                       audit := t.audit, power := t.power, slices := t.slices, boxes := t.boxes })

/-- A frame's rows go out one by one (R158), each when its rays are there; once the last has gone, or the output is held,
the frame ends (R273): the output is in blanking, the frame's CRC is known, and a link that carried its FRAME_START carries
its FRAME_END (R280). -/
def Clause.FramesEnd : Prop :=
  ∀ (o : OutId) (i : FrameInfo) (s : State), s.locked = false → (s.out o).info (s.out o).frameNum = some i →
    i.locked = false →
    ((s.out o).inBlank = true → exec (.frameEnd o) s = .next s ∧ exec (.rowPacing o) s = .next s) ∧
    ((s.out o).sendRow < i.mode.emRows → (s.out o).held = false → exec (.frameEnd o) s = .next s) ∧
    (i.mode.emRows ≤ (s.out o).sendRow ∨ (s.out o).held = true → exec (.rowPacing o) s = .next s) ∧
    ((s.out o).inBlank = false → i.mode.emRows ≤ (s.out o).sendRow ∨ (s.out o).held = true →
      ∃ t, exec (.frameEnd o) s = .next t ∧ t.clk = max s.clk (cdiv (s.out o).linkFree 320)
        ∧ (t.out o).inBlank = true ∧ (t.out o).feClk = t.clk ∧ (t.out o).frameNum = (s.out o).frameNum
        ∧ ((s.link o).st = .active → (s.link o).startBlk ≠ [] →
            (t.link o).endBlk = endPayload (s.out o).frameNum (t.out o).blocks (t.out o).activeUs)
        ∧ (∃ c, (t.out o).frameCrc = some ((s.out o).frameNum, c)) ∧ o ∉ t.power.stdFrames
        ∧ t.out o.other = s.out o.other
        ∧ t = { s with clk := t.clk, outA := t.outA, outB := t.outB, cellar := t.cellar, transom := t.transom,
                       linkA := t.linkA, linkB := t.linkB, lanes := t.lanes, power := t.power, audit := t.audit }) ∧
    (∀ buf, (s.out o).inBlank = false → (s.out o).held = false → (s.out o).sendRow < i.mode.emRows →
      s.scanning [o] i.frame = true →
      (s.out o).rows.find? (fun r => r.frame == i.frame && r.row == rowSource i.mode (s.out o).sendRow && r.left == 0)
        = some buf →
      ∃ t, exec (.rowPacing o) s = .next t ∧ t.clk = max s.clk ((s.out o).waitFrom i.mode)
        ∧ (t.out o).sendRow = (s.out o).sendRow + 1 ∧ (t.out o).frameNum = (s.out o).frameNum
        ∧ ({ s with clk := t.clk, free := t.free, dram := t.dram, audit := t.audit } : State).sameButHandling t) ∧
    ((s.out o).rows = [] → exec (.rowPacing o) s = .next s)

/-- When frames start and end: `Clause.FramesStart`, `Clause.FramesEnd`, together.
Rows concluded here to answer a next state: rowPacing, frameStart, forcedStart, frameEnd. -/
def Obligations.FramesStartAndEnd : Prop :=
  Clause.FramesStart ∧ Clause.FramesEnd

/-- The tearing-effect indication of a pin, and of a TE message (R259, R260).
Rows concluded here to answer a next state: tePinChange, teMsg. -/
def Obligations.TearingEffect : Prop :=
  ∀ (o : OutId) (level : Bool) (b : List Byte) (s : State),
    (∃ t, exec (.tePinChange o level) s = .next t ∧ (t.out o).tePin = level ∧ (t.out o).teMsg = (s.out o).teMsg
      ∧ t = { s with outA := t.outA, outB := t.outB }
      ∧ t.out o.other = { s.out o.other with teOpen := (t.out o.other).teOpen }) ∧
    ((s.link o).bcLock = true → ctlOk b = true → nAt b 0 1 = 0x30 →
      ∃ t, exec (.teMsg o b) s = .next t ∧ (t.out o).teMsg = (nAt b 1 1 == 1) ∧ (t.out o).teAt = some s.clk
        ∧ (t.out o).tePin = (s.out o).tePin
        ∧ t = { s with outA := t.outA, outB := t.outB, linkA := t.linkA, linkB := t.linkB })

/-! ### The audit chain -/

/-- The oldest capture's record completes once its frame has ended and image encode has power (R207), or is void where the
chain ran out in it (R136), which counts as a gap of its frame. The chain's descriptors are host memory's: what they hold is
free. -/
def Clause.AuditRecordsEnd : Prop :=
  ∀ (c : Nat) (s : State),
    (s.audit.caps = [] → exec (.auditRecordDone c) s = .next s) ∧
    (∀ k ks, s.audit.caps = k :: ks →
      (k.chan ≠ c ∨ k.ended = false ∨ s.works 59 = false → exec (.auditRecordDone c) s = .next s) ∧
      (k.chan = c → k.ended = true → s.works 59 = true →
        ∃ t, exec (.auditRecordDone c) s = .next t ∧ t.audit.caps = ks
          ∧ t = { s with free := t.free, audit := t.audit, mram := t.mram }
          ∧ (s.audit.sealDue = none → t.mram = s.mram ∧
              ((t.audit.written = s.audit.written ++ [k.record] ∧ t.audit.voids = s.audit.voids) ∨
               (t.audit.written = s.audit.written ∧ t.audit.voids = s.audit.voids + 1
                ∧ ∃ g ∈ t.audit.gaps, g.void = k.seq ∧ g.chan = k.chan ∧ g.cause = 1)))))

/-- At a whole second while a channel is captured, a seal takes the next RECORD_SEQ (R540); it is written once every record
begun before it has ended, with the next segment's number. -/
def Clause.SealsAreWritten : Prop :=
  ∀ s : State,
    (s.power.hearth = false ∨ s.trust.lifecycle = 3 ∨ s.audit.sealDue ≠ none
        ∨ (∀ c, c < 4 → ∀ o ∈ s.outs, bitOf (s.capWord o c) 1 = false) → exec .auditSeal s = .next s) ∧
    (s.power.hearth = true → s.trust.lifecycle ≠ 3 → s.audit.sealDue = none → s.audit.startDue = none →
      (∃ c o, c < 4 ∧ o ∈ s.outs ∧ bitOf (s.capWord o c) 1 = true) →
      ∃ t, exec .auditSeal s = .next t ∧ t.audit.recSeq = (s.audit.recSeq + 1) % 0x100000000
        ∧ t.audit.caps = s.audit.caps ∧ s.clk ≤ t.clk
        ∧ t = { s with clk := t.clk, free := t.free, audit := t.audit, mram := t.mram }
        ∧ (s.audit.caps = [] → t.audit.segment = (s.audit.segment + 1) % 0x100000000 ∧ t.audit.sealDue = none)
        ∧ ((∃ k ∈ s.audit.caps, k.seq < s.audit.recSeq) → t.audit.sealDue = some s.audit.recSeq
            ∧ t.audit.segment = s.audit.segment))

/-- Audit records end and seals are written: `Clause.AuditRecordsEnd`, `Clause.SealsAreWritten`, together.
Rows concluded here to answer a next state: auditRecordDone, auditSeal. -/
def Obligations.AuditRecordsAndSeals : Prop :=
  Clause.AuditRecordsEnd ∧ Clause.SealsAreWritten

/-! ### Points -/

/-- SUBMIT_POINTS hands its updates over in order and completes later (R503). A KMAC engine judges an update whose turn it
is (R212, R230): one that its session's key authenticates, with a higher sequence number and a form that its point takes, is
accepted: the point gets the value, the birth time and the flags of R231, and the session's number moves on. An update that
is refused leaves the table as it is and counts as one violation of kind 4; a repetition gets its receipt again and counts
nothing (R215, R216). An engine whose lanes disagree reports 0x0407 and refuses the update (R215). -/
def Clause.PointUpdatesAreJudged : Prop :=
  ∀ (f k engine : Nat) (e : SqEntry) (i : PointIn) (x : Session) (s : State),
    (s.hostRuns f submitPointsCard e →
      ∃ t, exec (.submitPoints f) s = .next t
        ∧ t = { s with boxes := t.boxes, trust := { s.trust with pointQ := t.trust.pointQ, pointCmds := t.trust.pointCmds } }
        ∧ (∃ ins, t.trust.pointQ = s.trust.pointQ ++ ins ∧ ins.length = (payloadOf e).length / 48
            ∧ ∀ n, n < ins.length → ∃ j, ins[n]? = some j ∧ j.func = f ∧ j.slot = n ∧ j.openS = false
                ∧ j.update = bytesAt (payloadOf e) (48 * n) 48)
        ∧ (∃ c, t.trust.pointCmds = s.trust.pointCmds ++ [c] ∧ c.func = f ∧ c.entry = e
            ∧ c.receipts = List.replicate ((payloadOf e).length / 48) none)) ∧
    (s.trust.pointQ[k]? = none → exec (.pointUpdate k engine true) s = .next s) ∧
    (∀ b, s.trust.pointQ[k]? = some i → s.mayJudge k i = false ∨ 16 ≤ engine ∨ s.engineDown engine = true →
      exec (.pointUpdate k engine b) s = .next s) ∧
    (s.trust.pointQ[k]? = some i → s.mayJudge k i = true → engine < 16 → s.engineDown engine = false →
      (s.sessionOf (nAt i.update 4 2) = some x →
        bytesAt i.update 0x20 16 = kmacTag x.updKey (i.update.take 0x20) csPnt → x.highSeq < nAt i.update 8 8 →
        (∀ r ∈ x.recent, r.seq ≠ nAt i.update 8 8) →
        ∀ q, s.updateEntry x i.update = some q →
        ∃ t, exec (.pointUpdate k engine true) s = .next t
          ∧ (∀ n, tfind t.trust.points n = if n = q.1 then some (q.2.updated i.update s.us) else tfind s.trust.points n)
          ∧ (t.sessionOf x.num).map (·.highSeq) = some (nAt i.update 8 8)
          ∧ t.trust.accepted = s.trust.accepted + 1 ∧ t.cellar.viol = s.cellar.viol
          ∧ t.trust.pointQ = s.trust.pointQ.eraseIdx k
          ∧ State.receiptGoes s t i (receiptOf (some x.rcpKey) (nAt i.update 4 2) 1 (nAt i.update 8 8) s.us)
          ∧ t = { s with boxes := t.boxes, trust := t.trust, cellar := t.cellar, ring := t.ring }) ∧
      (s.relays = false →
        (s.sessionOf (nAt i.update 4 2) = none ∧ s.carriedReceipt i = none)
          ∨ (∃ y, s.sessionOf (nAt i.update 4 2) = some y
              ∧ (bytesAt i.update 0x20 16 ≠ kmacTag y.updKey (i.update.take 0x20) csPnt
                  ∨ ((∀ r ∈ y.recent, r.seq ≠ nAt i.update 8 8)
                      ∧ (nAt i.update 8 8 ≤ y.highSeq ∨ s.updateEntry y i.update = none)))) →
        ∃ t, exec (.pointUpdate k engine true) s = .next t
          ∧ t.cellar = (s.violate 4).cellar ∧ t.trust.points = s.trust.points ∧ t.trust.sessions = s.trust.sessions
          ∧ t.trust.accepted = s.trust.accepted
          ∧ State.receiptGoes s t i (receiptOf none (nAt i.update 4 2) 1 (nAt i.update 8 8) s.us)
          ∧ t = { s with boxes := t.boxes, trust := t.trust, cellar := t.cellar }) ∧
      (∀ r, s.relays = false → s.sessionOf (nAt i.update 4 2) = some x →
        bytesAt i.update 0x20 16 = kmacTag x.updKey (i.update.take 0x20) csPnt →
        (x.recent.find? fun r => r.seq == nAt i.update 8 8 && r.tag == bytesAt i.update 0x20 16) = some r →
        ∃ t, exec (.pointUpdate k engine true) s = .next t ∧ State.receiptGoes s t i r.receipt
          ∧ t = { s with boxes := t.boxes, trust := { s.trust with pointQ := s.trust.pointQ.eraseIdx k,
                                                                   pointCmds := t.trust.pointCmds } }) ∧
      (∃ t, exec (.pointUpdate k engine false) s = .next t ∧ s.logs t 0x407 62
          ∧ (t.cellar.ss4 = false → t.trust.points = s.trust.points ∧ t.trust.sessions = s.trust.sessions)))

/-- The sweep, once a second, marks a point expired once its value is older than its MAX_AGE, and changes nothing else of any
point but the CHECK that covers the mark; it counts the points that are expired or invalid (R224). It runs while Cellar does.
A point whose CHECK fails is swept too, and goes on failing (DESIGN CHOICE, log entry 105). The rewrite that a package's live points
are moved by ends, and their regions are drawn and their updates judged again (R227). -/
def Clause.PointsExpire : Prop :=
  ∀ s : State,
    (s.cellar.ctlRuns = false → exec .pointSweep s = .next s) ∧
    (s.cellar.ctlRuns = true →
      ∃ t, exec .pointSweep s = .next t
        ∧ t.clk = max s.clk (25 * (s.trust.sweepUs + 1000000))
        ∧ t = { s with clk := t.clk, trust := { s.trust with points := t.trust.points, stalePts := t.trust.stalePts,
                                                             sweepUs := t.us } }
        ∧ (∀ n, tfind s.trust.points n = none → tfind t.trust.points n = none)
        ∧ (∀ n q, tfind s.trust.points n = some q → ∃ q', tfind t.trust.points n = some q'
            ∧ q' = { q with expired := q'.expired, check := q'.check }
            ∧ (q'.expired = true ↔ q.expired = true ∨ (q.received = true
                ∧ 1000 * q.maxAge < counted ((t.us % 2 ^ 32 + 2 ^ 32 - q.birth) % 2 ^ 32)))
            ∧ (q'.expired = q.expired → q' = q)
            ∧ (q'.expired ≠ q.expired → q'.check = if q.checkOk = true then q'.crc else q.check))
        ∧ t.trust.stalePts = (t.trust.points.filter fun e => e.2.expired || e.2.srcInv).length) ∧
    exec .pointTableRewriteDone s = .next
      { s with trust := { s.trust with rewriting := false, rewrRegs := [], rewrPts := [] } }

/-- Point updates are queued and judged; points expire: `Clause.PointUpdatesAreJudged`, `Clause.PointsExpire`, together.
Rows concluded here to answer a next state: submitPoints, pointUpdate, pointSweep, pointTableRewriteDone. -/
def Obligations.PointUpdatesAreJudged : Prop :=
  Clause.PointUpdatesAreJudged ∧ Clause.PointsExpire

/-! ### Sessions -/

/-- OPEN_SESSION takes its place in the queue at its fetch, before anything is judged, while fewer than 4096 wait; else it
completes with BUSY_RETRY after an eighth of their number in milliseconds (R654, R655). CLOSE_SESSION waits for the updates
of its session before it (R502), then closes the session: its receipt has the session's own key (R538). ATTEST answers with
the measurements, signed by the device key; a controller without identity answers NOT_READY (R532, R545). Keys and
signatures are opaque (log entry 3).
Rows concluded here to answer a next state: openSession, closeSession, attest. -/
def Obligations.SessionCommands : Prop :=
  ∀ (f : Nat) (e : SqEntry) (s : State),
    (s.fetches f = some e → e.raw.length = 64 → nAt e.raw 0 2 = 0x500 → s.journalRoom = true → ({ f := f, e := e } : Cmd).check3 = false →
      (s.trust.admitQ.length < 4096 →
        ∃ t, exec (.openSession f) s = .next t
          ∧ t = { s with boxes := t.boxes,
                         trust := { s.trust with
                           admitQ := s.trust.admitQ ++ [{ func := f, entry := e }],
                           pointQ := s.trust.pointQ ++ [{ func := f, ord := 0, slot := 0,
                                                          update := bytesAt (payloadOf e) 0 48, openS := true }] } }) ∧
      (4096 ≤ s.trust.admitQ.length →
        ∃ t, exec (.openSession f) s = .next t
          ∧ t = { s with boxes := t.boxes, trust := { s.trust with admitBusy := min 0xFFFF (s.trust.admitBusy + 1) } }
          ∧ (s.box f).gained (t.box f) e stBusyRetry ((s.trust.admitQ.length + 7) / 8) [])) ∧
    (s.fetches f = some e → (∃ i ∈ s.trust.pointQ, i.session = nAt (payloadOf e) 0 2) →
      exec (.closeSession f) s = .next s) ∧
    (∀ x, s.hostRuns f closeCard e → (∀ i ∈ s.trust.pointQ, i.session ≠ nAt (payloadOf e) 0 2) →
      s.sessionOf (nAt (payloadOf e) 0 2) = some x →
      ∃ t, exec (.closeSession f) s = .next t ∧ t.sessionOf (nAt (payloadOf e) 0 2) = none
        ∧ (∀ n, n ≠ nAt (payloadOf e) 0 2 → t.sessionOf n = s.sessionOf n)
        ∧ (s.box f).gained (t.box f) e stOk 0
            (receiptOf (some x.rcpKey) (nAt (payloadOf e) 0 2) 3 (nAt (payloadOf e) 8 8) s.us)
        ∧ t = { s with boxes := t.boxes, trust := { s.trust with sessions := t.trust.sessions }, cellar := t.cellar }) ∧
    (s.hostRuns f attestCard e →
      (s.trust.lifecycle ≠ 3 → s.trust.identity = true → ∃ t, exec (.attest f) s = .next t ∧ s.answers t f e
        (s.attestBody ((payloadOf e).take 32)
          ++ fitTo 1280 (Config.falconSign s.identityKeys (signedMsg domAttest (s.attestBody ((payloadOf e).take 32)))))) ∧
      (s.trust.lifecycle = 3 ∨ s.trust.identity = false → ∃ t, exec (.attest f) s = .next t ∧ s.sameButBoxes t
        ∧ (s.box f).gained (t.box f) e stNotReady 0 []))

/-- Admission begins 20 ms after the owner package became live (R653). Then the functions are served in turn, each one's
oldest OPEN_SESSION first (R654): one that its source's key authenticates opens its session, in place of one of the same
number, with keys from the shared secret and no update accepted yet, and completes with a receipt (R535 to R537); another
completes as every command outside its rights does (R478). The next is served 125 µs later (R654).
Rows concluded here to answer a next state: admissionStart, sessionAdmission. -/
def Obligations.SessionsAreAdmitted : Prop :=
  ∀ s : State,
    (∀ u, s.trust.liveUs = some u → s.power.admitOn = false →
      exec .admissionStart s
        = .next { s with clk := max s.clk (25 * (u + 20000)), power := { s.power with admitOn := true } }) ∧
    (s.trust.liveUs = none ∨ s.power.admitOn = true → exec .admissionStart s = .next s) ∧
    (s.power.admitOn = false ∨ s.trust.admitQ = [] → exec .sessionAdmission s = .next s) ∧
    (∀ (f : Nat) (a : Admit) (p : List Byte), s.power.admitOn = true → s.nextAdmit = some f → f < s.boxes.length →
      (s.trust.admitQ.find? fun a => a.func == f) = some a → a.entry.raw.length = 64 → p = payloadOf a.entry → s.relays = false →
      ({ f := f, e := a.entry } : Cmd).check3 = false → (s.box f).cqEn = true → (s.box f).cqSize ≠ 0 →
      (s.openOk { f := f, e := a.entry } = true → openCard.check5 { f := f, e := a.entry } = false →
        openCard.check6 { f := f, e := a.entry } = false → s.replayHit { f := f, e := a.entry } = false →
        nAt p 0 2 < 16384 →
        ∃ t x, exec .sessionAdmission s = .next t ∧ t.sessionOf (nAt p 0 2) = some x
          ∧ x.srcKey = nAt p 1576 2 ∧ x.opened = t.us ∧ x.highSeq = 0 ∧ x.recent = []
          ∧ x.updKey = kmac256 (Config.mlkemDecap s.identityKeys (bytesAt p 8 1568))
              (sessionString (nAt p 0 2) (nAt p 1580 4) s.trust.bootId t.us) csUpd 32
          ∧ x.rcpKey = kmac256 (Config.mlkemDecap s.identityKeys (bytesAt p 8 1568))
              (sessionString (nAt p 0 2) (nAt p 1580 4) s.trust.bootId t.us) csKdfRcp 32
          ∧ (∀ n, n ≠ nAt p 0 2 → t.sessionOf n = s.sessionOf n)
          ∧ t.lastOpen (nAt p 1576 2) = nAt p 1580 4 ∧ t.trust.admitFn = f
          ∧ (s.box f).gained (t.box f) a.entry stOk 0 (receiptOf (some x.rcpKey) (nAt p 0 2) 3 0 t.us)
          ∧ t.clk = max s.clk (25 * s.trust.admitUs) ∧ t.trust.admitUs = t.us + 125
          ∧ t = { s with clk := t.clk, boxes := t.boxes, trust := t.trust, cellar := t.cellar }) ∧
      (s.openOk { f := f, e := a.entry } = false →
        ∃ t, exec .sessionAdmission s = .next t ∧ t.trust.sessions = s.trust.sessions ∧ t.trust.admitFn = f
          ∧ t.trust.admitQ = dropFirst (fun a => a.func == f) s.trust.admitQ ∧ t.clk = max s.clk (25 * s.trust.admitUs)
          ∧ t.cellar = (({ s with clk := t.clk } : State).violate 1).cellar
          ∧ (s.box f).gained (t.box f) a.entry stOk 0
              (zeros (if nAt a.entry.raw 0x14 4 = 0 then 16 else min (nAt a.entry.raw 0x14 4) 40))
          ∧ t = { s with clk := t.clk, boxes := t.boxes, trust := t.trust, cellar := t.cellar }))

/-! ### The owner's commands -/

/-- The owner's commands act under a trailer whose COUNTER Threshold stores (R525, R526). INSTALL_PACKAGE accepts a package
that stands every test of R529 with a VERSION above every one stored, makes it pending and stores it under a seal (R513); a first claim makes
the device OWNED (R522, R530); while one is pending it answers BUSY_RETRY (R531). SET_LIFECYCLE leaves OWNED: the key, the package and every session are gone (R523).
UPDATE_FIRMWARE stores an image that passes R517, and refuses another with BAD_FIELD. READ_VIOLATIONS answers with the
counters (R508); GET_CAL answers a maintainer as it does a host. Whether a signature verifies is opaque (log entry 3).
Rows concluded here to answer a next state: getCal, installPackage, setLifecycle, readViolations, updateFirmware. -/
def Obligations.OwnerCommands : Prop :=
  ∀ (f : Nat) (e : SqEntry) (s u : State) (b : List Byte),
    (∀ p, s.runs f installCard e (fun s c => some (s.readPackage (installCard.bodyOf c)).ownerKey) →
      u = (s.pop f).storeCounter installCard { f := f, e := e } → b = installCard.bodyOf { f := f, e := e } →
      p = u.readPackage b → u.trust.pending = none → u.pkgGood b p = true → (∀ v ∈ u.pkgVersions, v < p.version) →
      ∃ t due, exec (.installPackage f) s = .next t ∧ t.trust.pending = some p ∧ t.trust.pendDue = due
        ∧ due = u.pkgDue (nAt (installCard.trailerOf { f := f, e := e }) 8 8 == 0)
        ∧ t.trust.lifecycle = (if p.claim = true then 2 else s.trust.lifecycle)
        ∧ t.trust.ownerKey = (match p.nextKey with
            | some k => some k
            | none => if p.claim = true then some p.ownerKey else s.trust.ownerKey)
        ∧ t.mram.pkg = s.mram.pkg.writeSealed s.trust.serial 0x50 Package.payload s.us p
        ∧ (s.box f).gained (t.box f) e stDeferred 0 (leBytes 4 p.version ++ leBytes 4 due)
        ∧ t = { s with boxes := t.boxes, trust := { u.trust with pending := t.trust.pending, pendDue := due,
                                                                 ownerKey := t.trust.ownerKey,
                                                                 lifecycle := t.trust.lifecycle, undefine := false },
                       mram := { s.mram with owner := t.mram.owner, pkg := t.mram.pkg } }) ∧
    (s.runs f installCard e (fun s c => some (s.readPackage (installCard.bodyOf c)).ownerKey) →
      u = (s.pop f).storeCounter installCard { f := f, e := e } → u.trust.pending.isSome = true →
      ∃ t, exec (.installPackage f) s = .next t ∧ (s.box f).gained (t.box f) e stBusyRetry u.pkgRetry []
        ∧ t = { s with boxes := t.boxes, free := t.free }) ∧
    (s.hostRuns f setLifecycleCard e → s.trust.lifecycle = 2 → nAt (payloadOf e) 0 1 = 1 ∨ nAt (payloadOf e) 0 1 = 3 →
      ∃ t, exec (.setLifecycle f) s = .next t ∧ t.trust.lifecycle = nAt (payloadOf e) 0 1 ∧ t.trust.ownerKey = none
        ∧ t.trust.sessions = [] ∧ t.trust.pending = none ∧ t.mram.pkg = .blank
        ∧ t.trust.identity = (s.trust.identity && nAt (payloadOf e) 0 1 != 3)
        ∧ (s.box f).gained (t.box f) e stOk 0 []
        ∧ t = { s with boxes := t.boxes, trust := t.trust, mram := { s.mram with owner := t.mram.owner, pkg := .blank },
                       cellar := t.cellar }) ∧
    (∀ w, s.hostRuns f firmwareCard e → u = (s.pop f).storeCounter firmwareCard { f := f, e := e } →
      w = u.readFw (firmwareCard.bodyOf { f := f, e := e }) →
      (u.fwPasses w = true →
        ∃ t, exec (.updateFirmware f) s = .next t ∧ t.mram.fw = s.mram.fw.writeSealed s.trust.serial 0x41 FwImage.payload s.us w ∧ u.sameButBoxes { t with mram := u.mram }
          ∧ t.mram = { u.mram with fw := t.mram.fw } ∧ (s.box f).gained (t.box f) e stOk 0 []) ∧
      (u.fwPasses w = false →
        ∃ t, exec (.updateFirmware f) s = .next t ∧ s.sameButBoxes t ∧ (s.box f).gained (t.box f) e stBadField 0 [])) ∧
    (s.hostRuns f readViolationsCard e → u = (s.pop f).storeCounter readViolationsCard { f := f, e := e } →
      ∃ t, exec (.readViolations f) s = .next t ∧ u.sameButBoxes t ∧ (s.box f).gained (t.box f) e stOk 0
        (((List.range 6).flatMap fun k => leBytes 4 (s.cellar.viol.getD k 0)) ++ leBytes 8 s.cellar.violTotal)) ∧
    (∀ o, s.hostRuns f getCalCard e → getCalCard.hasTrailer { f := f, e := e } = true → outOf (nAt (payloadOf e) 0 1) = o →
      s.noOutB o = false → u = (s.pop f).storeCounter getCalCard { f := f, e := e } →
      ∃ t, exec (.getCal f) s = .next t ∧ u.sameButBoxes t ∧ (s.box f).gained (t.box f) e stOk 0
        (leBytes 1 s.optState ++ leBytes 1 s.calib.curSlot ++ leBytes 1 (s.liveSource o) ++ zeros 1
          ++ leBytes 2 s.calib.measured.length ++ leBytes 2 s.calib.passes ++ leBytes 2 s.calib.abandoned
          ++ leBytes 2 (s.rampOf (s.eff o)).pos ++ leBytes 2 s.transom.vcomOpt))

/-! ### The Transom -/

/-- TRANSOM_UPDATE on a used zone, with an image in the function's pool, ends the zone's request that is still pending as
SUPERSEDED and begins its load; the command completes with the load (R341, R342, R504). Its refusals: BAD_FIELD for a zone
that is not used or an image out of line, NOT_READY while TR_EN is 0, and for an image outside the pool a violation with no
effect (R493). A finished load puts the image into plane P, sets the request pending and completes the command with
OK_DEFERRED; a request whose zone has changed, or that a later load replaces, is dropped (R342, R346). While module memory
grants no read the load waits (R441). -/
def Clause.TransomRequestsLoad : Prop :=
  ∀ (f z : Nat) (e : SqEntry) (r : TrReq) (s : State), z = nAt (payloadOf e) 0 1 →
    (s.hostRuns f transomCard e →
      (z < 16 → (s.zoneAt z).2.2.1 ≠ 0 → nAt (payloadOf e) 8 8 % 64 = 0 →
        s.inPool f (nAt (payloadOf e) 8 8) ((s.zoneAt z).2.2.2 * ((s.zoneAt z).2.2.1 / 4)) = true →
        (s.blink z = true → nAt (payloadOf e) 1 1 ≠ 0 ∧ nAt (payloadOf e) 0x10 8 % 64 = 0
          ∧ s.inPool f (nAt (payloadOf e) 0x10 8) ((s.zoneAt z).2.2.2 * ((s.zoneAt z).2.2.1 / 4)) = true) →
        (s.trEn = true →
          ∃ t q, exec (.transomUpdate f) s = .next t
            ∧ t = { s with boxes := t.boxes,
                           transom := { s.transom with loading := s.transom.loading ++ [q],
                                                       pending := s.transom.pending.filter fun r => r.zone ≠ z } }
            ∧ q.zone = z ∧ q.issuer = f ∧ q.tag = nAt (payloadOf e) 4 4 ∧ q.cmdId = nAt e.raw 4 4
            ∧ q.image = nAt (payloadOf e) 8 8 ∧ q.rect = s.zoneAt z
            ∧ q.alt = (if s.blink z = true then some (nAt (payloadOf e) 0x10 8) else none)) ∧
        (s.trEn = false →
          ∃ t, exec (.transomUpdate f) s = .next t ∧ s.sameButBoxes t ∧ (s.box f).gained (t.box f) e stNotReady 0 [])) ∧
      (16 ≤ z ∨ (s.zoneAt z).2.2.1 = 0 ∨ nAt (payloadOf e) 8 8 % 64 ≠ 0 →
        ∃ t, exec (.transomUpdate f) s = .next t ∧ s.sameButBoxes t ∧ (s.box f).gained (t.box f) e stBadField 0 []) ∧
      (z < 16 → (s.zoneAt z).2.2.1 ≠ 0 → nAt (payloadOf e) 8 8 % 64 = 0 → s.blink z = false →
        s.inPool f (nAt (payloadOf e) 8 8) ((s.zoneAt z).2.2.2 * ((s.zoneAt z).2.2.1 / 4)) = false →
        ∃ t, exec (.transomUpdate f) s = .next t ∧ (s.violate 3).sameButBoxes t)) ∧
    ((s.transom.loading.find? fun q => q.zone == z) = none ∨ s.dram.st ≠ 2 → exec (.transomLoadDone z) s = .next s) ∧
    ((s.transom.loading.find? fun q => q.zone == z) = some r → s.dram.st = 2 → r.cmdId < 0x100000000 → r.issuer < s.boxes.length →
      (s.box r.issuer).cqEn = true → (s.box r.issuer).cqSize ≠ 0 →
      ∃ t, exec (.transomLoadDone z) s = .next t ∧ t = { s with boxes := t.boxes, transom := t.transom }
        ∧ (∃ c ∈ (t.box r.issuer).cq, c.cmdId = r.cmdId ∧ c.status = stDeferred)
        ∧ t.transom.loading = s.transom.loading.eraseP (fun q => q.zone == z)
        ∧ (r.rect ≠ s.zoneAt z ∨ t.transom.loading.any (fun q => q.zone == z) = true →
            t.transom.pending = s.transom.pending ∧ t.transom.planeP = s.transom.planeP)
        ∧ (r.rect = s.zoneAt z → t.transom.loading.any (fun q => q.zone == z) = false →
            t.transom.pending = s.transom.pending ++ [r]
            ∧ ∀ i j, i < r.rect.2.2.1 → j < r.rect.2.2.2 → r.rect.1 + r.rect.2.2.1 ≤ 2560 →
                tget 0 t.transom.planeP (pixKey (r.rect.1 + i) (r.rect.2.1 + j))
                  = imagePix (fun k => memGet s.dram.mem (r.image + k)) r.rect.2.2.1 i j))

/-- A toggle of a blinking zone falls due, and requests the rails (R347). A reading of TR_NTC between -40 °C and +100 °C
sets TEMP and the reading that gives the waveform range and, when TEMP has moved by 10 °C since the last one, requests a VCOM calibration; another
reading is fault 0x0802 and the last good one stands (R338, R339, R390). VCOM_PERIOD_H hours after a calibration the next is
requested (R390). How TEMP is rounded is free. -/
def Clause.TransomRequestsFallDue : Prop :=
  ∀ (z ohms : Nat) (s : State),
    (∀ at_, (s.transom.toggleAt.find? fun e => e.1 == z) = some (z, at_) →
      (s.transom.powerLoss = false → s.trEn = true → s.blink z = true →
        ∃ t, exec (.blinkToggle z) s = .next t ∧ t = { s with clk := max s.clk at_, transom := t.transom }
          ∧ bitOf t.transom.toggleDue z = true ∧ t.transom.toggleAt = s.transom.toggleAt.filter (fun e => e.1 ≠ z)
          ∧ (s.transom.rails = [] → s.transom.falling = none → t.transom.ramping.isSome = true)
          ∧ t.transom.pending = s.transom.pending ∧ t.transom.running = s.transom.running) ∧
      (s.transom.powerLoss = true ∨ s.trEn = false ∨ s.blink z = false → exec (.blinkToggle z) s = .next s)) ∧
    ((s.transom.toggleAt.find? fun e => e.1 == z) = none → exec (.blinkToggle z) s = .next s) ∧
    (s.cellar.ctlRuns = false → exec (.ntcMeasure ohms) s = .next s) ∧
    (s.cellar.ctlRuns = true → ntcTemp ohms = none → s.handling = false →
      ∃ t, exec (.ntcMeasure ohms) s = .next t ∧ s.sameButHandling t ∧ t.transom.ntcFault = true
        ∧ t.transom.reading = s.transom.reading ∧ t.transom.temp = s.transom.temp
        ∧ ((∀ l ∈ s.cellar.log, ¬ (l.code = 0x802 ∧ l.island = 61 ∧ s.us < l.time + 1000000)) → s.logs t 0x802 61)) ∧
    (∀ d, s.cellar.ctlRuns = true → ntcTemp ohms = some d →
      ∃ t, exec (.ntcMeasure ohms) s = .next t ∧ t = { s with free := t.free, transom := t.transom }
        ∧ t.transom.ntcFault = false ∧ t.transom.reading = some d ∧ t.useRange = s.trRange d
        ∧ (t.transom.temp = d ∨ t.transom.temp = d + 1)
        ∧ t.transom.vcomReq = (s.transom.vcomReq || (s.vcomEn && s.transom.vcomAt.isSome && s.transom.vcomLeft == 0
                                && decide (10 ≤ (t.transom.temp - s.transom.vcomTemp).natAbs)))) ∧
    (∀ u, s.transom.vcomAt = some u → s.vcomEn = true → s.transom.vcomLeft = 0 → s.transom.vcomReq = false →
      s.transom.powerLoss = false →
      exec .vcomCalDue s = .next { s with
        clk := max s.clk (25 * (u + fld (s.lv .cal .A 0x108) 0 8 * 3600000000)),
        transom := { s.transom with vcomReq := true } }) ∧
    (s.transom.vcomAt = none ∨ s.vcomEn = false ∨ s.transom.vcomLeft ≠ 0 ∨ s.transom.vcomReq = true
        ∨ s.transom.powerLoss = true → exec .vcomCalDue s = .next s)

/-- Transom requests load, replace and fall due: `Clause.TransomRequestsLoad`, `Clause.TransomRequestsFallDue`, together.
Rows concluded here to answer a next state: transomUpdate, transomLoadDone, blinkToggle, vcomCalDue, ntcMeasure. -/
def Obligations.TransomRequests : Prop :=
  Clause.TransomRequestsLoad ∧ Clause.TransomRequestsFallDue

/-- A waveform frame that ends drives each pixel of a running update by its next code, which its ledger entry counts
(R344, R349), line by line over the bus (R328, R329); a pixel of none keeps its ledger, and where nothing waits to start its
level, and one whose sequence ends shows its target. At a boundary
with no frame in progress, every zone that is ready and not held starts: its pending request's image becomes plane T, or
its toggle is taken (R343, R347). Without VAUX, and with nothing to start, nothing happens.
Rows concluded here to answer a next state: waveformFrame. -/
def Obligations.WaveformFramesDrive : Prop :=
  ∀ s : State,
    (s.power.vauxValid = false → s.transom.powerLoss = false → exec .waveformFrame s = .next s) ∧
    (s.power.vauxValid = true ∨ s.transom.powerLoss = true → s.transom.inFrame = true →
      ∃ t, exec .waveformFrame s = .next t ∧ t.clk = max s.clk (s.transom.frameAt + 294118)
        ∧ t = { s with clk := t.clk, free := t.free, boxes := t.boxes, commits := t.commits, landings := t.landings,
                       mram := t.mram, transom := t.transom }
        ∧ (s.trEn = true → t.transom.bus = s.gateScan fun _ => true)
        ∧ ∀ quiet, quiet = (s.transom.pending.isEmpty && s.transom.toggleDue == 0 && s.transom.clears == 0
              && !s.transom.msgDue && !s.transom.uncertain && s.transom.running.all fun u => !u.aborted) → ∀ p,
            (((s.transom.running.flatMap (·.seqs)).filter fun q => q.pix == p) = [] →
              tget 0 t.transom.ledger p = tget 0 s.transom.ledger p
              ∧ (quiet = true → tget 0 t.transom.planeD p = tget 0 s.transom.planeD p))
            ∧ ∀ q c cs, ((s.transom.running.flatMap (·.seqs)).filter fun q => q.pix == p) = [q] → q.codes = c :: cs →
              tget 0 t.transom.ledger p = max (-32768) (min 32767
                (tget 0 s.transom.ledger p + if c = 1 then 1 else if c = 2 then -1 else 0))
              ∧ (quiet = true →
                  tget 0 t.transom.planeD p = if cs = [] then q.target else tget 0 s.transom.planeD p)) ∧
    (s.power.vauxValid = true → s.transom.powerLoss = false → s.transom.inFrame = false → s.trEn = true →
      s.transom.good = true → s.transom.uncertain = false → s.transom.msgDue = false → s.transom.vcomReq = false →
      s.transom.clears = 0 → s.transom.hold = false → s.pendsOf .trm 0 = [] →
      ∃ t, exec .waveformFrame s = .next t
        ∧ t = { s with clk := t.clk, boxes := t.boxes, mram := t.mram, transom := t.transom }
        ∧ (∀ z, z < 16 → s.transom.zoneReady z = true →
            (∀ r ∈ t.transom.pending, r.zone ≠ z) ∧ bitOf t.transom.toggleDue z = false
            ∧ ((∃ r ∈ s.transom.pending, r.zone = z) → ∀ p ∈ rectPix (s.zoneAt z),
                tget 0 t.transom.planeT p = tget 0 s.transom.planeP p))
        ∧ t.transom.ledger = s.transom.ledger
        ∧ ∀ p, (∀ z, z < 16 → s.transom.zoneReady z = true → p ∉ rectPix (s.zoneAt z)) →
            tget 0 t.transom.planeD p = tget 0 s.transom.planeD p)

/-- The rails come up in their order, each 0.5 ms after the one before is good (R332), and go down in the reverse order
100 ms after the last frame (R333). A rail not good in time, or out of its band, is fault 0x0801: running updates end
ABORTED and the rails go down (R334). In the power-loss procedure the ledger's record is written, and when the last rail is
off Cellar enters SS4 (R355, R356, R620).
Rows concluded here to answer a next state: railGood, railEnableTimeout, railOutOfBand, railsIdleTimeout,
ledgerFlushDone, railOff. -/
def Obligations.RailsRiseAndFall : Prop :=
  ∀ (r : Rail) (s : State),
    (s.transom.ramping = some r →
      ∃ t, exec (.railGood r) s = .next t ∧ t = { s with clk := max s.clk s.transom.rampAt, transom := t.transom }
        ∧ t.transom.rails = s.transom.rails ++ [r] ∧ t.transom.ramping = railNext r
        ∧ (r ≠ .vcom → t.transom.rampAt = t.clk + 12500) ∧ t.transom.running = s.transom.running
        ∧ t.transom.vcomReq = (s.transom.vcomReq || (r == .vcom && !s.transom.railsSeen && s.vcomEn))) ∧
    (s.transom.ramping ≠ some r → exec (.railGood r) s = .next s ∧ exec (.railEnableTimeout r) s = .next s) ∧
    (s.transom.ramping = some r → s.transom.falling = none →
      ∃ t, exec (.railEnableTimeout r) s = .next t
        ∧ ({ s with clk := t.clk } : State).logs t 0x801 61
        ∧ t.clk = max s.clk (s.transom.rampAt + 50000) ∧ t.transom.running = [] ∧ t.transom.ramping = none
        ∧ t.transom.falling = some r ∧ t.transom.railFaults = min 65535 (s.transom.railFaults + 1)
        ∧ ({ s with clk := t.clk, free := t.free } : State).sameButHandling t) ∧
    (r ∈ s.transom.rails →
      ∃ t, exec (.railOutOfBand r) s = .next t ∧ s.logs t 0x801 61 ∧ t.transom.running = []
        ∧ t.transom.ramping = none ∧ t.transom.falling.isSome = true
        ∧ t.transom.railFaults = min 65535 (s.transom.railFaults + 1)
        ∧ ({ s with free := t.free } : State).sameButHandling t) ∧
    (r ∉ s.transom.rails → exec (.railOutOfBand r) s = .next s) ∧
    (s.transom.good = true → s.transom.falling = none → s.transom.inFrame = false → s.transom.powerLoss = false →
      s.trEn = false ∨ (s.transom.wants = false ∧ s.transom.uncertain = false ∧ s.transom.clears = 0
        ∧ s.transom.vcomReq = false) →
      exec .railsIdleTimeout s = .next { s with
        clk := max s.clk (max s.transom.frameAt (s.transom.rampAt + 12500) + 2500000), transom := s.transom.down }) ∧
    (s.transom.good = false ∨ s.transom.falling ≠ none ∨ s.transom.inFrame = true ∨ s.transom.powerLoss = true →
      exec .railsIdleTimeout s = .next s) ∧
    (s.transom.falling ≠ some r → exec (.railOff r) s = .next s) ∧
    (s.transom.falling = some r →
      (s.transom.powerLoss = false ∨ s.transom.rails ≠ [] →
        ∃ t, exec (.railOff r) s = .next t ∧ t = { s with transom := t.transom }
          ∧ t.transom.rails = s.transom.rails.dropLast ∧ t.transom.falling = s.transom.rails.getLast?) ∧
      (s.transom.powerLoss = true → s.transom.rails = [] → s.transom.ramping = none → s.transom.running = [] →
        s.transom.flushing = none → s.transom.restoreWait = false → s.cellar.ss4 = false →
        ∃ t, exec (.railOff r) s = .next t ∧ s.entersSs4 t)) ∧
    (s.transom.flushing = none → exec .ledgerFlushDone s = .next s) ∧
    (∀ at_, s.transom.flushing = some at_ → s.transom.rails ≠ [] ∨ s.transom.falling ≠ none →
      exec .ledgerFlushDone s = .next { s with
        transom := { s.transom with flushing := none },
        mram := { s.mram with ledger := (s.mram.ledger.write at_
                    ⟨s.transom.planeD, s.transom.ledger, s.trGeom.1, s.trGeom.2, s.transom.abortedZ⟩) } }) ∧
    (∀ at_, s.transom.flushing = some at_ → s.transom.rails = [] → s.transom.falling = none → s.transom.ramping = none →
      s.transom.running = [] → s.transom.powerLoss = true → s.transom.restoreWait = false → s.cellar.ss4 = false →
      ∃ t, exec .ledgerFlushDone s = .next t ∧ s.entersSs4 t)

/-! ### Cameras -/

/-- An FS on the port's virtual channel takes the next sensor frame number; where CAM_EN is 1 it opens a frame, which waits
for its pipeline or is taken at once, where the pipeline's island takes work (R24); a frame still open is truncated (R365, R367, R369, R375, R377). On another channel the
packet is counted and ignored (R364). -/
def Clause.CameraFramesStart : Prop :=
  ∀ (port vc n : Nat) (s : State),
    (s.camsOn = false ∨ 4 ≤ port → exec (.camFrameStart port vc) s = .next s) ∧
    (s.camsOn = true → port < 4 → port < s.cams.length → n = w32 ((s.cam port).sensor + 1) →
      (vc ≠ fld (s.cw port 0) 7 2 →
        exec (.camFrameStart port vc) s = .next (s.modCam port fun c => { c with ignored := min 65535 (c.ignored + 1) })) ∧
      (vc = fld (s.cw port 0) 7 2 →
        (∃ t, exec (.camFrameStart port vc) s = .next t ∧ (t.cam port).sensor = n
          ∧ ({ s with cams := t.cams, pipes := t.pipes, commits := t.commits } : State).sameButHandling t) ∧
        ((s.cam port).open_ = none → (s.pendsOf .cam port).filter (camDue n) = [] →
          ((s.cam port).linked.filter fun l => !ahead l.frame n) = [] →
          (bitOf (s.cw port 0) 0 = false →
            ∃ t, exec (.camFrameStart port vc) s = .next t ∧ t = { s with cams := t.cams }
              ∧ (t.cam port).early = min 65535 ((s.cam port).early + 1) ∧ (t.cam port).open_ = none) ∧
          (bitOf (s.cw port 0) 0 = true → s.pipes.length = 2 →
            (∀ p q, p < 4 → q ∈ (s.cam p).waiting → ¬ (q.port = port ∧ q.frame = n)) →
            ∃ t k, exec (.camFrameStart port vc) s = .next t ∧ t = { s with cams := t.cams, pipes := t.pipes }
              ∧ (k ∈ (t.cam port).waiting ∨ some k ∈ t.pipes) ∧ (t.cam port).open_ = some n ∧ k.port = port ∧ k.frame = n
              ∧ k.startClk = s.clk ∧ k.cfg = (s.cam port).live ∧ k.expTag = (s.cam port).expTag
              ∧ k.gain = (s.cam port).gain ∧ k.lines = [] ∧ k.ended = false ∧ k.cause = 0))))

/-- A line of the open frame joins it: in its pipeline, in the port FIFO while it fits, and beyond that in the frame's place
in the spill store where SPILL_EN is 1; no other byte of module memory changes (R363, R375, R376). A header error, a
checksum error, a line of the wrong length, and a FIFO overflow without spill drop the remainder with causes 4, 3, 6 and 1
(R377). A packet of another channel or type is ignored (R364), and a line without an open frame has no effect. -/
def Clause.CameraLinesAreTaken : Prop :=
  ∀ (port n dt used room : Nat) (pkt : CamPacket) (k : CamFrame) (inPipe : Bool) (s : State),
    (s.camsOn = false ∨ 4 ≤ port → exec (.camLongPacket port pkt) s = .next s) ∧
    (s.camsOn = true → port < 4 → port < s.cams.length →
      (pkt.eccBad = true → (s.cam port).open_ = none → exec (.camLongPacket port pkt) s = .next s) ∧
      (pkt.eccBad = true → (s.cam port).open_ = some n →
        ∃ t, exec (.camLongPacket port pkt) s = .next t ∧ s.truncates t port 4) ∧
      (pkt.eccBad = false → pkt.vc ≠ fld (s.cw port 0) 7 2 →
        exec (.camLongPacket port pkt) s = .next (s.modCam port fun c => { c with ignored := min 65535 (c.ignored + 1) })) ∧
      (pkt.eccBad = false → pkt.vc = fld (s.cw port 0) 7 2 → (s.cam port).open_ = none →
        (pkt.dt = dataType (fld (s.cw port 0) 4 3) → exec (.camLongPacket port pkt) s = .next s)
        ∧ (pkt.dt ≠ dataType (fld (s.cw port 0) 4 3) →
            exec (.camLongPacket port pkt) s = .next (s.modCam port fun c => { c with ignored := min 65535 (c.ignored + 1) }))) ∧
      (pkt.eccBad = false → pkt.vc = fld (s.cw port 0) 7 2 → (s.cam port).open_ = some n →
        s.findFrame port n = some (k, inPipe) → k.port = port → k.frame = n → dt = fld (s.cfgWord k 0) 4 3 →
        (pkt.dt ≠ dataType dt →
          exec (.camLongPacket port pkt) s = .next (s.modCam port fun c => { c with ignored := min 65535 (c.ignored + 1) })) ∧
        (pkt.dt = dataType dt → pkt.crcBad = true →
          ∃ t, exec (.camLongPacket port pkt) s = .next t ∧ s.truncates t port 3) ∧
        (pkt.dt = dataType dt → pkt.crcBad = false →
          pkt.payload.length ≠ cdiv (fld (s.cfgWord k 4) 0 13 * pixelBits dt) 8 →
          ∃ t, exec (.camLongPacket port pkt) s = .next t ∧ s.truncates t port 6) ∧
        (pkt.dt = dataType dt → pkt.crcBad = false →
          pkt.payload.length = cdiv (fld (s.cfgWord k 4) 0 13 * pixelBits dt) 8 →
          used = ((s.cam port).waiting.map (·.fifo)).sum → room = (if k.spilled ≠ 0 then 0 else 262144 - used) →
          (k.spilled = 0 → inPipe = true →
            ∃ t, exec (.camLongPacket port pkt) s = .next t ∧ t = { s with cams := t.cams, pipes := t.pipes }
              ∧ t.findFrame port n = some ({ k with lines := k.lines ++ [pkt.payload] }, true)) ∧
          (k.spilled = 0 → inPipe = false → pkt.payload.length ≤ room →
            ∃ t, exec (.camLongPacket port pkt) s = .next t ∧ t = { s with cams := t.cams, pipes := t.pipes }
              ∧ t.findFrame port n
                  = some ({ k with lines := k.lines ++ [pkt.payload], fifo := k.fifo + pkt.payload.length }, false)) ∧
          (k.spilled = 0 → inPipe = false → room < pkt.payload.length → bitOf (s.cfgWord k 0) 9 = false →
            ∃ t, exec (.camLongPacket port pkt) s = .next t ∧ s.truncates t port 1) ∧
          (k.spilled ≠ 0 ∨ (inPipe = false ∧ room < pkt.payload.length ∧ bitOf (s.cfgWord k 0) 9 = true
              ∧ (∀ q ∈ (s.cam port).waiting, q.spilled = 0)
              ∧ ∀ q, some q ∈ s.pipes → q.port = port → q.spilled = 0) →
            ∃ t a, exec (.camLongPacket port pkt) s = .next t
              ∧ t = { s with cams := t.cams, pipes := t.pipes, dram := t.dram }
              ∧ a = basePair (s.cfgWord k 0x14) (s.cfgWord k 0x18) + k.spilled
                  + (if k.spilled = 0 then 0 else k.place)
                    * spillSize (fld (s.cfgWord k 4) 0 13) (fld (s.cfgWord k 4) 16 13) dt
              ∧ (∀ i, i < pkt.payload.length - room →
                  memGet t.dram.mem (a + i) = pkt.payload.getD (room + i) 0)
              ∧ (∀ x, x < a ∨ a + (pkt.payload.length - room) ≤ x → memGet t.dram.mem x = memGet s.dram.mem x)
              ∧ ∃ q b, t.findFrame port n = some (q, b) ∧ q.lines = k.lines ++ [pkt.payload]
                  ∧ q.spilled = k.spilled + (pkt.payload.length - room)))))

/-- An FE ends the open frame when it has its lines; a short frame drops with cause 5, and a frame without an FE in time
with cause 7 (R377). The next instant that TRIG_PHASE and TRIG_PERIOD name in Cellar time triggers the port (R366). -/
def Clause.CameraFramesEnd : Prop :=
  ∀ (port vc n : Nat) (k : CamFrame) (inPipe : Bool) (s : State),
    (s.camsOn = false ∨ 4 ≤ port → exec (.camFrameEnd port vc) s = .next s ∧ exec (.camTrig port) s = .next s) ∧
    (s.camsOn = false → exec (.camFrameTimeout port) s = .next s) ∧
    (s.camsOn = true → port < 4 → port < s.cams.length →
      (vc ≠ fld (s.cw port 0) 7 2 →
        exec (.camFrameEnd port vc) s = .next (s.modCam port fun c => { c with ignored := min 65535 (c.ignored + 1) })) ∧
      (vc = fld (s.cw port 0) 7 2 → (s.cam port).open_ = none → exec (.camFrameEnd port vc) s = .next s) ∧
      (vc = fld (s.cw port 0) 7 2 → (s.cam port).open_ = some n → s.findFrame port n = some (k, inPipe) →
        k.port = port → k.frame = n →
        (k.lines.length = fld (s.cfgWord k 4) 16 13 →
          ∃ t, exec (.camFrameEnd port vc) s = .next t ∧ t = { s with cams := t.cams, pipes := t.pipes }
            ∧ (t.cam port).open_ = none
            ∧ t.findFrame port n = some ({ k with ended := true, endUs := s.us }, inPipe)) ∧
        (k.lines.length ≠ fld (s.cfgWord k 4) 16 13 →
          ∃ t, exec (.camFrameEnd port vc) s = .next t ∧ s.truncates t port 5)) ∧
      ((s.cam port).open_ = none → exec (.camFrameTimeout port) s = .next s) ∧
      ((s.cam port).open_ = some n → s.findFrame port n = some (k, inPipe) →
        ∃ t, exec (.camFrameTimeout port) s = .next t
          ∧ t.clk = max s.clk (k.startClk + fld (s.cfgWord k 8) 0 10 * 25000)
          ∧ ({ s with clk := t.clk } : State).truncates t port 7) ∧
      (bitOf (s.cw port 0) 14 = false ∨ fld (s.cw port 0xC) 0 20 = 0 → exec (.camTrig port) s = .next s) ∧
      (bitOf (s.cw port 0) 14 = true → fld (s.cw port 0xC) 0 20 ≠ 0 →
        ∃ t u, exec (.camTrig port) s = .next t ∧ t = { s with clk := max s.clk (25 * u), cams := t.cams }
          ∧ (t.cam port).trigAt = some u ∧ (t.cam port).trigN = (s.cam port).trigN + 1
          ∧ fld (s.cw port 0x10) 0 20 ≤ u ∧ (u - fld (s.cw port 0x10) 0 20) % fld (s.cw port 0xC) 0 20 = 0
          ∧ (∀ v, (s.cam port).trigAt = some v → v < u)
          ∧ ((s.cam port).trigAt = none → s.us ≤ u)
          ∧ ((s.cam port).trigAt = none → u = fld (s.cw port 0x10) 0 20 ∨ u < s.us + fld (s.cw port 0xC) 0 20)))

/-- Cameras take frames: FS, lines and FE, and what is ignored or truncated: `Clause.CameraFramesStart`, `Clause.CameraLinesAreTaken`, `Clause.CameraFramesEnd`, together.
Rows concluded here to answer a next state: camFrameStart, camLongPacket, camFrameEnd, camFrameTimeout, camTrig. -/
def Obligations.CamerasTakeFrames : Prop :=
  Clause.CameraFramesStart ∧ Clause.CameraLinesAreTaken ∧ Clause.CameraFramesEnd

/-- A pipeline that has finished a frame writes its statistics record to the slot of its frame number, modulo 8, at
STATS_BASE, and no other byte of module memory (R378, R380); then it takes the waiting frame whose FS came first (R367).
A frame that tracks leaves its blobs to the marker tracker (R379, R381). What the pixels become is the implementation's
(log entry 20). -/
def Clause.PipelinesFinishFrames : Prop :=
  ∀ (pipe : Nat) (k : CamFrame) (bs : List Blob) (s : State),
    (s.pipes.getD pipe none = none → exec (.pipelineFrameDone pipe) s = .next s) ∧
    (s.pipes.getD pipe none = some k →
      (s.camsOn = false ∨ s.works (55 + pipe) = false ∨ s.dram.st ≠ 2 ∨ k.ended = false →
        exec (.pipelineFrameDone pipe) s = .next s) ∧
      (s.camsOn = true → s.works (55 + pipe) = true → s.dram.st = 2 → k.ended = true → bs = (if bitOf (s.cfgWord k 0) 10 = true then s.findBlobs k else []) →
        ∃ t a, exec (.pipelineFrameDone pipe) s = .next t
          ∧ a = basePair (s.cfgWord k 0x1C) (s.cfgWord k 0x20) + 12288 * (k.frame % 8)
          ∧ (∀ i, i < (s.statsRecord k bs).length → memGet t.dram.mem (a + i) = (s.statsRecord k bs).getD i 0)
          ∧ (∀ x, x < a ∨ a + (s.statsRecord k bs).length ≤ x → memGet t.dram.mem x = memGet s.dram.mem x)
          ∧ ((∀ p q, p < 4 → q ∈ (s.cam p).waiting → s.pipeOf q ≠ pipe) → t.pipes = s.pipes.set pipe none)
          ∧ (bitOf (s.cfgWord k 0) 10 = false →
              t = { s with free := t.free, boxes := t.boxes, dram := t.dram, pipes := t.pipes, cams := t.cams,
                           calib := t.calib })
          ∧ (bitOf (s.cfgWord k 0) 10 = true → s.isHead = false →
              t = { s with free := t.free, boxes := t.boxes, dram := t.dram, pipes := t.pipes, cams := t.cams,
                           calib := t.calib, track := { s.track with blobs := t.track.blobs } }
              ∧ t.track.blobs = s.track.blobs ++ [{ port := k.port, fsUs := k.startClk / 25, feUs := k.endUs,
                                                     trunc := k.cause != 0, blobs := bs }])))

/-- I2C_XFER queues its transfer on the port's bus and completes with it; a wrong port or length is BAD_FIELD (R505). The
transfer on the bus ends: a host's with its bytes, or none where the sensor did not acknowledge; a write of a write list
leaves the bus, and one that was not acknowledged ends its list, marks the frame of its linked values as unsure, and is
fault 0x0901 (R371 to R373). -/
def Clause.CameraBusTransfers : Prop :=
  ∀ (f port : Nat) (e : SqEntry) (ack : Bool) (rdata : List Byte) (j : I2cJob) (rest : List I2cJob) (s : State),
    (s.hostRuns f i2cCard e → port = nAt (payloadOf e) 0 1 →
      (port < 4 → port < s.cams.length → nAt (payloadOf e) 2 1 + nAt (payloadOf e) 3 1 ≠ 0 →
        nAt (payloadOf e) 2 1 + nAt (payloadOf e) 3 1 ≤ 32 →
        ∃ t q, exec (.i2cXfer f) s = .next t ∧ t = { s with boxes := t.boxes, cams := t.cams }
          ∧ t.cam port = { s.cam port with bus := (s.cam port).bus ++ [q] } ∧ (∀ p, p ≠ port → t.cam p = s.cam p)
          ∧ q.host = true ∧ q.func = f ∧ q.cmdId = nAt e.raw 4 4 ∧ q.addr = nAt (payloadOf e) 1 1
          ∧ q.wdata = bytesAt (payloadOf e) 8 (nAt (payloadOf e) 2 1) ∧ q.rlen = nAt (payloadOf e) 3 1) ∧
      (4 ≤ port ∨ nAt (payloadOf e) 2 1 + nAt (payloadOf e) 3 1 = 0 ∨ 32 < nAt (payloadOf e) 2 1 + nAt (payloadOf e) 3 1 →
        ∃ t, exec (.i2cXfer f) s = .next t ∧ s.sameButBoxes t ∧ (s.box f).gained (t.box f) e stBadField 0 [])) ∧
    ((s.cam port).bus = [] ∨ s.camsOn = false → exec (.i2cTransferDone port ack rdata) s = .next s) ∧
    ((s.cam port).bus = j :: rest → s.camsOn = true → port < s.cams.length →
      (j.host = true → j.cmdId < 0x100000000 → j.func < s.boxes.length → (s.box j.func).cqEn = true → (s.box j.func).cqSize ≠ 0 →
        ∃ t, exec (.i2cTransferDone port ack rdata) s = .next t ∧ t = { s with boxes := t.boxes, cams := t.cams }
          ∧ (t.cam port).bus = rest
          ∧ ∃ c ∈ (t.box j.func).cq, c.cmdId = j.cmdId ∧ c.status = stOk
              ∧ (j.respLen ≠ 0 → c.resp = (leBytes 1 (b2n !ack) ++ zeros 7
                  ++ fitTo 32 (if ack = true then bytesAt rdata 0 j.rlen else [])).take j.respLen)) ∧
      (j.host = false → ack = true →
        ∃ t, exec (.i2cTransferDone port ack rdata) s = .next t ∧ t = { s with cams := t.cams } ∧ (t.cam port).bus = rest) ∧
      (j.host = false → ack = false →
        ∃ t, exec (.i2cTransferDone port ack rdata) s = .next t
          ∧ ({ s with cams := t.cams, pipes := t.pipes } : State).sameButHandling t
          ∧ (t.cam port).bus = (rest.filter fun q => q.host || q.list != j.list)
          ∧ (t.cam port).i2cErr = min 65535 ((s.cam port).i2cErr + 1)
          ∧ (∀ l ∈ (t.cam port).linked, l.frame = j.target → l.unsure = true)
          ∧ ((∀ l ∈ s.cellar.log, ¬ (l.code = 0x901 ∧ l.island = 57 ∧ s.us < l.time + 1000000)) → s.logs t 0x901 57)))

/-- Pipelines finish frames; I2C transfers: `Clause.PipelinesFinishFrames`, `Clause.CameraBusTransfers`, together.
Rows concluded here to answer a next state: i2cXfer, pipelineFrameDone, i2cTransferDone. -/
def Obligations.PipelinesAndCameraBuses : Prop :=
  Clause.PipelinesFinishFrames ∧ Clause.CameraBusTransfers

/-! ### Viewers -/

/-- SET_VIEWERS gives the positions that Hearth places views by while TRACK_SRC is 1, seen now, and ends a loss of tracking;
else it completes with NOT_READY, and without 1 to 64 positions with BAD_FIELD (R382, R386, R506). Hearth writes a zone copy
of each output whose ZONED is live, one code for each view in use (R384, R385), except while tracking is lost (R386). A
viewer last seen HOLD_MS ago is gone (R383), and so, for its viewers as a whole, is tracking (R386).
Rows concluded here to answer a next state: setViewers, zoneCopyUpdate, viewerHoldExpiry, trackingLost. -/
def Obligations.ViewersAndZones : Prop :=
  ∀ (f k : Nat) (e : SqEntry) (o : OutId) (s : State),
    (s.hostRuns f viewersCard e →
      (0 < nAt (payloadOf e) 0 1 → nAt (payloadOf e) 0 1 ≤ 64 → s.hostTracks = true →
        ∃ t, exec (.setViewers f) s = .next t ∧ (s.box f).gained (t.box f) e stOk 0 []
          ∧ t = { s with boxes := t.boxes, track := { s.track with
              viewers := (List.range (nAt (payloadOf e) 0 1)).foldl
                (fun a k => addViewer a (viewerAt (payloadOf e) s.us k)) s.track.viewers,
              lastPos := s.us, lost := false } }) ∧
      (0 < nAt (payloadOf e) 0 1 → nAt (payloadOf e) 0 1 ≤ 64 → s.hostTracks = false →
        ∃ t, exec (.setViewers f) s = .next t ∧ s.sameButBoxes t ∧ (s.box f).gained (t.box f) e stNotReady 0 []) ∧
      (nAt (payloadOf e) 0 1 = 0 ∨ 64 < nAt (payloadOf e) 0 1 →
        ∃ t, exec (.setViewers f) s = .next t ∧ s.sameButBoxes t ∧ (s.box f).gained (t.box f) e stBadField 0 [])) ∧
    (s.power.hearth = false ∨ s.zoned o = false → exec (.zoneCopyUpdate o) s = .next s) ∧
    (s.power.hearth = true → s.zoned o = true → (∀ r ∈ s.cellar.recov, r.island = 53 → r.replayed = true) →
      (s.seeBadges.track.lost = true → exec (.zoneCopyUpdate o) s = .next s.seeBadges) ∧
      (s.seeBadges.track.lost = false → s.journalRoom = true →
        ∃ t z, exec (.zoneCopyUpdate o) s = .next t
          ∧ t = { s with track := t.track, cellar := t.cellar }
          ∧ (if o = .A then t.track.zoneA else t.track.zoneB) = some z
          ∧ (if o = .A then t.track.zoneB else t.track.zoneA) = (if o = .A then s.track.zoneB else s.track.zoneA)
          ∧ ∀ n, tget 4 z n = if n ∈ (s.liveSettings.mode o).usedSlots
              then s.seeBadges.zoneCode o (n % 16) (n / 16) else 4)) ∧
    (s.track.viewers[k]? = none → exec (.viewerHoldExpiry k) s = .next s) ∧
    (∀ v, s.track.viewers[k]? = some v → exec (.viewerHoldExpiry k) s = .next { s with
      clk := max s.clk (25 * (v.seen + s.holdUs)),
      track := { s.track with viewers := s.track.viewers.eraseIdx k } }) ∧
    (s.track.lost = true ∨ s.power.hearth = false → exec .trackingLost s = .next s) ∧
    (s.track.lost = false → s.power.hearth = true →
      ∃ t, exec .trackingLost s = .next t
        ∧ t = { s with clk := max s.clk (25 * (s.lastSeen + s.holdUs)), boxes := t.boxes,
                       track := { s.track with lost := true } })

/-! ### Channels -/

/-- The next packet of a submission. A well-formed one that keeps the sequence joins the open scene commit; a COMMIT_MARK
turns the open packets into a commit that waits for its doorway (R115 to R121). One that fails a check is discarded with the
open commit, counted, and the channel skips to the next SCENE_HEADER or COMMIT_MARK (R125, R126). In a protected channel a
tag that is out of place breaks R122: the open commit is dropped silently and one violation of kind 5 is counted (R123); a
good tag moves its session's number on. Where the store has no room the channel pauses (R129). The last byte read completes
the submission with OK (R482). Of another channel nothing changes but a pause that ends. Before a TILE_GROUP the bands in
work are expanded (R142).
Rows concluded here to answer a next state: opsPacket. -/
def Obligations.PacketsAreIngested : Prop :=
  ∀ (c n : Nat) (bytes p : List Byte) (b : Submission) (rest : List Submission) (k : Channel) (s : State), k = s.chan c →
    ((k.subs = [] ∨ k.enabled = false ∨ 8 ≤ k.pending.length ∨ s.journalRoom = false) →
      ∀ ok, exec (.opsPacket c bytes ok) s = .next s) ∧
    (k.subs = b :: rest → c < s.chans.length → k.enabled = true → k.pending.length < 8 → s.journalRoom = true →
      b.pos < b.total →
      (∀ ok, ∃ t, exec (.opsPacket c bytes ok) s = .next t
        ∧ (∀ d, d ≠ c → t.chan d = { s.chan d with paused := (t.chan d).paused })
        ∧ t = { s with boxes := t.boxes, chans := t.chans, cellar := t.cellar, trust := t.trust, ring := t.ring,
                       outA := t.outA, outB := t.outB }) ∧
      (k.skipping = false →
        ∃ t, exec (.opsPacket c bytes false) s = .next t ∧ (t.chan c).openPkts = [] ∧ (t.chan c).skipping = true
          ∧ (t.chan c).subs = rest ∧ (t.chan c).discarded = min 0xFFFFFFFF (k.discarded + k.openPkts.length + 1)
          ∧ (b.cmdId < 0x100000000 → b.func < s.boxes.length → (s.box b.func).cqEn = true → (s.box b.func).cqSize ≠ 0 →
              ∃ x ∈ (t.box b.func).cq, x.cmdId = b.cmdId ∧ x.status = stOk)) ∧
      (n = nAt bytes 4 4 → p = bytesAt bytes 0 n → n % 8 = 0 → 16 ≤ n → n ≤ 16777216 → n ≤ b.total - b.pos →
        (k.skipping = false ∨ headerPkt p = true →
          (s.opsCause c false p ≠ 0 →
            ∃ t, exec (.opsPacket c bytes true) s = .next t ∧ (t.chan c).openPkts = [] ∧ (t.chan c).skipping = true
              ∧ (t.chan c).authSkip = false ∧ t.cellar.viol = s.cellar.viol ∧ t.trust = s.trust
              ∧ (t.chan c).discarded = min 0xFFFFFFFF (k.discarded + k.openPkts.length + 1)) ∧
          (s.opsCause c false p = 0 → s.protectedChan c = false →
            (∀ place off, s.storePlace c n = some place →
              off = (if k.tailBuf = place.1.head? then k.curOff else 0) →
              ∃ t, exec (.opsPacket c bytes true) s = .next t ∧ (t.chan c).lastSeq = opsSeq p
                ∧ (t.chan c).skipping = false ∧ t.trust = s.trust ∧ (t.chan c).discarded = k.discarded
                ∧ (opsType p ≠ 5 →
                    (t.chan c).openPkts = k.openPkts ++ [⟨opsSeq p, opsEffect k.view p place.1 off, place.1⟩]
                    ∧ (t.chan c).pending.map (·.pkts) = k.pending.map (·.pkts))
                ∧ (opsType p = 5 → (t.chan c).openPkts = []
                    ∧ (t.chan c).pending.map (·.pkts) = k.pending.map (·.pkts)
                        ++ [k.openPkts ++ [⟨opsSeq p, opsEffect k.view p place.1 off, place.1⟩]])
                ∧ (b.pos + n < b.total → ∃ q, (t.chan c).subs = q :: rest ∧ q.pos = b.pos + n
                    ∧ q.accepted = b.accepted + 1 ∧ q.discarded = b.discarded)
                ∧ (b.total ≤ b.pos + n → (t.chan c).subs = rest
                    ∧ (b.cmdId < 0x100000000 → b.func < s.boxes.length → (s.box b.func).cqEn = true → (s.box b.func).cqSize ≠ 0 →
                        ∃ x ∈ (t.box b.func).cq, x.cmdId = b.cmdId ∧ x.status = stOk))) ∧
            (s.storePlace c n = none → k.paused = none →
              ∃ t, exec (.opsPacket c bytes true) s = .next t ∧ (t.chan c).paused = some (s.us, opsSeq p, n)
                ∧ (t.chan c).openPkts = k.openPkts ∧ ∃ q, (t.chan c).subs = q :: rest ∧ q.pos = b.pos)) ∧
          (s.opsCause c false p = 0 → s.protectedChan c = true → opsType p = 6 →
            (k.covered = none ∨ (∃ m, k.covered = some m ∧ s.opsTagOk c m p = false) →
              ∃ t, exec (.opsPacket c bytes true) s = .next t ∧ (t.chan c).openPkts = [] ∧ (t.chan c).skipping = true
                ∧ (t.chan c).authSkip = true ∧ t.cellar.viol = (s.violate 5).cellar.viol ∧ t.trust = s.trust
                ∧ (t.chan c).discarded = k.discarded) ∧
            (∀ m place, k.covered = some m → s.opsTagOk c m p = true → s.storePlace c n = some place →
              ∃ t, exec (.opsPacket c bytes true) s = .next t ∧ t.cellar.viol = s.cellar.viol
                ∧ (t.sessionOf (nAt p 0x10 2)).map (·.highSeq) = some (nAt p 0x18 8) ∧ (t.chan c).lastSeq = opsSeq p
                ∧ (opsType m = 5 → (t.chan c).openPkts = [] ∨ k.orphan = true))))))

/-- SUBMIT_OPS queues its bytes for ingest on a channel that is enabled, and completes once they have been read (R92, R482);
a channel that is not enabled answers NOT_READY, a wrong channel, address or length BAD_FIELD. -/
def Clause.SubmissionsQueue : Prop :=
  ∀ (f ch len : Nat) (e : SqEntry) (s : State), s.hostRuns f submitOpsCard e → ch = nAt (payloadOf e) 0 1 →
    len = nAt (payloadOf e) 0x10 4 →
    (ch < 4 → nAt (payloadOf e) 8 8 % 8 = 0 → len % 8 = 0 → 8 ≤ len → len ≤ 67108864 →
      ((s.chan ch).enabled = true → ch < s.chans.length →
        ∃ t q, exec (.submitOps f) s = .next t ∧ t = { s with boxes := t.boxes, chans := t.chans }
          ∧ t.chan ch = { s.chan ch with subs := (s.chan ch).subs ++ [q] } ∧ (∀ c, c ≠ ch → t.chan c = s.chan c)
          ∧ q.func = f ∧ q.cmdId = nAt e.raw 4 4 ∧ q.total = len ∧ q.pos = 0 ∧ q.accepted = 0 ∧ q.discarded = 0) ∧
      ((s.chan ch).enabled = false →
        ∃ t, exec (.submitOps f) s = .next t ∧ s.sameButBoxes t ∧ (s.box f).gained (t.box f) e stNotReady 0 [])) ∧
    (4 ≤ ch ∨ nAt (payloadOf e) 8 8 % 8 ≠ 0 ∨ len % 8 ≠ 0 ∨ len < 8 ∨ 67108864 < len →
      ∃ t, exec (.submitOps f) s = .next t ∧ s.sameButBoxes t ∧ (s.box f).gained (t.box f) e stBadField 0 [])

/-- A pause that freed buffers have not ended within 250 ms ends with the packet and the open commit discarded, cause 0x0D, and the submission goes on behind it;
on a ring's member it is fault 0x1005 (R129). Compaction moves live tiles out of buffers less than half live while fewer
than an eighth of the store's buffers are free; every scene keeps its planes and its tiles' contents (R128). -/
def Clause.StoreIsKeptFree : Prop :=
  ∀ (c u seq len : Nat) (s : State),
    (s.pausedNow c = false → exec (.storePauseTimeout c) s = .next s) ∧
    ((s.chan c).paused = some (u, seq, len) → s.pausedNow c = true → c < s.chans.length →
      ((s.chan c).subs ≠ [] →
        ∃ t, exec (.storePauseTimeout c) s = .next t
          ∧ t = { s with clk := max s.clk (25 * (u + 250000)), boxes := t.boxes, chans := t.chans, cellar := t.cellar,
                         ring := t.ring }
          ∧ (t.chan c).paused = none ∧ (t.chan c).openPkts = [] ∧ (t.chan c).skipping = true
          ∧ (t.chan c).discarded = min 0xFFFFFFFF ((s.chan c).discarded + (s.chan c).openPkts.length + 1)
          ∧ ∀ d, d ≠ c → t.chan d = s.chan d) ∧
      ((s.chan c).subs = [] →
        ∃ t, exec (.storePauseTimeout c) s = .next t ∧ t.clk = max s.clk (25 * (u + 250000))
          ∧ ({ s with clk := t.clk } : State).logs t 0x1005 255
          ∧ ({ s with clk := t.clk, ring := t.ring } : State).sameButHandling t)) ∧
    (s.storeBuffers ≤ 8 * s.freeBuffers → exec .storeCompaction s = .next s) ∧
    (8 * s.freeBuffers < s.storeBuffers →
      ∃ t, exec .storeCompaction s = .next t ∧ t = { s with chans := t.chans } ∧ t.chans.length = s.chans.length
        ∧ ∀ d, t.chan d = { s.chan d with sceneA := (t.chan d).sceneA, sceneB := (t.chan d).sceneB,
                                          curBuf := (t.chan d).curBuf, curOff := (t.chan d).curOff,
                                          paused := (t.chan d).paused }
          ∧ scenePlain (t.chan d).sceneA = scenePlain (s.chan d).sceneA
          ∧ scenePlain (t.chan d).sceneB = scenePlain (s.chan d).sceneB)

/-- SUBMIT_OPS, store pauses and compaction: `Clause.SubmissionsQueue`, `Clause.StoreIsKeptFree`, together.
Rows concluded here to answer a next state: submitOps, storePauseTimeout, storeCompaction. -/
def Obligations.SubmissionsAndStore : Prop :=
  Clause.SubmissionsQueue ∧ Clause.StoreIsKeptFree

/-! ### The blitter -/

/-- SUBMIT_BLIT queues a 64-byte aligned list in the function's pool behind its others, at most 16, and answers with
OK_DEFERRED, LIST_TAG and its place (R410, R507); else BAD_FIELD, QUEUE_FULL, or a violation without effect (R493). The list
that comes next starts once none runs, BLT_EN is 1 and module memory works: the blitter reads it whole, and what is pending
for BLT is live from there (R46, R411, R412). A header that breaks R414 runs no command (R415).
Rows concluded here to answer a next state: submitBlit, blitListStart. -/
def Obligations.BlitListsStart : Prop :=
  ∀ (f a n mine : Nat) (e : SqEntry) (l : BlitList) (h : List Byte) (s : State),
    (s.hostRuns f submitBlitCard e → a = nAt (payloadOf e) 0 8 → n = nAt (s.dramGet a 2) 0 2 →
      mine = (s.blit.queue.filter fun q => q.func == f).length →
      (a % 64 = 0 → s.inPool f a (64 + 64 * n) = true → mine < 16 →
        ∃ t, exec (.submitBlit f) s = .next t
          ∧ t = { s with boxes := t.boxes, blit := { s.blit with queue := s.blit.queue ++ [{ func := f, addr := a }] } }
          ∧ (s.box f).gained (t.box f) e stDeferred 0 (s.dramGet (a + 4) 4 ++ leBytes 2 (mine + 1))) ∧
      (a % 64 ≠ 0 →
        ∃ t, exec (.submitBlit f) s = .next t ∧ s.sameButBoxes t ∧ (s.box f).gained (t.box f) e stBadField 0 []) ∧
      (a % 64 = 0 → s.inPool f a (64 + 64 * n) = false →
        ∃ t, exec (.submitBlit f) s = .next t ∧ (s.violate 3).sameButBoxes t) ∧
      (a % 64 = 0 → s.inPool f a (64 + 64 * n) = true → 16 ≤ mine →
        ∃ t, exec (.submitBlit f) s = .next t ∧ s.sameButBoxes t ∧ (s.box f).gained (t.box f) e stQueueFull 0 [])) ∧
    (s.blit.nextList = none ∨ s.blit.run ≠ none ∨ s.dram.st ≠ 2 ∨ s.works 58 = false →
      exec .blitListStart s = .next s) ∧
    (s.blit.nextList = some l → s.blit.run = none → s.dram.st = 2 → s.works 58 = true →
      (s.pendsOf .blt 0 ≠ [] → ∃ t, exec .blitListStart s = .next t ∧ ∀ p ∈ t.commits.pend, p.blk ≠ .blt) ∧
      (s.pendsOf .blt 0 = [] → bitOf (s.lv .blt .A 0) 0 = false → exec .blitListStart s = .next s) ∧
      (s.pendsOf .blt 0 = [] → bitOf (s.lv .blt .A 0) 0 = true → h = s.dramGet l.addr 64 →
        (headerOk l.func h = false → s.badIn l.addr 64 = [] →
          ∃ t, exec .blitListStart s = .next t ∧ t = { s with boxes := t.boxes, blit := t.blit } ∧ t.blit.run = none
            ∧ t.blit.done = w32 (s.blit.done + 1) ∧ t.blit.queue = s.blit.queue.erase l ∧ t.blit.ran = 0) ∧
        (headerOk l.func h = true → s.badIn l.addr (64 + 64 * nAt h 0 2) = [] →
          1 ≤ blitOp (s.dramGet (l.addr + 64) 64) → blitOp (s.dramGet (l.addr + 64) 64) ≤ 5 →
          exec .blitListStart s = .next { s with blit := { s.blit with
            queue := s.blit.queue.erase l, lastFn := l.func, curFn := l.func, run := some l, noEvents := false, header := h,
            staging := (List.range (nAt h 0 2)).map fun k => s.dramGet (l.addr + 64 + 64 * k) 64,
            index := 0, ran := 0, firstBad := none, stageBad := false } })))

/-- COPY, FILL, STRETCH, BLEND and CONVERT write the texels of R420 into the destination rectangle, as read before the
command wrote any (R423, R424), then STATUS OK (R413); outside the rectangle, the list and the scratch area no byte of
module memory changes. The events of R427 aside, nothing else changes. What R421 leaves within one code is free (log entry
22). A row that is not the running list's next operation has no effect. -/
def Clause.BlitterCommandsWriteTexels : Prop :=
  ∀ (ue : Bool) (row : Instr × Nat) (l : BlitList) (c : BlitCmd) (s : State),
    row ∈ [(Instr.blitCopy ue, 1), (Instr.blitFill ue, 2), (Instr.blitStretch ue, 3), (Instr.blitBlend ue, 4),
      (Instr.blitConvert ue, 5)] →
    ((∀ d, s.blit.staging[s.blit.index]? = some d → blitOp d ≠ row.2) → exec row.1 s = .next s) ∧
    (s.blit.run = none ∨ s.dram.st ≠ 2 ∨ s.works 58 = false → exec row.1 s = .next s) ∧
    (s.blits row.2 l c → s.blitBad c ue = [] →
      ∃ t, exec row.1 s = .next t ∧ s.blitEnded t l stOk
        ∧ t = { s with boxes := t.boxes, dram := t.dram, blit := t.blit, free := t.free }
        ∧ (∀ x, ¬ s.inList l x →
            (∀ j, j < (blitDst c).h → ¬ ((blitDst c).at_ 0 j ≤ x
              ∧ x < (blitDst c).at_ 0 j + (blitDst c).w * texelBytes (blitDst c).fmt)) →
            (∀ n, blitScratch c = some n → ¬ (s.blit.scratch.1 ≤ x ∧ x < s.blit.scratch.1 + n)) →
            memGet t.dram.mem x = memGet s.dram.mem x)
        ∧ (rangesMeet (blitDst c).extent (l.addr, 64 + 64 * s.blit.staging.length) = false →
            ∀ i j, i < (blitDst c).w → j < (blitDst c).h →
              memRead t.dram.mem ((blitDst c).at_ i j) (texelBytes (blitDst c).fmt)
                = blitTexel c (s.free + (blitScratch c).getD 0 + 4 * (j * (blitDst c).w + i))
                    (fun x y => memRead s.dram.mem ((blitSrc c).at_ x y) (texelBytes (blitSrc c).fmt))
                    (fun x y => memRead s.dram.mem ((blitDst c).at_ x y) (texelBytes (blitDst c).fmt)) i j))

/-- The endings without an effect on the destination: BAD_FIELD for a malformed command (R418); for one outside the pool
STATUS OK and one violation of kind 3 (R419); OVERLAP_REJECTED, counted, where the list's scratch area is missing or too
small (R425); FAULT_STATE for a read that met an uncorrectable error, which is fault 0x0B01, and for every command of a list that was read with one
(R426). -/
def Clause.BlitterCommandsEnd : Prop :=
  ∀ (ue : Bool) (row : Instr × Nat) (l : BlitList) (c : BlitCmd) (s : State),
    row ∈ [(Instr.blitCopy ue, 1), (Instr.blitFill ue, 2), (Instr.blitStretch ue, 3), (Instr.blitBlend ue, 4),
      (Instr.blitConvert ue, 5)] →
    s.blit.run = some l → s.blit.staging[s.blit.index]? = some c → blitOp c = row.2 → s.dram.st = 2 →
    s.works 58 = true →
    (s.blit.stageBad = true →
      ∃ t, exec row.1 s = .next t ∧ s.blitEnded t l stFaultState
        ∧ t = { s with boxes := t.boxes, dram := t.dram, blit := t.blit }
        ∧ ∀ x, ¬ s.inList l x → memGet t.dram.mem x = memGet s.dram.mem x) ∧
    (s.blit.stageBad = false → blitOk l.func c = false →
      ∃ t, exec row.1 s = .next t ∧ s.blitEnded t l stBadField
        ∧ t = { s with boxes := t.boxes, dram := t.dram, blit := t.blit }
        ∧ ∀ x, ¬ s.inList l x → memGet t.dram.mem x = memGet s.dram.mem x) ∧
    (s.blit.stageBad = false → blitOk l.func c = true → s.inPool l.func (blitDst c).extent.1 (blitDst c).extent.2 = false →
      ∃ t, exec row.1 s = .next t ∧ s.blitEnded t l stOk ∧ t.cellar = (s.violate 3).cellar
        ∧ t = { s with boxes := t.boxes, dram := t.dram, blit := t.blit, cellar := t.cellar }
        ∧ ∀ x, ¬ s.inList l x → memGet t.dram.mem x = memGet s.dram.mem x) ∧
    (∀ n, s.blit.stageBad = false → blitOk l.func c = true → s.inPool l.func (blitDst c).extent.1 (blitDst c).extent.2 = true →
      s.inPool l.func (blitSrc c).extent.1 (blitSrc c).extent.2 = true → blitScratch c = some n →
      s.blit.scratch.1 = 0 ∨ s.blit.scratch.2 < n →
      ∃ t, exec row.1 s = .next t ∧ s.blitEnded t l stOverlap ∧ t.blit.ovl = min 65535 (s.blit.ovl + 1)
        ∧ t = { s with boxes := t.boxes, dram := t.dram, blit := t.blit }
        ∧ ∀ x, ¬ s.inList l x → memGet t.dram.mem x = memGet s.dram.mem x) ∧
    (s.blits row.2 l c → s.blitBad c ue ≠ [] →
      ∃ t, exec row.1 s = .next t ∧ s.blitEnded t l stFaultState ∧ t.blit.faults = min 65535 (s.blit.faults + 1)
        ∧ s.logs t 0xB01 58
        ∧ ({ s with dram := t.dram, blit := t.blit, free := t.free } : State).sameButHandling t
        ∧ ∀ x, ¬ s.inList l x →
            (∀ j, j < (blitDst c).h → ¬ ((blitDst c).at_ 0 j ≤ x
              ∧ x < (blitDst c).at_ 0 j + (blitDst c).w * texelBytes (blitDst c).fmt)) →
            memGet t.dram.mem x = memGet s.dram.mem x)

/-- Blitter commands write their texels, or end without: `Clause.BlitterCommandsWriteTexels`, `Clause.BlitterCommandsEnd`, together.
Rows concluded here to answer a next state: blitCopy, blitFill, blitStretch, blitBlend, blitConvert. -/
def Obligations.BlitterCommands : Prop :=
  Clause.BlitterCommandsWriteTexels ∧ Clause.BlitterCommandsEnd

/-! ### Records and ring entries -/

/-- A record as it is written is valid in its area and bears what R404 lays out; a copy that Threshold writes is the newest
valid one, with the SEQ after the one before it, from 1 (R406, R513); completion and event entries are 32 bytes with the
fields of R468 and R472 at their places, every number little-endian (R8). -/
def Obligations.RecordsAndEntriesHaveTheirBytes : Prop :=
  (∀ (type seq time slot : Nat) (p : List Byte), type < 2 ^ 32 → seq < 2 ^ 32 → time < 2 ^ 64 → p.length < 2 ^ 32 →
    p.length + 0x28 ≤ slot → ∀ bs, bs = recBytes type seq time p →
      recValid type slot bs = true ∧ bs.length = p.length + 0x28 ∧ nAt bs 0 4 = type ∧ nAt bs 8 4 = seq
      ∧ nAt bs 0x10 8 = time ∧ bytesAt bs 0x20 p.length = p) ∧
  (∀ (serial type time : Nat) (pay : List Byte → List Byte) (v : List Byte) (r : AB (List Byte)),
    (∀ c, r.a = some c ∨ r.b = some c → c.seq < 2 ^ 32) →
    ∃ q, ((r.writeSealed serial type pay time v).sound serial type pay).newest
        = some (sealRec serial type pay q time v)
      ∧ ((r.sound serial type pay).newest = none → q = 1)
      ∧ ∀ c, (r.sound serial type pay).newest = some c → q = (c.seq + 1) % 2 ^ 32) ∧
  (∀ e : CqEntry, e.cmdId < 2 ^ 32 → e.status < 2 ^ 16 → e.sqHead < 2 ^ 16 → e.retry < 2 ^ 32 → e.inl.length = 16 →
    e.bytes.length = 32 ∧ nAt e.bytes 0 4 = e.cmdId ∧ nAt e.bytes 4 2 = e.status
      ∧ nAt e.bytes 6 2 = b2n e.phase + 2 * b2n e.respErr ∧ nAt e.bytes 8 2 = e.sqHead ∧ nAt e.bytes 0xC 4 = e.retry
      ∧ bytesAt e.bytes 0x10 16 = e.inl) ∧
  (∀ e : EqEntry, e.event < 2 ^ 16 → e.seq < 2 ^ 32 → e.time < 2 ^ 64 → e.data.length = 16 →
    e.bytes.length = 32 ∧ nAt e.bytes 0 2 = e.event ∧ nAt e.bytes 2 2 = b2n e.phase + 2 * b2n e.overflow
      ∧ nAt e.bytes 4 4 = e.seq ∧ nAt e.bytes 8 8 = e.time ∧ bytesAt e.bytes 0x10 16 = e.data)
end

