-- ==== Sys2Proof/Laws/State.lean ====
section
/-! SUPPORT. What each named update of a part of the state leaves and gives: one lemma for each field and update. -/
namespace Sys2Proof.Machine

variable (s : State)

/-! ### modBox -/

@[simp] theorem State.modBox_pending (n : Nat) (g : Letterbox → Letterbox) : (s.modBox n g).pending = s.pending := rfl
@[simp] theorem State.modBox_variant (n : Nat) (g : Letterbox → Letterbox) : (s.modBox n g).variant = s.variant := rfl
@[simp] theorem State.modBox_clk (n : Nat) (g : Letterbox → Letterbox) : (s.modBox n g).clk = s.clk := rfl
@[simp] theorem State.modBox_free (n : Nat) (g : Letterbox → Letterbox) : (s.modBox n g).free = s.free := rfl
@[simp] theorem State.modBox_shadow (n : Nat) (g : Letterbox → Letterbox) : (s.modBox n g).shadow = s.shadow := rfl
@[simp] theorem State.modBox_commits (n : Nat) (g : Letterbox → Letterbox) : (s.modBox n g).commits = s.commits := rfl
@[simp] theorem State.modBox_landings (n : Nat) (g : Letterbox → Letterbox) : (s.modBox n g).landings = s.landings := rfl
@[simp] theorem State.modBox_outA (n : Nat) (g : Letterbox → Letterbox) : (s.modBox n g).outA = s.outA := rfl
@[simp] theorem State.modBox_outB (n : Nat) (g : Letterbox → Letterbox) : (s.modBox n g).outB = s.outB := rfl
@[simp] theorem State.modBox_linkA (n : Nat) (g : Letterbox → Letterbox) : (s.modBox n g).linkA = s.linkA := rfl
@[simp] theorem State.modBox_linkB (n : Nat) (g : Letterbox → Letterbox) : (s.modBox n g).linkB = s.linkB := rfl
@[simp] theorem State.modBox_lanes (n : Nat) (g : Letterbox → Letterbox) : (s.modBox n g).lanes = s.lanes := rfl
@[simp] theorem State.modBox_slices (n : Nat) (g : Letterbox → Letterbox) : (s.modBox n g).slices = s.slices := rfl
@[simp] theorem State.modBox_chans (n : Nat) (g : Letterbox → Letterbox) : (s.modBox n g).chans = s.chans := rfl
@[simp] theorem State.modBox_trust (n : Nat) (g : Letterbox → Letterbox) : (s.modBox n g).trust = s.trust := rfl
@[simp] theorem State.modBox_cellar (n : Nat) (g : Letterbox → Letterbox) : (s.modBox n g).cellar = s.cellar := rfl
@[simp] theorem State.modBox_transom (n : Nat) (g : Letterbox → Letterbox) : (s.modBox n g).transom = s.transom := rfl
@[simp] theorem State.modBox_cams (n : Nat) (g : Letterbox → Letterbox) : (s.modBox n g).cams = s.cams := rfl
@[simp] theorem State.modBox_pipes (n : Nat) (g : Letterbox → Letterbox) : (s.modBox n g).pipes = s.pipes := rfl
@[simp] theorem State.modBox_track (n : Nat) (g : Letterbox → Letterbox) : (s.modBox n g).track = s.track := rfl
@[simp] theorem State.modBox_calib (n : Nat) (g : Letterbox → Letterbox) : (s.modBox n g).calib = s.calib := rfl
@[simp] theorem State.modBox_blit (n : Nat) (g : Letterbox → Letterbox) : (s.modBox n g).blit = s.blit := rfl
@[simp] theorem State.modBox_dram (n : Nat) (g : Letterbox → Letterbox) : (s.modBox n g).dram = s.dram := rfl
@[simp] theorem State.modBox_ring (n : Nat) (g : Letterbox → Letterbox) : (s.modBox n g).ring = s.ring := rfl
@[simp] theorem State.modBox_sensors (n : Nat) (g : Letterbox → Letterbox) : (s.modBox n g).sensors = s.sensors := rfl
@[simp] theorem State.modBox_power (n : Nat) (g : Letterbox → Letterbox) : (s.modBox n g).power = s.power := rfl
@[simp] theorem State.modBox_mram (n : Nat) (g : Letterbox → Letterbox) : (s.modBox n g).mram = s.mram := rfl
@[simp] theorem State.modBox_audit (n : Nat) (g : Letterbox → Letterbox) : (s.modBox n g).audit = s.audit := rfl
@[simp] theorem State.modBox_timeHi (n : Nat) (g : Letterbox → Letterbox) : (s.modBox n g).timeHi = s.timeHi := rfl
@[simp] theorem State.modBox_lastRead (n : Nat) (g : Letterbox → Letterbox) : (s.modBox n g).lastRead = s.lastRead := rfl
@[simp] theorem State.modBox_mgmtIdx (n : Nat) (g : Letterbox → Letterbox) : (s.modBox n g).mgmtIdx = s.mgmtIdx := rfl
@[simp] theorem State.modBox_mgmtLatch (n : Nat) (g : Letterbox → Letterbox) : (s.modBox n g).mgmtLatch = s.mgmtLatch := rfl
@[simp] theorem State.modBox_numVfs (n : Nat) (g : Letterbox → Letterbox) : (s.modBox n g).numVfs = s.numVfs := rfl
@[simp] theorem State.modBox_vfEnable (n : Nat) (g : Letterbox → Letterbox) : (s.modBox n g).vfEnable = s.vfEnable := rfl
@[simp] theorem State.modBox_bars (n : Nat) (g : Letterbox → Letterbox) : (s.modBox n g).bars = s.bars := rfl
@[simp] theorem State.modBox_boxes (n : Nat) (g : Letterbox → Letterbox) : (s.modBox n g).boxes = s.boxes.modify n g := rfl

/-! ### modChan -/

@[simp] theorem State.modChan_pending (n : Nat) (g : Channel → Channel) : (s.modChan n g).pending = s.pending := rfl
@[simp] theorem State.modChan_variant (n : Nat) (g : Channel → Channel) : (s.modChan n g).variant = s.variant := rfl
@[simp] theorem State.modChan_clk (n : Nat) (g : Channel → Channel) : (s.modChan n g).clk = s.clk := rfl
@[simp] theorem State.modChan_free (n : Nat) (g : Channel → Channel) : (s.modChan n g).free = s.free := rfl
@[simp] theorem State.modChan_shadow (n : Nat) (g : Channel → Channel) : (s.modChan n g).shadow = s.shadow := rfl
@[simp] theorem State.modChan_commits (n : Nat) (g : Channel → Channel) : (s.modChan n g).commits = s.commits := rfl
@[simp] theorem State.modChan_landings (n : Nat) (g : Channel → Channel) : (s.modChan n g).landings = s.landings := rfl
@[simp] theorem State.modChan_outA (n : Nat) (g : Channel → Channel) : (s.modChan n g).outA = s.outA := rfl
@[simp] theorem State.modChan_outB (n : Nat) (g : Channel → Channel) : (s.modChan n g).outB = s.outB := rfl
@[simp] theorem State.modChan_linkA (n : Nat) (g : Channel → Channel) : (s.modChan n g).linkA = s.linkA := rfl
@[simp] theorem State.modChan_linkB (n : Nat) (g : Channel → Channel) : (s.modChan n g).linkB = s.linkB := rfl
@[simp] theorem State.modChan_lanes (n : Nat) (g : Channel → Channel) : (s.modChan n g).lanes = s.lanes := rfl
@[simp] theorem State.modChan_slices (n : Nat) (g : Channel → Channel) : (s.modChan n g).slices = s.slices := rfl
@[simp] theorem State.modChan_trust (n : Nat) (g : Channel → Channel) : (s.modChan n g).trust = s.trust := rfl
@[simp] theorem State.modChan_boxes (n : Nat) (g : Channel → Channel) : (s.modChan n g).boxes = s.boxes := rfl
@[simp] theorem State.modChan_cellar (n : Nat) (g : Channel → Channel) : (s.modChan n g).cellar = s.cellar := rfl
@[simp] theorem State.modChan_transom (n : Nat) (g : Channel → Channel) : (s.modChan n g).transom = s.transom := rfl
@[simp] theorem State.modChan_cams (n : Nat) (g : Channel → Channel) : (s.modChan n g).cams = s.cams := rfl
@[simp] theorem State.modChan_pipes (n : Nat) (g : Channel → Channel) : (s.modChan n g).pipes = s.pipes := rfl
@[simp] theorem State.modChan_track (n : Nat) (g : Channel → Channel) : (s.modChan n g).track = s.track := rfl
@[simp] theorem State.modChan_calib (n : Nat) (g : Channel → Channel) : (s.modChan n g).calib = s.calib := rfl
@[simp] theorem State.modChan_blit (n : Nat) (g : Channel → Channel) : (s.modChan n g).blit = s.blit := rfl
@[simp] theorem State.modChan_dram (n : Nat) (g : Channel → Channel) : (s.modChan n g).dram = s.dram := rfl
@[simp] theorem State.modChan_ring (n : Nat) (g : Channel → Channel) : (s.modChan n g).ring = s.ring := rfl
@[simp] theorem State.modChan_sensors (n : Nat) (g : Channel → Channel) : (s.modChan n g).sensors = s.sensors := rfl
@[simp] theorem State.modChan_power (n : Nat) (g : Channel → Channel) : (s.modChan n g).power = s.power := rfl
@[simp] theorem State.modChan_mram (n : Nat) (g : Channel → Channel) : (s.modChan n g).mram = s.mram := rfl
@[simp] theorem State.modChan_audit (n : Nat) (g : Channel → Channel) : (s.modChan n g).audit = s.audit := rfl
@[simp] theorem State.modChan_timeHi (n : Nat) (g : Channel → Channel) : (s.modChan n g).timeHi = s.timeHi := rfl
@[simp] theorem State.modChan_lastRead (n : Nat) (g : Channel → Channel) : (s.modChan n g).lastRead = s.lastRead := rfl
@[simp] theorem State.modChan_mgmtIdx (n : Nat) (g : Channel → Channel) : (s.modChan n g).mgmtIdx = s.mgmtIdx := rfl
@[simp] theorem State.modChan_mgmtLatch (n : Nat) (g : Channel → Channel) : (s.modChan n g).mgmtLatch = s.mgmtLatch := rfl
@[simp] theorem State.modChan_numVfs (n : Nat) (g : Channel → Channel) : (s.modChan n g).numVfs = s.numVfs := rfl
@[simp] theorem State.modChan_vfEnable (n : Nat) (g : Channel → Channel) : (s.modChan n g).vfEnable = s.vfEnable := rfl
@[simp] theorem State.modChan_bars (n : Nat) (g : Channel → Channel) : (s.modChan n g).bars = s.bars := rfl
@[simp] theorem State.modChan_chans (n : Nat) (g : Channel → Channel) : (s.modChan n g).chans = s.chans.modify n g := rfl

/-! ### modLanding -/

@[simp] theorem State.modLanding_pending (n : Nat) (g : Landing → Landing) : (s.modLanding n g).pending = s.pending := rfl
@[simp] theorem State.modLanding_variant (n : Nat) (g : Landing → Landing) : (s.modLanding n g).variant = s.variant := rfl
@[simp] theorem State.modLanding_clk (n : Nat) (g : Landing → Landing) : (s.modLanding n g).clk = s.clk := rfl
@[simp] theorem State.modLanding_free (n : Nat) (g : Landing → Landing) : (s.modLanding n g).free = s.free := rfl
@[simp] theorem State.modLanding_shadow (n : Nat) (g : Landing → Landing) : (s.modLanding n g).shadow = s.shadow := rfl
@[simp] theorem State.modLanding_commits (n : Nat) (g : Landing → Landing) : (s.modLanding n g).commits = s.commits := rfl
@[simp] theorem State.modLanding_outA (n : Nat) (g : Landing → Landing) : (s.modLanding n g).outA = s.outA := rfl
@[simp] theorem State.modLanding_outB (n : Nat) (g : Landing → Landing) : (s.modLanding n g).outB = s.outB := rfl
@[simp] theorem State.modLanding_linkA (n : Nat) (g : Landing → Landing) : (s.modLanding n g).linkA = s.linkA := rfl
@[simp] theorem State.modLanding_linkB (n : Nat) (g : Landing → Landing) : (s.modLanding n g).linkB = s.linkB := rfl
@[simp] theorem State.modLanding_lanes (n : Nat) (g : Landing → Landing) : (s.modLanding n g).lanes = s.lanes := rfl
@[simp] theorem State.modLanding_slices (n : Nat) (g : Landing → Landing) : (s.modLanding n g).slices = s.slices := rfl
@[simp] theorem State.modLanding_chans (n : Nat) (g : Landing → Landing) : (s.modLanding n g).chans = s.chans := rfl
@[simp] theorem State.modLanding_trust (n : Nat) (g : Landing → Landing) : (s.modLanding n g).trust = s.trust := rfl
@[simp] theorem State.modLanding_boxes (n : Nat) (g : Landing → Landing) : (s.modLanding n g).boxes = s.boxes := rfl
@[simp] theorem State.modLanding_cellar (n : Nat) (g : Landing → Landing) : (s.modLanding n g).cellar = s.cellar := rfl
@[simp] theorem State.modLanding_transom (n : Nat) (g : Landing → Landing) : (s.modLanding n g).transom = s.transom := rfl
@[simp] theorem State.modLanding_cams (n : Nat) (g : Landing → Landing) : (s.modLanding n g).cams = s.cams := rfl
@[simp] theorem State.modLanding_pipes (n : Nat) (g : Landing → Landing) : (s.modLanding n g).pipes = s.pipes := rfl
@[simp] theorem State.modLanding_track (n : Nat) (g : Landing → Landing) : (s.modLanding n g).track = s.track := rfl
@[simp] theorem State.modLanding_calib (n : Nat) (g : Landing → Landing) : (s.modLanding n g).calib = s.calib := rfl
@[simp] theorem State.modLanding_blit (n : Nat) (g : Landing → Landing) : (s.modLanding n g).blit = s.blit := rfl
@[simp] theorem State.modLanding_dram (n : Nat) (g : Landing → Landing) : (s.modLanding n g).dram = s.dram := rfl
@[simp] theorem State.modLanding_ring (n : Nat) (g : Landing → Landing) : (s.modLanding n g).ring = s.ring := rfl
@[simp] theorem State.modLanding_sensors (n : Nat) (g : Landing → Landing) : (s.modLanding n g).sensors = s.sensors := rfl
@[simp] theorem State.modLanding_power (n : Nat) (g : Landing → Landing) : (s.modLanding n g).power = s.power := rfl
@[simp] theorem State.modLanding_mram (n : Nat) (g : Landing → Landing) : (s.modLanding n g).mram = s.mram := rfl
@[simp] theorem State.modLanding_audit (n : Nat) (g : Landing → Landing) : (s.modLanding n g).audit = s.audit := rfl
@[simp] theorem State.modLanding_timeHi (n : Nat) (g : Landing → Landing) : (s.modLanding n g).timeHi = s.timeHi := rfl
@[simp] theorem State.modLanding_lastRead (n : Nat) (g : Landing → Landing) : (s.modLanding n g).lastRead = s.lastRead := rfl
@[simp] theorem State.modLanding_mgmtIdx (n : Nat) (g : Landing → Landing) : (s.modLanding n g).mgmtIdx = s.mgmtIdx := rfl
@[simp] theorem State.modLanding_mgmtLatch (n : Nat) (g : Landing → Landing) : (s.modLanding n g).mgmtLatch = s.mgmtLatch := rfl
@[simp] theorem State.modLanding_numVfs (n : Nat) (g : Landing → Landing) : (s.modLanding n g).numVfs = s.numVfs := rfl
@[simp] theorem State.modLanding_vfEnable (n : Nat) (g : Landing → Landing) : (s.modLanding n g).vfEnable = s.vfEnable := rfl
@[simp] theorem State.modLanding_bars (n : Nat) (g : Landing → Landing) : (s.modLanding n g).bars = s.bars := rfl
@[simp] theorem State.modLanding_landings (n : Nat) (g : Landing → Landing) : (s.modLanding n g).landings = s.landings.modify n g := rfl

/-! ### modLane -/

@[simp] theorem State.modLane_pending (n : Nat) (g : Lane → Lane) : (s.modLane n g).pending = s.pending := rfl
@[simp] theorem State.modLane_variant (n : Nat) (g : Lane → Lane) : (s.modLane n g).variant = s.variant := rfl
@[simp] theorem State.modLane_clk (n : Nat) (g : Lane → Lane) : (s.modLane n g).clk = s.clk := rfl
@[simp] theorem State.modLane_free (n : Nat) (g : Lane → Lane) : (s.modLane n g).free = s.free := rfl
@[simp] theorem State.modLane_shadow (n : Nat) (g : Lane → Lane) : (s.modLane n g).shadow = s.shadow := rfl
@[simp] theorem State.modLane_commits (n : Nat) (g : Lane → Lane) : (s.modLane n g).commits = s.commits := rfl
@[simp] theorem State.modLane_landings (n : Nat) (g : Lane → Lane) : (s.modLane n g).landings = s.landings := rfl
@[simp] theorem State.modLane_outA (n : Nat) (g : Lane → Lane) : (s.modLane n g).outA = s.outA := rfl
@[simp] theorem State.modLane_outB (n : Nat) (g : Lane → Lane) : (s.modLane n g).outB = s.outB := rfl
@[simp] theorem State.modLane_linkA (n : Nat) (g : Lane → Lane) : (s.modLane n g).linkA = s.linkA := rfl
@[simp] theorem State.modLane_linkB (n : Nat) (g : Lane → Lane) : (s.modLane n g).linkB = s.linkB := rfl
@[simp] theorem State.modLane_slices (n : Nat) (g : Lane → Lane) : (s.modLane n g).slices = s.slices := rfl
@[simp] theorem State.modLane_chans (n : Nat) (g : Lane → Lane) : (s.modLane n g).chans = s.chans := rfl
@[simp] theorem State.modLane_trust (n : Nat) (g : Lane → Lane) : (s.modLane n g).trust = s.trust := rfl
@[simp] theorem State.modLane_boxes (n : Nat) (g : Lane → Lane) : (s.modLane n g).boxes = s.boxes := rfl
@[simp] theorem State.modLane_cellar (n : Nat) (g : Lane → Lane) : (s.modLane n g).cellar = s.cellar := rfl
@[simp] theorem State.modLane_transom (n : Nat) (g : Lane → Lane) : (s.modLane n g).transom = s.transom := rfl
@[simp] theorem State.modLane_cams (n : Nat) (g : Lane → Lane) : (s.modLane n g).cams = s.cams := rfl
@[simp] theorem State.modLane_pipes (n : Nat) (g : Lane → Lane) : (s.modLane n g).pipes = s.pipes := rfl
@[simp] theorem State.modLane_track (n : Nat) (g : Lane → Lane) : (s.modLane n g).track = s.track := rfl
@[simp] theorem State.modLane_calib (n : Nat) (g : Lane → Lane) : (s.modLane n g).calib = s.calib := rfl
@[simp] theorem State.modLane_blit (n : Nat) (g : Lane → Lane) : (s.modLane n g).blit = s.blit := rfl
@[simp] theorem State.modLane_dram (n : Nat) (g : Lane → Lane) : (s.modLane n g).dram = s.dram := rfl
@[simp] theorem State.modLane_ring (n : Nat) (g : Lane → Lane) : (s.modLane n g).ring = s.ring := rfl
@[simp] theorem State.modLane_sensors (n : Nat) (g : Lane → Lane) : (s.modLane n g).sensors = s.sensors := rfl
@[simp] theorem State.modLane_power (n : Nat) (g : Lane → Lane) : (s.modLane n g).power = s.power := rfl
@[simp] theorem State.modLane_mram (n : Nat) (g : Lane → Lane) : (s.modLane n g).mram = s.mram := rfl
@[simp] theorem State.modLane_audit (n : Nat) (g : Lane → Lane) : (s.modLane n g).audit = s.audit := rfl
@[simp] theorem State.modLane_timeHi (n : Nat) (g : Lane → Lane) : (s.modLane n g).timeHi = s.timeHi := rfl
@[simp] theorem State.modLane_lastRead (n : Nat) (g : Lane → Lane) : (s.modLane n g).lastRead = s.lastRead := rfl
@[simp] theorem State.modLane_mgmtIdx (n : Nat) (g : Lane → Lane) : (s.modLane n g).mgmtIdx = s.mgmtIdx := rfl
@[simp] theorem State.modLane_mgmtLatch (n : Nat) (g : Lane → Lane) : (s.modLane n g).mgmtLatch = s.mgmtLatch := rfl
@[simp] theorem State.modLane_numVfs (n : Nat) (g : Lane → Lane) : (s.modLane n g).numVfs = s.numVfs := rfl
@[simp] theorem State.modLane_vfEnable (n : Nat) (g : Lane → Lane) : (s.modLane n g).vfEnable = s.vfEnable := rfl
@[simp] theorem State.modLane_bars (n : Nat) (g : Lane → Lane) : (s.modLane n g).bars = s.bars := rfl
@[simp] theorem State.modLane_lanes (n : Nat) (g : Lane → Lane) : (s.modLane n g).lanes = s.lanes.modify n g := rfl

/-! ### modCam -/

@[simp] theorem State.modCam_pending (n : Nat) (g : Camera → Camera) : (s.modCam n g).pending = s.pending := rfl
@[simp] theorem State.modCam_variant (n : Nat) (g : Camera → Camera) : (s.modCam n g).variant = s.variant := rfl
@[simp] theorem State.modCam_clk (n : Nat) (g : Camera → Camera) : (s.modCam n g).clk = s.clk := rfl
@[simp] theorem State.modCam_free (n : Nat) (g : Camera → Camera) : (s.modCam n g).free = s.free := rfl
@[simp] theorem State.modCam_shadow (n : Nat) (g : Camera → Camera) : (s.modCam n g).shadow = s.shadow := rfl
@[simp] theorem State.modCam_commits (n : Nat) (g : Camera → Camera) : (s.modCam n g).commits = s.commits := rfl
@[simp] theorem State.modCam_landings (n : Nat) (g : Camera → Camera) : (s.modCam n g).landings = s.landings := rfl
@[simp] theorem State.modCam_outA (n : Nat) (g : Camera → Camera) : (s.modCam n g).outA = s.outA := rfl
@[simp] theorem State.modCam_outB (n : Nat) (g : Camera → Camera) : (s.modCam n g).outB = s.outB := rfl
@[simp] theorem State.modCam_linkA (n : Nat) (g : Camera → Camera) : (s.modCam n g).linkA = s.linkA := rfl
@[simp] theorem State.modCam_linkB (n : Nat) (g : Camera → Camera) : (s.modCam n g).linkB = s.linkB := rfl
@[simp] theorem State.modCam_lanes (n : Nat) (g : Camera → Camera) : (s.modCam n g).lanes = s.lanes := rfl
@[simp] theorem State.modCam_slices (n : Nat) (g : Camera → Camera) : (s.modCam n g).slices = s.slices := rfl
@[simp] theorem State.modCam_chans (n : Nat) (g : Camera → Camera) : (s.modCam n g).chans = s.chans := rfl
@[simp] theorem State.modCam_trust (n : Nat) (g : Camera → Camera) : (s.modCam n g).trust = s.trust := rfl
@[simp] theorem State.modCam_boxes (n : Nat) (g : Camera → Camera) : (s.modCam n g).boxes = s.boxes := rfl
@[simp] theorem State.modCam_cellar (n : Nat) (g : Camera → Camera) : (s.modCam n g).cellar = s.cellar := rfl
@[simp] theorem State.modCam_transom (n : Nat) (g : Camera → Camera) : (s.modCam n g).transom = s.transom := rfl
@[simp] theorem State.modCam_pipes (n : Nat) (g : Camera → Camera) : (s.modCam n g).pipes = s.pipes := rfl
@[simp] theorem State.modCam_track (n : Nat) (g : Camera → Camera) : (s.modCam n g).track = s.track := rfl
@[simp] theorem State.modCam_calib (n : Nat) (g : Camera → Camera) : (s.modCam n g).calib = s.calib := rfl
@[simp] theorem State.modCam_blit (n : Nat) (g : Camera → Camera) : (s.modCam n g).blit = s.blit := rfl
@[simp] theorem State.modCam_dram (n : Nat) (g : Camera → Camera) : (s.modCam n g).dram = s.dram := rfl
@[simp] theorem State.modCam_ring (n : Nat) (g : Camera → Camera) : (s.modCam n g).ring = s.ring := rfl
@[simp] theorem State.modCam_sensors (n : Nat) (g : Camera → Camera) : (s.modCam n g).sensors = s.sensors := rfl
@[simp] theorem State.modCam_power (n : Nat) (g : Camera → Camera) : (s.modCam n g).power = s.power := rfl
@[simp] theorem State.modCam_mram (n : Nat) (g : Camera → Camera) : (s.modCam n g).mram = s.mram := rfl
@[simp] theorem State.modCam_audit (n : Nat) (g : Camera → Camera) : (s.modCam n g).audit = s.audit := rfl
@[simp] theorem State.modCam_timeHi (n : Nat) (g : Camera → Camera) : (s.modCam n g).timeHi = s.timeHi := rfl
@[simp] theorem State.modCam_lastRead (n : Nat) (g : Camera → Camera) : (s.modCam n g).lastRead = s.lastRead := rfl
@[simp] theorem State.modCam_mgmtIdx (n : Nat) (g : Camera → Camera) : (s.modCam n g).mgmtIdx = s.mgmtIdx := rfl
@[simp] theorem State.modCam_mgmtLatch (n : Nat) (g : Camera → Camera) : (s.modCam n g).mgmtLatch = s.mgmtLatch := rfl
@[simp] theorem State.modCam_numVfs (n : Nat) (g : Camera → Camera) : (s.modCam n g).numVfs = s.numVfs := rfl
@[simp] theorem State.modCam_vfEnable (n : Nat) (g : Camera → Camera) : (s.modCam n g).vfEnable = s.vfEnable := rfl
@[simp] theorem State.modCam_bars (n : Nat) (g : Camera → Camera) : (s.modCam n g).bars = s.bars := rfl
@[simp] theorem State.modCam_cams (n : Nat) (g : Camera → Camera) : (s.modCam n g).cams = s.cams.modify n g := rfl

/-! ### modSensor -/

@[simp] theorem State.modSensor_pending (n : Nat) (g : Sensor → Sensor) : (s.modSensor n g).pending = s.pending := rfl
@[simp] theorem State.modSensor_variant (n : Nat) (g : Sensor → Sensor) : (s.modSensor n g).variant = s.variant := rfl
@[simp] theorem State.modSensor_clk (n : Nat) (g : Sensor → Sensor) : (s.modSensor n g).clk = s.clk := rfl
@[simp] theorem State.modSensor_free (n : Nat) (g : Sensor → Sensor) : (s.modSensor n g).free = s.free := rfl
@[simp] theorem State.modSensor_shadow (n : Nat) (g : Sensor → Sensor) : (s.modSensor n g).shadow = s.shadow := rfl
@[simp] theorem State.modSensor_commits (n : Nat) (g : Sensor → Sensor) : (s.modSensor n g).commits = s.commits := rfl
@[simp] theorem State.modSensor_landings (n : Nat) (g : Sensor → Sensor) : (s.modSensor n g).landings = s.landings := rfl
@[simp] theorem State.modSensor_outA (n : Nat) (g : Sensor → Sensor) : (s.modSensor n g).outA = s.outA := rfl
@[simp] theorem State.modSensor_outB (n : Nat) (g : Sensor → Sensor) : (s.modSensor n g).outB = s.outB := rfl
@[simp] theorem State.modSensor_linkA (n : Nat) (g : Sensor → Sensor) : (s.modSensor n g).linkA = s.linkA := rfl
@[simp] theorem State.modSensor_linkB (n : Nat) (g : Sensor → Sensor) : (s.modSensor n g).linkB = s.linkB := rfl
@[simp] theorem State.modSensor_lanes (n : Nat) (g : Sensor → Sensor) : (s.modSensor n g).lanes = s.lanes := rfl
@[simp] theorem State.modSensor_slices (n : Nat) (g : Sensor → Sensor) : (s.modSensor n g).slices = s.slices := rfl
@[simp] theorem State.modSensor_chans (n : Nat) (g : Sensor → Sensor) : (s.modSensor n g).chans = s.chans := rfl
@[simp] theorem State.modSensor_trust (n : Nat) (g : Sensor → Sensor) : (s.modSensor n g).trust = s.trust := rfl
@[simp] theorem State.modSensor_boxes (n : Nat) (g : Sensor → Sensor) : (s.modSensor n g).boxes = s.boxes := rfl
@[simp] theorem State.modSensor_cellar (n : Nat) (g : Sensor → Sensor) : (s.modSensor n g).cellar = s.cellar := rfl
@[simp] theorem State.modSensor_transom (n : Nat) (g : Sensor → Sensor) : (s.modSensor n g).transom = s.transom := rfl
@[simp] theorem State.modSensor_cams (n : Nat) (g : Sensor → Sensor) : (s.modSensor n g).cams = s.cams := rfl
@[simp] theorem State.modSensor_pipes (n : Nat) (g : Sensor → Sensor) : (s.modSensor n g).pipes = s.pipes := rfl
@[simp] theorem State.modSensor_track (n : Nat) (g : Sensor → Sensor) : (s.modSensor n g).track = s.track := rfl
@[simp] theorem State.modSensor_calib (n : Nat) (g : Sensor → Sensor) : (s.modSensor n g).calib = s.calib := rfl
@[simp] theorem State.modSensor_blit (n : Nat) (g : Sensor → Sensor) : (s.modSensor n g).blit = s.blit := rfl
@[simp] theorem State.modSensor_dram (n : Nat) (g : Sensor → Sensor) : (s.modSensor n g).dram = s.dram := rfl
@[simp] theorem State.modSensor_ring (n : Nat) (g : Sensor → Sensor) : (s.modSensor n g).ring = s.ring := rfl
@[simp] theorem State.modSensor_power (n : Nat) (g : Sensor → Sensor) : (s.modSensor n g).power = s.power := rfl
@[simp] theorem State.modSensor_mram (n : Nat) (g : Sensor → Sensor) : (s.modSensor n g).mram = s.mram := rfl
@[simp] theorem State.modSensor_audit (n : Nat) (g : Sensor → Sensor) : (s.modSensor n g).audit = s.audit := rfl
@[simp] theorem State.modSensor_timeHi (n : Nat) (g : Sensor → Sensor) : (s.modSensor n g).timeHi = s.timeHi := rfl
@[simp] theorem State.modSensor_lastRead (n : Nat) (g : Sensor → Sensor) : (s.modSensor n g).lastRead = s.lastRead := rfl
@[simp] theorem State.modSensor_mgmtIdx (n : Nat) (g : Sensor → Sensor) : (s.modSensor n g).mgmtIdx = s.mgmtIdx := rfl
@[simp] theorem State.modSensor_mgmtLatch (n : Nat) (g : Sensor → Sensor) : (s.modSensor n g).mgmtLatch = s.mgmtLatch := rfl
@[simp] theorem State.modSensor_numVfs (n : Nat) (g : Sensor → Sensor) : (s.modSensor n g).numVfs = s.numVfs := rfl
@[simp] theorem State.modSensor_vfEnable (n : Nat) (g : Sensor → Sensor) : (s.modSensor n g).vfEnable = s.vfEnable := rfl
@[simp] theorem State.modSensor_bars (n : Nat) (g : Sensor → Sensor) : (s.modSensor n g).bars = s.bars := rfl
@[simp] theorem State.modSensor_sensors (n : Nat) (g : Sensor → Sensor) : (s.modSensor n g).sensors = s.sensors.modify n g := rfl

/-! ### modCellar -/

@[simp] theorem State.modCellar_pending (g : Cellar → Cellar) : (s.modCellar g).pending = s.pending := rfl
@[simp] theorem State.modCellar_variant (g : Cellar → Cellar) : (s.modCellar g).variant = s.variant := rfl
@[simp] theorem State.modCellar_clk (g : Cellar → Cellar) : (s.modCellar g).clk = s.clk := rfl
@[simp] theorem State.modCellar_free (g : Cellar → Cellar) : (s.modCellar g).free = s.free := rfl
@[simp] theorem State.modCellar_shadow (g : Cellar → Cellar) : (s.modCellar g).shadow = s.shadow := rfl
@[simp] theorem State.modCellar_commits (g : Cellar → Cellar) : (s.modCellar g).commits = s.commits := rfl
@[simp] theorem State.modCellar_landings (g : Cellar → Cellar) : (s.modCellar g).landings = s.landings := rfl
@[simp] theorem State.modCellar_outA (g : Cellar → Cellar) : (s.modCellar g).outA = s.outA := rfl
@[simp] theorem State.modCellar_outB (g : Cellar → Cellar) : (s.modCellar g).outB = s.outB := rfl
@[simp] theorem State.modCellar_linkA (g : Cellar → Cellar) : (s.modCellar g).linkA = s.linkA := rfl
@[simp] theorem State.modCellar_linkB (g : Cellar → Cellar) : (s.modCellar g).linkB = s.linkB := rfl
@[simp] theorem State.modCellar_lanes (g : Cellar → Cellar) : (s.modCellar g).lanes = s.lanes := rfl
@[simp] theorem State.modCellar_slices (g : Cellar → Cellar) : (s.modCellar g).slices = s.slices := rfl
@[simp] theorem State.modCellar_chans (g : Cellar → Cellar) : (s.modCellar g).chans = s.chans := rfl
@[simp] theorem State.modCellar_trust (g : Cellar → Cellar) : (s.modCellar g).trust = s.trust := rfl
@[simp] theorem State.modCellar_boxes (g : Cellar → Cellar) : (s.modCellar g).boxes = s.boxes := rfl
@[simp] theorem State.modCellar_transom (g : Cellar → Cellar) : (s.modCellar g).transom = s.transom := rfl
@[simp] theorem State.modCellar_cams (g : Cellar → Cellar) : (s.modCellar g).cams = s.cams := rfl
@[simp] theorem State.modCellar_pipes (g : Cellar → Cellar) : (s.modCellar g).pipes = s.pipes := rfl
@[simp] theorem State.modCellar_track (g : Cellar → Cellar) : (s.modCellar g).track = s.track := rfl
@[simp] theorem State.modCellar_calib (g : Cellar → Cellar) : (s.modCellar g).calib = s.calib := rfl
@[simp] theorem State.modCellar_blit (g : Cellar → Cellar) : (s.modCellar g).blit = s.blit := rfl
@[simp] theorem State.modCellar_dram (g : Cellar → Cellar) : (s.modCellar g).dram = s.dram := rfl
@[simp] theorem State.modCellar_ring (g : Cellar → Cellar) : (s.modCellar g).ring = s.ring := rfl
@[simp] theorem State.modCellar_sensors (g : Cellar → Cellar) : (s.modCellar g).sensors = s.sensors := rfl
@[simp] theorem State.modCellar_power (g : Cellar → Cellar) : (s.modCellar g).power = s.power := rfl
@[simp] theorem State.modCellar_mram (g : Cellar → Cellar) : (s.modCellar g).mram = s.mram := rfl
@[simp] theorem State.modCellar_audit (g : Cellar → Cellar) : (s.modCellar g).audit = s.audit := rfl
@[simp] theorem State.modCellar_timeHi (g : Cellar → Cellar) : (s.modCellar g).timeHi = s.timeHi := rfl
@[simp] theorem State.modCellar_lastRead (g : Cellar → Cellar) : (s.modCellar g).lastRead = s.lastRead := rfl
@[simp] theorem State.modCellar_mgmtIdx (g : Cellar → Cellar) : (s.modCellar g).mgmtIdx = s.mgmtIdx := rfl
@[simp] theorem State.modCellar_mgmtLatch (g : Cellar → Cellar) : (s.modCellar g).mgmtLatch = s.mgmtLatch := rfl
@[simp] theorem State.modCellar_numVfs (g : Cellar → Cellar) : (s.modCellar g).numVfs = s.numVfs := rfl
@[simp] theorem State.modCellar_vfEnable (g : Cellar → Cellar) : (s.modCellar g).vfEnable = s.vfEnable := rfl
@[simp] theorem State.modCellar_bars (g : Cellar → Cellar) : (s.modCellar g).bars = s.bars := rfl
@[simp] theorem State.modCellar_cellar (g : Cellar → Cellar) : (s.modCellar g).cellar = g s.cellar := rfl

/-! ### modTrm -/

@[simp] theorem State.modTrm_pending (g : Transom → Transom) : (s.modTrm g).pending = s.pending := rfl
@[simp] theorem State.modTrm_variant (g : Transom → Transom) : (s.modTrm g).variant = s.variant := rfl
@[simp] theorem State.modTrm_clk (g : Transom → Transom) : (s.modTrm g).clk = s.clk := rfl
@[simp] theorem State.modTrm_free (g : Transom → Transom) : (s.modTrm g).free = s.free := rfl
@[simp] theorem State.modTrm_shadow (g : Transom → Transom) : (s.modTrm g).shadow = s.shadow := rfl
@[simp] theorem State.modTrm_commits (g : Transom → Transom) : (s.modTrm g).commits = s.commits := rfl
@[simp] theorem State.modTrm_landings (g : Transom → Transom) : (s.modTrm g).landings = s.landings := rfl
@[simp] theorem State.modTrm_outA (g : Transom → Transom) : (s.modTrm g).outA = s.outA := rfl
@[simp] theorem State.modTrm_outB (g : Transom → Transom) : (s.modTrm g).outB = s.outB := rfl
@[simp] theorem State.modTrm_linkA (g : Transom → Transom) : (s.modTrm g).linkA = s.linkA := rfl
@[simp] theorem State.modTrm_linkB (g : Transom → Transom) : (s.modTrm g).linkB = s.linkB := rfl
@[simp] theorem State.modTrm_lanes (g : Transom → Transom) : (s.modTrm g).lanes = s.lanes := rfl
@[simp] theorem State.modTrm_slices (g : Transom → Transom) : (s.modTrm g).slices = s.slices := rfl
@[simp] theorem State.modTrm_chans (g : Transom → Transom) : (s.modTrm g).chans = s.chans := rfl
@[simp] theorem State.modTrm_trust (g : Transom → Transom) : (s.modTrm g).trust = s.trust := rfl
@[simp] theorem State.modTrm_boxes (g : Transom → Transom) : (s.modTrm g).boxes = s.boxes := rfl
@[simp] theorem State.modTrm_cellar (g : Transom → Transom) : (s.modTrm g).cellar = s.cellar := rfl
@[simp] theorem State.modTrm_cams (g : Transom → Transom) : (s.modTrm g).cams = s.cams := rfl
@[simp] theorem State.modTrm_pipes (g : Transom → Transom) : (s.modTrm g).pipes = s.pipes := rfl
@[simp] theorem State.modTrm_track (g : Transom → Transom) : (s.modTrm g).track = s.track := rfl
@[simp] theorem State.modTrm_calib (g : Transom → Transom) : (s.modTrm g).calib = s.calib := rfl
@[simp] theorem State.modTrm_blit (g : Transom → Transom) : (s.modTrm g).blit = s.blit := rfl
@[simp] theorem State.modTrm_dram (g : Transom → Transom) : (s.modTrm g).dram = s.dram := rfl
@[simp] theorem State.modTrm_ring (g : Transom → Transom) : (s.modTrm g).ring = s.ring := rfl
@[simp] theorem State.modTrm_sensors (g : Transom → Transom) : (s.modTrm g).sensors = s.sensors := rfl
@[simp] theorem State.modTrm_power (g : Transom → Transom) : (s.modTrm g).power = s.power := rfl
@[simp] theorem State.modTrm_mram (g : Transom → Transom) : (s.modTrm g).mram = s.mram := rfl
@[simp] theorem State.modTrm_audit (g : Transom → Transom) : (s.modTrm g).audit = s.audit := rfl
@[simp] theorem State.modTrm_timeHi (g : Transom → Transom) : (s.modTrm g).timeHi = s.timeHi := rfl
@[simp] theorem State.modTrm_lastRead (g : Transom → Transom) : (s.modTrm g).lastRead = s.lastRead := rfl
@[simp] theorem State.modTrm_mgmtIdx (g : Transom → Transom) : (s.modTrm g).mgmtIdx = s.mgmtIdx := rfl
@[simp] theorem State.modTrm_mgmtLatch (g : Transom → Transom) : (s.modTrm g).mgmtLatch = s.mgmtLatch := rfl
@[simp] theorem State.modTrm_numVfs (g : Transom → Transom) : (s.modTrm g).numVfs = s.numVfs := rfl
@[simp] theorem State.modTrm_vfEnable (g : Transom → Transom) : (s.modTrm g).vfEnable = s.vfEnable := rfl
@[simp] theorem State.modTrm_bars (g : Transom → Transom) : (s.modTrm g).bars = s.bars := rfl
@[simp] theorem State.modTrm_transom (g : Transom → Transom) : (s.modTrm g).transom = g s.transom := rfl

/-! ### modTrust -/

@[simp] theorem State.modTrust_pending (g : Trust → Trust) : (s.modTrust g).pending = s.pending := rfl
@[simp] theorem State.modTrust_variant (g : Trust → Trust) : (s.modTrust g).variant = s.variant := rfl
@[simp] theorem State.modTrust_clk (g : Trust → Trust) : (s.modTrust g).clk = s.clk := rfl
@[simp] theorem State.modTrust_free (g : Trust → Trust) : (s.modTrust g).free = s.free := rfl
@[simp] theorem State.modTrust_shadow (g : Trust → Trust) : (s.modTrust g).shadow = s.shadow := rfl
@[simp] theorem State.modTrust_commits (g : Trust → Trust) : (s.modTrust g).commits = s.commits := rfl
@[simp] theorem State.modTrust_landings (g : Trust → Trust) : (s.modTrust g).landings = s.landings := rfl
@[simp] theorem State.modTrust_outA (g : Trust → Trust) : (s.modTrust g).outA = s.outA := rfl
@[simp] theorem State.modTrust_outB (g : Trust → Trust) : (s.modTrust g).outB = s.outB := rfl
@[simp] theorem State.modTrust_linkA (g : Trust → Trust) : (s.modTrust g).linkA = s.linkA := rfl
@[simp] theorem State.modTrust_linkB (g : Trust → Trust) : (s.modTrust g).linkB = s.linkB := rfl
@[simp] theorem State.modTrust_lanes (g : Trust → Trust) : (s.modTrust g).lanes = s.lanes := rfl
@[simp] theorem State.modTrust_slices (g : Trust → Trust) : (s.modTrust g).slices = s.slices := rfl
@[simp] theorem State.modTrust_chans (g : Trust → Trust) : (s.modTrust g).chans = s.chans := rfl
@[simp] theorem State.modTrust_boxes (g : Trust → Trust) : (s.modTrust g).boxes = s.boxes := rfl
@[simp] theorem State.modTrust_cellar (g : Trust → Trust) : (s.modTrust g).cellar = s.cellar := rfl
@[simp] theorem State.modTrust_transom (g : Trust → Trust) : (s.modTrust g).transom = s.transom := rfl
@[simp] theorem State.modTrust_cams (g : Trust → Trust) : (s.modTrust g).cams = s.cams := rfl
@[simp] theorem State.modTrust_pipes (g : Trust → Trust) : (s.modTrust g).pipes = s.pipes := rfl
@[simp] theorem State.modTrust_track (g : Trust → Trust) : (s.modTrust g).track = s.track := rfl
@[simp] theorem State.modTrust_calib (g : Trust → Trust) : (s.modTrust g).calib = s.calib := rfl
@[simp] theorem State.modTrust_blit (g : Trust → Trust) : (s.modTrust g).blit = s.blit := rfl
@[simp] theorem State.modTrust_dram (g : Trust → Trust) : (s.modTrust g).dram = s.dram := rfl
@[simp] theorem State.modTrust_ring (g : Trust → Trust) : (s.modTrust g).ring = s.ring := rfl
@[simp] theorem State.modTrust_sensors (g : Trust → Trust) : (s.modTrust g).sensors = s.sensors := rfl
@[simp] theorem State.modTrust_power (g : Trust → Trust) : (s.modTrust g).power = s.power := rfl
@[simp] theorem State.modTrust_mram (g : Trust → Trust) : (s.modTrust g).mram = s.mram := rfl
@[simp] theorem State.modTrust_audit (g : Trust → Trust) : (s.modTrust g).audit = s.audit := rfl
@[simp] theorem State.modTrust_timeHi (g : Trust → Trust) : (s.modTrust g).timeHi = s.timeHi := rfl
@[simp] theorem State.modTrust_lastRead (g : Trust → Trust) : (s.modTrust g).lastRead = s.lastRead := rfl
@[simp] theorem State.modTrust_mgmtIdx (g : Trust → Trust) : (s.modTrust g).mgmtIdx = s.mgmtIdx := rfl
@[simp] theorem State.modTrust_mgmtLatch (g : Trust → Trust) : (s.modTrust g).mgmtLatch = s.mgmtLatch := rfl
@[simp] theorem State.modTrust_numVfs (g : Trust → Trust) : (s.modTrust g).numVfs = s.numVfs := rfl
@[simp] theorem State.modTrust_vfEnable (g : Trust → Trust) : (s.modTrust g).vfEnable = s.vfEnable := rfl
@[simp] theorem State.modTrust_bars (g : Trust → Trust) : (s.modTrust g).bars = s.bars := rfl
@[simp] theorem State.modTrust_trust (g : Trust → Trust) : (s.modTrust g).trust = g s.trust := rfl

/-! ### modPower -/

@[simp] theorem State.modPower_pending (g : Power → Power) : (s.modPower g).pending = s.pending := rfl
@[simp] theorem State.modPower_variant (g : Power → Power) : (s.modPower g).variant = s.variant := rfl
@[simp] theorem State.modPower_clk (g : Power → Power) : (s.modPower g).clk = s.clk := rfl
@[simp] theorem State.modPower_free (g : Power → Power) : (s.modPower g).free = s.free := rfl
@[simp] theorem State.modPower_shadow (g : Power → Power) : (s.modPower g).shadow = s.shadow := rfl
@[simp] theorem State.modPower_commits (g : Power → Power) : (s.modPower g).commits = s.commits := rfl
@[simp] theorem State.modPower_landings (g : Power → Power) : (s.modPower g).landings = s.landings := rfl
@[simp] theorem State.modPower_outA (g : Power → Power) : (s.modPower g).outA = s.outA := rfl
@[simp] theorem State.modPower_outB (g : Power → Power) : (s.modPower g).outB = s.outB := rfl
@[simp] theorem State.modPower_linkA (g : Power → Power) : (s.modPower g).linkA = s.linkA := rfl
@[simp] theorem State.modPower_linkB (g : Power → Power) : (s.modPower g).linkB = s.linkB := rfl
@[simp] theorem State.modPower_lanes (g : Power → Power) : (s.modPower g).lanes = s.lanes := rfl
@[simp] theorem State.modPower_slices (g : Power → Power) : (s.modPower g).slices = s.slices := rfl
@[simp] theorem State.modPower_chans (g : Power → Power) : (s.modPower g).chans = s.chans := rfl
@[simp] theorem State.modPower_trust (g : Power → Power) : (s.modPower g).trust = s.trust := rfl
@[simp] theorem State.modPower_boxes (g : Power → Power) : (s.modPower g).boxes = s.boxes := rfl
@[simp] theorem State.modPower_cellar (g : Power → Power) : (s.modPower g).cellar = s.cellar := rfl
@[simp] theorem State.modPower_transom (g : Power → Power) : (s.modPower g).transom = s.transom := rfl
@[simp] theorem State.modPower_cams (g : Power → Power) : (s.modPower g).cams = s.cams := rfl
@[simp] theorem State.modPower_pipes (g : Power → Power) : (s.modPower g).pipes = s.pipes := rfl
@[simp] theorem State.modPower_track (g : Power → Power) : (s.modPower g).track = s.track := rfl
@[simp] theorem State.modPower_calib (g : Power → Power) : (s.modPower g).calib = s.calib := rfl
@[simp] theorem State.modPower_blit (g : Power → Power) : (s.modPower g).blit = s.blit := rfl
@[simp] theorem State.modPower_dram (g : Power → Power) : (s.modPower g).dram = s.dram := rfl
@[simp] theorem State.modPower_ring (g : Power → Power) : (s.modPower g).ring = s.ring := rfl
@[simp] theorem State.modPower_sensors (g : Power → Power) : (s.modPower g).sensors = s.sensors := rfl
@[simp] theorem State.modPower_mram (g : Power → Power) : (s.modPower g).mram = s.mram := rfl
@[simp] theorem State.modPower_audit (g : Power → Power) : (s.modPower g).audit = s.audit := rfl
@[simp] theorem State.modPower_timeHi (g : Power → Power) : (s.modPower g).timeHi = s.timeHi := rfl
@[simp] theorem State.modPower_lastRead (g : Power → Power) : (s.modPower g).lastRead = s.lastRead := rfl
@[simp] theorem State.modPower_mgmtIdx (g : Power → Power) : (s.modPower g).mgmtIdx = s.mgmtIdx := rfl
@[simp] theorem State.modPower_mgmtLatch (g : Power → Power) : (s.modPower g).mgmtLatch = s.mgmtLatch := rfl
@[simp] theorem State.modPower_numVfs (g : Power → Power) : (s.modPower g).numVfs = s.numVfs := rfl
@[simp] theorem State.modPower_vfEnable (g : Power → Power) : (s.modPower g).vfEnable = s.vfEnable := rfl
@[simp] theorem State.modPower_bars (g : Power → Power) : (s.modPower g).bars = s.bars := rfl
@[simp] theorem State.modPower_power (g : Power → Power) : (s.modPower g).power = g s.power := rfl

/-! ### modAudit -/

@[simp] theorem State.modAudit_pending (g : Audit → Audit) : (s.modAudit g).pending = s.pending := rfl
@[simp] theorem State.modAudit_variant (g : Audit → Audit) : (s.modAudit g).variant = s.variant := rfl
@[simp] theorem State.modAudit_clk (g : Audit → Audit) : (s.modAudit g).clk = s.clk := rfl
@[simp] theorem State.modAudit_free (g : Audit → Audit) : (s.modAudit g).free = s.free := rfl
@[simp] theorem State.modAudit_shadow (g : Audit → Audit) : (s.modAudit g).shadow = s.shadow := rfl
@[simp] theorem State.modAudit_commits (g : Audit → Audit) : (s.modAudit g).commits = s.commits := rfl
@[simp] theorem State.modAudit_landings (g : Audit → Audit) : (s.modAudit g).landings = s.landings := rfl
@[simp] theorem State.modAudit_outA (g : Audit → Audit) : (s.modAudit g).outA = s.outA := rfl
@[simp] theorem State.modAudit_outB (g : Audit → Audit) : (s.modAudit g).outB = s.outB := rfl
@[simp] theorem State.modAudit_linkA (g : Audit → Audit) : (s.modAudit g).linkA = s.linkA := rfl
@[simp] theorem State.modAudit_linkB (g : Audit → Audit) : (s.modAudit g).linkB = s.linkB := rfl
@[simp] theorem State.modAudit_lanes (g : Audit → Audit) : (s.modAudit g).lanes = s.lanes := rfl
@[simp] theorem State.modAudit_slices (g : Audit → Audit) : (s.modAudit g).slices = s.slices := rfl
@[simp] theorem State.modAudit_chans (g : Audit → Audit) : (s.modAudit g).chans = s.chans := rfl
@[simp] theorem State.modAudit_trust (g : Audit → Audit) : (s.modAudit g).trust = s.trust := rfl
@[simp] theorem State.modAudit_boxes (g : Audit → Audit) : (s.modAudit g).boxes = s.boxes := rfl
@[simp] theorem State.modAudit_cellar (g : Audit → Audit) : (s.modAudit g).cellar = s.cellar := rfl
@[simp] theorem State.modAudit_transom (g : Audit → Audit) : (s.modAudit g).transom = s.transom := rfl
@[simp] theorem State.modAudit_cams (g : Audit → Audit) : (s.modAudit g).cams = s.cams := rfl
@[simp] theorem State.modAudit_pipes (g : Audit → Audit) : (s.modAudit g).pipes = s.pipes := rfl
@[simp] theorem State.modAudit_track (g : Audit → Audit) : (s.modAudit g).track = s.track := rfl
@[simp] theorem State.modAudit_calib (g : Audit → Audit) : (s.modAudit g).calib = s.calib := rfl
@[simp] theorem State.modAudit_blit (g : Audit → Audit) : (s.modAudit g).blit = s.blit := rfl
@[simp] theorem State.modAudit_dram (g : Audit → Audit) : (s.modAudit g).dram = s.dram := rfl
@[simp] theorem State.modAudit_ring (g : Audit → Audit) : (s.modAudit g).ring = s.ring := rfl
@[simp] theorem State.modAudit_sensors (g : Audit → Audit) : (s.modAudit g).sensors = s.sensors := rfl
@[simp] theorem State.modAudit_power (g : Audit → Audit) : (s.modAudit g).power = s.power := rfl
@[simp] theorem State.modAudit_mram (g : Audit → Audit) : (s.modAudit g).mram = s.mram := rfl
@[simp] theorem State.modAudit_timeHi (g : Audit → Audit) : (s.modAudit g).timeHi = s.timeHi := rfl
@[simp] theorem State.modAudit_lastRead (g : Audit → Audit) : (s.modAudit g).lastRead = s.lastRead := rfl
@[simp] theorem State.modAudit_mgmtIdx (g : Audit → Audit) : (s.modAudit g).mgmtIdx = s.mgmtIdx := rfl
@[simp] theorem State.modAudit_mgmtLatch (g : Audit → Audit) : (s.modAudit g).mgmtLatch = s.mgmtLatch := rfl
@[simp] theorem State.modAudit_numVfs (g : Audit → Audit) : (s.modAudit g).numVfs = s.numVfs := rfl
@[simp] theorem State.modAudit_vfEnable (g : Audit → Audit) : (s.modAudit g).vfEnable = s.vfEnable := rfl
@[simp] theorem State.modAudit_bars (g : Audit → Audit) : (s.modAudit g).bars = s.bars := rfl
@[simp] theorem State.modAudit_audit (g : Audit → Audit) : (s.modAudit g).audit = g s.audit := rfl

/-! ### modBlit -/

@[simp] theorem State.modBlit_pending (g : Blitter → Blitter) : (s.modBlit g).pending = s.pending := rfl
@[simp] theorem State.modBlit_variant (g : Blitter → Blitter) : (s.modBlit g).variant = s.variant := rfl
@[simp] theorem State.modBlit_clk (g : Blitter → Blitter) : (s.modBlit g).clk = s.clk := rfl
@[simp] theorem State.modBlit_free (g : Blitter → Blitter) : (s.modBlit g).free = s.free := rfl
@[simp] theorem State.modBlit_shadow (g : Blitter → Blitter) : (s.modBlit g).shadow = s.shadow := rfl
@[simp] theorem State.modBlit_commits (g : Blitter → Blitter) : (s.modBlit g).commits = s.commits := rfl
@[simp] theorem State.modBlit_landings (g : Blitter → Blitter) : (s.modBlit g).landings = s.landings := rfl
@[simp] theorem State.modBlit_outA (g : Blitter → Blitter) : (s.modBlit g).outA = s.outA := rfl
@[simp] theorem State.modBlit_outB (g : Blitter → Blitter) : (s.modBlit g).outB = s.outB := rfl
@[simp] theorem State.modBlit_linkA (g : Blitter → Blitter) : (s.modBlit g).linkA = s.linkA := rfl
@[simp] theorem State.modBlit_linkB (g : Blitter → Blitter) : (s.modBlit g).linkB = s.linkB := rfl
@[simp] theorem State.modBlit_lanes (g : Blitter → Blitter) : (s.modBlit g).lanes = s.lanes := rfl
@[simp] theorem State.modBlit_slices (g : Blitter → Blitter) : (s.modBlit g).slices = s.slices := rfl
@[simp] theorem State.modBlit_chans (g : Blitter → Blitter) : (s.modBlit g).chans = s.chans := rfl
@[simp] theorem State.modBlit_trust (g : Blitter → Blitter) : (s.modBlit g).trust = s.trust := rfl
@[simp] theorem State.modBlit_boxes (g : Blitter → Blitter) : (s.modBlit g).boxes = s.boxes := rfl
@[simp] theorem State.modBlit_cellar (g : Blitter → Blitter) : (s.modBlit g).cellar = s.cellar := rfl
@[simp] theorem State.modBlit_transom (g : Blitter → Blitter) : (s.modBlit g).transom = s.transom := rfl
@[simp] theorem State.modBlit_cams (g : Blitter → Blitter) : (s.modBlit g).cams = s.cams := rfl
@[simp] theorem State.modBlit_pipes (g : Blitter → Blitter) : (s.modBlit g).pipes = s.pipes := rfl
@[simp] theorem State.modBlit_track (g : Blitter → Blitter) : (s.modBlit g).track = s.track := rfl
@[simp] theorem State.modBlit_calib (g : Blitter → Blitter) : (s.modBlit g).calib = s.calib := rfl
@[simp] theorem State.modBlit_dram (g : Blitter → Blitter) : (s.modBlit g).dram = s.dram := rfl
@[simp] theorem State.modBlit_ring (g : Blitter → Blitter) : (s.modBlit g).ring = s.ring := rfl
@[simp] theorem State.modBlit_sensors (g : Blitter → Blitter) : (s.modBlit g).sensors = s.sensors := rfl
@[simp] theorem State.modBlit_power (g : Blitter → Blitter) : (s.modBlit g).power = s.power := rfl
@[simp] theorem State.modBlit_mram (g : Blitter → Blitter) : (s.modBlit g).mram = s.mram := rfl
@[simp] theorem State.modBlit_audit (g : Blitter → Blitter) : (s.modBlit g).audit = s.audit := rfl
@[simp] theorem State.modBlit_timeHi (g : Blitter → Blitter) : (s.modBlit g).timeHi = s.timeHi := rfl
@[simp] theorem State.modBlit_lastRead (g : Blitter → Blitter) : (s.modBlit g).lastRead = s.lastRead := rfl
@[simp] theorem State.modBlit_mgmtIdx (g : Blitter → Blitter) : (s.modBlit g).mgmtIdx = s.mgmtIdx := rfl
@[simp] theorem State.modBlit_mgmtLatch (g : Blitter → Blitter) : (s.modBlit g).mgmtLatch = s.mgmtLatch := rfl
@[simp] theorem State.modBlit_numVfs (g : Blitter → Blitter) : (s.modBlit g).numVfs = s.numVfs := rfl
@[simp] theorem State.modBlit_vfEnable (g : Blitter → Blitter) : (s.modBlit g).vfEnable = s.vfEnable := rfl
@[simp] theorem State.modBlit_bars (g : Blitter → Blitter) : (s.modBlit g).bars = s.bars := rfl
@[simp] theorem State.modBlit_blit (g : Blitter → Blitter) : (s.modBlit g).blit = g s.blit := rfl

/-! ### modDram -/

@[simp] theorem State.modDram_pending (g : Dram → Dram) : (s.modDram g).pending = s.pending := rfl
@[simp] theorem State.modDram_variant (g : Dram → Dram) : (s.modDram g).variant = s.variant := rfl
@[simp] theorem State.modDram_clk (g : Dram → Dram) : (s.modDram g).clk = s.clk := rfl
@[simp] theorem State.modDram_free (g : Dram → Dram) : (s.modDram g).free = s.free := rfl
@[simp] theorem State.modDram_shadow (g : Dram → Dram) : (s.modDram g).shadow = s.shadow := rfl
@[simp] theorem State.modDram_commits (g : Dram → Dram) : (s.modDram g).commits = s.commits := rfl
@[simp] theorem State.modDram_landings (g : Dram → Dram) : (s.modDram g).landings = s.landings := rfl
@[simp] theorem State.modDram_outA (g : Dram → Dram) : (s.modDram g).outA = s.outA := rfl
@[simp] theorem State.modDram_outB (g : Dram → Dram) : (s.modDram g).outB = s.outB := rfl
@[simp] theorem State.modDram_linkA (g : Dram → Dram) : (s.modDram g).linkA = s.linkA := rfl
@[simp] theorem State.modDram_linkB (g : Dram → Dram) : (s.modDram g).linkB = s.linkB := rfl
@[simp] theorem State.modDram_lanes (g : Dram → Dram) : (s.modDram g).lanes = s.lanes := rfl
@[simp] theorem State.modDram_slices (g : Dram → Dram) : (s.modDram g).slices = s.slices := rfl
@[simp] theorem State.modDram_chans (g : Dram → Dram) : (s.modDram g).chans = s.chans := rfl
@[simp] theorem State.modDram_trust (g : Dram → Dram) : (s.modDram g).trust = s.trust := rfl
@[simp] theorem State.modDram_boxes (g : Dram → Dram) : (s.modDram g).boxes = s.boxes := rfl
@[simp] theorem State.modDram_cellar (g : Dram → Dram) : (s.modDram g).cellar = s.cellar := rfl
@[simp] theorem State.modDram_transom (g : Dram → Dram) : (s.modDram g).transom = s.transom := rfl
@[simp] theorem State.modDram_cams (g : Dram → Dram) : (s.modDram g).cams = s.cams := rfl
@[simp] theorem State.modDram_pipes (g : Dram → Dram) : (s.modDram g).pipes = s.pipes := rfl
@[simp] theorem State.modDram_track (g : Dram → Dram) : (s.modDram g).track = s.track := rfl
@[simp] theorem State.modDram_calib (g : Dram → Dram) : (s.modDram g).calib = s.calib := rfl
@[simp] theorem State.modDram_blit (g : Dram → Dram) : (s.modDram g).blit = s.blit := rfl
@[simp] theorem State.modDram_ring (g : Dram → Dram) : (s.modDram g).ring = s.ring := rfl
@[simp] theorem State.modDram_sensors (g : Dram → Dram) : (s.modDram g).sensors = s.sensors := rfl
@[simp] theorem State.modDram_power (g : Dram → Dram) : (s.modDram g).power = s.power := rfl
@[simp] theorem State.modDram_mram (g : Dram → Dram) : (s.modDram g).mram = s.mram := rfl
@[simp] theorem State.modDram_audit (g : Dram → Dram) : (s.modDram g).audit = s.audit := rfl
@[simp] theorem State.modDram_timeHi (g : Dram → Dram) : (s.modDram g).timeHi = s.timeHi := rfl
@[simp] theorem State.modDram_lastRead (g : Dram → Dram) : (s.modDram g).lastRead = s.lastRead := rfl
@[simp] theorem State.modDram_mgmtIdx (g : Dram → Dram) : (s.modDram g).mgmtIdx = s.mgmtIdx := rfl
@[simp] theorem State.modDram_mgmtLatch (g : Dram → Dram) : (s.modDram g).mgmtLatch = s.mgmtLatch := rfl
@[simp] theorem State.modDram_numVfs (g : Dram → Dram) : (s.modDram g).numVfs = s.numVfs := rfl
@[simp] theorem State.modDram_vfEnable (g : Dram → Dram) : (s.modDram g).vfEnable = s.vfEnable := rfl
@[simp] theorem State.modDram_bars (g : Dram → Dram) : (s.modDram g).bars = s.bars := rfl
@[simp] theorem State.modDram_dram (g : Dram → Dram) : (s.modDram g).dram = g s.dram := rfl

/-! ### modRing -/

@[simp] theorem State.modRing_pending (g : Ring → Ring) : (s.modRing g).pending = s.pending := rfl
@[simp] theorem State.modRing_variant (g : Ring → Ring) : (s.modRing g).variant = s.variant := rfl
@[simp] theorem State.modRing_clk (g : Ring → Ring) : (s.modRing g).clk = s.clk := rfl
@[simp] theorem State.modRing_free (g : Ring → Ring) : (s.modRing g).free = s.free := rfl
@[simp] theorem State.modRing_shadow (g : Ring → Ring) : (s.modRing g).shadow = s.shadow := rfl
@[simp] theorem State.modRing_commits (g : Ring → Ring) : (s.modRing g).commits = s.commits := rfl
@[simp] theorem State.modRing_landings (g : Ring → Ring) : (s.modRing g).landings = s.landings := rfl
@[simp] theorem State.modRing_outA (g : Ring → Ring) : (s.modRing g).outA = s.outA := rfl
@[simp] theorem State.modRing_outB (g : Ring → Ring) : (s.modRing g).outB = s.outB := rfl
@[simp] theorem State.modRing_linkA (g : Ring → Ring) : (s.modRing g).linkA = s.linkA := rfl
@[simp] theorem State.modRing_linkB (g : Ring → Ring) : (s.modRing g).linkB = s.linkB := rfl
@[simp] theorem State.modRing_lanes (g : Ring → Ring) : (s.modRing g).lanes = s.lanes := rfl
@[simp] theorem State.modRing_slices (g : Ring → Ring) : (s.modRing g).slices = s.slices := rfl
@[simp] theorem State.modRing_chans (g : Ring → Ring) : (s.modRing g).chans = s.chans := rfl
@[simp] theorem State.modRing_trust (g : Ring → Ring) : (s.modRing g).trust = s.trust := rfl
@[simp] theorem State.modRing_boxes (g : Ring → Ring) : (s.modRing g).boxes = s.boxes := rfl
@[simp] theorem State.modRing_cellar (g : Ring → Ring) : (s.modRing g).cellar = s.cellar := rfl
@[simp] theorem State.modRing_transom (g : Ring → Ring) : (s.modRing g).transom = s.transom := rfl
@[simp] theorem State.modRing_cams (g : Ring → Ring) : (s.modRing g).cams = s.cams := rfl
@[simp] theorem State.modRing_pipes (g : Ring → Ring) : (s.modRing g).pipes = s.pipes := rfl
@[simp] theorem State.modRing_track (g : Ring → Ring) : (s.modRing g).track = s.track := rfl
@[simp] theorem State.modRing_calib (g : Ring → Ring) : (s.modRing g).calib = s.calib := rfl
@[simp] theorem State.modRing_blit (g : Ring → Ring) : (s.modRing g).blit = s.blit := rfl
@[simp] theorem State.modRing_dram (g : Ring → Ring) : (s.modRing g).dram = s.dram := rfl
@[simp] theorem State.modRing_sensors (g : Ring → Ring) : (s.modRing g).sensors = s.sensors := rfl
@[simp] theorem State.modRing_power (g : Ring → Ring) : (s.modRing g).power = s.power := rfl
@[simp] theorem State.modRing_mram (g : Ring → Ring) : (s.modRing g).mram = s.mram := rfl
@[simp] theorem State.modRing_audit (g : Ring → Ring) : (s.modRing g).audit = s.audit := rfl
@[simp] theorem State.modRing_timeHi (g : Ring → Ring) : (s.modRing g).timeHi = s.timeHi := rfl
@[simp] theorem State.modRing_lastRead (g : Ring → Ring) : (s.modRing g).lastRead = s.lastRead := rfl
@[simp] theorem State.modRing_mgmtIdx (g : Ring → Ring) : (s.modRing g).mgmtIdx = s.mgmtIdx := rfl
@[simp] theorem State.modRing_mgmtLatch (g : Ring → Ring) : (s.modRing g).mgmtLatch = s.mgmtLatch := rfl
@[simp] theorem State.modRing_numVfs (g : Ring → Ring) : (s.modRing g).numVfs = s.numVfs := rfl
@[simp] theorem State.modRing_vfEnable (g : Ring → Ring) : (s.modRing g).vfEnable = s.vfEnable := rfl
@[simp] theorem State.modRing_bars (g : Ring → Ring) : (s.modRing g).bars = s.bars := rfl
@[simp] theorem State.modRing_ring (g : Ring → Ring) : (s.modRing g).ring = g s.ring := rfl

/-! ### modDoor -/

@[simp] theorem State.modDoor_pending (o : OutId) (g : Door → Door) : (s.modDoor o g).pending = s.pending := rfl
@[simp] theorem State.modDoor_variant (o : OutId) (g : Door → Door) : (s.modDoor o g).variant = s.variant := rfl
@[simp] theorem State.modDoor_clk (o : OutId) (g : Door → Door) : (s.modDoor o g).clk = s.clk := rfl
@[simp] theorem State.modDoor_free (o : OutId) (g : Door → Door) : (s.modDoor o g).free = s.free := rfl
@[simp] theorem State.modDoor_shadow (o : OutId) (g : Door → Door) : (s.modDoor o g).shadow = s.shadow := rfl
@[simp] theorem State.modDoor_landings (o : OutId) (g : Door → Door) : (s.modDoor o g).landings = s.landings := rfl
@[simp] theorem State.modDoor_outA (o : OutId) (g : Door → Door) : (s.modDoor o g).outA = s.outA := rfl
@[simp] theorem State.modDoor_outB (o : OutId) (g : Door → Door) : (s.modDoor o g).outB = s.outB := rfl
@[simp] theorem State.modDoor_linkA (o : OutId) (g : Door → Door) : (s.modDoor o g).linkA = s.linkA := rfl
@[simp] theorem State.modDoor_linkB (o : OutId) (g : Door → Door) : (s.modDoor o g).linkB = s.linkB := rfl
@[simp] theorem State.modDoor_lanes (o : OutId) (g : Door → Door) : (s.modDoor o g).lanes = s.lanes := rfl
@[simp] theorem State.modDoor_slices (o : OutId) (g : Door → Door) : (s.modDoor o g).slices = s.slices := rfl
@[simp] theorem State.modDoor_chans (o : OutId) (g : Door → Door) : (s.modDoor o g).chans = s.chans := rfl
@[simp] theorem State.modDoor_trust (o : OutId) (g : Door → Door) : (s.modDoor o g).trust = s.trust := rfl
@[simp] theorem State.modDoor_boxes (o : OutId) (g : Door → Door) : (s.modDoor o g).boxes = s.boxes := rfl
@[simp] theorem State.modDoor_cellar (o : OutId) (g : Door → Door) : (s.modDoor o g).cellar = s.cellar := rfl
@[simp] theorem State.modDoor_transom (o : OutId) (g : Door → Door) : (s.modDoor o g).transom = s.transom := rfl
@[simp] theorem State.modDoor_cams (o : OutId) (g : Door → Door) : (s.modDoor o g).cams = s.cams := rfl
@[simp] theorem State.modDoor_pipes (o : OutId) (g : Door → Door) : (s.modDoor o g).pipes = s.pipes := rfl
@[simp] theorem State.modDoor_track (o : OutId) (g : Door → Door) : (s.modDoor o g).track = s.track := rfl
@[simp] theorem State.modDoor_calib (o : OutId) (g : Door → Door) : (s.modDoor o g).calib = s.calib := rfl
@[simp] theorem State.modDoor_blit (o : OutId) (g : Door → Door) : (s.modDoor o g).blit = s.blit := rfl
@[simp] theorem State.modDoor_dram (o : OutId) (g : Door → Door) : (s.modDoor o g).dram = s.dram := rfl
@[simp] theorem State.modDoor_ring (o : OutId) (g : Door → Door) : (s.modDoor o g).ring = s.ring := rfl
@[simp] theorem State.modDoor_sensors (o : OutId) (g : Door → Door) : (s.modDoor o g).sensors = s.sensors := rfl
@[simp] theorem State.modDoor_power (o : OutId) (g : Door → Door) : (s.modDoor o g).power = s.power := rfl
@[simp] theorem State.modDoor_mram (o : OutId) (g : Door → Door) : (s.modDoor o g).mram = s.mram := rfl
@[simp] theorem State.modDoor_audit (o : OutId) (g : Door → Door) : (s.modDoor o g).audit = s.audit := rfl
@[simp] theorem State.modDoor_timeHi (o : OutId) (g : Door → Door) : (s.modDoor o g).timeHi = s.timeHi := rfl
@[simp] theorem State.modDoor_lastRead (o : OutId) (g : Door → Door) : (s.modDoor o g).lastRead = s.lastRead := rfl
@[simp] theorem State.modDoor_mgmtIdx (o : OutId) (g : Door → Door) : (s.modDoor o g).mgmtIdx = s.mgmtIdx := rfl
@[simp] theorem State.modDoor_mgmtLatch (o : OutId) (g : Door → Door) : (s.modDoor o g).mgmtLatch = s.mgmtLatch := rfl
@[simp] theorem State.modDoor_numVfs (o : OutId) (g : Door → Door) : (s.modDoor o g).numVfs = s.numVfs := rfl
@[simp] theorem State.modDoor_vfEnable (o : OutId) (g : Door → Door) : (s.modDoor o g).vfEnable = s.vfEnable := rfl
@[simp] theorem State.modDoor_bars (o : OutId) (g : Door → Door) : (s.modDoor o g).bars = s.bars := rfl

/-! ### modOut -/

@[simp] theorem State.modOut_pending (o : OutId) (g : Output → Output) : (s.modOut o g).pending = s.pending := by cases o <;> rfl
@[simp] theorem State.modOut_variant (o : OutId) (g : Output → Output) : (s.modOut o g).variant = s.variant := by cases o <;> rfl
@[simp] theorem State.modOut_clk (o : OutId) (g : Output → Output) : (s.modOut o g).clk = s.clk := by cases o <;> rfl
@[simp] theorem State.modOut_free (o : OutId) (g : Output → Output) : (s.modOut o g).free = s.free := by cases o <;> rfl
@[simp] theorem State.modOut_shadow (o : OutId) (g : Output → Output) : (s.modOut o g).shadow = s.shadow := by cases o <;> rfl
@[simp] theorem State.modOut_commits (o : OutId) (g : Output → Output) : (s.modOut o g).commits = s.commits := by cases o <;> rfl
@[simp] theorem State.modOut_landings (o : OutId) (g : Output → Output) : (s.modOut o g).landings = s.landings := by cases o <;> rfl
@[simp] theorem State.modOut_linkA (o : OutId) (g : Output → Output) : (s.modOut o g).linkA = s.linkA := by cases o <;> rfl
@[simp] theorem State.modOut_linkB (o : OutId) (g : Output → Output) : (s.modOut o g).linkB = s.linkB := by cases o <;> rfl
@[simp] theorem State.modOut_lanes (o : OutId) (g : Output → Output) : (s.modOut o g).lanes = s.lanes := by cases o <;> rfl
@[simp] theorem State.modOut_slices (o : OutId) (g : Output → Output) : (s.modOut o g).slices = s.slices := by cases o <;> rfl
@[simp] theorem State.modOut_chans (o : OutId) (g : Output → Output) : (s.modOut o g).chans = s.chans := by cases o <;> rfl
@[simp] theorem State.modOut_trust (o : OutId) (g : Output → Output) : (s.modOut o g).trust = s.trust := by cases o <;> rfl
@[simp] theorem State.modOut_boxes (o : OutId) (g : Output → Output) : (s.modOut o g).boxes = s.boxes := by cases o <;> rfl
@[simp] theorem State.modOut_cellar (o : OutId) (g : Output → Output) : (s.modOut o g).cellar = s.cellar := by cases o <;> rfl
@[simp] theorem State.modOut_transom (o : OutId) (g : Output → Output) : (s.modOut o g).transom = s.transom := by cases o <;> rfl
@[simp] theorem State.modOut_cams (o : OutId) (g : Output → Output) : (s.modOut o g).cams = s.cams := by cases o <;> rfl
@[simp] theorem State.modOut_pipes (o : OutId) (g : Output → Output) : (s.modOut o g).pipes = s.pipes := by cases o <;> rfl
@[simp] theorem State.modOut_track (o : OutId) (g : Output → Output) : (s.modOut o g).track = s.track := by cases o <;> rfl
@[simp] theorem State.modOut_calib (o : OutId) (g : Output → Output) : (s.modOut o g).calib = s.calib := by cases o <;> rfl
@[simp] theorem State.modOut_blit (o : OutId) (g : Output → Output) : (s.modOut o g).blit = s.blit := by cases o <;> rfl
@[simp] theorem State.modOut_dram (o : OutId) (g : Output → Output) : (s.modOut o g).dram = s.dram := by cases o <;> rfl
@[simp] theorem State.modOut_ring (o : OutId) (g : Output → Output) : (s.modOut o g).ring = s.ring := by cases o <;> rfl
@[simp] theorem State.modOut_sensors (o : OutId) (g : Output → Output) : (s.modOut o g).sensors = s.sensors := by cases o <;> rfl
@[simp] theorem State.modOut_power (o : OutId) (g : Output → Output) : (s.modOut o g).power = s.power := by cases o <;> rfl
@[simp] theorem State.modOut_mram (o : OutId) (g : Output → Output) : (s.modOut o g).mram = s.mram := by cases o <;> rfl
@[simp] theorem State.modOut_audit (o : OutId) (g : Output → Output) : (s.modOut o g).audit = s.audit := by cases o <;> rfl
@[simp] theorem State.modOut_timeHi (o : OutId) (g : Output → Output) : (s.modOut o g).timeHi = s.timeHi := by cases o <;> rfl
@[simp] theorem State.modOut_lastRead (o : OutId) (g : Output → Output) : (s.modOut o g).lastRead = s.lastRead := by cases o <;> rfl
@[simp] theorem State.modOut_mgmtIdx (o : OutId) (g : Output → Output) : (s.modOut o g).mgmtIdx = s.mgmtIdx := by cases o <;> rfl
@[simp] theorem State.modOut_mgmtLatch (o : OutId) (g : Output → Output) : (s.modOut o g).mgmtLatch = s.mgmtLatch := by cases o <;> rfl
@[simp] theorem State.modOut_numVfs (o : OutId) (g : Output → Output) : (s.modOut o g).numVfs = s.numVfs := by cases o <;> rfl
@[simp] theorem State.modOut_vfEnable (o : OutId) (g : Output → Output) : (s.modOut o g).vfEnable = s.vfEnable := by cases o <;> rfl
@[simp] theorem State.modOut_bars (o : OutId) (g : Output → Output) : (s.modOut o g).bars = s.bars := by cases o <;> rfl

/-! ### setOut -/

@[simp] theorem State.setOut_pending (o : OutId) (v : Output) : (s.setOut o v).pending = s.pending := by cases o <;> rfl
@[simp] theorem State.setOut_variant (o : OutId) (v : Output) : (s.setOut o v).variant = s.variant := by cases o <;> rfl
@[simp] theorem State.setOut_clk (o : OutId) (v : Output) : (s.setOut o v).clk = s.clk := by cases o <;> rfl
@[simp] theorem State.setOut_free (o : OutId) (v : Output) : (s.setOut o v).free = s.free := by cases o <;> rfl
@[simp] theorem State.setOut_shadow (o : OutId) (v : Output) : (s.setOut o v).shadow = s.shadow := by cases o <;> rfl
@[simp] theorem State.setOut_commits (o : OutId) (v : Output) : (s.setOut o v).commits = s.commits := by cases o <;> rfl
@[simp] theorem State.setOut_landings (o : OutId) (v : Output) : (s.setOut o v).landings = s.landings := by cases o <;> rfl
@[simp] theorem State.setOut_linkA (o : OutId) (v : Output) : (s.setOut o v).linkA = s.linkA := by cases o <;> rfl
@[simp] theorem State.setOut_linkB (o : OutId) (v : Output) : (s.setOut o v).linkB = s.linkB := by cases o <;> rfl
@[simp] theorem State.setOut_lanes (o : OutId) (v : Output) : (s.setOut o v).lanes = s.lanes := by cases o <;> rfl
@[simp] theorem State.setOut_slices (o : OutId) (v : Output) : (s.setOut o v).slices = s.slices := by cases o <;> rfl
@[simp] theorem State.setOut_chans (o : OutId) (v : Output) : (s.setOut o v).chans = s.chans := by cases o <;> rfl
@[simp] theorem State.setOut_trust (o : OutId) (v : Output) : (s.setOut o v).trust = s.trust := by cases o <;> rfl
@[simp] theorem State.setOut_boxes (o : OutId) (v : Output) : (s.setOut o v).boxes = s.boxes := by cases o <;> rfl
@[simp] theorem State.setOut_cellar (o : OutId) (v : Output) : (s.setOut o v).cellar = s.cellar := by cases o <;> rfl
@[simp] theorem State.setOut_transom (o : OutId) (v : Output) : (s.setOut o v).transom = s.transom := by cases o <;> rfl
@[simp] theorem State.setOut_cams (o : OutId) (v : Output) : (s.setOut o v).cams = s.cams := by cases o <;> rfl
@[simp] theorem State.setOut_pipes (o : OutId) (v : Output) : (s.setOut o v).pipes = s.pipes := by cases o <;> rfl
@[simp] theorem State.setOut_track (o : OutId) (v : Output) : (s.setOut o v).track = s.track := by cases o <;> rfl
@[simp] theorem State.setOut_calib (o : OutId) (v : Output) : (s.setOut o v).calib = s.calib := by cases o <;> rfl
@[simp] theorem State.setOut_blit (o : OutId) (v : Output) : (s.setOut o v).blit = s.blit := by cases o <;> rfl
@[simp] theorem State.setOut_dram (o : OutId) (v : Output) : (s.setOut o v).dram = s.dram := by cases o <;> rfl
@[simp] theorem State.setOut_ring (o : OutId) (v : Output) : (s.setOut o v).ring = s.ring := by cases o <;> rfl
@[simp] theorem State.setOut_sensors (o : OutId) (v : Output) : (s.setOut o v).sensors = s.sensors := by cases o <;> rfl
@[simp] theorem State.setOut_power (o : OutId) (v : Output) : (s.setOut o v).power = s.power := by cases o <;> rfl
@[simp] theorem State.setOut_mram (o : OutId) (v : Output) : (s.setOut o v).mram = s.mram := by cases o <;> rfl
@[simp] theorem State.setOut_audit (o : OutId) (v : Output) : (s.setOut o v).audit = s.audit := by cases o <;> rfl
@[simp] theorem State.setOut_timeHi (o : OutId) (v : Output) : (s.setOut o v).timeHi = s.timeHi := by cases o <;> rfl
@[simp] theorem State.setOut_lastRead (o : OutId) (v : Output) : (s.setOut o v).lastRead = s.lastRead := by cases o <;> rfl
@[simp] theorem State.setOut_mgmtIdx (o : OutId) (v : Output) : (s.setOut o v).mgmtIdx = s.mgmtIdx := by cases o <;> rfl
@[simp] theorem State.setOut_mgmtLatch (o : OutId) (v : Output) : (s.setOut o v).mgmtLatch = s.mgmtLatch := by cases o <;> rfl
@[simp] theorem State.setOut_numVfs (o : OutId) (v : Output) : (s.setOut o v).numVfs = s.numVfs := by cases o <;> rfl
@[simp] theorem State.setOut_vfEnable (o : OutId) (v : Output) : (s.setOut o v).vfEnable = s.vfEnable := by cases o <;> rfl
@[simp] theorem State.setOut_bars (o : OutId) (v : Output) : (s.setOut o v).bars = s.bars := by cases o <;> rfl

/-! ### modLink -/

@[simp] theorem State.modLink_pending (o : OutId) (g : Link → Link) : (s.modLink o g).pending = s.pending := by cases o <;> rfl
@[simp] theorem State.modLink_variant (o : OutId) (g : Link → Link) : (s.modLink o g).variant = s.variant := by cases o <;> rfl
@[simp] theorem State.modLink_clk (o : OutId) (g : Link → Link) : (s.modLink o g).clk = s.clk := by cases o <;> rfl
@[simp] theorem State.modLink_free (o : OutId) (g : Link → Link) : (s.modLink o g).free = s.free := by cases o <;> rfl
@[simp] theorem State.modLink_shadow (o : OutId) (g : Link → Link) : (s.modLink o g).shadow = s.shadow := by cases o <;> rfl
@[simp] theorem State.modLink_commits (o : OutId) (g : Link → Link) : (s.modLink o g).commits = s.commits := by cases o <;> rfl
@[simp] theorem State.modLink_landings (o : OutId) (g : Link → Link) : (s.modLink o g).landings = s.landings := by cases o <;> rfl
@[simp] theorem State.modLink_outA (o : OutId) (g : Link → Link) : (s.modLink o g).outA = s.outA := by cases o <;> rfl
@[simp] theorem State.modLink_outB (o : OutId) (g : Link → Link) : (s.modLink o g).outB = s.outB := by cases o <;> rfl
@[simp] theorem State.modLink_lanes (o : OutId) (g : Link → Link) : (s.modLink o g).lanes = s.lanes := by cases o <;> rfl
@[simp] theorem State.modLink_slices (o : OutId) (g : Link → Link) : (s.modLink o g).slices = s.slices := by cases o <;> rfl
@[simp] theorem State.modLink_chans (o : OutId) (g : Link → Link) : (s.modLink o g).chans = s.chans := by cases o <;> rfl
@[simp] theorem State.modLink_trust (o : OutId) (g : Link → Link) : (s.modLink o g).trust = s.trust := by cases o <;> rfl
@[simp] theorem State.modLink_boxes (o : OutId) (g : Link → Link) : (s.modLink o g).boxes = s.boxes := by cases o <;> rfl
@[simp] theorem State.modLink_cellar (o : OutId) (g : Link → Link) : (s.modLink o g).cellar = s.cellar := by cases o <;> rfl
@[simp] theorem State.modLink_transom (o : OutId) (g : Link → Link) : (s.modLink o g).transom = s.transom := by cases o <;> rfl
@[simp] theorem State.modLink_cams (o : OutId) (g : Link → Link) : (s.modLink o g).cams = s.cams := by cases o <;> rfl
@[simp] theorem State.modLink_pipes (o : OutId) (g : Link → Link) : (s.modLink o g).pipes = s.pipes := by cases o <;> rfl
@[simp] theorem State.modLink_track (o : OutId) (g : Link → Link) : (s.modLink o g).track = s.track := by cases o <;> rfl
@[simp] theorem State.modLink_calib (o : OutId) (g : Link → Link) : (s.modLink o g).calib = s.calib := by cases o <;> rfl
@[simp] theorem State.modLink_blit (o : OutId) (g : Link → Link) : (s.modLink o g).blit = s.blit := by cases o <;> rfl
@[simp] theorem State.modLink_dram (o : OutId) (g : Link → Link) : (s.modLink o g).dram = s.dram := by cases o <;> rfl
@[simp] theorem State.modLink_ring (o : OutId) (g : Link → Link) : (s.modLink o g).ring = s.ring := by cases o <;> rfl
@[simp] theorem State.modLink_sensors (o : OutId) (g : Link → Link) : (s.modLink o g).sensors = s.sensors := by cases o <;> rfl
@[simp] theorem State.modLink_power (o : OutId) (g : Link → Link) : (s.modLink o g).power = s.power := by cases o <;> rfl
@[simp] theorem State.modLink_mram (o : OutId) (g : Link → Link) : (s.modLink o g).mram = s.mram := by cases o <;> rfl
@[simp] theorem State.modLink_audit (o : OutId) (g : Link → Link) : (s.modLink o g).audit = s.audit := by cases o <;> rfl
@[simp] theorem State.modLink_timeHi (o : OutId) (g : Link → Link) : (s.modLink o g).timeHi = s.timeHi := by cases o <;> rfl
@[simp] theorem State.modLink_lastRead (o : OutId) (g : Link → Link) : (s.modLink o g).lastRead = s.lastRead := by cases o <;> rfl
@[simp] theorem State.modLink_mgmtIdx (o : OutId) (g : Link → Link) : (s.modLink o g).mgmtIdx = s.mgmtIdx := by cases o <;> rfl
@[simp] theorem State.modLink_mgmtLatch (o : OutId) (g : Link → Link) : (s.modLink o g).mgmtLatch = s.mgmtLatch := by cases o <;> rfl
@[simp] theorem State.modLink_numVfs (o : OutId) (g : Link → Link) : (s.modLink o g).numVfs = s.numVfs := by cases o <;> rfl
@[simp] theorem State.modLink_vfEnable (o : OutId) (g : Link → Link) : (s.modLink o g).vfEnable = s.vfEnable := by cases o <;> rfl
@[simp] theorem State.modLink_bars (o : OutId) (g : Link → Link) : (s.modLink o g).bars = s.bars := by cases o <;> rfl

/-! ### modRport -/

@[simp] theorem State.modRport_pending (p : RPort) (g : RingPort → RingPort) : (s.modRport p g).pending = s.pending := by cases p <;> rfl
@[simp] theorem State.modRport_variant (p : RPort) (g : RingPort → RingPort) : (s.modRport p g).variant = s.variant := by cases p <;> rfl
@[simp] theorem State.modRport_clk (p : RPort) (g : RingPort → RingPort) : (s.modRport p g).clk = s.clk := by cases p <;> rfl
@[simp] theorem State.modRport_free (p : RPort) (g : RingPort → RingPort) : (s.modRport p g).free = s.free := by cases p <;> rfl
@[simp] theorem State.modRport_shadow (p : RPort) (g : RingPort → RingPort) : (s.modRport p g).shadow = s.shadow := by cases p <;> rfl
@[simp] theorem State.modRport_commits (p : RPort) (g : RingPort → RingPort) : (s.modRport p g).commits = s.commits := by cases p <;> rfl
@[simp] theorem State.modRport_landings (p : RPort) (g : RingPort → RingPort) : (s.modRport p g).landings = s.landings := by cases p <;> rfl
@[simp] theorem State.modRport_outA (p : RPort) (g : RingPort → RingPort) : (s.modRport p g).outA = s.outA := by cases p <;> rfl
@[simp] theorem State.modRport_outB (p : RPort) (g : RingPort → RingPort) : (s.modRport p g).outB = s.outB := by cases p <;> rfl
@[simp] theorem State.modRport_linkA (p : RPort) (g : RingPort → RingPort) : (s.modRport p g).linkA = s.linkA := by cases p <;> rfl
@[simp] theorem State.modRport_linkB (p : RPort) (g : RingPort → RingPort) : (s.modRport p g).linkB = s.linkB := by cases p <;> rfl
@[simp] theorem State.modRport_lanes (p : RPort) (g : RingPort → RingPort) : (s.modRport p g).lanes = s.lanes := by cases p <;> rfl
@[simp] theorem State.modRport_slices (p : RPort) (g : RingPort → RingPort) : (s.modRport p g).slices = s.slices := by cases p <;> rfl
@[simp] theorem State.modRport_chans (p : RPort) (g : RingPort → RingPort) : (s.modRport p g).chans = s.chans := by cases p <;> rfl
@[simp] theorem State.modRport_trust (p : RPort) (g : RingPort → RingPort) : (s.modRport p g).trust = s.trust := by cases p <;> rfl
@[simp] theorem State.modRport_boxes (p : RPort) (g : RingPort → RingPort) : (s.modRport p g).boxes = s.boxes := by cases p <;> rfl
@[simp] theorem State.modRport_cellar (p : RPort) (g : RingPort → RingPort) : (s.modRport p g).cellar = s.cellar := by cases p <;> rfl
@[simp] theorem State.modRport_transom (p : RPort) (g : RingPort → RingPort) : (s.modRport p g).transom = s.transom := by cases p <;> rfl
@[simp] theorem State.modRport_cams (p : RPort) (g : RingPort → RingPort) : (s.modRport p g).cams = s.cams := by cases p <;> rfl
@[simp] theorem State.modRport_pipes (p : RPort) (g : RingPort → RingPort) : (s.modRport p g).pipes = s.pipes := by cases p <;> rfl
@[simp] theorem State.modRport_track (p : RPort) (g : RingPort → RingPort) : (s.modRport p g).track = s.track := by cases p <;> rfl
@[simp] theorem State.modRport_calib (p : RPort) (g : RingPort → RingPort) : (s.modRport p g).calib = s.calib := by cases p <;> rfl
@[simp] theorem State.modRport_blit (p : RPort) (g : RingPort → RingPort) : (s.modRport p g).blit = s.blit := by cases p <;> rfl
@[simp] theorem State.modRport_dram (p : RPort) (g : RingPort → RingPort) : (s.modRport p g).dram = s.dram := by cases p <;> rfl
@[simp] theorem State.modRport_sensors (p : RPort) (g : RingPort → RingPort) : (s.modRport p g).sensors = s.sensors := by cases p <;> rfl
@[simp] theorem State.modRport_power (p : RPort) (g : RingPort → RingPort) : (s.modRport p g).power = s.power := by cases p <;> rfl
@[simp] theorem State.modRport_mram (p : RPort) (g : RingPort → RingPort) : (s.modRport p g).mram = s.mram := by cases p <;> rfl
@[simp] theorem State.modRport_audit (p : RPort) (g : RingPort → RingPort) : (s.modRport p g).audit = s.audit := by cases p <;> rfl
@[simp] theorem State.modRport_timeHi (p : RPort) (g : RingPort → RingPort) : (s.modRport p g).timeHi = s.timeHi := by cases p <;> rfl
@[simp] theorem State.modRport_lastRead (p : RPort) (g : RingPort → RingPort) : (s.modRport p g).lastRead = s.lastRead := by cases p <;> rfl
@[simp] theorem State.modRport_mgmtIdx (p : RPort) (g : RingPort → RingPort) : (s.modRport p g).mgmtIdx = s.mgmtIdx := by cases p <;> rfl
@[simp] theorem State.modRport_mgmtLatch (p : RPort) (g : RingPort → RingPort) : (s.modRport p g).mgmtLatch = s.mgmtLatch := by cases p <;> rfl
@[simp] theorem State.modRport_numVfs (p : RPort) (g : RingPort → RingPort) : (s.modRport p g).numVfs = s.numVfs := by cases p <;> rfl
@[simp] theorem State.modRport_vfEnable (p : RPort) (g : RingPort → RingPort) : (s.modRport p g).vfEnable = s.vfEnable := by cases p <;> rfl
@[simp] theorem State.modRport_bars (p : RPort) (g : RingPort → RingPort) : (s.modRport p g).bars = s.bars := by cases p <;> rfl

/-! ### atClk -/

@[simp] theorem State.atClk_pending (n : Nat) : (s.atClk n).pending = s.pending := rfl
@[simp] theorem State.atClk_variant (n : Nat) : (s.atClk n).variant = s.variant := rfl
@[simp] theorem State.atClk_free (n : Nat) : (s.atClk n).free = s.free := rfl
@[simp] theorem State.atClk_shadow (n : Nat) : (s.atClk n).shadow = s.shadow := rfl
@[simp] theorem State.atClk_commits (n : Nat) : (s.atClk n).commits = s.commits := rfl
@[simp] theorem State.atClk_landings (n : Nat) : (s.atClk n).landings = s.landings := rfl
@[simp] theorem State.atClk_outA (n : Nat) : (s.atClk n).outA = s.outA := rfl
@[simp] theorem State.atClk_outB (n : Nat) : (s.atClk n).outB = s.outB := rfl
@[simp] theorem State.atClk_linkA (n : Nat) : (s.atClk n).linkA = s.linkA := rfl
@[simp] theorem State.atClk_linkB (n : Nat) : (s.atClk n).linkB = s.linkB := rfl
@[simp] theorem State.atClk_lanes (n : Nat) : (s.atClk n).lanes = s.lanes := rfl
@[simp] theorem State.atClk_slices (n : Nat) : (s.atClk n).slices = s.slices := rfl
@[simp] theorem State.atClk_chans (n : Nat) : (s.atClk n).chans = s.chans := rfl
@[simp] theorem State.atClk_trust (n : Nat) : (s.atClk n).trust = s.trust := rfl
@[simp] theorem State.atClk_boxes (n : Nat) : (s.atClk n).boxes = s.boxes := rfl
@[simp] theorem State.atClk_cellar (n : Nat) : (s.atClk n).cellar = s.cellar := rfl
@[simp] theorem State.atClk_transom (n : Nat) : (s.atClk n).transom = s.transom := rfl
@[simp] theorem State.atClk_cams (n : Nat) : (s.atClk n).cams = s.cams := rfl
@[simp] theorem State.atClk_pipes (n : Nat) : (s.atClk n).pipes = s.pipes := rfl
@[simp] theorem State.atClk_track (n : Nat) : (s.atClk n).track = s.track := rfl
@[simp] theorem State.atClk_calib (n : Nat) : (s.atClk n).calib = s.calib := rfl
@[simp] theorem State.atClk_blit (n : Nat) : (s.atClk n).blit = s.blit := rfl
@[simp] theorem State.atClk_dram (n : Nat) : (s.atClk n).dram = s.dram := rfl
@[simp] theorem State.atClk_ring (n : Nat) : (s.atClk n).ring = s.ring := rfl
@[simp] theorem State.atClk_sensors (n : Nat) : (s.atClk n).sensors = s.sensors := rfl
@[simp] theorem State.atClk_power (n : Nat) : (s.atClk n).power = s.power := rfl
@[simp] theorem State.atClk_mram (n : Nat) : (s.atClk n).mram = s.mram := rfl
@[simp] theorem State.atClk_audit (n : Nat) : (s.atClk n).audit = s.audit := rfl
@[simp] theorem State.atClk_timeHi (n : Nat) : (s.atClk n).timeHi = s.timeHi := rfl
@[simp] theorem State.atClk_lastRead (n : Nat) : (s.atClk n).lastRead = s.lastRead := rfl
@[simp] theorem State.atClk_mgmtIdx (n : Nat) : (s.atClk n).mgmtIdx = s.mgmtIdx := rfl
@[simp] theorem State.atClk_mgmtLatch (n : Nat) : (s.atClk n).mgmtLatch = s.mgmtLatch := rfl
@[simp] theorem State.atClk_numVfs (n : Nat) : (s.atClk n).numVfs = s.numVfs := rfl
@[simp] theorem State.atClk_vfEnable (n : Nat) : (s.atClk n).vfEnable = s.vfEnable := rfl
@[simp] theorem State.atClk_bars (n : Nat) : (s.atClk n).bars = s.bars := rfl
@[simp] theorem State.atClk_clk (n : Nat) : (s.atClk n).clk = max s.clk n := rfl

/-! ### atUs -/

@[simp] theorem State.atUs_pending (n : Nat) : (s.atUs n).pending = s.pending := rfl
@[simp] theorem State.atUs_variant (n : Nat) : (s.atUs n).variant = s.variant := rfl
@[simp] theorem State.atUs_free (n : Nat) : (s.atUs n).free = s.free := rfl
@[simp] theorem State.atUs_shadow (n : Nat) : (s.atUs n).shadow = s.shadow := rfl
@[simp] theorem State.atUs_commits (n : Nat) : (s.atUs n).commits = s.commits := rfl
@[simp] theorem State.atUs_landings (n : Nat) : (s.atUs n).landings = s.landings := rfl
@[simp] theorem State.atUs_outA (n : Nat) : (s.atUs n).outA = s.outA := rfl
@[simp] theorem State.atUs_outB (n : Nat) : (s.atUs n).outB = s.outB := rfl
@[simp] theorem State.atUs_linkA (n : Nat) : (s.atUs n).linkA = s.linkA := rfl
@[simp] theorem State.atUs_linkB (n : Nat) : (s.atUs n).linkB = s.linkB := rfl
@[simp] theorem State.atUs_lanes (n : Nat) : (s.atUs n).lanes = s.lanes := rfl
@[simp] theorem State.atUs_slices (n : Nat) : (s.atUs n).slices = s.slices := rfl
@[simp] theorem State.atUs_chans (n : Nat) : (s.atUs n).chans = s.chans := rfl
@[simp] theorem State.atUs_trust (n : Nat) : (s.atUs n).trust = s.trust := rfl
@[simp] theorem State.atUs_boxes (n : Nat) : (s.atUs n).boxes = s.boxes := rfl
@[simp] theorem State.atUs_cellar (n : Nat) : (s.atUs n).cellar = s.cellar := rfl
@[simp] theorem State.atUs_transom (n : Nat) : (s.atUs n).transom = s.transom := rfl
@[simp] theorem State.atUs_cams (n : Nat) : (s.atUs n).cams = s.cams := rfl
@[simp] theorem State.atUs_pipes (n : Nat) : (s.atUs n).pipes = s.pipes := rfl
@[simp] theorem State.atUs_track (n : Nat) : (s.atUs n).track = s.track := rfl
@[simp] theorem State.atUs_calib (n : Nat) : (s.atUs n).calib = s.calib := rfl
@[simp] theorem State.atUs_blit (n : Nat) : (s.atUs n).blit = s.blit := rfl
@[simp] theorem State.atUs_dram (n : Nat) : (s.atUs n).dram = s.dram := rfl
@[simp] theorem State.atUs_ring (n : Nat) : (s.atUs n).ring = s.ring := rfl
@[simp] theorem State.atUs_sensors (n : Nat) : (s.atUs n).sensors = s.sensors := rfl
@[simp] theorem State.atUs_power (n : Nat) : (s.atUs n).power = s.power := rfl
@[simp] theorem State.atUs_mram (n : Nat) : (s.atUs n).mram = s.mram := rfl
@[simp] theorem State.atUs_audit (n : Nat) : (s.atUs n).audit = s.audit := rfl
@[simp] theorem State.atUs_timeHi (n : Nat) : (s.atUs n).timeHi = s.timeHi := rfl
@[simp] theorem State.atUs_lastRead (n : Nat) : (s.atUs n).lastRead = s.lastRead := rfl
@[simp] theorem State.atUs_mgmtIdx (n : Nat) : (s.atUs n).mgmtIdx = s.mgmtIdx := rfl
@[simp] theorem State.atUs_mgmtLatch (n : Nat) : (s.atUs n).mgmtLatch = s.mgmtLatch := rfl
@[simp] theorem State.atUs_numVfs (n : Nat) : (s.atUs n).numVfs = s.numVfs := rfl
@[simp] theorem State.atUs_vfEnable (n : Nat) : (s.atUs n).vfEnable = s.vfEnable := rfl
@[simp] theorem State.atUs_bars (n : Nat) : (s.atUs n).bars = s.bars := rfl
@[simp] theorem State.atUs_clk (n : Nat) : (s.atUs n).clk = max s.clk (25 * n) := rfl

/-! ### drawn -/

@[simp] theorem State.drawn_pending : (s.drawn).pending = s.pending := rfl
@[simp] theorem State.drawn_variant : (s.drawn).variant = s.variant := rfl
@[simp] theorem State.drawn_clk : (s.drawn).clk = s.clk := rfl
@[simp] theorem State.drawn_shadow : (s.drawn).shadow = s.shadow := rfl
@[simp] theorem State.drawn_commits : (s.drawn).commits = s.commits := rfl
@[simp] theorem State.drawn_landings : (s.drawn).landings = s.landings := rfl
@[simp] theorem State.drawn_outA : (s.drawn).outA = s.outA := rfl
@[simp] theorem State.drawn_outB : (s.drawn).outB = s.outB := rfl
@[simp] theorem State.drawn_linkA : (s.drawn).linkA = s.linkA := rfl
@[simp] theorem State.drawn_linkB : (s.drawn).linkB = s.linkB := rfl
@[simp] theorem State.drawn_lanes : (s.drawn).lanes = s.lanes := rfl
@[simp] theorem State.drawn_slices : (s.drawn).slices = s.slices := rfl
@[simp] theorem State.drawn_chans : (s.drawn).chans = s.chans := rfl
@[simp] theorem State.drawn_trust : (s.drawn).trust = s.trust := rfl
@[simp] theorem State.drawn_boxes : (s.drawn).boxes = s.boxes := rfl
@[simp] theorem State.drawn_cellar : (s.drawn).cellar = s.cellar := rfl
@[simp] theorem State.drawn_transom : (s.drawn).transom = s.transom := rfl
@[simp] theorem State.drawn_cams : (s.drawn).cams = s.cams := rfl
@[simp] theorem State.drawn_pipes : (s.drawn).pipes = s.pipes := rfl
@[simp] theorem State.drawn_track : (s.drawn).track = s.track := rfl
@[simp] theorem State.drawn_calib : (s.drawn).calib = s.calib := rfl
@[simp] theorem State.drawn_blit : (s.drawn).blit = s.blit := rfl
@[simp] theorem State.drawn_dram : (s.drawn).dram = s.dram := rfl
@[simp] theorem State.drawn_ring : (s.drawn).ring = s.ring := rfl
@[simp] theorem State.drawn_sensors : (s.drawn).sensors = s.sensors := rfl
@[simp] theorem State.drawn_power : (s.drawn).power = s.power := rfl
@[simp] theorem State.drawn_mram : (s.drawn).mram = s.mram := rfl
@[simp] theorem State.drawn_audit : (s.drawn).audit = s.audit := rfl
@[simp] theorem State.drawn_timeHi : (s.drawn).timeHi = s.timeHi := rfl
@[simp] theorem State.drawn_lastRead : (s.drawn).lastRead = s.lastRead := rfl
@[simp] theorem State.drawn_mgmtIdx : (s.drawn).mgmtIdx = s.mgmtIdx := rfl
@[simp] theorem State.drawn_mgmtLatch : (s.drawn).mgmtLatch = s.mgmtLatch := rfl
@[simp] theorem State.drawn_numVfs : (s.drawn).numVfs = s.numVfs := rfl
@[simp] theorem State.drawn_vfEnable : (s.drawn).vfEnable = s.vfEnable := rfl
@[simp] theorem State.drawn_bars : (s.drawn).bars = s.bars := rfl
@[simp] theorem State.drawn_free : (s.drawn).free = s.free + 1 := rfl

/-! ### Outputs, links and ports read back -/

theorem State.modOut_out_self (o : OutId) (g : Output → Output) : (s.modOut o g).out o = g (s.out o) := by cases o <;> rfl
theorem State.modOut_out_ne {o p : OutId} (g : Output → Output) (h : p ≠ o) : (s.modOut o g).out p = s.out p := by
  cases o <;> cases p <;> first | rfl | exact absurd rfl h
theorem State.modLink_link_self (o : OutId) (g : Link → Link) : (s.modLink o g).link o = g (s.link o) := by cases o <;> rfl
theorem State.modLink_link_ne {o p : OutId} (g : Link → Link) (h : p ≠ o) : (s.modLink o g).link p = s.link p := by
  cases o <;> cases p <;> first | rfl | exact absurd rfl h
theorem State.modRport_rport_self (p : RPort) (g : RingPort → RingPort) : (s.modRport p g).rport p = g (s.rport p) := by
  cases p <;> rfl

end Sys2Proof.Machine
end

