-- ==== Sys2Proof/Laws/Host.lean ====
section
/-! SUPPORT. What a host command's run does: the fetch, the checks, the completion, and what may follow it. -/
namespace Sys2Proof.Machine

/-! ### Letterboxes -/

@[simp] theorem State.box_modBox_self (s : State) (f : Nat) (g : Letterbox → Letterbox) (h : f < s.boxes.length) :
    (s.modBox f g).box f = g (s.box f) := by
  simp [State.box, State.modBox, List.getD_eq_getElem?_getD, h]

theorem State.box_modBox_ne (s : State) {f n : Nat} (g : Letterbox → Letterbox) (h : n ≠ f) :
    (s.modBox f g).box n = s.box n := by
  simp [State.box, State.modBox, List.getD_eq_getElem?_getD, Ne.symm h]

/-- A letterbox that fetches is one of the machine's. -/
theorem State.fetches_lt {s : State} {f : Nat} {e : SqEntry} (h : s.fetches f = some e) : f < s.boxes.length := by
  by_contra hn
  have hb : s.box f = Letterbox.reset false := by
    simp [State.box, List.getD_eq_getElem?_getD, List.getElem?_eq_none (Nat.le_of_not_lt hn)]
  unfold State.fetches at h
  rw [hb] at h
  simp [Letterbox.reset] at h

theorem Letterbox.raiseCq_cq (b : Letterbox) (n : Nat) (w : Bool) : (b.raiseCq n w).cq = b.cq := by
  unfold Letterbox.raiseCq Letterbox.fire
  split
  · split <;> rfl
  · rfl

theorem Letterbox.raiseCq_ready (b : Letterbox) (n : Nat) (w : Bool) : (b.raiseCq n w).ready = b.ready := by
  unfold Letterbox.raiseCq Letterbox.fire
  split
  · split <;> rfl
  · rfl

theorem Letterbox.raiseEq_cq (b : Letterbox) (n : Nat) (w : Bool) : (b.raiseEq n w).cq = b.cq := by
  unfold Letterbox.raiseEq Letterbox.fire
  split
  · split <;> rfl
  · rfl

theorem Letterbox.raiseEq_ready (b : Letterbox) (n : Nat) (w : Bool) : (b.raiseEq n w).ready = b.ready := by
  unfold Letterbox.raiseEq Letterbox.fire
  split
  · split <;> rfl
  · rfl

theorem Letterbox.postEvent_cq (b : Letterbox) (n c : Nat) (d : List Byte) : (b.postEvent n c d).cq = b.cq := by
  unfold Letterbox.postEvent
  split
  · rfl
  · split
    · rfl
    · exact Letterbox.raiseEq_cq _ _ _

theorem leNat_lt (bs : List Byte) : leNat bs < 256 ^ bs.length := by
  induction bs with
  | nil => simp [leNat]
  | cons b bs ih =>
    have hb := b.isLt
    simp only [leNat, List.length_cons, pow_succ]
    omega

/-- A field of n bytes lies below 256 to the n. -/
theorem nAt_lt (bs : List Byte) (off n : Nat) : nAt bs off n < 256 ^ n := by
  have h := leNat_lt (bytesAt bs off n)
  have hl : (bytesAt bs off n).length = n := by
    simp only [bytesAt, zeros, List.length_append, List.length_replicate, List.length_take, List.length_drop]
    omega
  rwa [hl] at h

/-- An entry of 64 bytes bears no mark. -/
theorem entryId_plain {e : SqEntry} (h : e.raw.length = 64) : entryId e = nAt e.raw 4 4 := by simp [entryId, h]

/-- A completion is one entry more in the ring, where the ring is enabled. -/
theorem Letterbox.postCompletion_gained (b : Letterbox) (now status retry : Nat) (e : SqEntry) (resp : List Byte)
    (hq : b.cqEn = true) (hz : b.cqSize ≠ 0) :
    b.gained (b.postCompletion now (nAt e.raw 4 4) status retry (nAt e.raw 0x14 4) e.respOk resp) e status retry resp := by
  refine ⟨{ cmdId := nAt e.raw 4 4, status := status, phase := b.cqPhase,
            respErr := nAt e.raw 0x14 4 != 0 && !e.respOk, sqHead := b.sqHead, retry := retry,
            inl := if nAt e.raw 0x14 4 = 0 then fitTo 16 resp else zeros 16,
            resp := if nAt e.raw 0x14 4 = 0 then [] else resp.take (nAt e.raw 0x14 4) }, [], ?_, rfl, rfl, rfl, rfl, rfl⟩
  have hid : ¬ 4294967296 ≤ nAt e.raw 4 4 := by have := nAt_lt e.raw 4 4; omega
  unfold Letterbox.postCompletion
  simp [hq, hz, hid, Letterbox.raiseCq_cq]

theorem Letterbox.postCompletion_cq (b : Letterbox) (now id status retry len : Nat) (ok : Bool) (resp : List Byte) :
    ∃ more, (b.postCompletion now id status retry len ok resp).cq = b.cq ++ more := by
  unfold Letterbox.postCompletion
  dsimp only
  split
  · exact ⟨[], by simp⟩
  · rw [Letterbox.raiseCq_cq]
    exact ⟨_, rfl⟩

/-! ### What touches nothing but letterboxes -/

theorem State.sameButBoxes.refl (s : State) : s.sameButBoxes s := rfl

theorem State.sameButBoxes.trans {s t u : State} (h : s.sameButBoxes t) (h' : t.sameButBoxes u) : s.sameButBoxes u := by
  unfold State.sameButBoxes at *
  rw [h'.trans (by rw [h])]

theorem State.modBox_sameButBoxes (s : State) (f : Nat) (g : Letterbox → Letterbox) : s.sameButBoxes (s.modBox f g) := rfl

theorem State.event_sameButBoxes (s : State) (f c : Nat) (d : List Byte) : s.sameButBoxes (s.event f c d) := rfl

theorem State.postAll_sameButBoxes (s : State) (evs : List (Nat × Nat × List Byte)) : s.sameButBoxes (s.postAll evs) := by
  induction evs generalizing s with
  | nil => rfl
  | cons e es ih => exact (State.event_sameButBoxes s e.1 e.2.1 e.2.2).trans (ih _)

theorem State.pop_sameButBoxes (s : State) (f : Nat) : s.sameButBoxes (s.pop f) := rfl

theorem State.complete_sameButBoxes (s : State) (f : Nat) (e : SqEntry) (st r : Nat) (resp : List Byte) :
    s.sameButBoxes (s.complete f e st r resp) := rfl

theorem drainBad_sameButBoxes (f n : Nat) (s : State) : s.sameButBoxes (drainBad f n s) := by
  induction n generalizing s with
  | zero => rfl
  | succ n ih =>
    unfold drainBad
    split
    · split
      · rfl
      · exact ((State.pop_sameButBoxes s f).trans (State.complete_sameButBoxes _ _ _ _ _ _)).trans (ih _)
    · rfl

/-- A box of a function keeps what it has posted when events are posted. -/
theorem State.event_box_cq (s : State) (g c : Nat) (d : List Byte) (f : Nat) : ((s.event g c d).box f).cq = (s.box f).cq := by
  by_cases h : f = g
  · subst h
    by_cases hl : f < s.boxes.length
    · unfold State.event
      rw [State.box_modBox_self _ _ _ hl]
      exact Letterbox.postEvent_cq ..
    · simp [State.event, State.modBox, State.box, List.getD_eq_getElem?_getD,
        List.getElem?_eq_none (Nat.le_of_not_lt hl)]
  · unfold State.event
    rw [State.box_modBox_ne _ _ h]

theorem State.postAll_box_cq (s : State) (evs : List (Nat × Nat × List Byte)) (f : Nat) :
    ((s.postAll evs).box f).cq = (s.box f).cq := by
  induction evs generalizing s with
  | nil => rfl
  | cons e es ih => exact (ih _).trans (State.event_box_cq ..)

/-- The ring of a function only grows as entries with an undefined opcode are completed. -/
theorem drainBad_cq (f n : Nat) (s : State) : ∃ more, ((drainBad f n s).box f).cq = (s.box f).cq ++ more := by
  induction n generalizing s with
  | zero => exact ⟨[], by simp [drainBad]⟩
  | succ n ih =>
    unfold drainBad
    split
    · rename_i e he
      split
      · exact ⟨[], by simp⟩
      · obtain ⟨m, hm⟩ := ih ((s.pop f).complete f e stBadOpcode 0 [])
        have hl := State.fetches_lt he
        rw [hm]
        unfold State.complete
        rw [State.box_modBox_self _ _ _ (by simpa [State.pop] using hl)]
        obtain ⟨m', hm'⟩ := Letterbox.postCompletion_cq ((s.pop f).box f) (s.pop f).us (entryId e) stBadOpcode 0
          (nAt e.raw 0x14 4) e.respOk []
        rw [hm']
        unfold State.pop
        rw [State.box_modBox_self _ _ _ hl]
        exact ⟨m' ++ m, by simp⟩
    · exact ⟨[], by simp⟩

/-! ### The run of a command -/

/-- What a command that passes the checks answers: its own conditions and effect, which leave nothing when they refuse. -/
def CmdRes.settled (r : CmdRes) (s : State) : CmdRes :=
  if r.status = stOk ∨ r.status = stDeferred then r else { r with st := { s with free := r.st.free } }

/-- A command that passes the checks does what its act does. -/
theorem State.command_runs {s : State} {f : Nat} {k : Card} {e : SqEntry} {cl : State → Cmd → Option (List Byte)}
    (h : s.runs f k e cl) (act : State → Cmd → CmdRes) :
    ∃ n, s.command f k cl act
      = drainBad f n (((act ((s.pop f).storeCounter k { f := f, e := e }) { f := f, e := e }).settled (s.pop f)).finish
          { f := f, e := e }) := by
  obtain ⟨h1, h2, h3, h4, h5, h6, h7, h8, h9, h10, h11, h12, -⟩ := h
  have hj : (s.pop f).judge k { f := f, e := e } (cl (s.pop f) { f := f, e := e }) act
      = (act ((s.pop f).storeCounter k { f := f, e := e }) { f := f, e := e }).settled (s.pop f) := by
    unfold State.judge
    dsimp only
    rw [if_neg (by simp [h5]), if_neg (by simp [h6]), if_neg (by simp [h7]), if_neg (by simp [h8]), if_neg (by simp [h9]),
      if_neg (fun hc => hc.2 (h10 hc.1)), if_neg (by simp [h11]), if_neg (by rw [h12]; simp)]
    rfl
  unfold State.command
  rw [h1]
  dsimp only
  rw [if_neg (by
    rintro (hc | hc)
    · exact hc h2
    · simp only [Bool.and_eq_true, Bool.not_eq_true'] at hc
      rw [h3 hc.1] at hc; simp at hc)]
  rw [if_neg (by
    intro hc
    simp only [Bool.and_eq_true, bne_iff_ne, ne_eq] at hc
    exact h4 ⟨hc.1.1.1, hc.1.1.2, hc.2⟩)]
  rw [hj]
  exact ⟨_, rfl⟩

/-- A letterbox that fetches has its completion ring enabled. -/
theorem State.fetches_cq {s : State} {f : Nat} {e : SqEntry} (hf : s.fetches f = some e) :
    (s.box f).cqEn = true ∧ (s.box f).cqSize ≠ 0 := by
  unfold State.fetches at hf
  dsimp only at hf
  split at hf
  · cases hf
  · split at hf
    · rename_i hc
      simp only [Bool.and_eq_true, decide_eq_true_eq] at hc
      exact ⟨hc.1.1.2, by omega⟩
    · cases hf

/-- The letterbox of a function whose entry is fetched. -/
theorem State.pop_box {s : State} {f : Nat} (h : f < s.boxes.length) : (s.pop f).box f = { s.box f with
    ready := (s.box f).ready.drop 1, running := (s.box f).running + 1,
    sqHead := if (s.box f).sqSize = 0 then 0 else ((s.box f).sqHead + 1) % (s.box f).sqSize } := by
  unfold State.pop; rw [State.box_modBox_self _ _ _ h]

/-- A command that is answered at once, and whose act leaves its function's completion ring alone: beside the letterboxes
the state is its act's, and the ring has gained its completion. -/
theorem State.command_answers' {s : State} {f : Nat} {k : Card} {e : SqEntry} {cl : State → Cmd → Option (List Byte)}
    (h : s.runs f k e cl) (act : State → Cmd → CmdRes) (r : CmdRes)
    (hr : (act ((s.pop f).storeCounter k { f := f, e := e }) { f := f, e := e }).settled (s.pop f) = r)
    (hl : r.later = false) (hn : f < r.st.boxes.length) (hq : (r.st.box f).cq = (s.box f).cq)
    (hen : (r.st.box f).cqEn = (s.box f).cqEn) (hz : (r.st.box f).cqSize = (s.box f).cqSize) :
    r.st.sameButBoxes (s.command f k cl act)
    ∧ (s.box f).gained ((s.command f k cl act).box f) e r.status r.retry r.resp := by
  obtain ⟨n, hc⟩ := State.command_runs h act
  have hcq := State.fetches_cq h.1
  rw [hc, hr]
  have hfin : r.finish { f := f, e := e }
      = (r.st.complete f e r.status r.retry r.resp).postAll r.evs := by simp [CmdRes.finish, hl]
  rw [hfin]
  refine ⟨((State.complete_sameButBoxes ..).trans (State.postAll_sameButBoxes ..)).trans (drainBad_sameButBoxes ..), ?_⟩
  obtain ⟨more, hm⟩ := drainBad_cq f n ((r.st.complete f e r.status r.retry r.resp).postAll r.evs)
  have hg := Letterbox.postCompletion_gained (r.st.box f) r.st.us r.status r.retry e r.resp
    (by rw [hen]; exact hcq.1) (by rw [hz]; exact hcq.2)
  obtain ⟨c, m, hc, rest⟩ := hg
  refine ⟨c, m ++ more, ?_, rest⟩
  rw [hm, State.postAll_box_cq]
  unfold State.complete
  have h64 : e.raw.length = 64 := by
    obtain ⟨-, -, -, -, -, -, -, -, -, -, -, -, h64⟩ := h
    exact h64
  rw [State.box_modBox_self _ _ _ hn, entryId_plain h64, hc, hq]
  simp

/-- A command that is answered at once, and whose act leaves the letterboxes alone. -/
theorem State.command_answers {s : State} {f : Nat} {k : Card} {e : SqEntry} {cl : State → Cmd → Option (List Byte)}
    (h : s.runs f k e cl) (act : State → Cmd → CmdRes) (r : CmdRes)
    (hr : (act ((s.pop f).storeCounter k { f := f, e := e }) { f := f, e := e }).settled (s.pop f) = r)
    (hl : r.later = false) (hb : r.st.boxes = (s.pop f).boxes) :
    r.st.sameButBoxes (s.command f k cl act)
    ∧ (s.box f).gained ((s.command f k cl act).box f) e r.status r.retry r.resp := by
  have hlt := State.fetches_lt h.1
  have hbox : r.st.box f = (s.pop f).box f := by simp [State.box, hb]
  rw [State.pop_box hlt] at hbox
  exact State.command_answers' h act r hr hl (by rw [hb]; simpa [State.pop] using hlt) (by rw [hbox]) (by rw [hbox])
    (by rw [hbox])

/-- A card without a trailer stores no counter. -/
theorem State.storeCounter_plain (s : State) (k : Card) (c : Cmd) (h : k.hasTrailer c = false) : s.storeCounter k c = s := by
  simp [State.storeCounter, h]

theorem Card.hasTrailer_plain (k : Card) (c : Cmd) (h : k.trailed = false) : k.hasTrailer c = false := by
  simp [Card.hasTrailer, h]

end Sys2Proof.Machine
end

