-- ==== Sys2Proof/Laws/Memory.lean ====
section
/-! SUPPORT. Sparse tables and module memory: the canonical form is kept by every write, a write is read back, and every
other place reads as before. -/
namespace Sys2Proof.Machine

variable {α : Type}

/-! ### Keys -/

/-- A table that rises from a bound has every key above it. -/
theorem risingFrom_some (k : Nat) (t : Table α) :
    risingFrom (some k) t = true ↔ (∀ e ∈ t, k < e.1) ∧ risingFrom none t = true := by
  induction t generalizing k with
  | nil => simp [risingFrom]
  | cons e t ih =>
    obtain ⟨n, v⟩ := e
    simp only [risingFrom, Bool.and_eq_true, decide_eq_true_eq, List.forall_mem_cons, Bool.true_and, ih n]
    constructor
    · rintro ⟨hk, ht, hr⟩
      exact ⟨⟨hk, fun e he => Nat.lt_trans hk (ht e he)⟩, ht, hr⟩
    · rintro ⟨⟨hk, _⟩, ht, hr⟩
      exact ⟨hk, ht, hr⟩

theorem risingFrom_cons (k : Nat) (v : α) (t : Table α) :
    risingFrom none ((k, v) :: t) = true ↔ (∀ e ∈ t, k < e.1) ∧ risingFrom none t = true := by
  rw [← risingFrom_some]; simp [risingFrom]

/-- The entries of a table after an entry is put: the new one, and old ones. -/
theorem mem_tput (t : Table α) (n : Nat) (v : α) (e : Nat × α) (h : e ∈ tput t n v) : e = (n, v) ∨ e ∈ t := by
  induction t with
  | nil => simpa [tput] using h
  | cons x t ih =>
    obtain ⟨k, w⟩ := x
    simp only [tput] at h
    split at h
    · simpa using h
    · split at h
      · rcases List.mem_cons.1 h with h | h <;> simp [h]
      · rcases List.mem_cons.1 h with h | h
        · simp [h]
        · rcases ih h with h | h <;> simp [h]

theorem tput_rising (t : Table α) (n : Nat) (v : α) (h : risingFrom none t = true) : risingFrom none (tput t n v) = true := by
  induction t with
  | nil => rfl
  | cons x t ih =>
    obtain ⟨k, w⟩ := x
    rw [risingFrom_cons] at h
    simp only [tput]
    split
    · rename_i hn
      rw [risingFrom_cons, risingFrom_cons]
      refine ⟨?_, h⟩
      simp only [List.forall_mem_cons]
      exact ⟨hn, fun e he => Nat.lt_trans hn (h.1 e he)⟩
    · split
      · rename_i hn
        rw [risingFrom_cons]; subst hn; exact h
      · rw [risingFrom_cons]
        refine ⟨fun e he => ?_, ih h.2⟩
        rcases mem_tput _ _ _ _ he with rfl | he
        · show k < n; omega
        · exact h.1 e he

theorem filter_rising (t : Table α) (p : Nat × α → Bool) (h : risingFrom none t = true) :
    risingFrom none (t.filter p) = true := by
  induction t with
  | nil => rfl
  | cons x t ih =>
    obtain ⟨k, w⟩ := x
    rw [risingFrom_cons] at h
    rw [List.filter_cons]
    split
    · rw [risingFrom_cons]
      exact ⟨fun e he => h.1 e (List.mem_filter.1 he).1, ih h.2⟩
    · exact ih h.2

/-! ### The canonical form -/

theorem tableWf_iff [DecidableEq α] (d : α) (t : Table α) :
    tableWf d t = true ↔ risingFrom none t = true ∧ ∀ e ∈ t, e.2 ≠ d := by
  simp [tableWf]

/-- A write keeps the canonical form. -/
theorem tset_wf [DecidableEq α] (d : α) (t : Table α) (n : Nat) (v : α) (h : tableWf d t = true) :
    tableWf d (tset d t n v) = true := by
  rw [tableWf_iff] at *
  unfold tset
  split
  · exact ⟨filter_rising _ _ h.1, fun e he => h.2 e (List.mem_filter.1 he).1⟩
  · rename_i hv
    refine ⟨tput_rising _ _ _ h.1, fun e he => ?_⟩
    rcases mem_tput _ _ _ _ he with rfl | he
    · exact hv
    · exact h.2 e he

/-- Dropping entries keeps the canonical form. -/
theorem filter_wf [DecidableEq α] (d : α) (t : Table α) (p : Nat × α → Bool) (h : tableWf d t = true) :
    tableWf d (t.filter p) = true := by
  rw [tableWf_iff] at *
  exact ⟨filter_rising _ _ h.1, fun e he => h.2 e (List.mem_filter.1 he).1⟩

/-! ### Module memory -/

/-- A write of one byte keeps the canonical form of memory. -/
theorem memSet_wf (m : Table Byte) (a : Nat) (b : Byte) (h : Memory.wf m = true) : Memory.wf (memSet m a b) = true :=
  tset_wf _ _ _ _ h

/-- A write of bytes keeps the canonical form of memory. -/
theorem memWrite_wf (m : Table Byte) (a : Nat) (bs : List Byte) (h : Memory.wf m = true) :
    Memory.wf (memWrite m a bs) = true := by
  induction bs generalizing m a with
  | nil => exact h
  | cons b bs ih => exact ih _ _ (memSet_wf _ _ _ h)

/-- What power takes from the top of memory leaves the canonical form. -/
theorem memFilter_wf (m : Table Byte) (p : Nat × Byte → Bool) (h : Memory.wf m = true) : Memory.wf (m.filter p) = true :=
  filter_wf _ _ _ h

/-! ### Reading back -/

theorem tfind_tput_self (t : Table α) (n : Nat) (v : α) : tfind (tput t n v) n = some v := by
  induction t with
  | nil => simp [tput, tfind]
  | cons x t ih =>
    obtain ⟨k, w⟩ := x
    simp only [tput]
    split
    · simp [tfind]
    · split
      · simp [tfind]
      · rename_i hne
        simp only [tfind]
        rw [if_neg hne]; exact ih

theorem tfind_tput_ne (t : Table α) (n m : Nat) (v : α) (h : m ≠ n) : tfind (tput t n v) m = tfind t m := by
  induction t with
  | nil => simp [tput, tfind, h]
  | cons x t ih =>
    obtain ⟨k, w⟩ := x
    simp only [tput]
    split
    · simp [tfind, h]
    · split
      · rename_i hn; subst hn; simp [tfind, h]
      · simp only [tfind]; rw [ih]

theorem tfind_tdel_self (t : Table α) (n : Nat) : tfind (tdel t n) n = none := by
  unfold tdel
  induction t with
  | nil => rfl
  | cons x t ih =>
    obtain ⟨k, w⟩ := x
    rw [List.filter_cons]
    split
    · rename_i hk
      simp only [ne_eq, decide_not, Bool.not_eq_true', decide_eq_false_iff_not] at hk
      simp only [tfind]
      rw [if_neg (fun e => hk e.symm)]
      exact ih
    · exact ih

theorem tfind_tdel_ne (t : Table α) (n m : Nat) (h : m ≠ n) : tfind (tdel t n) m = tfind t m := by
  unfold tdel
  induction t with
  | nil => rfl
  | cons x t ih =>
    obtain ⟨k, w⟩ := x
    rw [List.filter_cons]
    split
    · simp only [tfind]; rw [ih]
    · rename_i hk
      simp only [ne_eq, decide_not, Bool.not_eq_true', decide_eq_false_iff_not, not_not] at hk
      subst hk
      simp only [tfind]
      rw [if_neg h]; exact ih

theorem tget_eq (d : α) (t : Table α) (n : Nat) : tget d t n = (tfind t n).getD d := by
  induction t with
  | nil => rfl
  | cons x t ih =>
    obtain ⟨k, w⟩ := x
    simp only [tget, tfind]
    split
    · rfl
    · exact ih

/-- A write is read back. -/
theorem tget_tset_self [DecidableEq α] (d : α) (t : Table α) (n : Nat) (v : α) : tget d (tset d t n v) n = v := by
  rw [tget_eq]
  unfold tset
  split
  · rename_i hv; rw [tfind_tdel_self]; exact hv.symm
  · rw [tfind_tput_self]; rfl

/-- A write leaves every other key. -/
theorem tget_tset_ne [DecidableEq α] (d : α) (t : Table α) (n m : Nat) (v : α) (h : m ≠ n) :
    tget d (tset d t n v) m = tget d t m := by
  rw [tget_eq, tget_eq]
  unfold tset
  split
  · rw [tfind_tdel_ne _ _ _ h]
  · rw [tfind_tput_ne _ _ _ _ h]

theorem memGet_memSet_self (m : Table Byte) (a : Nat) (b : Byte) : memGet (memSet m a b) a = b := tget_tset_self _ _ _ _

theorem memGet_memSet_ne (m : Table Byte) (a n : Nat) (b : Byte) (h : n ≠ a) : memGet (memSet m a b) n = memGet m n :=
  tget_tset_ne _ _ _ _ _ h

/-- A write of bytes leaves every byte outside them. -/
theorem memGet_memWrite_out (m : Table Byte) (a n : Nat) (bs : List Byte) (h : n < a ∨ a + bs.length ≤ n) :
    memGet (memWrite m a bs) n = memGet m n := by
  induction bs generalizing m a with
  | nil => rfl
  | cons b bs ih =>
    simp only [List.length_cons] at h
    show memGet (memWrite (memSet m a b) (a + 1) bs) n = _
    rw [ih _ _ (by omega), memGet_memSet_ne _ _ _ _ (by omega)]

/-- A write of bytes is read back byte by byte. -/
theorem memGet_memWrite_in (m : Table Byte) (a i : Nat) (bs : List Byte) (hi : i < bs.length) :
    memGet (memWrite m a bs) (a + i) = bs[i] := by
  induction bs generalizing m a i with
  | nil => simp at hi
  | cons b bs ih =>
    show memGet (memWrite (memSet m a b) (a + 1) bs) (a + i) = _
    cases i with
    | zero => rw [memGet_memWrite_out _ _ _ _ (by omega)]; exact memGet_memSet_self _ _ _
    | succ i =>
      have := ih (memSet m a b) (a + 1) i (by simpa using hi)
      rw [show a + 1 + i = a + (i + 1) by omega] at this
      simpa using this

end Sys2Proof.Machine
end

