-- ==== Sys2Proof/Laws/Mram.lean ====
section
/-! SUPPORT. What the operations on MRAM records do (R404 to R406, R513). -/
namespace Sys2Proof.Machine

theorem leBytes_length (n w : Nat) : (leBytes n w).length = n := by
  induction n generalizing w with
  | zero => rfl
  | succ n ih => simp [leBytes, ih]

/-- The header of R404 is 32 bytes. -/
theorem recHeader_length (type seq time len : Nat) : (recHeader type seq time len).length = 32 := by
  simp [recHeader, leBytes_length, zeros]

/-- A record that Threshold has written bears a seal that holds (R513). -/
@[simp] theorem sealRec_sealOk {α : Type} (serial type : Nat) (pay : α → List Byte) (seq time : Nat) (v : α) :
    (sealRec serial type pay seq time v).sealOk serial type pay = true := by
  simp [sealRec, Rec.sealOk]

@[simp] theorem sealRec_val {α : Type} (serial type : Nat) (pay : α → List Byte) (seq time : Nat) (v : α) :
    (sealRec serial type pay seq time v).val = v := rfl

@[simp] theorem sealRec_seq {α : Type} (serial type : Nat) (pay : α → List Byte) (seq time : Nat) (v : α) :
    (sealRec serial type pay seq time v).seq = seq := rfl

/-- Copies whose seals hold are kept whole by a second look. -/
@[simp] theorem AB.sound_sound {α : Type} (serial type : Nat) (pay : α → List Byte) (r : AB α) :
    (r.sound serial type pay).sound serial type pay = r.sound serial type pay := by
  cases r with
  | mk a b => simp [AB.sound, Option.filter_filter]

/-- A write leaves one copy as it was and puts what `mk` makes into the other (R405, R406). -/
theorem AB.put_copy {α : Type} (r : AB α) (mk : Nat → Rec α) :
    (∃ q, r.put mk = { r with a := some (mk q) }) ∨ (∃ q, r.put mk = { r with b := some (mk q) }) := by
  cases r with
  | mk a b =>
    cases a with
    | none => cases b with
      | none => exact .inl ⟨_, rfl⟩
      | some b => exact .inl ⟨_, rfl⟩
    | some a => cases b with
      | none => exact .inr ⟨_, rfl⟩
      | some b =>
        by_cases h : recNewer a b = true
        · exact .inr ⟨(a.seq + 1) % 0x100000000, by simp only [AB.put, h, if_true]⟩
        · exact .inl ⟨(b.seq + 1) % 0x100000000, by simp only [AB.put, h]; rfl⟩

end Sys2Proof.Machine
end

