-- ==== Sys2Proof/Laws/Packets.lean ====
section
/-! SUPPORT. What little-endian bytes read back as, and that a block or a packet which the part forms carries its CRC (R267,
R591). -/
namespace Sys2Proof.Machine

/-! ### Bytes -/

theorem leNat_leBytes (n w : Nat) : leNat (leBytes n w) = w % 256 ^ n := by
  induction n generalizing w with
  | zero => simp [leBytes, leNat, Nat.mod_one]
  | succ n ih => simp [leBytes, leNat, ih, Nat.pow_succ', Nat.mod_mul]

theorem bytesAt_length (bs : List Byte) (off len : Nat) : (bytesAt bs off len).length = len := by
  simp only [bytesAt, zeros, List.length_append, List.length_replicate]
  have := List.length_take_le len (bs.drop off)
  omega

theorem fitTo_length (n : Nat) (bs : List Byte) : (fitTo n bs).length = n := bytesAt_length bs 0 n

/-- Bytes that stand whole behind others. -/
theorem bytesAt_append (a b c : List Byte) : bytesAt (a ++ b ++ c) a.length b.length = b := by
  simp [bytesAt, zeros]

/-- The number that its bytes spell behind others. -/
theorem nAt_leBytes (a c : List Byte) (n w : Nat) : nAt (a ++ leBytes n w ++ c) a.length n = w % 256 ^ n := by
  have h := bytesAt_append a (leBytes n w) c
  rw [leBytes_length] at h
  rw [nAt, h, leNat_leBytes]

/-- The CRC behind the bytes it is taken over. -/
theorem nAt_crc32 (d : List Byte) : nAt (d ++ leBytes 4 (crc32 d).toNat) d.length 4 = (crc32 d).toNat := by
  have h := nAt_leBytes d [] 4 (crc32 d).toNat
  rw [List.append_nil] at h
  rw [h]
  exact Nat.mod_eq_of_lt (crc32 d).isLt

/-! ### CRCs -/

/-- Padding a list that is not longer. -/
theorem fitTo_of_le {n : Nat} {bs : List Byte} (h : bs.length ≤ n) : fitTo n bs = bs ++ zeros (n - bs.length) := by
  simp [fitTo, bytesAt, List.take_of_length_le h]

/-- A CONTROL payload that the part forms carries its CRC (R267). -/
@[simp] theorem ctlOk_ctlBlock (body : List Byte) : ctlOk (ctlBlock body) = true := by
  have hl := fitTo_length 28 body
  have hc := nAt_crc32 (fitTo 28 body)
  have ht : (fitTo 28 body ++ leBytes 4 (crc32 (fitTo 28 body)).toNat).take 28 = fitTo 28 body := List.take_left' hl
  rw [hl] at hc
  simp only [ctlOk, ctlBlock, hc, ht, List.length_append, hl, leBytes_length, beq_self_eq_true, Bool.and_self]

/-- A packet that the part forms, of a length that 32 bits hold, carries its length and its CRC (R591). -/
theorem packetGood_packetOf (typ flags src dst hops seq : Nat) (body : List Byte) (hb : packetLen body.length < 4294967296) :
    packetGood (packetOf typ flags src dst hops seq body) = true := by
  let n := packetLen body.length
  let a := leBytes 1 typ ++ leBytes 1 flags ++ leBytes 2 src ++ leBytes 2 dst ++ leBytes 2 hops
  let h := a ++ leBytes 4 n ++ leBytes 4 seq
  have ha : a.length = 8 := by simp [a, leBytes_length]
  have hn : (h ++ body).length ≤ n - 4 := by
    simp only [h, List.length_append, ha, leBytes_length, n, packetLen, cdiv]; omega
  have h32 : 32 ≤ n := by simp only [n, packetLen, cdiv]; omega
  let d := fitTo (n - 4) (h ++ body)
  have hd : d.length = n - 4 := fitTo_length _ _
  have hp : packetOf typ flags src dst hops seq body = d ++ leBytes 4 (crc32 d).toNat := by
    simp only [packetOf, d, h, a, n]
  have hl : (d ++ leBytes 4 (crc32 d).toNat).length = n := by simp only [List.length_append, hd, leBytes_length]; omega
  have hs : nAt (d ++ leBytes 4 (crc32 d).toNat) 8 4 = n := by
    have e : d ++ leBytes 4 (crc32 d).toNat
        = a ++ leBytes 4 n ++ (leBytes 4 seq ++ body ++ zeros (n - 4 - (h ++ body).length) ++ leBytes 4 (crc32 d).toNat) := by
      simp only [d, fitTo_of_le hn, h, List.append_assoc]
    have := nAt_leBytes a (leBytes 4 seq ++ body ++ zeros (n - 4 - (h ++ body).length) ++ leBytes 4 (crc32 d).toNat) 4 n
    rw [ha] at this
    rw [e, this]
    exact Nat.mod_eq_of_lt hb
  have hc := nAt_crc32 d
  have ht : (d ++ leBytes 4 (crc32 d).toNat).take (n - 4) = d := List.take_left' hd
  rw [hd] at hc
  rw [hp]
  simp only [packetGood, hl, hs, hc, ht, h32, decide_true, beq_self_eq_true, Bool.and_self]

end Sys2Proof.Machine
end

