-- ==== Sys2Proof/Laws/Regs.lean ====
section
/-! SUPPORT. The shadow sets: a word that is written reads back, and every other word of every block reads as before. -/
namespace Sys2Proof.Machine

theorem regGet_regSet_self (v : Variant) (b : Blk) (m : RegMap) (off : Nat) (w : Word) :
    regGet v b (regSet v b m off w) off = w.toNat := by
  have h := tget_tset_self (resetWord v b off) m off w
  rw [tget_eq] at h
  exact congrArg BitVec.toNat h

theorem regGet_regSet_ne (v : Variant) (b : Blk) (m : RegMap) (off n : Nat) (w : Word) (h : n ≠ off) :
    regGet v b (regSet v b m off w) n = regGet v b m n := by
  unfold regGet regSet tset
  split
  · rw [tfind_tdel_ne _ _ _ h]
  · rw [tfind_tput_ne _ _ _ _ h]

theorem State.shadowOf_setShadow_self (s : State) (b : Blk) (m : RegMap) : (s.setShadow b m).shadowOf b = m := by
  have hn : (s.shadow.filter fun e => e.1 ≠ b).find? (fun e => e.1 == b) = none := by
    rw [List.find?_eq_none]
    intro e he
    simpa using (List.mem_filter.1 he).2
  unfold State.shadowOf State.setShadow
  dsimp only
  split
  · rename_i hm
    rw [hn, hm]; rfl
  · rw [List.find?_append, hn]; simp

theorem State.shadowOf_setShadow_ne (s : State) {b c : Blk} (m : RegMap) (h : c ≠ b) :
    (s.setShadow b m).shadowOf c = s.shadowOf c := by
  have hf : (s.shadow.filter fun e => e.1 ≠ b).find? (fun e => e.1 == c) = s.shadow.find? fun e => e.1 == c := by
    rw [List.find?_filter]
    congr 1
    funext e
    by_cases he : e.1 = c
    · simp [he, h]
    · simp [he]
  unfold State.shadowOf State.setShadow
  dsimp only
  split
  · rw [hf]
  · rw [List.find?_append, hf]
    have hc : (b == c) = false := by simpa using Ne.symm h
    simp [hc]

/-- A shadow word that is written reads back. -/
theorem State.sh_setSh_self (s : State) (b : Blk) (off w : Nat) : (s.setSh b off w).sh b off = w % 2 ^ 32 := by
  have hv : (s.setSh b off w).variant = s.variant := rfl
  unfold State.sh
  rw [hv]
  unfold State.setSh
  rw [State.shadowOf_setShadow_self, regGet_regSet_self, BitVec.toNat_ofNat]

/-- Every other shadow word reads as before. -/
theorem State.sh_setSh_ne (s : State) (b c : Blk) (off n w : Nat) (h : (c, n) ≠ (b, off)) :
    (s.setSh b off w).sh c n = s.sh c n := by
  have hv : (s.setSh b off w).variant = s.variant := rfl
  unfold State.sh
  rw [hv]
  unfold State.setSh
  by_cases hc : c = b
  · subst hc
    rw [State.shadowOf_setShadow_self, regGet_regSet_ne]
    intro e; exact h (by rw [e])
  · rw [State.shadowOf_setShadow_ne _ _ hc]

end Sys2Proof.Machine
end

