-- ==== Sys2Proof/WellFormed.lean ====
section
/-! DEFINITION. Which commands are well formed: every unit, function, channel or lane an operand names exists in the
part, and every block or packet has the length its layout fixes. -/
namespace Sys2Proof

/-- A number below a bound. -/
def inRange (n bound : Nat) : Bool := n < bound

/-- A backchannel or ring CONTROL payload is 32 bytes long (R263). -/
def blockOk (b : List Byte) : Bool := b.length == 32

/-- A submission entry is 64 bytes long (R465). -/
def entryOk (e : SqEntry) : Bool := e.raw.length == 64

/-- A ring packet is a whole number of 32-byte payloads, at most 65,536 B (R591). -/
def packetOk (p : List Byte) : Bool := p.length % 32 == 0 && 0 < p.length && p.length ≤ 65536

/-- The functions are the PF and 31 VFs (R457). -/
def funcOk (f : Nat) : Bool := inRange f 32

/-- Well-formedness of a command: its operands name what exists (R18, R57, R62, R302, R363, R457, R628). -/
def WellFormed : Instr → Bool
  | .getInfo f | .getStatus f | .commit f | .writeFields f | .readFields f | .submitOps f | .setStream f
  | .getScene f | .setMode f | .getMode f | .setLayer f | .setChannel f | .setAuditChain f | .openSession f
  | .closeSession f | .submitPoints f | .setScanout f | .getLink f | .retrain f | .transomUpdate f | .getTransom f
  | .i2cXfer f | .setViewers f | .setCal f | .applyCal f | .getCal f | .submitBlit f | .getPool f | .setPool f
  | .getIdentity f | .attest f | .installPackage f | .setLifecycle f | .readViolations f | .updateFirmware f
  | .getFaults f | .recover f | .setRing f | .getRing f | .setPower f | .getThermal f | .timeLoRead f
  | .functionLevelReset f | .sqEn f _ | .cqEn f _ | .eqEn f _ | .cqHead f _ | .eqHead f _
  | .configRequest f _ _ | .retrainWrite f _ | .vectorCoalesceExpiry f _ => funcOk f
  | .registerWrite f bar _ _ => funcOk f && (bar == 0 || bar == 2)
  | .expertWindowReadDenied f _ _ => funcOk f
  | .sqTail f _ es => funcOk f && es.all entryOk
  | .recalNow f p _ => funcOk f && inRange p 4
  | .mgmtI2cTransfer i _ _ => inRange i 256
  | .landingSwap i _ | .landingTimeout i _ | .islandReplayDone i | .islandRejoinTimeout i | .pllWindow i _
  | .refEdgeTimeout i => inRange i 64
  | .bandPrepDone _ _ c | .frontPlaneRow _ _ c _ => inRange c 4
  | .expectationDone _ r _ | .signatureCompare _ r | .signatureDeadline _ r => inRange r 4096
  | .spanDispatch n | .spanComplete n | .spanWatchdog n => inRange n 32
  | .deskewSlotDue p => inRange p 4
  | .teMsg _ b | .trainReport _ b | .capsMsg _ b | .crcEcho _ b | .statusMsg _ b | .linkQuality _ b
  | .helloBlk _ b | .ringTrainReport _ b | .pingBlk _ b | .ackBlk _ b | .tokenReady _ b | .tokenStart _ b => blockOk b
  | .enumPkt _ p | .scenePkt _ p | .mirrorPkt _ p | .relayPkt _ p | .viewersPkt _ p => packetOk p
  | .backchannelBlockDiscard b => inRange b.header 256 && blockOk b.payload
  | .eiExitDone n | .eyeRefresh n _ _ | .laneCalDue n | .laneCalDone n | .laneCalAbort n | .blockLockGained n
  | .blockLockLost n => inRange n 50
  | .laneCalStart p => inRange p 4
  | .opsPacket c _ _ | .storePauseTimeout c | .auditRecordDone c => inRange c 4
  | .pointUpdate _ e _ => inRange e 16
  | .camFrameStart p v | .camFrameEnd p v => inRange p 4 && inRange v 4
  | .camLongPacket p k => inRange p 4 && inRange k.vc 4
  | .camFrameTimeout p | .camTrig p | .i2cTransferDone p _ _ => inRange p 4
  | .pipelineFrameDone p => inRange p 2
  | .transomLoadDone z | .blinkToggle z => inRange z 16
  | .sensorSample n _ | .thermalCutoff n | .sensorOffsetCal n _ => inRange n 68
  | .dramRetrain c => inRange c 8
  | .vauxValid _ | .vauxInvalid _ | .powerFail _ | .vmainValid _ | .vmainLost _ | .vmainRangeFault _
  | .vmainOvervoltage _ | .regulatorFault _ | .vauxLow _ | .perstAssert | .perstDeassert | .faultIn _
  | .heartbeatToggle | .bootVerifyDone | .packageCheckDone | .dramTrained _ | .dramZeroingDone | .bankCopyDone
  | .endpointReady | .letterboxReady | .verifyTimeout _ | .doorwayClose _ | .doorwaySwap _ | .bandPrepStart _ _
  | .prepBudgetSpent _ | .rowPacing _ | .frameStart _ | .forcedStart _ | .frameEnd _ | .tePinChange _ _
  | .teTimeout _ | .backchannelLoss _ | .echoTimeout _ | .panelFaultClear _ | .trainPhaseTimeout _
  | .trainDeskewRepeat _ | .panelRstRelease _ | .linkRetryCycle _ | .eiExitStart _ | .storeCompaction | .pointSweep
  | .pointTableRewriteDone | .admissionStart | .sessionAdmission | .auditSeal | .blitListStart | .blitCopy _
  | .blitFill _ | .blitStretch _ | .blitBlend _ | .blitConvert _ | .zoneCopyUpdate _ | .viewerHoldExpiry _
  | .trackingLost | .calPhaseEnd | .calMapsBuilt _ | .calRampEnd _ | .waveformFrame | .vcomCalDue | .ntcMeasure _
  | .railGood _ | .railEnableTimeout _ | .railOutOfBand _ | .railsIdleTimeout | .ledgerFlushDone
  | .ringTrainTimeout _ | .joinRetry _ | .pingTimer _ | .ackTimer _ | .retxTimeout _ | .headStartSend
  | .headStartForced | .memberFrameStart | .startTimeout | .isolationTimeout | .ringPortDown _ | .enumTimer
  | .checkpointByVolume | .checkpointDone _ | .hearthHeartbeatTimeout | .lockstepMismatch _ | .crystalStop
  | .crystalDeviation | .graceExpiry | .throttleStepTimer | .dramPatrolScrub _ _ | .sramPatrolScrub _ _ _
  | .railOff _ | .resourceReloadDone | .standbyReached | .vauxRailBelow1v5 _ => true

end Sys2Proof
end

