-- ==== Sys2Proof/Tests/Slice0.lean ====
section
/-! SUPPORT. Tests of the author's own: ill-formed commands that WellFormed refuses, a few single steps with values
taken from the manual, and for each statement with hypotheses a state and operands that meet them. -/

namespace Sys2Proof.Tests
open Sys2Proof Sys2Proof.Machine

/-! ### WellFormed refuses (R18, R57, R263, R302, R363, R457, R465, R591, R628) -/

theorem test_wf_function : WellFormed (.getInfo 31) = true ∧ WellFormed (.getInfo 32) = false := by decide
theorem test_wf_bar : WellFormed (.registerWrite 0 2 0 []) = true ∧ WellFormed (.registerWrite 0 1 0 []) = false
    ∧ WellFormed (.registerWrite 32 2 0 []) = false := by decide
theorem test_wf_denied : WellFormed (.expertWindowReadDenied 32 0 4) = false := by decide
theorem test_wf_entry : WellFormed (.sqTail 0 1 [{ raw := [0], data := none, respOk := true }]) = false
    ∧ WellFormed (.sqTail 32 1 []) = false := by decide
theorem test_wf_recal : WellFormed (.recalNow 0 4 0) = false ∧ WellFormed (.recalNow 32 0 0) = false := by decide
theorem test_wf_mgmt : WellFormed (.mgmtI2cTransfer 256 [] 0) = false := by decide
theorem test_wf_island : WellFormed (.pllWindow 63 0) = true ∧ WellFormed (.pllWindow 64 0) = false := by decide
theorem test_wf_channel : WellFormed (.bandPrepDone .A 0 4) = false ∧ WellFormed (.opsPacket 4 [] true) = false := by decide
theorem test_wf_region : WellFormed (.signatureCompare .A 4096) = false := by decide
theorem test_wf_slice : WellFormed (.spanDispatch 32) = false := by decide
theorem test_wf_port : WellFormed (.deskewSlotDue 4) = false ∧ WellFormed (.laneCalStart 4) = false
    ∧ WellFormed (.camTrig 4) = false ∧ WellFormed (.camFrameStart 0 4) = false := by decide
theorem test_wf_block : WellFormed (.teMsg .A (List.replicate 32 0)) = true
    ∧ WellFormed (.teMsg .A (List.replicate 31 0)) = false := by decide
theorem test_wf_packet : WellFormed (.enumPkt .east []) = false ∧ WellFormed (.enumPkt .east (List.replicate 33 0)) = false := by
  decide
theorem test_wf_lane : WellFormed (.laneCalDue 49) = true ∧ WellFormed (.laneCalDue 50) = false := by decide
theorem test_wf_engine : WellFormed (.pointUpdate 0 16 true) = false := by decide
theorem test_wf_camera_packet :
    WellFormed (.camLongPacket 0 { vc := 4, dt := 0x2B, payload := [], eccBad := false, crcBad := false }) = false := by
  decide
theorem test_wf_pipe : WellFormed (.pipelineFrameDone 2) = false := by decide
theorem test_wf_zone : WellFormed (.blinkToggle 16) = false := by decide
theorem test_wf_sensor : WellFormed (.sensorSample 67 0) = true ∧ WellFormed (.sensorSample 68 0) = false := by decide
theorem test_wf_dram : WellFormed (.dramRetrain 8) = false := by decide

end Sys2Proof.Tests
end

section
/-! PROOF. Records and ring entries bear their fields where R404, R468 and R472 lay them; a sealed write makes the newest copy
(R406, R513). -/
namespace Sys2Proof.Machine

/-! ### Lengths of what the sponge gives -/

@[simp] theorem kChi_length (a : List KLane) : (kChi a).length = 25 := by simp [kChi]

/-- A round keeps the 25 lanes. -/
theorem kStep_length (a : List KLane) (rc : KLane) : (kStep a rc).length = 25 := by
  have h := kChi_length (kRhoPi (kTheta a))
  unfold kStep
  split
  · rename_i hn
    rw [hn] at h
    exact h
  · rename_i l ls hc
    rw [hc] at h
    exact h

theorem foldl_kStep_length (rcs : List KLane) {a : List KLane} (h : a.length = 25) : (rcs.foldl kStep a).length = 25 := by
  induction rcs generalizing a with
  | nil => exact h
  | cons rc rcs ih => exact ih (kStep_length a rc)

@[simp] theorem kBlock_length (bs : List Byte) : (kBlock bs).length = 17 := by simp [kBlock]

/-- Taking blocks in keeps the 25 lanes. -/
theorem kAbsorb_length (n : Nat) {a : List KLane} (bs : List Byte) (h : a.length = 25) : (kAbsorb n a bs).length = 25 := by
  induction n generalizing a bs with
  | zero => exact h
  | succ n ih => exact ih _ (foldl_kStep_length kRound (by simp [h]))

theorem length_flatMap_leBytes (n : Nat) (ls : List KLane) :
    (ls.flatMap fun l => leBytes n l.toNat).length = n * ls.length := by
  induction ls with
  | nil => rfl
  | cons l ls ih => rw [List.flatMap_cons, List.length_append, ih, leBytes_length, List.length_cons]; ring

/-- A state of 25 lanes gives a block of 136 bytes. -/
theorem kOut_length {a : List KLane} (h : a.length = 25) : (kOut a).length = 136 := by
  rw [kOut, length_flatMap_leBytes, List.length_take, h]; rfl

/-- SHAKE256 gives as many bytes as are asked of it, up to one block. -/
theorem shake256_length (bs : List Byte) {n : Nat} (h0 : 0 < n) (h : n ≤ 136) : (shake256 bs n).length = n := by
  have hc : cdiv n 136 = 1 := by unfold cdiv; omega
  have hl := kOut_length (kAbsorb_length ((kPad 0x1F bs).length / 136) (kPad 0x1F bs)
    (List.length_replicate (n := 25) (a := (0 : KLane))))
  simp only [shake256, sponge, hc, kSqueeze, List.append_nil, List.length_take, hl]
  omega

/-! ### Fields at their places -/

@[simp] theorem zeros_length (n : Nat) : (zeros n).length = n := List.length_replicate

/-- A field behind other bytes. -/
theorem bytesAt_skip {a : List Byte} (b : List Byte) {off : Nat} (n : Nat) (h : a.length ≤ off) :
    bytesAt (a ++ b) off n = bytesAt b (off - a.length) n := by
  simp only [bytesAt, List.drop_append, List.drop_eq_nil_of_le h, List.nil_append]

theorem nAt_skip {a : List Byte} (b : List Byte) {off : Nat} (n : Nat) (h : a.length ≤ off) :
    nAt (a ++ b) off n = nAt b (off - a.length) n := congrArg leNat (bytesAt_skip b n h)

theorem bytesAt_head {a : List Byte} (c : List Byte) {n : Nat} (h : a.length = n) : bytesAt (a ++ c) 0 n = a := by
  subst h
  exact bytesAt_append [] a c

/-- A number that its own bytes spell (R8). -/
theorem nAt_head {n w : Nat} (c : List Byte) (h : w < 256 ^ n) : nAt (leBytes n w ++ c) 0 n = w := by
  rw [nAt, bytesAt_head c (leBytes_length n w), leNat_leBytes, Nat.mod_eq_of_lt h]

theorem leNat_zeros (n : Nat) : leNat (zeros n) = 0 := by
  induction n with
  | zero => rfl
  | succ n ih => simpa [zeros, leNat, List.replicate_succ] using ih

theorem nAt_zeros_head (n : Nat) (c : List Byte) : nAt (zeros n ++ c) 0 n = 0 := by
  rw [nAt, bytesAt_head c (zeros_length n), leNat_zeros]

/-- Bytes of the length asked for are left as they are. -/
theorem fitTo_self {n : Nat} {bs : List Byte} (h : bs.length = n) : fitTo n bs = bs := by
  have := bytesAt_head [] h
  rwa [List.append_nil] at this

theorem b2n_le (b : Bool) : b2n b ≤ 1 := by cases b <;> decide

/-- Two flags fit in the two bytes that R468 and R472 give them. -/
theorem flags_lt (p q : Bool) : b2n p + 2 * b2n q < 0x10000 := by
  have hp := b2n_le p
  have hq := b2n_le q
  omega

/-- The fields of a record's header (R404), whatever follows it. -/
theorem recHeader_fields {type seq time len : Nat} (rest : List Byte) (ht : type < 0x100000000)
    (hs : seq < 0x100000000) (htm : time < 0x10000000000000000) (hl : len < 0x100000000) :
    nAt (recHeader type seq time len ++ rest) 0 4 = type ∧ nAt (recHeader type seq time len ++ rest) 4 2 = 1
    ∧ nAt (recHeader type seq time len ++ rest) 6 2 = 0 ∧ nAt (recHeader type seq time len ++ rest) 8 4 = seq
    ∧ nAt (recHeader type seq time len ++ rest) 0xC 4 = len ∧ nAt (recHeader type seq time len ++ rest) 0x10 8 = time
    ∧ nAt (recHeader type seq time len ++ rest) 0x18 8 = 0 := by
  simp [recHeader, List.append_assoc, nAt_skip, nAt_head, nAt_zeros_head, leBytes_length, ht, hs, htm, hl]

theorem recBytes_eq (type seq time : Nat) (p : List Byte) :
    recBytes type seq time p = recHeader type seq time p.length
      ++ (p ++ shake256 (recHeader type seq time p.length ++ p) 8) := List.append_assoc ..

theorem recBytes_length (type seq time : Nat) (p : List Byte) : (recBytes type seq time p).length = p.length + 0x28 := by
  rw [recBytes_eq, List.length_append, List.length_append, recHeader_length,
    shake256_length _ (by decide) (by decide)]
  omega

/-- The payload stands behind the header (R404). -/
theorem recBytes_payload (type seq time : Nat) (p : List Byte) : bytesAt (recBytes type seq time p) 0x20 p.length = p := by
  have h := bytesAt_append (recHeader type seq time p.length) p (shake256 (recHeader type seq time p.length ++ p) 8)
  rwa [recHeader_length] at h

/-- CHECK stands behind the payload, over all that comes before it (R404). -/
theorem recBytes_check (type seq time : Nat) (p : List Byte) :
    bytesAt (recBytes type seq time p) (0x20 + p.length) 8
      = shake256 ((recBytes type seq time p).take (0x20 + p.length)) 8 := by
  have hb : (recHeader type seq time p.length ++ p).length = 0x20 + p.length := by
    rw [List.length_append, recHeader_length]
  have hc := bytesAt_append (recHeader type seq time p.length ++ p)
    (shake256 (recHeader type seq time p.length ++ p) 8) []
  rw [List.append_nil, hb, shake256_length _ (by decide) (by decide)] at hc
  exact hc.trans (congrArg (shake256 · 8) (List.take_left' hb).symm)

/-- A record as it is written is valid in an area that has room for it (R404, R405). -/
theorem recValid_recBytes {type seq time slot : Nat} {p : List Byte} (ht : type < 2 ^ 32) (hs : seq < 2 ^ 32)
    (htm : time < 2 ^ 64) (hp : p.length < 2 ^ 32) (hr : p.length + 0x28 ≤ slot) :
    recValid type slot (recBytes type seq time p) = true := by
  obtain ⟨h0, h4, h6, -, hC, -, h18⟩ := recHeader_fields
    (p ++ shake256 (recHeader type seq time p.length ++ p) 8) ht hs htm hp
  rw [← recBytes_eq] at h0 h4 h6 hC h18
  simp only [recValid, h0, h4, h6, hC, h18, recBytes_length, recBytes_check, beq_self_eq_true, le_refl, hr, decide_true,
    Bool.and_self]

/-! ### The newest copy (R406) -/

/-- A copy with the SEQ after another's is newer than it. -/
theorem recNewer_next {α : Type} {a b : Rec α} (h : a.seq = (b.seq + 1) % 0x100000000) (hb : b.seq < 0x100000000) :
    recNewer a b = true := by
  have hd : (a.seq + 0x100000000 - b.seq) % 0x100000000 = 1 := by omega
  simp only [recNewer, hd]
  decide

/-- A copy is not newer than one with the SEQ after its own. -/
theorem recNewer_prev {α : Type} {a b : Rec α} (h : a.seq = (b.seq + 1) % 0x100000000) (hb : b.seq < 0x100000000) :
    recNewer b a = false := by
  have hd : (b.seq + 0x100000000 - a.seq) % 0x100000000 = 0xFFFFFFFF := by omega
  simp only [recNewer, hd]
  decide

/-- The SEQ that R406 gives the next copy: the one after the newest valid copy's, or 1. -/
def AB.nextSeq {α : Type} (r : AB α) : Nat := r.newest.elim 1 fun c => (c.seq + 1) % 0x100000000

theorem AB.nextSeq_of_newest {α : Type} {r : AB α} {c : Rec α} (h : r.newest = some c) :
    r.nextSeq = (c.seq + 1) % 0x100000000 := by
  rw [AB.nextSeq, h]; rfl

theorem AB.newest_of_newer {α : Type} {a b : Rec α} (h : recNewer a b = true) :
    (AB.mk (some a) (some b)).newest = some a := if_pos h

theorem AB.newest_of_not_newer {α : Type} {a b : Rec α} (h : recNewer a b = false) :
    (AB.mk (some a) (some b)).newest = some b := if_neg (by simp [h])

theorem AB.put_of_newer {α : Type} {a b : Rec α} (mk : Nat → Rec α) (h : recNewer a b = true) :
    (AB.mk (some a) (some b)).put mk = ⟨some a, some (mk ((a.seq + 1) % 0x100000000))⟩ := by
  simp only [AB.put, h, if_true]

theorem AB.put_of_not_newer {α : Type} {a b : Rec α} (mk : Nat → Rec α) (h : recNewer a b = false) :
    (AB.mk (some a) (some b)).put mk = ⟨some (mk ((b.seq + 1) % 0x100000000)), some b⟩ := by
  simp only [AB.put, h, Bool.false_eq_true, if_false]

/-- What is put is the newest copy, with the next SEQ (R406). -/
theorem AB.newest_put {α : Type} (r : AB α) (mk : Nat → Rec α) (hm : ∀ q, (mk q).seq = q)
    (hr : ∀ c, r.a = some c ∨ r.b = some c → c.seq < 2 ^ 32) :
    (r.put mk).newest = some (mk r.nextSeq) := by
  obtain ⟨a, b⟩ := r
  cases a with
  | none =>
    cases b with
    | none => rfl
    | some b => exact AB.newest_of_newer (recNewer_next (hm _) (hr b (.inr rfl)))
  | some a =>
    cases b with
    | none => exact AB.newest_of_not_newer (recNewer_prev (hm _) (hr a (.inl rfl)))
    | some b =>
      cases h : recNewer a b with
      | true =>
        rw [AB.put_of_newer mk h, AB.nextSeq_of_newest (AB.newest_of_newer h)]
        exact AB.newest_of_not_newer (recNewer_prev (hm _) (hr a (.inl rfl)))
      | false =>
        rw [AB.put_of_not_newer mk h, AB.nextSeq_of_newest (AB.newest_of_not_newer h)]
        exact AB.newest_of_newer (recNewer_next (hm _) (hr b (.inr rfl)))

/-- A sealed write leaves no copy whose seal fails (R513). -/
theorem AB.sound_writeSealed {α : Type} (serial type : Nat) (pay : α → List Byte) (r : AB α) (time : Nat) (v : α) :
    (r.writeSealed serial type pay time v).sound serial type pay = r.writeSealed serial type pay time v := by
  have hs := AB.sound_sound serial type pay r
  unfold AB.writeSealed
  generalize r.sound serial type pay = x at hs
  obtain ⟨ha, hb⟩ := AB.mk.inj hs
  obtain ⟨q, h⟩ | ⟨q, h⟩ := AB.put_copy x fun q => sealRec serial type pay q time v
  · rw [h, AB.sound, hb]; simp
  · rw [h, AB.sound, ha]; simp

/-- The copies whose seals hold are copies of the record. -/
theorem AB.sound_copies {α : Type} {serial type : Nat} {pay : α → List Byte} {r : AB α} {c : Rec α}
    (h : (r.sound serial type pay).a = some c ∨ (r.sound serial type pay).b = some c) : r.a = some c ∨ r.b = some c :=
  h.imp (fun h => (Option.filter_eq_some_iff.1 h).1) fun h => (Option.filter_eq_some_iff.1 h).1

/-- The newest valid copy after a sealed write is the one written (R406, R513). -/
theorem AB.newest_writeSealed {α : Type} (serial type : Nat) (pay : α → List Byte) (r : AB α) (time : Nat) (v : α)
    (hr : ∀ c, r.a = some c ∨ r.b = some c → c.seq < 2 ^ 32) :
    ((r.writeSealed serial type pay time v).sound serial type pay).newest
      = some (sealRec serial type pay (r.sound serial type pay).nextSeq time v) := by
  rw [AB.sound_writeSealed]
  exact AB.newest_put _ _ (fun q => sealRec_seq ..) fun c hc => hr c (AB.sound_copies hc)

/-! ### Ring entries (R468, R472) -/

theorem CqEntry.bytes_fields {e : CqEntry} (hi : e.cmdId < 0x100000000) (hs : e.status < 0x10000)
    (hh : e.sqHead < 0x10000) (hr : e.retry < 0x100000000) (hl : e.inl.length = 16) :
    e.bytes.length = 32 ∧ nAt e.bytes 0 4 = e.cmdId ∧ nAt e.bytes 4 2 = e.status
      ∧ nAt e.bytes 6 2 = b2n e.phase + 2 * b2n e.respErr ∧ nAt e.bytes 8 2 = e.sqHead ∧ nAt e.bytes 0xC 4 = e.retry
      ∧ bytesAt e.bytes 0x10 16 = e.inl := by
  have hf := fitTo_self hl
  have hb : bytesAt e.inl 0 16 = e.inl := hf
  simp [CqEntry.bytes, List.append_assoc, nAt_skip, nAt_head, bytesAt_skip, leBytes_length, flags_lt, hi, hs, hh, hr, hl,
    hf, hb]

theorem EqEntry.bytes_fields {e : EqEntry} (he : e.event < 0x10000) (hs : e.seq < 0x100000000)
    (ht : e.time < 0x10000000000000000) (hl : e.data.length = 16) :
    e.bytes.length = 32 ∧ nAt e.bytes 0 2 = e.event ∧ nAt e.bytes 2 2 = b2n e.phase + 2 * b2n e.overflow
      ∧ nAt e.bytes 4 4 = e.seq ∧ nAt e.bytes 8 8 = e.time ∧ bytesAt e.bytes 0x10 16 = e.data := by
  have hf := fitTo_self hl
  have hb : bytesAt e.data 0 16 = e.data := hf
  simp [EqEntry.bytes, List.append_assoc, nAt_skip, nAt_head, bytesAt_skip, leBytes_length, flags_lt, he, hs, ht, hl,
    hf, hb]

/-- Settles O60, from the fields of a record's header, the copy that a sealed write makes the newest, and the fields of
ring entries. -/
theorem recordsAndEntriesHaveTheirBytes : Obligations.RecordsAndEntriesHaveTheirBytes := by
  refine ⟨?_, ?_, fun _ => CqEntry.bytes_fields, fun _ => EqEntry.bytes_fields⟩
  · rintro type seq time slot p ht hs htm hp hr bs rfl
    obtain ⟨h0, -, -, h8, -, h10, -⟩ := recHeader_fields
      (p ++ shake256 (recHeader type seq time p.length ++ p) 8) ht hs htm hp
    rw [← recBytes_eq] at h0 h8 h10
    exact ⟨recValid_recBytes ht hs htm hp hr, recBytes_length .., h0, h8, h10, recBytes_payload ..⟩
  · intro serial type time pay v r hr
    refine ⟨_, AB.newest_writeSealed serial type pay r time v hr, fun hn => ?_, fun c => AB.nextSeq_of_newest⟩
    rw [AB.nextSeq, hn]; rfl

end Sys2Proof.Machine
end

section
/-! PROOF. What registers and letterboxes hold right after reset (R10, R26, R462). -/
namespace Sys2Proof.Machine

@[simp] theorem regGet_nil (v : Variant) (b : Blk) (off : Nat) : regGet v b [] off = (resetWord v b off).toNat := rfl

/-- No landing holds a live set after reset. -/
theorem reset_landing_sets (n : Nat) : (State.reset.landing n).sets = [] := by
  simp only [State.landing, State.reset, List.getD_eq_getElem?_getD, List.getElem?_map]
  cases (List.range 64)[n]? <;> rfl

theorem reset_landing_liveWords (n : Nat) (b : Blk) (o : OutId) : (State.reset.landing n).liveWords b o = [] := by
  rw [Landing.liveWords, Landing.liveSet, reset_landing_sets]; rfl

/-- No live word differs from its reset value. -/
theorem reset_liveMap (n : Nat) (b : Blk) (o : OutId) : State.reset.liveMap n b o = [] := by
  unfold State.liveMap
  split
  · rfl
  · rfl
  · exact reset_landing_liveWords ..

theorem reset_box (f : Nat) : State.reset.box f = Letterbox.reset (f == 0) := by
  simp only [State.box, State.reset, List.getD_eq_getElem?_getD, List.getElem?_map]
  by_cases h : f < 32
  · simp [h]
  · have h0 : (f == 0) = false := beq_false_of_ne (by omega)
    simp [h, h0]

/-- Settles O6: the shadow and live sets list no word, so every one reads its reset value. -/
theorem resetHoldsTheResetValues : Obligations.ResetHoldsTheResetValues := by
  refine ⟨fun b off => rfl, fun b o off _ => ?_, rfl, reset_box, rfl, rfl⟩
  rw [State.lv, State.lvAt, reset_liveMap]
  rfl

end Sys2Proof.Machine
end

section
/-! PROOF. A BAR2 write of a granted word, and the word of an E1 that keeps output B's bits (R25, R461). -/
namespace Sys2Proof.Machine

/-- A BAR2 write of an aligned word, away from the triggers of R301 and R324, is one word's write (R461). -/
theorem exec_registerWrite_bar2 {s : State} {f off w : Nat} {b : Blk} {o : Nat} (hh : s.hostOk f = true)
    (hr : s.power.ready = true) (hw : w < 2 ^ 32) (ha : off % 4 = 0) (hb : barBlk off = some (b, o))
    (hspl : ¬ (b = .spl ∧ o = 0x808)) (hlne : ¬ (b = .lne ∧ o < 0x80 ∧ o % 0x20 = 0xC)) :
    exec (.registerWrite f 2 off (leBytes 4 w)) s = .next (s.writeBar2 f b o w) := by
  have hn : leNat (leBytes 4 w) = w := (leNat_leBytes 4 w).trans (Nat.mod_eq_of_lt hw)
  show execRegisterWrite f 2 off (leBytes 4 w) s = _
  simp [execRegisterWrite, State.writeBarWord, hh, hr, ha, hb, hn, leBytes_length, hspl, hlne]

/-- What a granted BAR2 write leaves in a defined shadow word: the variant's own RW bits take the value, held bits and
those of absent islands stay (R10, R25, R461). -/
theorem State.sh_writeBar2_self {s : State} {f : Nat} {b : Blk} {off w : Nat} {r : RegRun} (hg : s.granted f b = true)
    (ho : off < liveBase) (hb : b ≠ .sec) (hr : findRun s.variant b off = some r) (hrw : r.rw ≠ 0)
    (hi : s.writeIgnored b off = false) :
    (s.writeBar2 f b off w).sh b off
      = mergeWrite (s.sh b off) w (r.rwOn s.variant b off) (s.heldBits b off &&& r.rw) % 2 ^ 32 := by
  have hc : ¬ (!s.granted f b || decide (liveBase ≤ off) || b == .sec) = true := by simp [hg, ho, hb]
  unfold State.writeBar2
  rw [if_neg hc, hr]
  dsimp only
  rw [if_neg (by simp [hrw, hi]), State.sh_setSh_self]

/-- A delivered E1 whose endpoint and letterboxes are ready: no package is live, so the PF holds every grant (R477). -/
def readyE1 : State :=
  { State.reset with variant := .E1, landings := (List.range 64).map fun n => Landing.reset (Variant.E1.hasIsland n),
                     power := { Power.reset with endpoint := true, ready := true } }

/-- It is a whole machine: what refutes O9 is no state that a chip cannot have for its parts. -/
theorem readyE1_inv : readyE1.Inv := ⟨by decide, by decide⟩

/-- The SPL word that holds LINK_EN and PSAFE_HOLD of both outputs (R301). -/
def splEnableRun : RegRun := rwRun 0x800 4 1 0xF 0x3

theorem readyE1_splEnable : findRun readyE1.variant .spl 0x800 = some splEnableRun := by decide

theorem readyE1_heldBits (b : Blk) (off : Nat) : readyE1.heldBits b off = 0 := by
  have hm : readyE1.isMember = false := Bool.and_false _
  have hl : readyE1.lockMask b off = 0 := rfl
  simp [State.heldBits, hm, hl]

/-- On an E1 a write of all ones to that word leaves output B's bits, 1 and 3, as they were: 0x3 becomes 0x7 (R25, R301). -/
theorem readyE1_splWrite : (readyE1.writeBar2 0 .spl 0x800 0xF).sh .spl 0x800 = 0x7 := by
  rw [State.sh_writeBar2_self (by decide) (by decide) (by decide) readyE1_splEnable (by decide) (by decide),
    readyE1_heldBits]
  decide

/-- Refutes O9 in `Clause.RegisterWrites`: on an E1 the bits of a mixed SPL word that belong to output B ignore writes
(R25, R301), though they are RW in the register table and not locked; the clause has them take the value written. -/
theorem not_registerAccesses : ¬ Obligations.RegisterAccesses := by
  rintro ⟨hw, -, -⟩
  have hspl : ¬ (Blk.spl = .spl ∧ 0x800 = 0x808) := by decide
  have hlne : ¬ (Blk.spl = .lne ∧ 0x800 < 0x80 ∧ 0x800 % 0x20 = 0xC) := by decide
  have hbar : barBlk 0x600800 = some (.spl, 0x800) := by decide
  obtain ⟨-, hset, -⟩ := hw 0 0x600800 0xF .spl 0x800 readyE1 (by decide) rfl (by decide) (by decide) hbar hspl hlne
  obtain ⟨t, ht, -, hsh, -, -⟩ :=
    hset splEnableRun (by decide) (by decide) (by decide) readyE1_splEnable (by decide) (by decide)
  rw [exec_registerWrite_bar2 (by decide) rfl (by decide) (by decide) hbar hspl hlne] at ht
  cases ht
  rw [readyE1_splWrite, readyE1_heldBits] at hsh
  exact absurd hsh (by decide)

end Sys2Proof.Machine
end

section
/-! PROOF. What each operation of the model leaves of the machine's parts and of module memory: `(s.op …).whole = s.whole` for
every operation but those that write module memory, exit STANDBY or start the machine. Each follows from the lemmas of the
operations that it calls. -/
namespace Sys2Proof.Machine

/-! ### The parts and module memory -/

/-- The parts of a machine, and module memory. -/
abbrev Whole : Type := (Variant × List Bool × List OutId × List Nat) × Table Byte

/-- What the invariant speaks of. -/
def State.whole (s : State) : Whole := (s.parts, s.dram.mem)

/-- A state written out, read field by field. -/
@[simp] theorem State.whole_mk (pending variant clk free shadow commits landings outA outB linkA linkB lanes slices chans
    trust boxes cellar transom cams pipes track calib blit dram ring sensors power mram audit timeHi lastRead mgmtIdx
    mgmtLatch numVfs vfEnable bars) :
    (State.mk pending variant clk free shadow commits landings outA outB linkA linkB lanes slices chans trust boxes cellar
      transom cams pipes track calib blit dram ring sensors power mram audit timeHi lastRead mgmtIdx mgmtLatch numVfs
      vfEnable bars).whole
    = ((variant, landings.map (·.present), commits.doors.map (·.1),
        [boxes.length, chans.length, lanes.length, cams.length, sensors.length, slices.length, pipes.length]),
       dram.mem) := by
  simp only [State.whole, State.parts]

/-- The fields of one state, put together again: where an update leaves them all, it leaves `whole`. -/
@[simp] theorem State.whole_fold (s : State) :
    ((s.variant, s.landings.map (·.present), s.commits.doors.map (·.1),
      [s.boxes.length, s.chans.length, s.lanes.length, s.cams.length, s.sensors.length, s.slices.length, s.pipes.length]),
      s.dram.mem) = s.whole := by
  simp only [State.whole, State.parts]

@[simp] theorem map_doors (f : OutId × Door → OutId × Door) (h : ∀ d, (f d).1 = d.1) (ds : List (OutId × Door)) :
    ds.map ((·.1) ∘ f) = ds.map (·.1) :=
  List.map_congr_left fun d _ => h d

@[simp] theorem State.whole_ite (c : Prop) [Decidable c] (a b : State) :
    (if c then a else b).whole = if c then a.whole else b.whole := apply_ite ..

@[simp] theorem CmdRes.st_ite (c : Prop) [Decidable c] (a b : CmdRes) :
    (if c then a else b).st = if c then a.st else b.st := apply_ite ..

@[simp] theorem CommitRes.st_ite (c : Prop) [Decidable c] (a b : CommitRes) :
    (if c then a else b).st = if c then a.st else b.st := apply_ite ..

@[simp] theorem fst_ite {α : Type} (c : Prop) [Decidable c] (a b : State × α) :
    (if c then a else b).1 = if c then a.1 else b.1 := apply_ite ..

/-- A row of updates leaves what each of them leaves. -/
@[simp] theorem foldl_whole {α : Type} (f : State → α → State) (h : ∀ a x, (f a x).whole = a.whole) (l : List α)
    (s : State) : (l.foldl f s).whole = s.whole := by
  induction l generalizing s with
  | nil => rfl
  | cons x l ih => exact (ih _).trans (h _ _)

/-- Which landings exist does not change where each update of a landing leaves `present`. -/
@[simp] theorem map_modify_present (f : Landing → Landing) (h : ∀ l, (f l).present = l.present) (ls : List Landing)
    (n : Nat) : (ls.modify n f).map (·.present) = ls.map (·.present) := by
  refine List.ext_getElem? fun i => ?_
  simp only [List.getElem?_map, List.getElem?_modify]
  cases ls[i]? with
  | none => rfl
  | some l => by_cases hn : n = i <;> simp [hn, h]

@[simp] theorem map_mapIdx_present (f : Nat → Landing → Landing) (h : ∀ n l, (f n l).present = l.present)
    (ls : List Landing) : (ls.mapIdx f).map (·.present) = ls.map (·.present) := by
  refine List.ext_getElem? fun i => ?_
  simp only [List.getElem?_map, List.getElem?_mapIdx, Option.map_map]
  congr 1
  funext l
  exact h i l

@[simp] theorem map_present (f : Landing → Landing) (h : ∀ l, (f l).present = l.present) (ls : List Landing) :
    ls.map ((·.present) ∘ f) = ls.map (·.present) :=
  List.map_congr_left fun l _ => h l

/-- What an answer leaves of the parts and of module memory. -/
def answer : Host.Outcome State Fault Refusal → Option Whole
  | .next t => some t.whole
  | _ => none

@[simp] theorem answer_next (t : State) : answer (.next t) = some t.whole := rfl

@[simp] theorem answer_ite (c : Prop) [Decidable c] (a b : Host.Outcome State Fault Refusal) :
    answer (if c then a else b) = if c then answer a else answer b := apply_ite ..

@[simp] theorem Landing.present_ite (c : Prop) [Decidable c] (a b : Landing) :
    (if c then a else b).present = if c then a.present else b.present := apply_ite ..

@[simp] theorem Landing.relock_present (l : Landing) (seed isl : Nat) : (l.relock seed isl).present = l.present := by
  simp only [Landing.relock]

@[simp] theorem Landing.setLiveAt_present (l : Landing) (n : Nat) (b : Blk) (o : OutId) (cid : Nat) (m : RegMap) :
    (l.setLiveAt n b o cid m).present = l.present := by
  simp only [Landing.setLiveAt]

@[simp] theorem Landing.setLive_present (l : Landing) (b : Blk) (o : OutId) (cid : Nat) (m : RegMap) :
    (l.setLive b o cid m).present = l.present := by
  simp only [Landing.setLive, Landing.setLiveAt_present]

theorem Landing.setLiveAts_present (n : Nat) (o : OutId) (ps : List Pend) (l : Landing) :
    (ps.foldl (fun (a : Landing) p => a.setLiveAt n p.blk (p.blk.slot o) p.cid p.words) l).present = l.present := by
  induction ps generalizing l with
  | nil => rfl
  | cons p ps ih => exact ih _

@[simp] theorem Landing.takes_present (l : Landing) (isl : Nat) (o : OutId) (n : Nat) (ps : List Pend) :
    (l.takes isl o n ps).present = l.present := by
  unfold Landing.takes
  dsimp only
  split
  · exact setLiveAts_present ..
  · cases o
    · exact setLiveAts_present ..
    · dsimp only; split <;> exact setLiveAts_present ..

/-! ### Parts of the state, and time -/

@[simp] theorem State.setOut_whole (s : State) (o : OutId) (v : Output) : (s.setOut o v).whole = s.whole := by
  cases o <;> simp [State.setOut]

@[simp] theorem State.modOut_whole (s : State) (o : OutId) (f : Output → Output) : (s.modOut o f).whole = s.whole := by
  simp [State.modOut]

@[simp] theorem State.modLink_whole (s : State) (o : OutId) (f : Link → Link) : (s.modLink o f).whole = s.whole := by
  cases o <;> simp [State.modLink]

@[simp] theorem State.modBox_whole (s : State) (f : Nat) (g : Letterbox → Letterbox) : (s.modBox f g).whole = s.whole := by
  simp [State.modBox]

@[simp] theorem State.modChan_whole (s : State) (c : Nat) (g : Channel → Channel) : (s.modChan c g).whole = s.whole := by
  simp [State.modChan]

@[simp] theorem State.modLanding_whole (s : State) (n : Nat) (g : Landing → Landing)
    (h : ∀ l, (g l).present = l.present) : (s.modLanding n g).whole = s.whole := by
  simp [State.modLanding, h]

@[simp] theorem State.modLane_whole (s : State) (n : Nat) (g : Lane → Lane) : (s.modLane n g).whole = s.whole := by
  simp [State.modLane]

@[simp] theorem State.modCam_whole (s : State) (n : Nat) (g : Camera → Camera) : (s.modCam n g).whole = s.whole := by
  simp [State.modCam]

@[simp] theorem State.modSensor_whole (s : State) (n : Nat) (g : Sensor → Sensor) : (s.modSensor n g).whole = s.whole := by
  simp [State.modSensor]

@[simp] theorem State.modCellar_whole (s : State) (g : Cellar → Cellar) : (s.modCellar g).whole = s.whole := by
  simp [State.modCellar]

@[simp] theorem State.modTrm_whole (s : State) (g : Transom → Transom) : (s.modTrm g).whole = s.whole := by
  simp [State.modTrm]

@[simp] theorem State.modTrust_whole (s : State) (g : Trust → Trust) : (s.modTrust g).whole = s.whole := by
  simp [State.modTrust]

@[simp] theorem State.modPower_whole (s : State) (g : Power → Power) : (s.modPower g).whole = s.whole := by
  simp [State.modPower]

@[simp] theorem State.modAudit_whole (s : State) (g : Audit → Audit) : (s.modAudit g).whole = s.whole := by
  simp [State.modAudit]

@[simp] theorem State.modBlit_whole (s : State) (g : Blitter → Blitter) : (s.modBlit g).whole = s.whole := by
  simp [State.modBlit]

@[simp] theorem State.modDram_whole (s : State) (g : Dram → Dram) (h : ∀ d, (g d).mem = d.mem) :
    (s.modDram g).whole = s.whole := by
  simp [State.modDram, h]

@[simp] theorem State.modRing_whole (s : State) (g : Ring → Ring) : (s.modRing g).whole = s.whole := by
  simp [State.modRing]

@[simp] theorem State.modRport_whole (s : State) (p : RPort) (g : RingPort → RingPort) :
    (s.modRport p g).whole = s.whole := by
  cases p <;> simp [State.modRport]

@[simp] theorem State.modDoor_whole (s : State) (o : OutId) (g : Door → Door) : (s.modDoor o g).whole = s.whole := by
  have h : (fun d : OutId × Door => (if d.1 = o then (d.1, g d.2) else d).1) = (·.1) := by
    funext d; split <;> rfl
  simp [State.modDoor, Function.comp_def, h]

@[simp] theorem State.atClk_whole (s : State) (n : Nat) : (s.atClk n).whole = s.whole := by
  simp [State.atClk]

@[simp] theorem State.atUs_whole (s : State) (n : Nat) : (s.atUs n).whole = s.whole := by
  simp [State.atUs]

@[simp] theorem idle_whole (s : State) : (idle s).whole = s.whole := by
  simp [idle]

@[simp] theorem State.drawn_whole (s : State) : s.drawn.whole = s.whole := by
  simp [State.drawn]

/-! ### Shadow words -/

@[simp] theorem State.setShadow_whole (s : State) (b : Blk) (m : RegMap) : (s.setShadow b m).whole = s.whole := by
  simp [State.setShadow]

@[simp] theorem State.setSh_whole (s : State) (b : Blk) (off w : Nat) : (s.setSh b off w).whole = s.whole := by
  simp [State.setSh]

@[simp] theorem State.writeWord_whole (s : State) (b : Blk) (off w : Nat) : (s.writeWord b off w).whole = s.whole := by
  unfold State.writeWord
  split <;> simp

/-! ### Events and completions -/

@[simp] theorem State.event_whole (s : State) (f code : Nat) (data : List Byte) : (s.event f code data).whole = s.whole := by
  simp [State.event]

@[simp] theorem State.eventAll_whole (s : State) (code : Nat) (data : List Byte) :
    (s.eventAll code data).whole = s.whole := by
  simp [State.eventAll]

@[simp] theorem State.complete_whole (s : State) (f : Nat) (e : SqEntry) (status retry : Nat) (resp : List Byte) :
    (s.complete f e status retry resp).whole = s.whole := by
  simp [State.complete]

/-! ### Safe states, faults and the journal -/

@[simp] theorem State.modMram_whole (s : State) (g : Mram → Mram) : (s.modMram g).whole = s.whole := by
  simp [State.modMram]

@[simp] theorem State.writeOwner_whole (s : State) (key : Option (List Byte)) (counter : Nat) :
    (s.writeOwner key counter).whole = s.whole := by
  simp [State.writeOwner]

@[simp] theorem State.drivePsafe_whole (s : State) : s.drivePsafe.whole = s.whole := by
  simp [State.drivePsafe]

@[simp] theorem State.forceMessage_whole (s : State) (m : Nat) : (s.forceMessage m).whole = s.whole := by
  simp [State.forceMessage]

@[simp] theorem State.releaseHold_whole (s : State) : s.releaseHold.whole = s.whole := by
  simp [State.releaseHold]

@[simp] theorem State.modLog_whole (s : State) (p : LogEntry → Bool) (g : LogEntry → LogEntry) :
    (s.modLog p g).whole = s.whole := by
  simp [State.modLog]

@[simp] theorem State.boxesReset_whole (s : State) : s.boxesReset.whole = s.whole := by
  simp [State.boxesReset]

@[simp] theorem State.dropCommands_whole (s : State) : s.dropCommands.whole = s.whole := by
  simp [State.dropCommands]

@[simp] theorem State.requeue_whole (s : State) (slice : Nat) : (s.requeue slice).whole = s.whole := by
  unfold State.requeue
  split <;> simp

@[simp] theorem State.domainsOff_whole (s : State) (keep : List Nat) : (s.domainsOff keep).whole = s.whole := by
  simp [State.domainsOff]

@[simp] theorem State.splReset_whole (s : State) (isl : Nat) : (s.splReset isl).whole = s.whole := by
  simp [State.splReset]

@[simp] theorem State.unpowered_whole (s : State) : s.unpowered.whole = s.whole := by
  simp [State.unpowered]

@[simp] theorem State.enterSs4_whole (s : State) (message counts : Bool) : (s.enterSs4 message counts).whole = s.whole := by
  simp [State.enterSs4]

@[simp] theorem State.mark1_whole (s : State) (rs : List (OutId × Nat)) (code : Nat) :
    (s.mark1 rs code).whole = s.whole := by
  simp [State.mark1]

@[simp] theorem State.dark_whole (s : State) (os : List OutId) (code : Nat) (fc4 message : Bool) :
    (s.dark os code fc4 message).whole = s.whole := by
  simp [State.dark]

@[simp] theorem State.mark_whole (s : State) (f : Force) (code : Nat) : (s.mark f code).whole = s.whole := by
  unfold State.mark
  split <;> simp

@[simp] theorem State.force_whole (s : State) (f : Force) (code cls : Nat) : (s.force f code cls).whole = s.whole := by
  unfold State.force
  split <;> simp

@[simp] theorem State.interruptHearth_whole (s : State) : s.interruptHearth.whole = s.whole := by
  simp [State.interruptHearth]

@[simp] theorem State.startRecovery_whole (s : State) (isl code seq : Nat) (store : Bool) :
    (s.startRecovery isl code seq store).whole = s.whole := by
  simp [State.startRecovery]

@[simp] theorem State.noteLifts_whole (s : State) : s.noteLifts.whole = s.whole := by
  simp [State.noteLifts]

@[simp] theorem State.spoilFrames_whole (s : State) : s.spoilFrames.whole = s.whole := by
  simp [State.spoilFrames]

@[simp] theorem State.enterLog_whole (s : State) (x : FaultIn) : (s.enterLog x).whole = s.whole := by
  simp [State.enterLog]

@[simp] theorem State.fault_whole (s : State) (x : FaultIn) : (s.fault x).whole = s.whole := by
  unfold State.fault
  dsimp only
  split <;> simp

@[simp] theorem State.faultInFault_whole (s : State) : s.faultInFault.whole = s.whole := by
  simp [State.faultInFault]

@[simp] theorem State.faultInSeen_whole (s : State) : s.faultInSeen.whole = s.whole := by
  simp [State.faultInSeen]

@[simp] theorem State.jAppend_whole (s : State) (e : JEntry) (answered : Bool) : (s.jAppend e answered).whole = s.whole := by
  simp [State.jAppend]

@[simp] theorem State.ckptStart_whole (s : State) (frame : Nat) (forced : Bool) :
    (s.ckptStart frame forced).whole = s.whole := by
  simp [State.ckptStart]

@[simp] theorem State.forceCkpt_whole (s : State) : s.forceCkpt.whole = s.whole := by
  simp [State.forceCkpt]

@[simp] theorem State.journal_whole (s : State) (e : JEntry) (answered : Bool) : (s.journal e answered).whole = s.whole := by
  simp [State.journal]

@[simp] theorem State.violate_whole (s : State) (k : Nat) : (s.violate k).whole = s.whole := by
  simp [State.violate]

/-! ### Commits -/

@[simp] theorem State.endPauses_whole (s : State) : s.endPauses.whole = s.whole := by
  simp [State.endPauses]

@[simp] theorem State.putCopy_whole (s : State) (r : CommitReq) (cid due : Nat) (t : Target) (lend : Option Pend)
    (b : Blk) (port : Nat) : (s.putCopy r cid due t lend b port).whole = s.whole := by
  unfold State.putCopy
  dsimp only
  split <;> simp

@[simp] theorem State.camRelease_whole (s : State) (p : Nat) : (s.camRelease p).whole = s.whole := by
  simp [State.camRelease]

@[simp] theorem State.enter_whole (s : State) (r : CommitReq) (kind : DoorKind) : (s.enter r kind).whole = s.whole := by
  simp [State.enter]

@[simp] theorem State.accept_whole (s : State) (r : CommitReq) : (s.accept r).st.whole = s.whole := by
  unfold State.accept
  dsimp only
  split
  · simp
  · split <;> simp

@[simp] theorem State.settle_whole (s : State) (o : OutId) (joint : Bool) : (s.settle o joint).whole = s.whole := by
  simp [State.settle]

/-! ### What a ring port sends -/

@[simp] theorem State.sendCtl_whole (s : State) (p : RPort) (body : List Byte) : (s.sendCtl p body).whole = s.whole := by
  simp [State.sendCtl]

@[simp] theorem State.sendPacket_whole (s : State) (p : RPort) (typ flags src dst hops : Nat) (body : List Byte) :
    (s.sendPacket p typ flags src dst hops body).whole = s.whole := by
  simp [State.sendPacket]

@[simp] theorem State.sendBoth_whole (s : State) (typ flags dst : Nat) (body : List Byte) :
    (s.sendBoth typ flags dst body).whole = s.whole := by
  simp [State.sendBoth]

@[simp] theorem State.sendRelay_whole (s : State) (p : RPort) (returning : Bool) (src hops opcode status tag : Nat)
    (payload resp : List Byte) : (s.sendRelay p returning src hops opcode status tag payload resp).whole = s.whole := by
  simp [State.sendRelay]

@[simp] theorem State.relaySend_whole (s : State) (f : Nat) (e : SqEntry) (opcode : Nat) (payload : List Byte)
    (status : Nat) (resp : List Byte) (dev0 : Bool) :
    (s.relaySend f e opcode payload status resp dev0).whole = s.whole := by
  simp [State.relaySend]

@[simp] theorem State.sendReady_whole (s : State) (n : Nat) : (s.sendReady n).whole = s.whole := by
  simp [State.sendReady]

/-! ### The run of a host command -/

@[simp] theorem State.storeCounter_whole (s : State) (k : Card) (c : Cmd) : (s.storeCounter k c).whole = s.whole := by
  simp [State.storeCounter]

@[simp] theorem CmdRes.ok_whole (s : State) (resp : List Byte) : (CmdRes.ok s resp).st.whole = s.whole := by
  simp [CmdRes.ok]

@[simp] theorem CmdRes.bad_whole (s : State) (status : Nat) : (CmdRes.bad s status).st.whole = s.whole := by
  simp [CmdRes.bad]

@[simp] theorem silent_whole (s : State) (k : Card) (c : Cmd) (kind : Nat) : (silent s k c kind).st.whole = s.whole := by
  simp [silent]

/-- What an act keeps, the checks before it keep (R475). -/
theorem State.judge_keeps (P : Whole → Prop) (s : State) (k : Card) (c : Cmd) (key : Option (List Byte))
    (act : State → Cmd → CmdRes) (h : ∀ u c, P u.whole → P (act u c).st.whole) (hs : P s.whole) :
    P (s.judge k c key act).st.whole := by
  have ha : P (act (s.storeCounter k c) c).st.whole := h _ _ (by simpa using hs)
  unfold State.judge
  dsimp only
  repeat' split
  all_goals simp [hs, ha]

@[simp] theorem State.judge_whole (s : State) (k : Card) (c : Cmd) (key : Option (List Byte))
    (act : State → Cmd → CmdRes) (h : ∀ u c, (act u c).st.whole = u.whole) : (s.judge k c key act).st.whole = s.whole :=
  s.judge_keeps (· = s.whole) k c key act (fun u c hu => (h u c).trans hu) rfl

@[simp] theorem State.pop_whole (s : State) (f : Nat) : (s.pop f).whole = s.whole := by
  simp [State.pop]

@[simp] theorem drainBad_whole (f : Nat) (n : Nat) (s : State) : (drainBad f n s).whole = s.whole := by
  induction n generalizing s with
  | zero => rfl
  | succ n ih =>
    unfold drainBad
    split
    · split
      · rfl
      · simp [ih]
    · rfl

@[simp] theorem State.postAll_whole (s : State) (evs : List (Nat × Nat × List Byte)) : (s.postAll evs).whole = s.whole := by
  simp [State.postAll]

@[simp] theorem CmdRes.finish_whole (r : CmdRes) (c : Cmd) : (r.finish c).whole = r.st.whole := by
  simp [CmdRes.finish]

/-- What an act keeps, its command's run keeps. -/
theorem State.command_keeps (P : Whole → Prop) (s : State) (f : Nat) (k : Card) (key : State → Cmd → Option (List Byte))
    (act : State → Cmd → CmdRes) (h : ∀ u c, P u.whole → P (act u c).st.whole) (hs : P s.whole) :
    P (s.command f k key act).whole := by
  have hj : ∀ e, P ((s.pop f).judge k { f := f, e := e } (key (s.pop f) { f := f, e := e }) act).st.whole :=
    fun e => State.judge_keeps P _ _ _ _ _ h (by simpa using hs)
  unfold State.command
  split
  · exact hs
  · dsimp only
    split
    · exact hs
    · rw [drainBad_whole]
      repeat' split
      all_goals simp [hj, hs]

@[simp] theorem State.command_whole (s : State) (f : Nat) (k : Card) (key : State → Cmd → Option (List Byte))
    (act : State → Cmd → CmdRes) (h : ∀ u c, (act u c).st.whole = u.whole) : (s.command f k key act).whole = s.whole :=
  s.command_keeps (· = s.whole) f k key act (fun u c hu => (h u c).trans hu) rfl

@[simp] theorem State.hostCommand_whole (s : State) (f : Nat) (k : Card) (act : State → Cmd → CmdRes)
    (h : ∀ u c, (act u c).st.whole = u.whole) : (s.hostCommand f k act).whole = s.whole :=
  s.command_whole f k _ act h

/-! ### Mirrors and relayed commands -/

@[simp] theorem State.mirrorOut_whole (s : State) (blks : List Blk) (cid frame : Nat) :
    (s.mirrorOut blks cid frame).whole = s.whole := by
  simp [State.mirrorOut]

@[simp] theorem State.relayOut_whole (s : State) (c : Cmd) (status : Nat) (resp : List Byte) (dev0 : Bool) :
    (s.relayOut c status resp dev0).whole = s.whole := by
  simp [State.relayOut]

/-! ### The tearing-effect indication -/

@[simp] theorem State.noteTe_whole (s t : State) : (s.noteTe t).whole = t.whole := by
  simp [State.noteTe]

@[simp] theorem State.writeBar2_whole (s : State) (f : Nat) (b : Blk) (off w : Nat) :
    (s.writeBar2 f b off w).whole = s.whole := by
  unfold State.writeBar2
  dsimp only
  split
  · simp
  · split <;> simp

/-! ### Panel links and lanes -/

@[simp] theorem State.modLanes_whole (s : State) (ns : List Nat) (g : Lane → Lane) : (s.modLanes ns g).whole = s.whole := by
  simp [State.modLanes]

@[simp] theorem State.deskew_whole (s : State) (p k : Nat) : (s.deskew p k).whole = s.whole := by
  simp [State.deskew]

@[simp] theorem State.lneSettle_whole (s : State) : s.lneSettle.whole = s.whole := by
  simp [State.lneSettle]

@[simp] theorem State.lneWindow_whole (s : State) (p : Nat) (ns : List Nat) (atReturn : Bool) :
    (s.lneWindow p ns atReturn).whole = s.whole := by
  unfold State.lneWindow
  split <;> simp

@[simp] theorem State.idlePort_whole (s : State) (p : Nat) : (s.idlePort p).whole = s.whole := by
  simp [State.idlePort]

@[simp] theorem State.wakePort_whole (s : State) (p : Nat) : (s.wakePort p).whole = s.whole := by
  simp [State.wakePort]

@[simp] theorem State.abortCal_whole (s : State) (n : Nat) : (s.abortCal n).whole = s.whole := by
  simp [State.abortCal]

@[simp] theorem State.startAttempt_whole (s : State) (o : OutId) (k : Nat) : (s.startAttempt o k).whole = s.whole := by
  simp [State.startAttempt]

@[simp] theorem State.startCycle_whole (s : State) (o : OutId) : (s.startCycle o).whole = s.whole := by
  simp [State.startCycle]

@[simp] theorem State.endAttempt_whole (s : State) (o : OutId) : (s.endAttempt o).whole = s.whole := by
  simp [State.endAttempt]

@[simp] theorem State.retrainLink_whole (s : State) (o : OutId) (k code : Nat) :
    (s.retrainLink o k code).whole = s.whole := by
  simp [State.retrainLink]

@[simp] theorem State.linkRestored_whole (s : State) (o : OutId) : (s.linkRestored o).whole = s.whole := by
  simp [State.linkRestored]

@[simp] theorem State.holdCheck_whole (s : State) (o : OutId) : (s.holdCheck o).whole = s.whole := by
  simp [State.holdCheck]

@[simp] theorem State.linkUp_whole (s : State) (o : OutId) : (s.linkUp o).whole = s.whole := by
  simp [State.linkUp]

@[simp] theorem State.linkEnLive_whole (s : State) (o : OutId) : (s.linkEnLive o).whole = s.whole := by
  simp [State.linkEnLive]

@[simp] theorem State.bcDiscard_whole (s : State) (o : OutId) : (s.bcDiscard o).whole = s.whole := by
  simp [State.bcDiscard]

@[simp] theorem State.bcRecv_whole (s : State) (o : OutId) (sub : Nat) (b : List Byte) (k : State → State)
    (h : ∀ u, (k u).whole = u.whole) : (s.bcRecv o sub b k).whole = s.whole := by
  simp [State.bcRecv, h]

@[simp] theorem State.phase_whole (s : State) (o : OutId) (st : LinkState) : (s.phase o st).whole = s.whole := by
  simp [State.phase]

@[simp] theorem State.firstPresets_whole (s : State) (p : Nat) : (s.firstPresets p).whole = s.whole := by
  simp [State.firstPresets]

@[simp] theorem State.nextPreset_whole (s : State) (n least : Nat) : (s.nextPreset n least).whole = s.whole := by
  simp [State.nextPreset]

@[simp] theorem State.request_whole (s : State) (o : OutId) (sub : Nat) : (s.request o sub).whole = s.whole := by
  simp [State.request]

@[simp] theorem State.recvTrain_whole (s : State) (o : OutId) (b : List Byte) : (s.recvTrain o b).whole = s.whole := by
  refine State.bcRecv_whole _ _ _ _ _ fun u => ?_
  split <;> simp

@[simp] theorem State.recvCaps_whole (s : State) (o : OutId) (b : List Byte) : (s.recvCaps o b).whole = s.whole := by
  refine State.bcRecv_whole _ _ _ _ _ fun u => ?_
  dsimp only
  split <;> simp

@[simp] theorem State.recvQuality_whole (s : State) (o : OutId) (b : List Byte) : (s.recvQuality o b).whole = s.whole := by
  refine State.bcRecv_whole _ _ _ _ _ fun u => ?_
  dsimp only
  split <;> simp

@[simp] theorem State.recvStatus_whole (s : State) (o : OutId) (b : List Byte) : (s.recvStatus o b).whole = s.whole := by
  simp [State.recvStatus]

@[simp] theorem State.badEcho_whole (s : State) (o : OutId) (resolves : Bool) : (s.badEcho o resolves).whole = s.whole := by
  simp [State.badEcho]

@[simp] theorem State.known_whole (s : State) (o : OutId) : (s.known o).whole = s.whole := by
  simp [State.known]

@[simp] theorem State.tryKnown_whole (s : State) (o : OutId) : (s.tryKnown o).whole = s.whole := by
  unfold State.tryKnown
  dsimp only
  split <;> simp

@[simp] theorem State.recvEcho_whole (s : State) (o : OutId) (b : List Byte) : (s.recvEcho o b).whole = s.whole := by
  refine State.bcRecv_whole _ _ _ _ _ fun u => ?_
  dsimp only
  repeat' split
  all_goals simp

@[simp] theorem State.writeRetrain_whole (s : State) (o : OutId) : (s.writeRetrain o).whole = s.whole := by
  unfold State.writeRetrain
  split
  · rfl
  · split <;> simp

@[simp] theorem execTeTimeout_whole (o : OutId) (s : State) : answer (execTeTimeout o s) = some s.whole := by
  unfold execTeTimeout
  split <;> simp

@[simp] theorem execTrainReport_whole (o : OutId) (block : List Byte) (s : State) :
    answer (execTrainReport o block s) = some s.whole := by
  simp [execTrainReport]

@[simp] theorem execCapsMsg_whole (o : OutId) (block : List Byte) (s : State) :
    answer (execCapsMsg o block s) = some s.whole := by
  simp [execCapsMsg]

@[simp] theorem execCrcEcho_whole (o : OutId) (block : List Byte) (s : State) :
    answer (execCrcEcho o block s) = some s.whole := by
  simp [execCrcEcho]

@[simp] theorem execStatusMsg_whole (o : OutId) (block : List Byte) (s : State) :
    answer (execStatusMsg o block s) = some s.whole := by
  simp [execStatusMsg]

@[simp] theorem execLinkQuality_whole (o : OutId) (block : List Byte) (s : State) :
    answer (execLinkQuality o block s) = some s.whole := by
  simp [execLinkQuality]

@[simp] theorem execBackchannelLoss_whole (o : OutId) (s : State) : answer (execBackchannelLoss o s) = some s.whole := by
  unfold execBackchannelLoss
  split <;> simp

@[simp] theorem execEchoTimeout_whole (o : OutId) (s : State) : answer (execEchoTimeout o s) = some s.whole := by
  unfold execEchoTimeout
  split <;> simp

@[simp] theorem execPanelFaultClear_whole (o : OutId) (s : State) : answer (execPanelFaultClear o s) = some s.whole := by
  unfold execPanelFaultClear
  split <;> simp

@[simp] theorem execTrainPhaseTimeout_whole (o : OutId) (s : State) : answer (execTrainPhaseTimeout o s) = some s.whole := by
  unfold execTrainPhaseTimeout
  split <;> simp

@[simp] theorem execTrainDeskewRepeat_whole (o : OutId) (s : State) : answer (execTrainDeskewRepeat o s) = some s.whole := by
  simp [execTrainDeskewRepeat]

@[simp] theorem execPanelRstRelease_whole (o : OutId) (s : State) : answer (execPanelRstRelease o s) = some s.whole := by
  unfold execPanelRstRelease
  split <;> simp

@[simp] theorem execLinkRetryCycle_whole (o : OutId) (s : State) : answer (execLinkRetryCycle o s) = some s.whole := by
  simp [execLinkRetryCycle]

@[simp] theorem execEiExitStart_whole (o : OutId) (s : State) : answer (execEiExitStart o s) = some s.whole := by
  simp [execEiExitStart]

@[simp] theorem execEiExitDone_whole (lane : Nat) (s : State) : answer (execEiExitDone lane s) = some s.whole := by
  simp [execEiExitDone]

@[simp] theorem State.ringTell_whole (s : State) (lane : Nat) : (s.ringTell lane).whole = s.whole := by
  simp [State.ringTell]

@[simp] theorem execEyeRefresh_whole (lane : Nat) (eye : Openings) (ctle : Equaliser) (s : State) :
    answer (execEyeRefresh lane eye ctle s) = some s.whole := by
  simp [execEyeRefresh]

@[simp] theorem execLaneCalDue_whole (lane : Nat) (s : State) : answer (execLaneCalDue lane s) = some s.whole := by
  simp [execLaneCalDue]

@[simp] theorem execLaneCalStart_whole (port : Nat) (s : State) : answer (execLaneCalStart port s) = some s.whole := by
  simp only [execLaneCalStart]
  repeat' split
  all_goals simp

@[simp] theorem execLaneCalDone_whole (lane : Nat) (s : State) : answer (execLaneCalDone lane s) = some s.whole := by
  simp [execLaneCalDone]

@[simp] theorem execLaneCalAbort_whole (lane : Nat) (s : State) : answer (execLaneCalAbort lane s) = some s.whole := by
  simp [execLaneCalAbort]

@[simp] theorem execDeskewSlotDue_whole (p : Nat) (s : State) : answer (execDeskewSlotDue p s) = some s.whole := by
  simp [execDeskewSlotDue]

@[simp] theorem execBlockLockGained_whole (lane : Nat) (s : State) : answer (execBlockLockGained lane s) = some s.whole := by
  simp only [execBlockLockGained, answer_next, State.whole_ite]
  split <;> simp

@[simp] theorem execBlockLockLost_whole (lane : Nat) (s : State) : answer (execBlockLockLost lane s) = some s.whole := by
  simp [execBlockLockLost]

@[simp] theorem execBackchannelBlockDiscard_whole (o : BcBlock) (s : State) :
    answer (execBackchannelBlockDiscard o s) = some s.whole := by
  unfold execBackchannelBlockDiscard
  dsimp only
  split
  · simp
  · split <;> simp

@[simp] theorem execRetrainWrite_whole (f : Nat) (word : Word) (s : State) :
    answer (execRetrainWrite f word s) = some s.whole := by
  simp [execRetrainWrite]

@[simp] theorem State.markRecal_whole (s : State) (p : Nat) : (s.markRecal p).whole = s.whole := by
  simp [State.markRecal]

@[simp] theorem execRecalNow_whole (f port : Nat) (word : Word) (s : State) :
    answer (execRecalNow f port word s) = some s.whole := by
  simp [execRecalNow]

/-! ### Uncorrectable errors of module DRAM -/

@[simp] theorem State.dramUe_whole (s : State) (src : Nat) (ws : List Nat) : (s.dramUe src ws).whole = s.whole := by
  simp [State.dramUe]

/-! ### System commands -/

@[simp] theorem execGetInfo_whole (f : Nat) (s : State) : answer (execGetInfo f s) = some s.whole := by
  simp [execGetInfo]

@[simp] theorem execGetStatus_whole (f : Nat) (s : State) : answer (execGetStatus f s) = some s.whole := by
  simp [execGetStatus]

@[simp] theorem State.writeBar2Act_whole (s : State) (f : Nat) (b : Blk) (off w : Nat) :
    (s.writeBar2Act f b off w).whole = s.whole := by
  simp [State.writeBar2Act]

@[simp] theorem State.writeEntry_whole (s : State) (f : Nat) (p : List Byte) (k : Nat) :
    (s.writeEntry f p k).whole = s.whole := by
  unfold State.writeEntry
  split <;> simp

@[simp] theorem execWriteFields_whole (f : Nat) (s : State) : answer (execWriteFields f s) = some s.whole := by
  simp [execWriteFields]

@[simp] theorem State.latchTime_whole (s : State) : s.latchTime.whole = s.whole := by
  simp [State.latchTime]

@[simp] theorem readEntries_whole (p : List Byte) (ks : List Nat) (s : State) (acc : List Byte) :
    (readEntries p ks s acc).2.whole = s.whole := by
  induction ks generalizing s acc with
  | nil => rfl
  | cons k ks ih => simp [readEntries, ih]

@[simp] theorem execReadFields_whole (f : Nat) (s : State) : answer (execReadFields f s) = some s.whole := by
  simp [execReadFields]

@[simp] theorem execRetrain_whole (f : Nat) (s : State) : answer (execRetrain f s) = some s.whole := by
  simp [execRetrain]

/-! ### Registers, doorbells and the management port -/

@[simp] theorem State.writeBarWord_whole (s : State) (f bar off w : Nat) : (s.writeBarWord f bar off w).whole = s.whole := by
  simp only [State.writeBarWord]
  repeat' split
  all_goals simp

@[simp] theorem execRegisterWrite_whole (f bar off : Nat) (data : List Byte) (s : State) :
    answer (execRegisterWrite f bar off data s) = some s.whole := by
  simp [execRegisterWrite]

@[simp] theorem execExpertWindowReadDenied_whole (f off size : Nat) (s : State) :
    answer (execExpertWindowReadDenied f off size s) = some s.whole := by
  unfold execExpertWindowReadDenied
  dsimp only
  split
  · simp
  · split <;> simp

@[simp] theorem execTimeLoRead_whole (f : Nat) (s : State) : answer (execTimeLoRead f s) = some s.whole := by
  simp [execTimeLoRead]

@[simp] theorem State.badDoorbell_whole (s : State) (f : Nat) : (s.badDoorbell f).whole = s.whole := by
  simp [State.badDoorbell]

@[simp] theorem State.drain_whole (s : State) (f : Nat) : (s.drain f).whole = s.whole := by
  simp [State.drain]

@[simp] theorem execSqTail_whole (f val : Nat) (entries : List SqEntry) (s : State) :
    answer (execSqTail f val entries s) = some s.whole := by
  simp [execSqTail]

@[simp] theorem execCqHead_whole (f val : Nat) (s : State) : answer (execCqHead f val s) = some s.whole := by
  simp [execCqHead]

@[simp] theorem execEqHead_whole (f val : Nat) (s : State) : answer (execEqHead f val s) = some s.whole := by
  simp [execEqHead]

@[simp] theorem execSqEn_whole (f : Nat) (on : Bool) (s : State) : answer (execSqEn f on s) = some s.whole := by
  simp [execSqEn]

@[simp] theorem State.muteCommands_whole (s : State) (f : Nat) : (s.muteCommands f).whole = s.whole := by
  simp [State.muteCommands]

@[simp] theorem execCqEn_whole (f : Nat) (on : Bool) (s : State) : answer (execCqEn f on s) = some s.whole := by
  simp [execCqEn]

@[simp] theorem execEqEn_whole (f : Nat) (on : Bool) (s : State) : answer (execEqEn f on s) = some s.whole := by
  simp [execEqEn]

@[simp] theorem execVectorCoalesceExpiry_whole (f : Nat) (ring : RingSel) (s : State) :
    answer (execVectorCoalesceExpiry f ring s) = some s.whole := by
  unfold execVectorCoalesceExpiry
  split <;> simp

@[simp] theorem mgmtRead_whole (n : Nat) (s : State) (acc : List Byte) : (mgmtRead n s acc).1.whole = s.whole := by
  induction n generalizing s acc with
  | zero => rfl
  | succ n ih =>
    unfold mgmtRead
    dsimp only
    split <;> simp [ih]

@[simp] theorem execMgmtI2cTransfer_whole (index : Nat) (wdata : List Byte) (rlen : Nat) (s : State) :
    answer (execMgmtI2cTransfer index wdata rlen s) = some s.whole := by
  simp [execMgmtI2cTransfer]

/-! ### Scenes -/

@[simp] theorem State.modSession_whole (s : State) (n : Nat) (g : Session → Session) :
    (s.modSession n g).whole = s.whole := by
  simp [State.modSession]

@[simp] theorem State.forwardOps_whole (s : State) (c : Nat) (p : List Byte) : (s.forwardOps c p).whole = s.whole := by
  simp [State.forwardOps]

@[simp] theorem State.forwardDiscard_whole (s : State) (c : Nat) : (s.forwardDiscard c).whole = s.whole := by
  simp [State.forwardDiscard]

@[simp] theorem State.opsError_whole (s : State) (c cause seq n : Nat) : (s.opsError c cause seq n).whole = s.whole := by
  simp [State.opsError]

@[simp] theorem State.failOps_whole (s : State) (c cause seq nfail : Nat) (covered : Bool) :
    (s.failOps c cause seq nfail covered).whole = s.whole := by
  simp [State.failOps]

@[simp] theorem State.breakAuth_whole (s : State) (c n : Nat) : (s.breakAuth c n).whole = s.whole := by
  simp [State.breakAuth]

@[simp] theorem State.skipOps_whole (s : State) (c : Nat) (p : List Byte) (prot : Bool) :
    (s.skipOps c p prot).whole = s.whole := by
  simp [State.skipOps]

@[simp] theorem State.closeScene_whole (s : State) (c : Nat) (m : List Byte) (markBase : Option Nat) :
    (s.closeScene c m markBase).whole = s.whole := by
  simp [State.closeScene]

@[simp] theorem State.takeOps_whole (s : State) (c : Nat) (p : List Byte) (prot : Bool) (markBase : Option Nat)
    (at_ : List Nat × Nat × Nat) : (s.takeOps c p prot markBase at_).whole = s.whole := by
  unfold State.takeOps
  dsimp only
  split <;> simp

@[simp] theorem State.pauseOps_whole (s : State) (c : Nat) (p : List Byte) : (s.pauseOps c p).whole = s.whole := by
  simp [State.pauseOps]

@[simp] theorem State.freshOps_whole (s : State) (c : Nat) (p : List Byte) (prot member : Bool) (markBase : Option Nat) :
    (s.freshOps c p prot member markBase).1.whole = s.whole := by
  unfold State.freshOps
  dsimp only
  repeat' split
  all_goals simp

@[simp] theorem State.ingestOps_whole (s : State) (c : Nat) (p : List Byte) (prot member : Bool) (markBase : Option Nat) :
    (s.ingestOps c p prot member markBase).1.whole = s.whole := by
  simp [State.ingestOps]

@[simp] theorem State.endSub_whole (s : State) (c status : Nat) : (s.endSub c status).whole = s.whole := by
  unfold State.endSub
  split <;> simp

@[simp] theorem State.subDone_whole (s : State) (c : Nat) : (s.subDone c).whole = s.whole := by
  unfold State.subDone
  split <;> simp

@[simp] theorem State.advance_whole (s : State) (c n : Nat) : (s.advance c n).whole = s.whole := by
  simp [State.advance]

@[simp] theorem State.noteTag_whole (s : State) (c : Nat) (p : List Byte) : (s.noteTag c p).whole = s.whole := by
  simp [State.noteTag]

@[simp] theorem State.unframed_whole (s : State) (c seq : Nat) (failed : Bool) :
    (s.unframed c seq failed).whole = s.whole := by
  simp [State.unframed]

@[simp] theorem State.opsPacket_whole (s : State) (c : Nat) (bytes : List Byte) (readOk : Bool) :
    (s.opsPacket c bytes readOk).whole = s.whole := by
  unfold State.opsPacket
  dsimp only
  repeat' split
  all_goals simp

@[simp] theorem execStorePauseTimeout_whole (c : Nat) (s : State) : answer (execStorePauseTimeout c s) = some s.whole := by
  unfold execStorePauseTimeout
  split <;> simp

@[simp] theorem State.moveLive_whole (s : State) (c : Nat) (t : Tile) : (s.moveLive c t).whole = s.whole := by
  unfold State.moveLive
  split <;> simp

@[simp] theorem execStoreCompaction_whole (s : State) : answer (execStoreCompaction s) = some s.whole := by
  simp [execStoreCompaction]

@[simp] theorem execSubmitOps_whole (f : Nat) (s : State) : answer (execSubmitOps f s) = some s.whole := by
  simp [execSubmitOps]

@[simp] theorem execGetScene_whole (f : Nat) (s : State) : answer (execGetScene f s) = some s.whole := by
  simp [execGetScene]

/-! ### The front plane -/

@[simp] theorem State.composeRows_whole (s : State) (o : OutId) (info : FrameInfo) (c : Nat) (js : List Nat) (t : State) :
    (s.composeRows o info c js t).1.whole = t.whole := by
  induction js generalizing t with
  | nil => rfl
  | cons j js ih => simp [State.composeRows, ih]

@[simp] theorem State.layerErrors_whole (s : State) (o : OutId) (c : Nat) (errs : List (Nat × Nat)) :
    (s.layerErrors o c errs).whole = s.whole := by
  simp [State.layerErrors]

@[simp] theorem State.frontPlane_whole (s : State) (o : OutId) (y c : Nat) (flip : Word) :
    (s.frontPlane o y c flip).whole = s.whole := by
  simp only [State.frontPlane]
  repeat' split
  all_goals simp

@[simp] theorem execFrontPlaneRow_whole (o : OutId) (y c : Nat) (flip : Word) (s : State) :
    answer (execFrontPlaneRow o y c flip s) = some s.whole := by
  simp [execFrontPlaneRow]

@[simp] theorem execExpectationDone_whole (o : OutId) (r : Nat) (flip : Word) (s : State) :
    answer (execExpectationDone o r flip s) = some s.whole := by
  unfold execExpectationDone
  dsimp only
  split
  · simp
  · split <;> simp

@[simp] theorem State.mismatch_whole (s : State) (o : OutId) (r frame : Nat) : (s.mismatch o r frame).whole = s.whole := by
  simp [State.mismatch]

@[simp] theorem State.judgeFreeze_whole (s t : State) (o : OutId) (rf : RegionFrame) :
    (s.judgeFreeze t o rf).whole = t.whole := by
  simp [State.judgeFreeze]

@[simp] theorem State.compareSig_whole (s : State) (o : OutId) (r : Nat) : (s.compareSig o r).whole = s.whole := by
  unfold State.compareSig
  split <;> simp

@[simp] theorem execSignatureCompare_whole (o : OutId) (r : Nat) (s : State) :
    answer (execSignatureCompare o r s) = some s.whole := by
  simp [execSignatureCompare]

@[simp] theorem execSignatureDeadline_whole (o : OutId) (r : Nat) (s : State) :
    answer (execSignatureDeadline o r s) = some s.whole := by
  unfold execSignatureDeadline
  split <;> simp

/-! ### Bands and spans -/

@[simp] theorem State.takeSnapshot_whole (s : State) (o : OutId) (i : FrameInfo) (r : Nat) (g : Region) :
    (s.takeSnapshot o i r g).whole = s.whole := by
  simp [State.takeSnapshot]

@[simp] theorem State.prepStart_whole (s : State) (o : OutId) (y : Nat) : (s.prepStart o y).whole = s.whole := by
  unfold State.prepStart
  dsimp only
  split <;> simp

@[simp] theorem execBandPrepStart_whole (o : OutId) (y : Nat) (s : State) :
    answer (execBandPrepStart o y s) = some s.whole := by
  simp [execBandPrepStart]

@[simp] theorem State.serve_whole (s : State) (before : Nat → Bool) : (s.serve before).whole = s.whole := by
  simp [State.serve]

@[simp] theorem execBandPrepDone_whole (o : OutId) (y c : Nat) (s : State) :
    answer (execBandPrepDone o y c s) = some s.whole := by
  unfold execBandPrepDone
  dsimp only
  split
  · simp
  · split <;> simp

@[simp] theorem execPrepBudgetSpent_whole (o : OutId) (s : State) : answer (execPrepBudgetSpent o s) = some s.whole := by
  unfold execPrepBudgetSpent
  dsimp only
  split
  · simp
  · split <;> simp

@[simp] theorem State.beforeIngest_whole (s : State) (p : List Byte) : (s.beforeIngest p).whole = s.whole := by
  simp [State.beforeIngest]

@[simp] theorem execOpsPacket_whole (c : Nat) (bytes : List Byte) (readOk : Bool) (s : State) :
    answer (execOpsPacket c bytes readOk s) = some s.whole := by
  simp [execOpsPacket]

@[simp] theorem State.dispatch_whole (s : State) (slice : Nat) : (s.dispatch slice).whole = s.whole := by
  unfold State.dispatch
  dsimp only
  repeat' split
  all_goals simp

@[simp] theorem execSpanDispatch_whole (slice : Nat) (s : State) : answer (execSpanDispatch slice s) = some s.whole := by
  simp [execSpanDispatch]

@[simp] theorem State.spanDone_whole (s : State) (slice : Nat) : (s.spanDone slice).whole = s.whole := by
  unfold State.spanDone
  dsimp only
  split
  · simp
  · split <;> simp

@[simp] theorem execSpanComplete_whole (slice : Nat) (s : State) : answer (execSpanComplete slice s) = some s.whole := by
  simp [execSpanComplete]

@[simp] theorem execSpanWatchdog_whole (slice : Nat) (s : State) : answer (execSpanWatchdog slice s) = some s.whole := by
  unfold execSpanWatchdog
  split
  · rfl
  · split <;> simp

/-! ### Package doorways -/

@[simp] theorem State.closeSessions_whole (s : State) (gone : List Session) : (s.closeSessions gone).whole = s.whole := by
  simp [State.closeSessions]

@[simp] theorem State.packageLive_whole (s : State) (p : Package) : (s.packageLive p).whole = s.whole := by
  simp [State.packageLive]

@[simp] theorem State.packageGone_whole (s : State) : s.packageGone.whole = s.whole := by
  simp [State.packageGone]

@[simp] theorem State.packageDoor_whole (s : State) (o : OutId) (n : Nat) : (s.packageDoor o n).whole = s.whole := by
  unfold State.packageDoor
  dsimp only
  repeat' split
  all_goals simp

@[simp] theorem State.packageNote_whole (s : State) (n : Nat) : (s.packageNote n).whole = s.whole := by
  simp [State.packageNote]

/-! ### What a frame runs under -/

@[simp] theorem State.calDoor_whole (s : State) (g : Settings) (o : OutId) (n : Nat) (m : ModeCfg)
    (slots elig : Table Nat) (key : List Nat) : (s.calDoor g o n m slots elig key).1.whole = s.whole := by
  unfold State.calDoor
  dsimp only
  split
  · simp
  · repeat' split
    all_goals simp

@[simp] theorem State.setRamp_whole (s : State) (o : OutId) (r : Ramp) : (s.setRamp o r).whole = s.whole := by
  unfold State.setRamp
  split <;> simp

@[simp] theorem State.sceneDoor_whole (s : State) (os : List OutId) (n : Nat) (m : ModeCfg) (slots : Table Nat)
    (c : Nat) (k : SceneCommit) : (s.sceneDoor os n m slots c k).whole = s.whole := by
  unfold State.sceneDoor
  dsimp only
  split <;> simp

@[simp] theorem State.scenesDoor_whole (s : State) (os : List OutId) (n : Nat) (m : ModeCfg) (slots : Table Nat) :
    (s.scenesDoor os n m slots).whole = s.whole := by
  simp [State.scenesDoor]

@[simp] theorem State.dropDoor_whole (s : State) (o : OutId) (n slots : Nat) (quiet : Bool) :
    (s.dropDoor o n slots quiet).whole = s.whole := by
  simp [State.dropDoor]

@[simp] theorem State.streamDoor_whole (s : State) (g : Settings) (c : Nat) : (s.streamDoor g c).whole = s.whole := by
  unfold State.streamDoor
  dsimp only
  repeat' split
  · rfl
  · simp
  · refine (foldl_whole _ (fun a _ => ?_) _ _).trans (by simp)
    split <;> simp

@[simp] theorem State.standbyEnter_whole (s : State) (os : List OutId) : (s.standbyEnter os).whole = s.whole := by
  unfold State.standbyEnter
  split <;> simp

@[simp] theorem State.deriveFrame_whole (s : State) (o : OutId) (n : Nat) : (s.deriveFrame o n).whole = s.whole := by
  unfold State.deriveFrame
  extract_lets g lk os s0 s1 s2 was m0 code step m slots elig src ramp s3 running ctl rayOf unifOf unifOn key cd s4 s5 s6
    tile i s7 up p s8
  have h1 : s1.whole = s.whole := by simp [s1]
  have h2 : s2.whole = s1.whole := by
    simp only [s2]
    split <;> simp
  have h4 : s4.whole = s2.whole := by simp [s4, cd, s3]
  have h6 : s6.whole = s4.whole := by simp [s6, s5]
  have h8 : s8.whole = s6.whole := by simp [s8, s7]
  simp [h8, h6, h4, h2, h1]

/-! ### Ring ports and enumeration -/

@[simp] theorem State.ringEvent_whole (s : State) (kind : Nat) (dev : Option Nat) :
    (s.ringEvent kind dev).whole = s.whole := by
  simp [State.ringEvent]

@[simp] theorem State.portFault_whole (s : State) (p : RPort) (code cls : Nat) :
    (s.portFault p code cls).whole = s.whole := by
  simp [State.portFault]

@[simp] theorem State.startPort_whole (s : State) (p : RPort) : (s.startPort p).whole = s.whole := by
  simp [State.startPort]

@[simp] theorem State.enumerate_whole (s : State) : s.enumerate.whole = s.whole := by
  simp [State.enumerate]

@[simp] theorem State.enumDone_whole (s : State) (closed : Bool) (e w : List Member) :
    (s.enumDone closed e w).whole = s.whole := by
  simp [State.enumDone]

@[simp] theorem State.enumBack_whole (s : State) (p : RPort) (closed : Bool) (ms : List Member) :
    (s.enumBack p closed ms).whole = s.whole := by
  unfold State.enumBack
  dsimp only
  split <;> simp

@[simp] theorem State.endRelay_whole (s : State) (c : RelayCmd) : (s.endRelay c).whole = s.whole := by
  unfold State.endRelay
  split <;> simp

@[simp] theorem State.endRelays_whole (s : State) : s.endRelays.whole = s.whole := by
  simp [State.endRelays]

@[simp] theorem State.portDown_whole (s : State) (p : RPort) : (s.portDown p).whole = s.whole := by
  simp [State.portDown]

@[simp] theorem State.portUp_whole (s : State) (p : RPort) : (s.portUp p).whole = s.whole := by
  simp [State.portUp]

@[simp] theorem State.takeHello_whole (s : State) (p : RPort) (b : List Byte) : (s.takeHello p b).whole = s.whole := by
  simp [State.takeHello]

@[simp] theorem execHelloBlk_whole (p : RPort) (block : List Byte) (s : State) :
    answer (execHelloBlk p block s) = some s.whole := by
  simp [execHelloBlk]

@[simp] theorem State.portPhase_whole (s : State) (p : RPort) (st : Nat) : (s.portPhase p st).whole = s.whole := by
  simp [State.portPhase]

@[simp] theorem State.helloPhase_whole (s : State) (p : RPort) : (s.helloPhase p).whole = s.whole := by
  unfold State.helloPhase
  dsimp only
  split <;> simp

@[simp] theorem State.deskewRepeats_whole (s : State) (p : RPort) : (s.deskewRepeats p).whole = s.whole := by
  simp [State.deskewRepeats]

@[simp] theorem State.ringReport_whole (s : State) (p : RPort) (b : List Byte) : (s.ringReport p b).whole = s.whole := by
  unfold State.ringReport
  dsimp only
  split <;> simp

@[simp] theorem execRingTrainReport_whole (p : RPort) (block : List Byte) (s : State) :
    answer (execRingTrainReport p block s) = some s.whole := by
  simp [execRingTrainReport]

@[simp] theorem execRingTrainTimeout_whole (p : RPort) (s : State) : answer (execRingTrainTimeout p s) = some s.whole := by
  unfold execRingTrainTimeout
  dsimp only
  split <;> simp

@[simp] theorem execJoinRetry_whole (p : RPort) (s : State) : answer (execJoinRetry p s) = some s.whole := by
  simp [execJoinRetry]

@[simp] theorem execPingBlk_whole (p : RPort) (block : List Byte) (s : State) :
    answer (execPingBlk p block s) = some s.whole := by
  simp [execPingBlk]

@[simp] theorem execPingTimer_whole (p : RPort) (s : State) : answer (execPingTimer p s) = some s.whole := by
  simp [execPingTimer]

@[simp] theorem execAckBlk_whole (p : RPort) (block : List Byte) (s : State) :
    answer (execAckBlk p block s) = some s.whole := by
  simp [execAckBlk]

@[simp] theorem execRetxTimeout_whole (p : RPort) (s : State) : answer (execRetxTimeout p s) = some s.whole := by
  simp [execRetxTimeout]

@[simp] theorem execRingPortDown_whole (p : RPort) (s : State) : answer (execRingPortDown p s) = some s.whole := by
  simp [execRingPortDown]

@[simp] theorem execEnumTimer_whole (s : State) : answer (execEnumTimer s) = some s.whole := by
  simp [execEnumTimer]

@[simp] theorem State.portLive_whole (s : State) (p : RPort) : (s.portLive p).whole = s.whole := by
  simp [State.portLive]

@[simp] theorem State.ringLive_whole (s : State) : s.ringLive.whole = s.whole := by
  simp [State.ringLive]

/-! ### The frame doorway -/

@[simp] theorem State.joined_present (s : State) (isl : Nat) (l : Landing) :
    (s.joined isl l).present = l.present := by
  simp [State.joined]

@[simp] theorem State.joinLandings_whole (s : State) (o : OutId) (n : Nat) :
    (s.joinLandings o n).whole = s.whole := by
  simp [State.joinLandings]

@[simp] theorem State.gatherB_whole (s : State) (n : Nat) : (s.gatherB n).whole = s.whole := by
  simp [State.gatherB]

@[simp] theorem State.closeDoor_whole (s : State) (o : OutId) : (s.closeDoor o).whole = s.whole := by
  simp [State.closeDoor]

@[simp] theorem execDoorwayClose_whole (o : OutId) (s : State) : answer (execDoorwayClose o s) = some s.whole := by
  simp [execDoorwayClose]

@[simp] theorem State.endHandling_whole (s : State) (p : Recovery → Bool) : (s.endHandling p).whole = s.whole := by
  simp [State.endHandling]

@[simp] theorem State.swapDoor_whole (s : State) (o : OutId) : (s.swapDoor o).whole = s.whole := by
  simp [State.swapDoor]

@[simp] theorem execDoorwaySwap_whole (o : OutId) (s : State) : answer (execDoorwaySwap o s) = some s.whole := by
  simp [execDoorwaySwap]

@[simp] theorem State.withhold_whole (s : State) (isl n : Nat) (os : List OutId) :
    (s.withhold isl n os).whole = s.whole := by
  simp [State.withhold]

@[simp] theorem State.withholdMore_whole (s : State) (isl : Nat) (late : List Nat) :
    (s.withholdMore isl late).whole = s.whole := by
  simp [State.withholdMore]

@[simp] theorem execLandingTimeout_whole (isl : Nat) (o : OutId) (s : State) :
    answer (execLandingTimeout isl o s) = some s.whole := by
  simp [execLandingTimeout]

@[simp] theorem State.standbyLive_whole (s : State) (o : OutId) (n : Nat) : (s.standbyLive o n).whole = s.whole := by
  simp [State.standbyLive]

@[simp] theorem State.swapActs_whole (s : State) (isl : Nat) (o : OutId) (n : Nat) :
    (s.swapActs isl o n).whole = s.whole := by
  unfold State.swapActs
  dsimp only
  repeat' split
  all_goals simp

@[simp] theorem State.swapLanding_whole (s : State) (isl : Nat) (o : OutId) (n : Nat) :
    (s.swapLanding isl o n).whole = s.whole := by
  unfold State.swapLanding
  extract_lets t s0 t1 t2
  have h1 : t1.whole = s.whole := by
    refine (State.modLanding_whole _ _ _ fun l => ?_).trans (State.deriveFrame_whole ..)
    cases o <;> exact Landing.takes_present ..
  simp [t2, h1]

@[simp] theorem execLandingSwap_whole (isl : Nat) (o : OutId) (s : State) :
    answer (execLandingSwap isl o s) = some s.whole := by
  simp [execLandingSwap]

/-! ### The audit chain -/

@[simp] theorem State.post_whole (s : State) (addr : Nat) (bs : List Byte) : (s.post addr bs).whole = s.whole := by
  simp [State.post]

@[simp] theorem State.setChain_whole (s : State) (gen : Nat) (k : Chain) : (s.setChain gen k).whole = s.whole := by
  simp [State.setChain]

@[simp] theorem State.leaveBuffer_whole (s : State) (k : Chain) : (s.leaveBuffer k).whole = s.whole := by
  simp [State.leaveBuffer]

@[simp] theorem State.enterDesc_whole (s : State) (gen addr : Nat) : (s.enterDesc gen addr).whole = s.whole := by
  simp [State.enterDesc]

@[simp] theorem State.advanceChain_whole (s : State) (gen : Nat) : (s.advanceChain gen).whole = s.whole := by
  simp [State.advanceChain]

@[simp] theorem State.fillChain_whole (n : Nat) (s : State) (gen : Nat) (bs : List Byte) :
    (State.fillChain n s gen bs).1.whole = s.whole := by
  fun_induction State.fillChain n s gen bs <;> simp_all

@[simp] theorem State.putRecord_whole (s : State) (gen seq : Nat) (bytes : List Byte) :
    (s.putRecord gen seq bytes).whole = s.whole := by
  simp [State.putRecord]

@[simp] theorem State.newRecord_whole (s : State) (mk : Nat → List Byte) : (s.newRecord mk).whole = s.whole := by
  unfold State.newRecord
  dsimp only
  split <;> simp

@[simp] theorem State.chainStart_whole (s : State) : s.chainStart.whole = s.whole := by
  unfold State.chainStart
  split <;> simp

@[simp] theorem State.tidyChains_whole (s : State) : s.tidyChains.whole = s.whole := by
  simp [State.tidyChains]

@[simp] theorem State.takeChain_whole (s : State) : s.takeChain.whole = s.whole := by
  unfold State.takeChain
  split <;> simp

@[simp] theorem State.noteGap_whole (s : State) (o : OutId) (c cause n void : Nat) :
    (s.noteGap o c cause n void).whole = s.whole := by
  simp [State.noteGap]

@[simp] theorem State.writeGaps_whole (gs : List Gap) (s : State) : (State.writeGaps gs s).whole = s.whole := by
  induction gs generalizing s with
  | nil => rfl
  | cons g gs ih => simp [State.writeGaps, ih]

@[simp] theorem State.findRoom_whole (s : State) : s.findRoom.whole = s.whole := by
  simp [State.findRoom]

@[simp] theorem State.beginCapture_whole (s : State) (o : OutId) (i : FrameInfo) (c : Nat) (forced : Bool) :
    (s.beginCapture o i c forced).whole = s.whole := by
  simp [State.beginCapture]

@[simp] theorem State.captureStart_whole (s : State) (o : OutId) (i : FrameInfo) (forced : Bool) :
    (s.captureStart o i forced).whole = s.whole := by
  simp [State.captureStart]

@[simp] theorem State.captureEnd_whole (s : State) (o : OutId) (i : FrameInfo) : (s.captureEnd o i).whole = s.whole := by
  simp [State.captureEnd]

@[simp] theorem State.writeSeal_whole (s : State) (seq : Nat) : (s.writeSeal seq).whole = s.whole := by
  simp [State.writeSeal]

@[simp] theorem State.sealReady_whole (s : State) : s.sealReady.whole = s.whole := by
  unfold State.sealReady
  split <;> simp

@[simp] theorem execAuditRecordDone_whole (c : Nat) (s : State) : answer (execAuditRecordDone c s) = some s.whole := by
  unfold execAuditRecordDone
  dsimp only
  repeat' split
  all_goals simp

@[simp] theorem execAuditSeal_whole (s : State) : answer (execAuditSeal s) = some s.whole := by
  simp [execAuditSeal]

/-! ### Settings commands -/

@[simp] theorem State.writeFld_whole (s : State) (b : Blk) (off lo len v : Nat) :
    (s.writeFld b off lo len v).whole = s.whole := by
  simp [State.writeFld]

@[simp] theorem poolBreach_whole (s : State) (k : Nat) : (poolBreach s k).st.whole = s.whole := by
  simp [poolBreach]

@[simp] theorem State.writeMode_whole (s : State) (p : List Byte) : (s.writeMode p).whole = s.whole := by
  simp [State.writeMode]

@[simp] theorem State.writeWords_whole (s : State) (b : Blk) (off : Nat) (p : List Byte) (at_ n : Nat) :
    (s.writeWords b off p at_ n).whole = s.whole := by
  simp [State.writeWords]

@[simp] theorem execSetAuditChain_whole (f : Nat) (s : State) : answer (execSetAuditChain f s) = some s.whole := by
  simp [execSetAuditChain]

@[simp] theorem State.writeScanout_whole (s : State) (p : List Byte) : (s.writeScanout p).whole = s.whole := by
  simp [State.writeScanout]

/-! ### The blitter -/

@[simp] theorem execSubmitBlit_whole (f : Nat) (s : State) : answer (execSubmitBlit f s) = some s.whole := by
  simp [execSubmitBlit]

@[simp] theorem State.blitVector_whole (s : State) (f v : Nat) : (s.blitVector f v).whole = s.whole := by
  simp [State.blitVector]

@[simp] theorem State.blitEvent_whole (s : State) (f code : Nat) (data : List Byte) :
    (s.blitEvent f code data).whole = s.whole := by
  simp [State.blitEvent]

@[simp] theorem State.blitListEnd_whole (s : State) (l : BlitList) (first : Nat × Nat) :
    (s.blitListEnd l first).whole = s.whole := by
  simp [State.blitListEnd]

@[simp] theorem State.blitDoorway_whole (s : State) : s.blitDoorway.whole = s.whole := by
  unfold State.blitDoorway
  dsimp only
  split <;> simp

/-! ### Cameras and viewers -/

@[simp] theorem State.modFrame_whole (s : State) (port n : Nat) (g : CamFrame → CamFrame) :
    (s.modFrame port n g).whole = s.whole := by
  simp [State.modFrame]

@[simp] theorem State.truncate_whole (s : State) (port cause : Nat) : (s.truncate port cause).whole = s.whole := by
  unfold State.truncate
  split <;> simp

@[simp] theorem State.takeNext_whole (s : State) (pipe : Nat) : (s.takeNext pipe).whole = s.whole := by
  unfold State.takeNext
  dsimp only
  split
  · simp
  · split <;> simp

@[simp] theorem State.wake_whole (s : State) (isl : Nat) : (s.wake isl).whole = s.whole := by
  simp [State.wake]

@[simp] theorem State.camLive_whole (s : State) (port n : Nat) (p : Pend) : (s.camLive port n p).whole = s.whole := by
  simp [State.camLive]

@[simp] theorem State.camDoor_whole (s : State) (port n : Nat) : (s.camDoor port n).whole = s.whole := by
  simp [State.camDoor]

@[simp] theorem execCamFrameStart_whole (port vc : Nat) (s : State) :
    answer (execCamFrameStart port vc s) = some s.whole := by
  simp [execCamFrameStart]

@[simp] theorem State.addLine_whole (s : State) (port n : Nat) (fifo : Nat) (payload : List Byte) :
    (s.addLine port n fifo payload).whole = s.whole := by
  simp [State.addLine]

@[simp] theorem execCamFrameEnd_whole (port vc : Nat) (s : State) : answer (execCamFrameEnd port vc s) = some s.whole := by
  simp only [execCamFrameEnd]
  repeat' split
  all_goals simp

@[simp] theorem execCamFrameTimeout_whole (port : Nat) (s : State) : answer (execCamFrameTimeout port s) = some s.whole := by
  unfold execCamFrameTimeout
  split <;> simp

@[simp] theorem execCamTrig_whole (port : Nat) (s : State) : answer (execCamTrig port s) = some s.whole := by
  simp [execCamTrig]

@[simp] theorem State.calCapture_whole (s : State) (k : CamFrame) : (s.calCapture k).whole = s.whole := by
  unfold State.calCapture
  split <;> simp

@[simp] theorem execI2cXfer_whole (f : Nat) (s : State) : answer (execI2cXfer f s) = some s.whole := by
  simp [execI2cXfer]

@[simp] theorem execI2cTransferDone_whole (port : Nat) (ackOk : Bool) (rdata : List Byte) (s : State) :
    answer (execI2cTransferDone port ackOk rdata s) = some s.whole := by
  unfold execI2cTransferDone
  split <;> simp

@[simp] theorem execSetViewers_whole (f : Nat) (s : State) : answer (execSetViewers f s) = some s.whole := by
  simp [execSetViewers]

@[simp] theorem State.seeBadges_whole (s : State) : s.seeBadges.whole = s.whole := by
  simp [State.seeBadges]

@[simp] theorem State.sendViewers_whole (s : State) : s.sendViewers.whole = s.whole := by
  simp [State.sendViewers]

@[simp] theorem execZoneCopyUpdate_whole (o : OutId) (s : State) : answer (execZoneCopyUpdate o s) = some s.whole := by
  simp [execZoneCopyUpdate]

@[simp] theorem execViewerHoldExpiry_whole (k : Nat) (s : State) : answer (execViewerHoldExpiry k s) = some s.whole := by
  unfold execViewerHoldExpiry
  split <;> simp

@[simp] theorem execTrackingLost_whole (s : State) : answer (execTrackingLost s) = some s.whole := by
  simp [execTrackingLost]

/-! ### Calibration -/

@[simp] theorem State.stepDone_whole (s : State) (c : CalStep) : (s.stepDone c).whole = s.whole := by
  simp [State.stepDone]

@[simp] theorem execCalPhaseEnd_whole (s : State) : answer (execCalPhaseEnd s) = some s.whole := by
  unfold execCalPhaseEnd
  split <;> simp

@[simp] theorem State.calShadow_whole (s : State) (o : OutId) (bank : Nat) : (s.calShadow o bank).whole = s.whole := by
  simp [State.calShadow]

@[simp] theorem State.nextPass_whole (s : State) (o : OutId) : (s.nextPass o).whole = s.whole := by
  simp [State.nextPass]

@[simp] theorem execCalRampEnd_whole (o : OutId) (s : State) : answer (execCalRampEnd o s) = some s.whole := by
  simp [execCalRampEnd]

/-! ### Emitter rows -/

@[simp] theorem State.fetchUnif_whole (s : State) (i : FrameInfo) (q : OutId) (row : Nat) :
    (s.fetchUnif i q row).whole = s.whole := by
  simp [State.fetchUnif]

@[simp] theorem State.invarFault_whole (s : State) (o q : OutId) (x y c : Nat) :
    (s.invarFault o q x y c).whole = s.whole := by
  unfold State.invarFault
  dsimp only
  split <;> simp

@[simp] theorem State.noteMarks_whole (s : State) (o : OutId) (i : FrameInfo) (ms : List (Nat × Region)) :
    (s.noteMarks o i ms).whole = s.whole := by
  simp [State.noteMarks]

@[simp] theorem State.linkRow_whole (s : State) (o : OutId) (i : FrameInfo) (buf : RowBuf) (row : Nat) (q : OutId) :
    (s.linkRow o i buf row q).whole = s.whole := by
  simp [State.linkRow]

@[simp] theorem State.rowPacing_whole (s : State) (o : OutId) : (s.rowPacing o).whole = s.whole := by
  unfold State.rowPacing
  dsimp only
  repeat' split
  all_goals simp

@[simp] theorem execRowPacing_whole (o : OutId) (s : State) : answer (execRowPacing o s) = some s.whole := by
  simp [execRowPacing]

/-! ### Frame starts and ends -/

@[simp] theorem State.recoverLift_whole (s : State) (o : OutId) (n : Nat) : (s.recoverLift o n).whole = s.whole := by
  unfold State.recoverLift
  split <;> simp

@[simp] theorem State.releasePsafe_whole (s : State) (o : OutId) : (s.releasePsafe o).whole = s.whole := by
  simp [State.releasePsafe]

@[simp] theorem State.releaseSafeOut_whole (s : State) : s.releaseSafeOut.whole = s.whole := by
  simp [State.releaseSafeOut]

@[simp] theorem State.dropSpans_whole (s : State) (o : OutId) (n : Nat) : (s.dropSpans o n).whole = s.whole := by
  simp [State.dropSpans]

@[simp] theorem State.slotConflict_whole (s : State) (o : OutId) (n k : Nat) : (s.slotConflict o n k).whole = s.whole := by
  simp [State.slotConflict]

@[simp] theorem State.sendStartBlk_whole (s : State) (o : OutId) (n : Nat) (i : FrameInfo) (forced : Bool) :
    (s.sendStartBlk o n i forced).whole = s.whole := by
  simp [State.sendStartBlk]

@[simp] theorem State.sendEndBlk_whole (s : State) (o : OutId) (n : Nat) : (s.sendEndBlk o n).whole = s.whole := by
  simp [State.sendEndBlk]

@[simp] theorem State.startOutput_whole (s : State) (o : OutId) (n : Nat) (i : FrameInfo) (forced held : Bool) :
    (s.startOutput o n i forced held).whole = s.whole := by
  simp [State.startOutput]

@[simp] theorem State.beginFrame_whole (s : State) (os : List OutId) (n : Nat) (forced held : Bool) :
    (s.beginFrame os n forced held).whole = s.whole := by
  unfold State.beginFrame
  dsimp only
  split <;> simp

@[simp] theorem State.frameStart_whole (s : State) (o : OutId) : (s.frameStart o).whole = s.whole := by
  simp [State.frameStart]

@[simp] theorem execFrameStart_whole (o : OutId) (s : State) : answer (execFrameStart o s) = some s.whole := by
  simp [execFrameStart]

@[simp] theorem State.forcedEvent_whole (s : State) (o : OutId) : (s.forcedEvent o).whole = s.whole := by
  simp [State.forcedEvent]

@[simp] theorem State.forceFrame_whole (s : State) (os : List OutId) (n : Nat) : (s.forceFrame os n).whole = s.whole := by
  simp [State.forceFrame]

@[simp] theorem execForcedStart_whole (o : OutId) (s : State) : answer (execForcedStart o s) = some s.whole := by
  simp [execForcedStart]

@[simp] theorem State.teChange_whole (s : State) (o : OutId) (g : Output → Output) : (s.teChange o g).whole = s.whole := by
  simp [State.teChange]

@[simp] theorem execTePinChange_whole (o : OutId) (level : Bool) (s : State) :
    answer (execTePinChange o level s) = some s.whole := by
  simp [execTePinChange]

@[simp] theorem State.recvTe_whole (s : State) (o : OutId) (b : List Byte) : (s.recvTe o b).whole = s.whole := by
  simp [State.recvTe]

@[simp] theorem execTeMsg_whole (o : OutId) (block : List Byte) (s : State) :
    answer (execTeMsg o block s) = some s.whole := by
  simp [execTeMsg]

@[simp] theorem State.cleanFrame_whole (s : State) (o : OutId) : (s.cleanFrame o).whole = s.whole := by
  simp [State.cleanFrame]

@[simp] theorem State.endOutput_whole (s : State) (o : OutId) (n : Nat) : (s.endOutput o n).whole = s.whole := by
  simp [State.endOutput]

@[simp] theorem State.frameEnd_whole (s : State) (o : OutId) : (s.frameEnd o).whole = s.whole := by
  unfold State.frameEnd
  dsimp only
  split <;> simp

@[simp] theorem execFrameEnd_whole (o : OutId) (s : State) : answer (execFrameEnd o s) = some s.whole := by
  simp [execFrameEnd]

/-! ### Points -/

@[simp] theorem State.judgeUpdate_whole (s : State) (u : List Byte) : (s.judgeUpdate u).1.whole = s.whole := by
  unfold State.judgeUpdate
  dsimp only
  repeat' split
  all_goals simp

@[simp] theorem execSubmitPoints_whole (f : Nat) (s : State) : answer (execSubmitPoints f s) = some s.whole := by
  simp [execSubmitPoints]

@[simp] theorem State.pointsDone_whole (s : State) (c : PointsCmd) (status : Nat) :
    (s.pointsDone c status).whole = s.whole := by
  simp [State.pointsDone]

@[simp] theorem State.putReceipt_whole (s : State) (i : PointIn) (rc : List Byte) : (s.putReceipt i rc).whole = s.whole := by
  unfold State.putReceipt
  dsimp only
  split <;> simp

@[simp] theorem State.judgeInput_whole (s : State) (i : PointIn) : (s.judgeInput i).1.whole = s.whole := by
  unfold State.judgeInput
  split <;> simp

@[simp] theorem execPointUpdate_whole (k engine : Nat) (lanesAgree : Bool) (s : State) :
    answer (execPointUpdate k engine lanesAgree s) = some s.whole := by
  unfold execPointUpdate
  split <;> simp

@[simp] theorem State.interruptPoints_whole (s : State) : s.interruptPoints.whole = s.whole := by
  simp [State.interruptPoints]

@[simp] theorem execPointSweep_whole (s : State) : answer (execPointSweep s) = some s.whole := by
  simp [execPointSweep]

@[simp] theorem execPointTableRewriteDone_whole (s : State) : answer (execPointTableRewriteDone s) = some s.whole := by
  simp [execPointTableRewriteDone]

/-! ### What the monitors detect, and recoveries -/

@[simp] theorem State.recover_whole (s : State) (action seq : Nat) : (s.recover action seq).st.whole = s.whole := by
  simp [State.recover]

@[simp] theorem recoverAct_whole (s : State) (c : Cmd) : (recoverAct s c).st.whole = s.whole := by
  simp [recoverAct]

@[simp] theorem execRecover_whole (f : Nat) (s : State) : answer (execRecover f s) = some s.whole := by
  simp [execRecover]

@[simp] theorem execFaultIn_whole (low : Bool) (s : State) : answer (execFaultIn low s) = some s.whole := by
  simp [execFaultIn]

@[simp] theorem execHeartbeatToggle_whole (s : State) : answer (execHeartbeatToggle s) = some s.whole := by
  simp [execHeartbeatToggle]

@[simp] theorem execCheckpointByVolume_whole (s : State) : answer (execCheckpointByVolume s) = some s.whole := by
  simp [execCheckpointByVolume]

@[simp] theorem State.ckptComplete_whole (s : State) (k : Checkpoint) : (s.ckptComplete k).whole = s.whole := by
  simp [State.ckptComplete]

@[simp] theorem execCheckpointDone_whole (ok : Bool) (s : State) : answer (execCheckpointDone ok s) = some s.whole := by
  unfold execCheckpointDone
  split <;> simp

@[simp] theorem State.restorePoints_whole (s : State) : s.restorePoints.whole = s.whole := by
  simp [State.restorePoints]

@[simp] theorem execIslandReplayDone_whole (isl : Nat) (s : State) : answer (execIslandReplayDone isl s) = some s.whole := by
  unfold execIslandReplayDone
  split <;> simp

@[simp] theorem execIslandRejoinTimeout_whole (isl : Nat) (s : State) :
    answer (execIslandRejoinTimeout isl s) = some s.whole := by
  unfold execIslandRejoinTimeout
  split <;> simp

@[simp] theorem State.pllLoss_whole (s : State) (isl : Nat) : (s.pllLoss isl).whole = s.whole := by
  simp [State.pllLoss]

@[simp] theorem execPllWindow_whole (isl count : Nat) (s : State) : answer (execPllWindow isl count s) = some s.whole := by
  unfold execPllWindow
  dsimp only
  repeat' split
  all_goals simp

@[simp] theorem execRefEdgeTimeout_whole (isl : Nat) (s : State) : answer (execRefEdgeTimeout isl s) = some s.whole := by
  simp [execRefEdgeTimeout]

@[simp] theorem State.hearthFault_whole (s : State) (detail : Nat) : (s.hearthFault detail).whole = s.whole := by
  simp [State.hearthFault]

@[simp] theorem execHearthHeartbeatTimeout_whole (s : State) : answer (execHearthHeartbeatTimeout s) = some s.whole := by
  simp [execHearthHeartbeatTimeout]

@[simp] theorem execLockstepMismatch_whole (u : LockUnit) (s : State) :
    answer (execLockstepMismatch u s) = some s.whole := by
  unfold execLockstepMismatch
  split
  · rfl
  · split <;> simp

@[simp] theorem execCrystalStop_whole (s : State) : answer (execCrystalStop s) = some s.whole := by
  simp [execCrystalStop]

@[simp] theorem execCrystalDeviation_whole (s : State) : answer (execCrystalDeviation s) = some s.whole := by
  simp [execCrystalDeviation]

/-! ### The Transom -/

@[simp] theorem State.wantRails_whole (s : State) : s.wantRails.whole = s.whole := by
  simp [State.wantRails]

@[simp] theorem State.trEvent_whole (s : State) (issuer zone outcome range tag frames : Nat) :
    (s.trEvent issuer zone outcome range tag frames).whole = s.whole := by
  simp [State.trEvent]

@[simp] theorem State.trDrop_whole (s : State) (r : TrReq) (outcome : Nat) : (s.trDrop r outcome).whole = s.whole := by
  simp [State.trDrop]

@[simp] theorem State.startUpdate_whole (s : State) (zone : Nat) (kind : TrKind) (issuer tag : Nat) (comp : Nat)
    (seqs : List PixSeq) : (s.startUpdate zone kind issuer tag comp seqs).whole = s.whole := by
  simp [State.startUpdate]

@[simp] theorem State.startTo_whole (s : State) (zone : Nat) (kind : TrKind) (issuer tag : Nat) (ps : List Nat)
    (target : Nat → Nat) : (s.startTo zone kind issuer tag ps target).whole = s.whole := by
  simp [State.startTo]

@[simp] theorem State.startClear_whole (s : State) (zone : Nat) (kind : TrKind) (ps : List Nat) :
    (s.startClear zone kind ps).whole = s.whole := by
  simp [State.startClear]

@[simp] theorem State.driveFrame_whole (s : State) (line : Nat → Bool) : (s.driveFrame line).whole = s.whole := by
  simp [State.driveFrame]

@[simp] theorem State.scheduleBlink_whole (s : State) (z : Nat) : (s.scheduleBlink z).whole = s.whole := by
  simp [State.scheduleBlink]

@[simp] theorem State.endShown_whole (s : State) (u : TrUpdate) : (s.endShown u).whole = s.whole := by
  unfold State.endShown
  split <;> simp

@[simp] theorem State.endAborted_whole (s : State) (u : TrUpdate) (lost : Bool) : (s.endAborted u lost).whole = s.whole := by
  unfold State.endAborted
  dsimp only
  split <;> simp

@[simp] theorem State.endUpdates_whole (s : State) : s.endUpdates.whole = s.whole := by
  simp [State.endUpdates]

@[simp] theorem State.trDoorway_whole (s : State) : s.trDoorway.whole = s.whole := by
  unfold State.trDoorway
  dsimp only
  split <;> simp

@[simp] theorem State.startZone_whole (s : State) (z : Nat) : (s.startZone z).whole = s.whole := by
  unfold State.startZone
  dsimp only
  split <;> simp

@[simp] theorem State.startClears_whole (s : State) : s.startClears.whole = s.whole := by
  simp [State.startClears]

@[simp] theorem State.trStarts_whole (s : State) : s.trStarts.whole = s.whole := by
  unfold State.trStarts
  dsimp only
  repeat' split
  all_goals simp

@[simp] theorem State.markDirty_whole (s : State) : s.markDirty.whole = s.whole := by
  simp [State.markDirty]

@[simp] theorem State.vcomAbort_whole (s : State) : s.vcomAbort.whole = s.whole := by
  simp [State.vcomAbort]

@[simp] theorem State.vcomFrame_whole (s : State) : s.vcomFrame.whole = s.whole := by
  simp [State.vcomFrame]

@[simp] theorem State.trFlush_whole (s : State) : s.trFlush.whole = s.whole := by
  simp [State.trFlush]

@[simp] theorem State.trPowerFail_whole (s : State) : s.trPowerFail.whole = s.whole := by
  unfold State.trPowerFail
  dsimp only
  split
  · simp
  · split <;> simp

@[simp] theorem State.trLossFrame_whole (s : State) : s.trLossFrame.whole = s.whole := by
  simp [State.trLossFrame]

@[simp] theorem State.frameOver_whole (s : State) : s.frameOver.whole = s.whole := by
  simp [State.frameOver]

@[simp] theorem State.trBoundary_whole (s : State) : s.trBoundary.whole = s.whole := by
  simp [State.trBoundary]

@[simp] theorem execWaveformFrame_whole (s : State) : answer (execWaveformFrame s) = some s.whole := by
  simp [execWaveformFrame]

@[simp] theorem execTransomUpdate_whole (f : Nat) (s : State) : answer (execTransomUpdate f s) = some s.whole := by
  simp [execTransomUpdate]

@[simp] theorem execTransomLoadDone_whole (z : Nat) (s : State) : answer (execTransomLoadDone z s) = some s.whole := by
  unfold execTransomLoadDone
  split <;> simp

@[simp] theorem execBlinkToggle_whole (z : Nat) (s : State) : answer (execBlinkToggle z s) = some s.whole := by
  unfold execBlinkToggle
  split <;> simp

@[simp] theorem execNtcMeasure_whole (ohms : Nat) (s : State) : answer (execNtcMeasure ohms s) = some s.whole := by
  unfold execNtcMeasure
  dsimp only
  split
  · simp
  · split <;> simp

@[simp] theorem execVcomCalDue_whole (s : State) : answer (execVcomCalDue s) = some s.whole := by
  unfold execVcomCalDue
  split <;> simp

@[simp] theorem execRailGood_whole (r : Rail) (s : State) : answer (execRailGood r s) = some s.whole := by
  simp [execRailGood]

@[simp] theorem State.railFault_whole (s : State) : s.railFault.whole = s.whole := by
  simp [State.railFault]

@[simp] theorem execRailEnableTimeout_whole (r : Rail) (s : State) : answer (execRailEnableTimeout r s) = some s.whole := by
  simp [execRailEnableTimeout]

@[simp] theorem execRailOutOfBand_whole (r : Rail) (s : State) : answer (execRailOutOfBand r s) = some s.whole := by
  simp [execRailOutOfBand]

@[simp] theorem execRailsIdleTimeout_whole (s : State) : answer (execRailsIdleTimeout s) = some s.whole := by
  simp [execRailsIdleTimeout]

@[simp] theorem State.trRestore_whole (s : State) : s.trRestore.whole = s.whole := by
  simp only [State.trRestore, State.whole_ite, State.modTrm_whole, ite_self]
  simp

@[simp] theorem State.lossEnds_whole (s : State) : s.lossEnds.whole = s.whole := by
  simp [State.lossEnds]

@[simp] theorem execRailOff_whole (r : Rail) (s : State) : answer (execRailOff r s) = some s.whole := by
  unfold execRailOff
  dsimp only
  split
  · simp
  · split <;> simp

@[simp] theorem execLedgerFlushDone_whole (s : State) : answer (execLedgerFlushDone s) = some s.whole := by
  unfold execLedgerFlushDone
  split <;> simp

/-! ### PCIe functions -/

@[simp] theorem State.endSubs_whole (s : State) (f c : Nat) : (s.endSubs f c).whole = s.whole := by
  unfold State.endSubs
  split <;> simp

@[simp] theorem State.resetFunction_whole (s : State) (f : Nat) : (s.resetFunction f).whole = s.whole := by
  simp [State.resetFunction]

@[simp] theorem execFunctionLevelReset_whole (f : Nat) (s : State) : answer (execFunctionLevelReset f s) = some s.whole := by
  simp [execFunctionLevelReset]

@[simp] theorem State.setVfs_whole (s : State) (on : Bool) : (s.setVfs on).whole = s.whole := by
  simp [State.setVfs]

@[simp] theorem State.configWrite_whole (s : State) (f off : Nat) (bs : List Byte) :
    (s.configWrite f off bs).whole = s.whole := by
  simp [State.configWrite]

@[simp] theorem execConfigRequest_whole (f off : Nat) (wdata : Option (List Byte)) (s : State) :
    answer (execConfigRequest f off wdata s) = some s.whole := by
  unfold execConfigRequest
  split
  · rfl
  · split <;> simp

/-! ### Sessions -/

@[simp] theorem State.openSession_whole (s : State) (p : List Byte) : (s.openSession p).1.whole = s.whole := by
  unfold State.openSession
  dsimp only
  split <;> simp

@[simp] theorem openAct_whole (s : State) (c : Cmd) : (openAct s c).st.whole = s.whole := by
  simp [openAct]

@[simp] theorem execOpenSession_whole (f : Nat) (s : State) : answer (execOpenSession f s) = some s.whole := by
  unfold execOpenSession
  split <;> simp

@[simp] theorem execSessionAdmission_whole (s : State) : answer (execSessionAdmission s) = some s.whole := by
  simp only [execSessionAdmission]
  repeat' split
  all_goals simp

@[simp] theorem execAdmissionStart_whole (s : State) : answer (execAdmissionStart s) = some s.whole := by
  unfold execAdmissionStart
  split <;> simp

@[simp] theorem State.closeSession_whole (s : State) (p : List Byte) : (s.closeSession p).1.whole = s.whole := by
  unfold State.closeSession
  dsimp only
  split <;> simp

@[simp] theorem execCloseSession_whole (f : Nat) (s : State) : answer (execCloseSession f s) = some s.whole := by
  unfold execCloseSession
  split <;> simp

@[simp] theorem execAttest_whole (f : Nat) (s : State) : answer (execAttest f s) = some s.whole := by
  simp [execAttest]

/-! ### The owner's commands -/

@[simp] theorem State.install_whole (s : State) (p : Package) (due : Nat) : (s.install p due).whole = s.whole := by
  simp [State.install]

@[simp] theorem State.installAct_whole (s : State) (b : List Byte) (due : Nat) :
    (s.installAct b due).st.whole = s.whole := by
  simp [State.installAct]

@[simp] theorem execInstallPackage_whole (f : Nat) (s : State) : answer (execInstallPackage f s) = some s.whole := by
  simp [execInstallPackage]

@[simp] theorem State.leaveOwned_whole (s : State) (lifecycle : Nat) : (s.leaveOwned lifecycle).whole = s.whole := by
  simp [State.leaveOwned]

@[simp] theorem setLifecycleAct_whole (s : State) (c : Cmd) : (setLifecycleAct s c).st.whole = s.whole := by
  simp [setLifecycleAct]

@[simp] theorem execSetLifecycle_whole (f : Nat) (s : State) : answer (execSetLifecycle f s) = some s.whole := by
  simp [execSetLifecycle]

@[simp] theorem State.firmwareAct_whole (s : State) (b : List Byte) : (s.firmwareAct b).st.whole = s.whole := by
  simp [State.firmwareAct]

@[simp] theorem execUpdateFirmware_whole (f : Nat) (s : State) : answer (execUpdateFirmware f s) = some s.whole := by
  simp [execUpdateFirmware]

/-! ### Queries -/

@[simp] theorem State.queryOut_whole (s : State) (f opcode resp : Nat) (g : State → OutId → List Byte) :
    (s.queryOut f opcode resp g).whole = s.whole := by
  simp [State.queryOut]

@[simp] theorem execGetMode_whole (f : Nat) (s : State) : answer (execGetMode f s) = some s.whole := by
  simp [execGetMode]

@[simp] theorem execGetLink_whole (f : Nat) (s : State) : answer (execGetLink f s) = some s.whole := by
  simp [execGetLink]

@[simp] theorem execGetTransom_whole (f : Nat) (s : State) : answer (execGetTransom f s) = some s.whole := by
  simp [execGetTransom]

@[simp] theorem getCalAct_whole (s : State) (c : Cmd) : (getCalAct s c).st.whole = s.whole := by
  simp [getCalAct]

@[simp] theorem execGetCal_whole (f : Nat) (s : State) : answer (execGetCal f s) = some s.whole := by
  simp [execGetCal]

@[simp] theorem execGetPool_whole (f : Nat) (s : State) : answer (execGetPool f s) = some s.whole := by
  simp [execGetPool]

@[simp] theorem execGetRing_whole (f : Nat) (s : State) : answer (execGetRing f s) = some s.whole := by
  simp [execGetRing]

@[simp] theorem execGetThermal_whole (f : Nat) (s : State) : answer (execGetThermal f s) = some s.whole := by
  simp [execGetThermal]

@[simp] theorem execGetFaults_whole (f : Nat) (s : State) : answer (execGetFaults f s) = some s.whole := by
  simp [execGetFaults]

@[simp] theorem execGetIdentity_whole (f : Nat) (s : State) : answer (execGetIdentity f s) = some s.whole := by
  simp [execGetIdentity]

@[simp] theorem readViolationsAct_whole (s : State) (c : Cmd) : (readViolationsAct s c).st.whole = s.whole := by
  simp [readViolationsAct]

@[simp] theorem execReadViolations_whole (f : Nat) (s : State) : answer (execReadViolations f s) = some s.whole := by
  simp [execReadViolations]

/-! ### Ring tokens and starts -/

@[simp] theorem State.heard_whole (s : State) : s.heard.whole = s.whole := by
  simp [State.heard]

@[simp] theorem State.passReady_whole (s : State) (p : RPort) (b : List Byte) : (s.passReady p b).whole = s.whole := by
  simp [State.passReady]

@[simp] theorem State.releaseReady_whole (s : State) : s.releaseReady.whole = s.whole := by
  simp [State.releaseReady]

@[simp] theorem execTokenReady_whole (p : RPort) (block : List Byte) (s : State) :
    answer (execTokenReady p block s) = some s.whole := by
  simp [execTokenReady]

@[simp] theorem execTokenStart_whole (p : RPort) (block : List Byte) (s : State) :
    answer (execTokenStart p block s) = some s.whole := by
  simp [execTokenStart]

@[simp] theorem State.sendStart_whole (s : State) (n flags : Nat) : (s.sendStart n flags).whole = s.whole := by
  simp [State.sendStart]

@[simp] theorem execHeadStartSend_whole (s : State) : answer (execHeadStartSend s) = some s.whole := by
  simp [execHeadStartSend]

@[simp] theorem execHeadStartForced_whole (s : State) : answer (execHeadStartForced s) = some s.whole := by
  simp [execHeadStartForced]

@[simp] theorem State.adopt_whole (s : State) (os : List OutId) (m n : Nat) : (s.adopt os m n).whole = s.whole := by
  simp [State.adopt]

@[simp] theorem State.takeDue_whole (s : State) (os : List OutId) (n : Nat) : (s.takeDue os n).whole = s.whole := by
  simp [State.takeDue]

@[simp] theorem State.misaligned_whole (s : State) (due : Nat) : (s.misaligned due).whole = s.whole := by
  simp [State.misaligned]

@[simp] theorem execMemberFrameStart_whole (s : State) : answer (execMemberFrameStart s) = some s.whole := by
  unfold execMemberFrameStart
  dsimp only
  split <;> simp

@[simp] theorem execStartTimeout_whole (s : State) : answer (execStartTimeout s) = some s.whole := by
  unfold execStartTimeout
  dsimp only
  repeat' split
  all_goals simp

@[simp] theorem execIsolationTimeout_whole (s : State) : answer (execIsolationTimeout s) = some s.whole := by
  simp [execIsolationTimeout]

@[simp] theorem State.sendAck_whole (s : State) (p : RPort) : (s.sendAck p).whole = s.whole := by
  simp [State.sendAck]

/-! ### Ring packets -/

@[simp] theorem State.recvPkt_whole (s : State) (p : RPort) (typ : Nat) (pkt : List Byte) (k : State → State)
    (h : ∀ u, (k u).whole = u.whole) : (s.recvPkt p typ pkt k).whole = s.whole := by
  simp [State.recvPkt, h]

@[simp] theorem State.forwardPkt_whole (s : State) (p : RPort) (pkt : List Byte) : (s.forwardPkt p pkt).whole = s.whole := by
  simp [State.forwardPkt]

@[simp] theorem State.takeId_whole (s : State) (ms : List Member) : (s.takeId ms).whole = s.whole := by
  unfold State.takeId
  split <;> simp

@[simp] theorem execEnumPkt_whole (p : RPort) (pkt : List Byte) (s : State) :
    answer (execEnumPkt p pkt s) = some s.whole := by
  simp [execEnumPkt]

@[simp] theorem drainRing_whole (c : Nat) (n : Nat) (s : State) : (drainRing c n s).whole = s.whole := by
  induction n generalizing s with
  | zero => rfl
  | succ n ih =>
    unfold drainRing
    dsimp only
    repeat' split
    all_goals simp [ih]

@[simp] theorem execScenePkt_whole (p : RPort) (pkt : List Byte) (s : State) :
    answer (execScenePkt p pkt s) = some s.whole := by
  simp [execScenePkt]

@[simp] theorem State.mirrorShadow_whole (s : State) (b : Blk) (ws : List (Nat × Nat)) :
    (s.mirrorShadow b ws).whole = s.whole := by
  simp [State.mirrorShadow]

@[simp] theorem State.mirrorCommit_whole (s : State) (g : MirrorGrp) : (s.mirrorCommit g).whole = s.whole := by
  simp [State.mirrorCommit]

@[simp] theorem execMirrorPkt_whole (p : RPort) (pkt : List Byte) (s : State) :
    answer (execMirrorPkt p pkt s) = some s.whole := by
  refine congrArg some (State.recvPkt_whole _ _ _ _ _ fun u => ?_)
  dsimp only
  split
  · rfl
  · split <;> simp

@[simp] theorem State.relayPoints_whole (s : State) (i : RelayIn) : (s.relayPoints i).whole = s.whole := by
  simp [State.relayPoints]

@[simp] theorem State.relayKeep_whole (s : State) (tag st : Nat) (rs : List Byte) :
    (s.relayKeep tag st rs).whole = s.whole := by
  simp [State.relayKeep]

@[simp] theorem State.relayPass_whole (s : State) (i : RelayIn) (status : Nat) (resp : List Byte) :
    (s.relayPass i status resp).whole = s.whole := by
  simp [State.relayPass]

@[simp] theorem State.relayBack_whole (s : State) (dir : RPort) (tag opcode status : Nat) (resp : List Byte) :
    (s.relayBack dir tag opcode status resp).whole = s.whole := by
  simp [State.relayBack]

@[simp] theorem execViewersPkt_whole (p : RPort) (pkt : List Byte) (s : State) :
    answer (execViewersPkt p pkt s) = some s.whole := by
  simp [execViewersPkt]

@[simp] theorem State.drainAll_whole (s : State) : s.drainAll.whole = s.whole := by
  simp [State.drainAll]

/-! ### Upkeep of memory -/

@[simp] theorem State.memWindow_whole (s : State) : s.memWindow.whole = s.whole := by
  unfold State.memWindow
  dsimp only
  split <;> simp

@[simp] theorem State.retrain_whole (s : State) (ch : Nat) (forced : Bool) : (s.retrain ch forced).whole = s.whole := by
  simp [State.retrain]

@[simp] theorem execDramRetrain_whole (ch : Nat) (s : State) : answer (execDramRetrain ch s) = some s.whole := by
  simp [execDramRetrain]

@[simp] theorem State.dramFault_whole (s : State) (addr src : Nat) : (s.dramFault addr src).whole = s.whole := by
  simp [State.dramFault]

@[simp] theorem execDramPatrolScrub_whole (addr : Nat) (ecc : Ecc) (s : State) :
    answer (execDramPatrolScrub addr ecc s) = some s.whole := by
  unfold execDramPatrolScrub
  dsimp only
  split
  · rfl
  · split <;> simp

@[simp] theorem State.cacheUe_whole (s : State) (idx : Nat) : (s.cacheUe idx).whole = s.whole := by
  unfold State.cacheUe
  dsimp only
  split <;> simp

@[simp] theorem State.pointUe_whole (s : State) (idx : Nat) : (s.pointUe idx).whole = s.whole := by
  simp [State.pointUe]

@[simp] theorem State.rowUe_whole (s : State) (idx : Nat) : (s.rowUe idx).whole = s.whole := by
  unfold State.rowUe
  dsimp only
  split
  · simp
  · split <;> simp

@[simp] theorem State.sramUe_whole (s : State) (area : SramArea) (idx : Nat) : (s.sramUe area idx).whole = s.whole := by
  unfold State.sramUe
  split <;> simp

@[simp] theorem execSramPatrolScrub_whole (area : SramArea) (idx : Nat) (ecc : Ecc) (s : State) :
    answer (execSramPatrolScrub area idx ecc s) = some s.whole := by
  unfold execSramPatrolScrub
  split
  · rfl
  · split <;> simp

@[simp] theorem execResourceReloadDone_whole (s : State) : answer (execResourceReloadDone s) = some s.whole := by
  simp [execResourceReloadDone]

/-! ### Supplies, starts and heat -/

@[simp] theorem State.restoreCal_whole (s : State) : s.restoreCal.whole = s.whole := by
  simp [State.restoreCal]

@[simp] theorem State.keepTrm_whole (r s : State) : (r.keepTrm s).whole = r.whole := by
  simp [State.keepTrm]

@[simp] theorem State.goRails_whole (s : State) : s.goRails.whole = s.whole := by
  simp [State.goRails]

@[simp] theorem execVauxInvalid_whole (mv : Nat) (s : State) : answer (execVauxInvalid mv s) = some s.whole := by
  simp [execVauxInvalid]

@[simp] theorem execVauxRailBelow1v5_whole (mv : Nat) (s : State) : answer (execVauxRailBelow1v5 mv s) = some s.whole := by
  simp [execVauxRailBelow1v5]

@[simp] theorem execPowerFail_whole (mv : Nat) (s : State) : answer (execPowerFail mv s) = some s.whole := by
  simp [execPowerFail]

@[simp] theorem execVauxLow_whole (mv : Nat) (s : State) : answer (execVauxLow mv s) = some s.whole := by
  simp [execVauxLow]

@[simp] theorem State.shutdownRecord_whole (s : State) (cause orderly n : Nat) (temp rise : Int) :
    (s.shutdownRecord cause orderly n temp rise).whole = s.whole := by
  simp [State.shutdownRecord]

@[simp] theorem State.goOffHold_whole (s : State) : s.goOffHold.whole = s.whole := by
  simp [State.goOffHold]

@[simp] theorem State.tick_whole (s : State) : s.tick.whole = s.whole := by
  simp [State.tick]

@[simp] theorem execVmainLost_whole (mv : Nat) (s : State) : answer (execVmainLost mv s) = some s.whole := by
  simp [execVmainLost]

@[simp] theorem execVmainRangeFault_whole (mv : Nat) (s : State) : answer (execVmainRangeFault mv s) = some s.whole := by
  simp [execVmainRangeFault]

@[simp] theorem execVmainOvervoltage_whole (mv : Nat) (s : State) : answer (execVmainOvervoltage mv s) = some s.whole := by
  simp [execVmainOvervoltage]

@[simp] theorem execRegulatorFault_whole (mv : Nat) (s : State) : answer (execRegulatorFault mv s) = some s.whole := by
  simp [execRegulatorFault]

@[simp] theorem execPerstAssert_whole (s : State) : answer (execPerstAssert s) = some s.whole := by
  simp [execPerstAssert]

@[simp] theorem execBootVerifyDone_whole (s : State) : answer (execBootVerifyDone s) = some s.whole := by
  unfold execBootVerifyDone
  dsimp only
  split
  · simp
  · split <;> simp

@[simp] theorem execPackageCheckDone_whole (s : State) : answer (execPackageCheckDone s) = some s.whole := by
  unfold execPackageCheckDone
  dsimp only
  split
  · simp
  · split <;> simp

@[simp] theorem execDramZeroingDone_whole (s : State) : answer (execDramZeroingDone s) = some s.whole := by
  simp [execDramZeroingDone]

@[simp] theorem execEndpointReady_whole (s : State) : answer (execEndpointReady s) = some s.whole := by
  simp [execEndpointReady]

@[simp] theorem execLetterboxReady_whole (s : State) : answer (execLetterboxReady s) = some s.whole := by
  simp [execLetterboxReady]

@[simp] theorem execVerifyTimeout_whole (o : OutId) (s : State) : answer (execVerifyTimeout o s) = some s.whole := by
  simp [execVerifyTimeout]

@[simp] theorem execStandbyReached_whole (s : State) : answer (execStandbyReached s) = some s.whole := by
  simp [execStandbyReached]

@[simp] theorem State.thermalStop_whole (s : State) (n cause : Nat) : (s.thermalStop n cause).whole = s.whole := by
  simp [State.thermalStop]

@[simp] theorem State.requestStep_whole (s : State) (n : Nat) : (s.requestStep n).whole = s.whole := by
  simp [State.requestStep]

@[simp] theorem execSensorSample_whole (n : Nat) (t : Int) (s : State) : answer (execSensorSample n t s) = some s.whole := by
  unfold execSensorSample
  split
  · rfl
  extract_lets was first t1 t2 t3
  have h3 : t3.whole = s.whole := by simp [t3, t2, t1]
  repeat' split
  all_goals simp [h3]

@[simp] theorem execGraceExpiry_whole (s : State) : answer (execGraceExpiry s) = some s.whole := by
  unfold execGraceExpiry
  split <;> simp

@[simp] theorem execThrottleStepTimer_whole (s : State) : answer (execThrottleStepTimer s) = some s.whole := by
  unfold execThrottleStepTimer
  dsimp only
  repeat' split
  all_goals simp

@[simp] theorem execThermalCutoff_whole (n : Nat) (s : State) : answer (execThermalCutoff n s) = some s.whole := by
  simp [execThermalCutoff]

@[simp] theorem execSensorOffsetCal_whole (n : Nat) (done : Bool) (s : State) :
    answer (execSensorOffsetCal n done s) = some s.whole := by
  simp [execSensorOffsetCal]

end Sys2Proof.Machine
end

section
/-! PROOF. Every step keeps the machine whole and module memory canonical (R26, R441): the operations that write module memory
write it in its canonical form, a start makes every part anew, and every other operation leaves both. -/
namespace Sys2Proof.Machine

/-! ### What every step keeps -/

/-- The invariant, of what it speaks of: the parts are those of the variant and the bytes of memory are in their canonical form. -/
def Sound (w : Whole) : Prop :=
  w.1 = w.1.1.parts ∧ Memory.wf w.2 = true

theorem State.inv_iff_sound (s : State) : s.Inv ↔ Sound s.whole := Iff.rfl

/-- An answer's next state, where there is one, is whole. -/
def SoundAnswer (o : Host.Outcome State Fault Refusal) : Prop := ∀ w ∈ answer o, Sound w

@[simp] theorem soundAnswer_next (t : State) : SoundAnswer (.next t) ↔ Sound t.whole := by
  simp [SoundAnswer]

theorem foldl_sound {α : Type} (f : State → α → State) (h : ∀ a x, Sound a.whole → Sound (f a x).whole) (l : List α)
    (s : State) (hs : Sound s.whole) : Sound (l.foldl f s).whole := by
  induction l generalizing s with
  | nil => exact hs
  | cons x l ih => exact ih _ (h _ _ hs)

/-- What rewrites module memory in its canonical form keeps the machine whole. -/
@[simp] theorem State.modDram_sound (s : State) (g : Dram → Dram)
    (hg : ∀ d, Memory.wf d.mem = true → Memory.wf (g d).mem = true) (h : Sound s.whole) : Sound (s.modDram g).whole :=
  ⟨h.1, hg _ h.2⟩

@[simp] theorem State.dramPut_sound (s : State) (a : Nat) (bs : List Byte) (h : Sound s.whole) :
    Sound (s.dramPut a bs).whole :=
  State.modDram_sound s _ (fun _ => memWrite_wf _ _ _) h

/-! ### Commits -/

/-- The exit from STANDBY keeps the parts, and drops what lies above the range that memory retains (R450, R451). -/
theorem State.standbyExit_whole (s : State) :
    s.standbyExit.whole = (s.parts, s.dram.mem.filter fun e => e.1 < s.variant.retained) := by
  simp [State.standbyExit, State.parts]

@[simp] theorem State.standbyExit_sound (s : State) (h : Sound s.whole) : Sound s.standbyExit.whole := by
  rw [State.standbyExit_whole]
  exact ⟨h.1, memFilter_wf _ _ h.2⟩

@[simp] theorem State.standbyCommit_sound (s : State) (cid : Nat) (h : Sound s.whole) :
    Sound (s.standbyCommit cid).whole := by
  unfold State.standbyCommit
  dsimp only
  split <;> simp [h]

@[simp] theorem CommitRes.cmd_st (r : CommitRes) : r.cmd.st = r.st := rfl

@[simp] theorem State.commitCmd_sound (s : State) (r : CommitReq) (h : Sound s.whole) : Sound (s.commitCmd r).st.whole := by
  unfold State.commitCmd
  dsimp only
  repeat' split
  all_goals simp [h]

/-- A basic command that commits, whose fields go into the shadow alone (R491). -/
theorem State.writeCommit_sound (s : State) (w : State → State) (r : CommitReq) (hw : ∀ u, (w u).whole = u.whole)
    (h : Sound s.whole) : Sound (s.writeCommit w r).st.whole := by
  unfold State.writeCommit
  dsimp only
  split <;> simp [h, hw]

theorem State.hostCommand_sound (s : State) (f : Nat) (k : Card) (act : State → Cmd → CmdRes)
    (ha : ∀ u c, Sound u.whole → Sound (act u c).st.whole) (h : Sound s.whole) : Sound (s.hostCommand f k act).whole :=
  State.command_keeps Sound s f k _ act ha h

/-! ### Commands that commit -/

theorem execCommit_sound (f : Nat) (s : State) (h : Sound s.whole) : SoundAnswer (execCommit f s) := by
  simp only [execCommit, soundAnswer_next]
  exact s.hostCommand_sound f _ _ (fun u c hu => u.commitCmd_sound _ hu) h

theorem execSetStream_sound (f : Nat) (s : State) (h : Sound s.whole) : SoundAnswer (execSetStream f s) := by
  simp only [execSetStream, soundAnswer_next]
  refine s.hostCommand_sound f _ _ (fun u c hu => ?_) h
  split
  · simpa using hu
  · exact u.writeCommit_sound _ _ (by simp) hu

theorem execSetMode_sound (f : Nat) (s : State) (h : Sound s.whole) : SoundAnswer (execSetMode f s) := by
  simp only [execSetMode, soundAnswer_next]
  exact s.hostCommand_sound f _ _ (fun u c hu => u.writeCommit_sound _ _ (by simp) hu) h

theorem execSetLayer_sound (f : Nat) (s : State) (h : Sound s.whole) : SoundAnswer (execSetLayer f s) := by
  simp only [execSetLayer, soundAnswer_next]
  refine s.hostCommand_sound f _ _ (fun u c hu => ?_) h
  repeat' split
  · simpa using hu
  · simpa using hu
  · exact u.writeCommit_sound _ _ (by simp) hu

theorem execSetChannel_sound (f : Nat) (s : State) (h : Sound s.whole) : SoundAnswer (execSetChannel f s) := by
  simp only [execSetChannel, soundAnswer_next]
  refine s.hostCommand_sound f _ _ (fun u c hu => ?_) h
  split
  · simpa using hu
  · exact u.writeCommit_sound _ _ (by simp) hu

theorem execSetScanout_sound (f : Nat) (s : State) (h : Sound s.whole) : SoundAnswer (execSetScanout f s) := by
  simp only [execSetScanout, soundAnswer_next]
  exact s.hostCommand_sound f _ _ (fun u c hu => u.writeCommit_sound _ _ (by simp) hu) h

theorem setCalAct_sound (s : State) (c : Cmd) (h : Sound s.whole) : Sound (setCalAct s c).st.whole := by
  unfold setCalAct
  dsimp only
  split
  · simpa using h
  · exact s.writeCommit_sound _ _ (by simp) h

theorem execSetCal_sound (f : Nat) (s : State) (h : Sound s.whole) : SoundAnswer (execSetCal f s) := by
  simp only [execSetCal, soundAnswer_next]
  exact s.hostCommand_sound f _ _ setCalAct_sound h

theorem applyCalAct_sound (s : State) (c : Cmd) (h : Sound s.whole) : Sound (applyCalAct s c).st.whole := by
  unfold applyCalAct
  dsimp only
  split
  · simpa using h
  · exact s.writeCommit_sound _ _ (by simp) h

theorem execApplyCal_sound (f : Nat) (s : State) (h : Sound s.whole) : SoundAnswer (execApplyCal f s) := by
  simp only [execApplyCal, soundAnswer_next]
  exact s.hostCommand_sound f _ _ applyCalAct_sound h

theorem execSetPool_sound (f : Nat) (s : State) (h : Sound s.whole) : SoundAnswer (execSetPool f s) := by
  simp only [execSetPool, soundAnswer_next]
  refine s.hostCommand_sound f _ _ (fun u c hu => ?_) h
  split
  · simpa using hu
  · exact u.writeCommit_sound _ _ (by simp) hu

theorem execSetRing_sound (f : Nat) (s : State) (h : Sound s.whole) : SoundAnswer (execSetRing f s) := by
  simp only [execSetRing, soundAnswer_next]
  exact s.hostCommand_sound f _ _ (fun u c hu => u.writeCommit_sound _ _ (by simp) hu) h

theorem execSetPower_sound (f : Nat) (s : State) (h : Sound s.whole) : SoundAnswer (execSetPower f s) := by
  simp only [execSetPower, soundAnswer_next]
  refine s.hostCommand_sound f _ _ (fun u c hu => ?_) h
  split
  · simpa using hu
  · exact u.writeCommit_sound _ _ (by simp) hu

/-! ### The blitter -/

@[simp] theorem State.blitWrite_sound (s : State) (d : Surf) (texel : Nat → Nat → List Byte) (h : Sound s.whole) :
    Sound (s.blitWrite d texel).whole :=
  foldl_sound _ (fun a _ ha => a.dramPut_sound _ _ ha) _ _ h

@[simp] theorem State.blitAct_sound (s : State) (f : Nat) (c : BlitCmd) (ue : Bool) (h : Sound s.whole) :
    Sound (s.blitAct f c ue).1.whole := by
  unfold State.blitAct
  dsimp only
  repeat' split
  all_goals simp [h]

@[simp] theorem State.blitDone_sound (s : State) (l : BlitList) (c : BlitCmd) (status : Nat) (h : Sound s.whole) :
    Sound (s.blitDone l c status).whole := by
  unfold State.blitDone
  dsimp only
  repeat' split
  all_goals simp [h]

@[simp] theorem blitSkip_sound (n : Nat) (s : State) (h : Sound s.whole) : Sound (blitSkip n s).whole := by
  induction n generalizing s with
  | zero => exact h
  | succ n ih =>
    unfold blitSkip
    repeat' split
    · exact h
    · exact h
    · exact h
    all_goals exact ih _ (s.blitDone_sound _ _ _ h)

theorem execBlitListStart_sound (s : State) (h : Sound s.whole) : SoundAnswer (execBlitListStart s) := by
  unfold execBlitListStart
  rw [soundAnswer_next]
  split
  · exact h
  · dsimp only
    repeat' split
    all_goals simp [h]

theorem State.blitStep_sound (s : State) (op : Nat) (ue : Bool) (h : Sound s.whole) : Sound (s.blitStep op ue).whole := by
  unfold State.blitStep
  split
  · dsimp only
    split
    · exact h
    · exact blitSkip_sound _ _ (State.blitDone_sound _ _ _ _ (s.blitAct_sound _ _ _ h))
  · exact h

/-! ### Cameras -/

@[simp] theorem State.spillLine_sound (s : State) (k : CamFrame) (room : Nat) (payload : List Byte) (h : Sound s.whole) :
    Sound (s.spillLine k room payload).whole := by
  unfold State.spillLine
  dsimp only
  repeat' split
  all_goals simp [h]

theorem execCamLongPacket_sound (port : Nat) (pkt : CamPacket) (s : State) (h : Sound s.whole) :
    SoundAnswer (execCamLongPacket port pkt s) := by
  unfold execCamLongPacket
  rw [soundAnswer_next]
  dsimp only
  repeat' split
  all_goals simp [h]

@[simp] theorem State.writeStats_sound (s : State) (pipe : Nat) (k : CamFrame) (rec_ : List Byte) (n : Nat)
    (h : Sound s.whole) : Sound (s.writeStats pipe k rec_ n).whole :=
  State.dramPut_sound _ _ _ (by simpa using h)

theorem execPipelineFrameDone_sound (pipe : Nat) (s : State) (h : Sound s.whole) :
    SoundAnswer (execPipelineFrameDone pipe s) := by
  unfold execPipelineFrameDone
  rw [soundAnswer_next]
  split
  · exact h
  · dsimp only
    repeat' split
    all_goals simp [h]

/-! ### Calibration maps -/

@[simp] theorem State.putMap_sound (s : State) (bank : Nat) (m : OutId × Nat) (h : Sound s.whole) :
    Sound (s.putMap bank m).whole := by
  simp [State.putMap, h]

@[simp] theorem State.mapsInto_sound (s : State) (o : OutId) (bank : Nat) (h : Sound s.whole) :
    Sound (s.mapsInto o bank).whole := by
  have ht := foldl_sound (fun (a : State) m => a.putMap bank m) (fun a m ha => a.putMap_sound bank m ha) (s.bankMaps o) s h
  unfold State.mapsInto
  dsimp only
  repeat' split
  all_goals simp [h, ht]

theorem execCalMapsBuilt_sound (o : OutId) (s : State) (h : Sound s.whole) : SoundAnswer (execCalMapsBuilt o s) := by
  unfold execCalMapsBuilt
  rw [soundAnswer_next]
  repeat' split
  · exact h
  · exact h
  · exact s.mapsInto_sound _ _ h
  · exact State.mapsInto_sound _ _ _ (by simpa using h)

theorem execBankCopyDone_sound (s : State) (h : Sound s.whole) : SoundAnswer (execBankCopyDone s) := by
  have hf := foldl_sound (fun (a : State) (e : List Byte × Nat) => a.dramPut e.2 e.1) (fun a e ha => a.dramPut_sound _ _ ha)
    s.bankCopies s h
  unfold execBankCopyDone
  rw [soundAnswer_next]
  split
  · exact h
  · simpa using hf

/-! ### Relayed commands -/

theorem State.relayJudge_sound (s : State) (c : Cmd) (due : Nat) (h : Sound s.whole) :
    Sound (s.relayJudge c due).st.whole := by
  have hc (key) := s.judge_keeps Sound setCalCard c key setCalAct setCalAct_sound h
  have ha (key) := s.judge_keeps Sound applyCalCard c key applyCalAct applyCalAct_sound h
  unfold State.relayJudge
  dsimp only
  repeat' split
  all_goals simp [h, hc, ha]

@[simp] theorem State.relayAct_sound (s : State) (tag opcode status : Nat) (payload resp : List Byte) (h : Sound s.whole) :
    Sound (s.relayAct tag opcode status payload resp).1.whole := by
  unfold State.relayAct
  dsimp only
  split
  · exact h
  · split
    · simpa using h
    · simpa using State.relayJudge_sound _ _ _ h

theorem State.relayFront_sound (s : State) (i : RelayIn) (h : Sound s.whole) : Sound (s.relayFront i).1.whole := by
  have ha := s.relayAct_sound i.tag i.op i.status i.payload i.resp h
  unfold State.relayFront
  dsimp only
  repeat' split
  all_goals simp [h, ha]

@[simp] theorem drainRelays_sound (n : Nat) (s : State) (h : Sound s.whole) : Sound (drainRelays n s).whole := by
  induction n generalizing s with
  | zero => exact h
  | succ n ih =>
    unfold drainRelays
    dsimp only
    repeat' split
    · exact h
    · exact ih _ (s.relayFront_sound _ h)
    · exact s.relayFront_sound _ h

theorem State.recvPkt_sound (s : State) (p : RPort) (typ : Nat) (pkt : List Byte) (k : State → State)
    (hk : ∀ u, Sound u.whole → Sound (k u).whole) (h : Sound s.whole) : Sound (s.recvPkt p typ pkt k).whole := by
  unfold State.recvPkt
  dsimp only
  split
  · exact h
  · simp [hk, h]

theorem execRelayPkt_sound (p : RPort) (pkt : List Byte) (s : State) (h : Sound s.whole) :
    SoundAnswer (execRelayPkt p pkt s) := by
  unfold execRelayPkt
  rw [soundAnswer_next]
  refine s.recvPkt_sound _ _ _ _ (fun u hu => ?_) h
  dsimp only
  repeat' split
  all_goals simp [hu]

theorem execAckTimer_sound (p : RPort) (s : State) (h : Sound s.whole) : SoundAnswer (execAckTimer p s) := by
  unfold execAckTimer
  rw [soundAnswer_next]
  dsimp only
  split
  · exact h
  · split
    · simpa using h
    · simpa using drainRelays_sound _ _ (by simpa using h)

/-! ### Starts -/

/-- A whole machine has the 68 sensors of R628. -/
theorem Sound.sensors {s : State} (h : Sound s.whole) : s.sensors.length = 68 := by
  have hp := h.1
  simp only [State.whole, State.parts, Variant.parts, Prod.mk.injEq, List.cons.injEq] at hp
  obtain ⟨-, -, -, -, -, -, -, hs, -⟩ := hp
  exact hs

/-- A start makes every part anew but the sensors, which a main or a warm start keeps (R640). -/
theorem State.afresh_sound (s : State) (kind : Nat) (h : Sound s.whole) : Sound (s.afresh kind).whole := by
  have hp : ∀ n, (if kind ≠ 0 ∧ (n = 54 ∨ n = 61) then
      { Landing.reset (s.variant.hasIsland n) with
        pllLocked := (s.landing n).pllLocked, lossCount := (s.landing n).lossCount }
      else Landing.reset (s.variant.hasIsland n)).present = s.variant.hasIsland n := by
    intro n; split <;> rfl
  have hn : (if kind = 0 then State.reset.sensors else s.sensors).length = 68 := by
    split
    · rfl
    · exact h.sensors
  simp only [State.afresh, State.whole_mk, Sound, Variant.parts, List.map_map, Function.comp_def, hp, hn]
  exact ⟨rfl, rfl⟩

@[simp] theorem State.restart_sound (s : State) (kind : Nat) (h : Sound s.whole) : Sound (s.restart kind).whole := by
  have ha := s.afresh_sound kind h
  unfold State.restart
  dsimp only
  repeat' split
  all_goals simp [ha]

theorem execVauxValid_sound (mv : Nat) (s : State) (h : Sound s.whole) : SoundAnswer (execVauxValid mv s) := by
  unfold execVauxValid
  rw [soundAnswer_next]
  split
  · exact h
  · simpa using s.restart_sound 0 h

theorem execVmainValid_sound (mv : Nat) (s : State) (h : Sound s.whole) : SoundAnswer (execVmainValid mv s) := by
  unfold execVmainValid
  rw [soundAnswer_next]
  dsimp only
  repeat' split
  · exact h
  · simpa using h
  · simpa using h
  · simpa using State.restart_sound _ _ (by simpa using h)

theorem execPerstDeassert_sound (s : State) (h : Sound s.whole) : SoundAnswer (execPerstDeassert s) := by
  unfold execPerstDeassert
  rw [soundAnswer_next]
  dsimp only
  repeat' split
  · exact h
  · simpa using State.restart_sound _ _ (by simpa using h)
  · simpa using h

/-- Trained DRAM is empty (R441). -/
theorem execDramTrained_sound (ok : Bool) (s : State) (h : Sound s.whole) : SoundAnswer (execDramTrained ok s) := by
  unfold execDramTrained
  rw [soundAnswer_next]
  repeat' split
  · exact h
  · exact State.modDram_sound _ _ (fun _ _ => rfl) (by simpa using h)
  · simpa using h

/-! ### Every row, and a step -/

theorem soundAnswer_of_whole {o : Host.Outcome State Fault Refusal} {s : State} (ho : answer o = some s.whole)
    (h : Sound s.whole) : SoundAnswer o := by
  simp [SoundAnswer, ho, h]

/-- Every command keeps the machine whole: the rows that write module memory, commit, or start the machine by their own
lemmas, and every other row because it leaves the parts and module memory as they were. -/
theorem exec_sound (i : Instr) (s : State) (h : Sound s.whole) : SoundAnswer (exec i s) := by
  cases i
  case commit f => exact execCommit_sound f s h
  case setStream f => exact execSetStream_sound f s h
  case setMode f => exact execSetMode_sound f s h
  case setLayer f => exact execSetLayer_sound f s h
  case setChannel f => exact execSetChannel_sound f s h
  case setScanout f => exact execSetScanout_sound f s h
  case setCal f => exact execSetCal_sound f s h
  case applyCal f => exact execApplyCal_sound f s h
  case setPool f => exact execSetPool_sound f s h
  case setRing f => exact execSetRing_sound f s h
  case setPower f => exact execSetPower_sound f s h
  case blitListStart => exact execBlitListStart_sound s h
  case blitCopy ue => exact (soundAnswer_next _).2 (s.blitStep_sound 1 ue h)
  case blitFill ue => exact (soundAnswer_next _).2 (s.blitStep_sound 2 ue h)
  case blitStretch ue => exact (soundAnswer_next _).2 (s.blitStep_sound 3 ue h)
  case blitBlend ue => exact (soundAnswer_next _).2 (s.blitStep_sound 4 ue h)
  case blitConvert ue => exact (soundAnswer_next _).2 (s.blitStep_sound 5 ue h)
  case camLongPacket port pkt => exact execCamLongPacket_sound port pkt s h
  case pipelineFrameDone pipe => exact execPipelineFrameDone_sound pipe s h
  case calMapsBuilt o => exact execCalMapsBuilt_sound o s h
  case bankCopyDone => exact execBankCopyDone_sound s h
  case relayPkt p pkt => exact execRelayPkt_sound p pkt s h
  case ackTimer p => exact execAckTimer_sound p s h
  case vauxValid mv => exact execVauxValid_sound mv s h
  case vmainValid mv => exact execVmainValid_sound mv s h
  case perstDeassert => exact execPerstDeassert_sound s h
  case dramTrained ok => exact execDramTrained_sound ok s h
  all_goals
    refine soundAnswer_of_whole ?_ h
    dsimp only [exec]
    simp

/-- A step keeps the machine whole. -/
theorem step_sound (s : State) (h : Sound s.whole) : SoundAnswer (step s) := by
  unfold step
  split
  · simpa using h
  · exact exec_sound _ _ (by simpa using h)

/-- Settles O4: the lists of the state after reset are those of an E2, and its memory lists no byte. -/
theorem resetIsWhole : Obligations.ResetIsWhole := ⟨by decide, by decide⟩

/-- Settles O5, by what each command leaves of the parts and of module memory. -/
theorem stepKeepsTheMachineWhole : Obligations.StepKeepsTheMachineWhole := by
  intro s t hs ht
  have h := step_sound s hs
  rw [ht, soundAnswer_next] at h
  exact h

end Sys2Proof.Machine
end

section
/-! PROOF. A CLOSE of output B at which IS44 joins with LOCKED at 1 (R38, R44, R252). -/
namespace Sys2Proof.Machine

/-- A CLOSE that may be issued (R38). -/
theorem exec_doorwayClose {o : OutId} {s : State} (h : s.mayClose (s.eff o) = true) :
    exec (.doorwayClose o) s = .next (s.closeDoor (s.eff o)) := by
  show execDoorwayClose o s = _
  rw [execDoorwayClose, if_pos h]

/-- A copy of SYN as a commit that names frame 9 of output B makes it with independent outputs: open on output B, and on
output A once output B has swapped to frame 9 (R44). -/
def copyForFrameNine : Pend :=
  { cid := 1, issuer := 0, blk := .syn, port := 0, target := .frame .B 9, due := 9, words := [], needA := true, needB := true,
    fixA := none, fixB := none, openA := false, openB := true, lateA := false, lateB := false, unit := 1, waits := [] }

/-- An E2 whose output B may issue CLOSE(1) while that copy is pending. IS44 has its PLL locked and joins the protocol at
that CLOSE; the newest live SCO set of output A, which it takes over then, has LOCKED at 1. -/
def joiningLocked : State :=
  { State.reset with
    landings := State.reset.landings.set 44 { Landing.reset true with pllLocked := true },
    commits := { State.reset.commits with
      pend := [copyForFrameNine],
      newest := [{ blk := .sco, out := .A, port := 0, cid := 2, frame := 0, words := [(0, 1)] }] },
    power := { Power.reset with hearth := true, pkgChecked := true, banksIn := true },
    dram := { Dram.reset with st := 2 } }

theorem joiningLocked_inv : joiningLocked.Inv := ⟨by decide, by decide⟩

theorem joiningLocked_locked : joiningLocked.locked = false := by decide

theorem joiningLocked_eff : joiningLocked.eff .B = .B := by decide

theorem joiningLocked_mayClose : joiningLocked.mayClose .B = true := by decide

/-- With the set that IS44 takes over the outputs count as locked when the CLOSE fixes its copies; the copy is judged by whether
it is open on output B, and fixed for frame 1. -/
theorem copyForFrameNine_fixed :
    (joiningLocked.closeDoor .B).commits.pend = [{ copyForFrameNine with fixB := some 1 }] := by decide

/-- Refutes O40 in `Clause.DoorwaysClose`: outputs that are not locked, with no copy that makes LOCKED 1, may count as locked
within a CLOSE of output B all the same, because IS44 joins at it with LOCKED at 1; a copy for frame 9 of output B, which lies
ahead, does not wait on then but is fixed for frame 1. -/
theorem not_doorways : ¬ Obligations.Doorways := by
  rintro ⟨hclose, -, -⟩
  obtain ⟨-, hmay⟩ := hclose .B joiningLocked joiningLocked_inv
  rw [joiningLocked_eff] at hmay
  obtain ⟨t, ht, -, -, -, -, -, -, -, -, -, hfree⟩ := hmay joiningLocked_mayClose
  obtain ⟨-, -, hkeep, -⟩ := hfree joiningLocked_locked (by decide)
  have hin : copyForFrameNine ∈ t.commits.pend :=
    hkeep copyForFrameNine .B 9 (by decide) rfl rfl joiningLocked_eff (by decide)
  rw [exec_doorwayClose (by rw [joiningLocked_eff]; exact joiningLocked_mayClose), joiningLocked_eff] at ht
  cases ht
  rw [copyForFrameNine_fixed] at hin
  exact absurd hin (by decide)

end Sys2Proof.Machine
end

section
/-! PROOF. What ingest of a stream's packets leaves: every part that no packet touches, and of the other channels all but a
pause that ends (R129). -/
namespace Sys2Proof.Machine

/-! ### What ingest leaves -/

/-- A machine with the parts that ingest works on taken from `b`. -/
def State.rest (s b : State) : State :=
  { s with boxes := b.boxes, chans := b.chans, cellar := b.cellar, trust := b.trust, ring := b.ring, outA := b.outA,
           outB := b.outB }

/-- What stands around a channel's ingest: the other parts, the other channels but for their pauses, and how many channels
and letterboxes there are. -/
def State.around (s : State) (c : Nat) (b : State) : State × (Nat → Channel) × Nat × Nat :=
  (s.rest b, fun d => if d = c then .reset else { s.chan d with paused := none }, s.chans.length, s.boxes.length)

/-- What leaves the other parts, the channels and the number of letterboxes leaves all that stands around a channel. -/
theorem State.around_congr {c : Nat} {s t b : State} (hr : t.rest b = s.rest b) (hc : t.chans = s.chans)
    (hb : t.boxes.length = s.boxes.length) : t.around c b = s.around c b := by
  simp only [State.around, State.chan, hr, hc, hb]

@[simp] theorem State.chan_modChan_self (s : State) (c : Nat) (g : Channel → Channel) (h : c < s.chans.length) :
    (s.modChan c g).chan c = g (s.chan c) := by
  simp [State.chan, List.getD_eq_getElem?_getD, h]

theorem State.chan_modChan_ne (s : State) {c d : Nat} (g : Channel → Channel) (h : d ≠ c) :
    (s.modChan c g).chan d = s.chan d := by
  simp [State.chan, List.getD_eq_getElem?_getD, Ne.symm h]

/-- Pauses that end change no more of a channel than its pause. -/
theorem State.endPauses_chan (s : State) (c : Nat) : ∃ x, s.endPauses.chan c = { s.chan c with paused := x } := by
  by_cases h : c < s.chans.length
  · exact ⟨_, by simp [State.endPauses, State.chan, List.getD_eq_getElem?_getD, h]; rfl⟩
  · exact ⟨none, by simp [State.endPauses, State.chan, List.getD_eq_getElem?_getD, h, Channel.reset]⟩

variable (s b : State) (c : Nat)

@[simp] theorem State.modChan_around (g : Channel → Channel) : (s.modChan c g).around c b = s.around c b := by
  have hd : ∀ d, d ≠ c → (s.modChan c g).chan d = s.chan d := fun d h => s.chan_modChan_ne g h
  refine Prod.ext rfl (Prod.ext (funext fun d => ?_) (by simp [State.around]))
  by_cases h : d = c
  · simp [State.around, h]
  · simp [State.around, h, hd d h]

@[simp] theorem State.endPauses_around : s.endPauses.around c b = s.around c b := by
  refine Prod.ext rfl (Prod.ext (funext fun d => ?_) (by simp [State.around, State.endPauses]))
  obtain ⟨x, hx⟩ := s.endPauses_chan d
  simp [State.around, hx]

@[simp] theorem State.modBox_around (f : Nat) (g : Letterbox → Letterbox) : (s.modBox f g).around c b = s.around c b :=
  State.around_congr rfl rfl (by simp)

@[simp] theorem State.modCellar_around (g : Cellar → Cellar) : (s.modCellar g).around c b = s.around c b :=
  State.around_congr rfl rfl rfl

@[simp] theorem State.modTrust_around (g : Trust → Trust) : (s.modTrust g).around c b = s.around c b :=
  State.around_congr rfl rfl rfl

@[simp] theorem State.modRport_around (p : RPort) (g : RingPort → RingPort) : (s.modRport p g).around c b = s.around c b := by
  cases p <;> exact State.around_congr rfl rfl rfl

@[simp] theorem State.around_ite (q : Prop) [Decidable q] (t u : State) :
    (if q then t else u).around c b = if q then t.around c b else u.around c b :=
  apply_ite (State.around · c b) ..

/-- A row of updates leaves whatever each of them leaves. -/
theorem foldl_keeps {α β : Type} (view : State → β) (f : State → α → State) (h : ∀ a x, view (f a x) = view a)
    (l : List α) (s : State) : view (l.foldl f s) = view s := by
  induction l generalizing s with
  | nil => rfl
  | cons x l ih => exact (ih _).trans (h _ _)

@[simp] theorem State.journal_around (e : JEntry) (a : Bool) : (s.journal e a).around c b = s.around c b := by
  simp [State.journal, State.jAppend, State.forceCkpt, State.ckptStart]

@[simp] theorem State.violate_around (k : Nat) : (s.violate k).around c b = s.around c b := by
  simp [State.violate]

@[simp] theorem State.event_around (f code : Nat) (data : List Byte) : (s.event f code data).around c b = s.around c b := by
  simp [State.event]

@[simp] theorem State.eventAll_around (code : Nat) (data : List Byte) : (s.eventAll code data).around c b = s.around c b :=
  State.around_congr rfl rfl (by simp [State.eventAll])

@[simp] theorem State.sendBoth_around (typ flags dst : Nat) (body : List Byte) :
    (s.sendBoth typ flags dst body).around c b = s.around c b := by
  simp [State.sendBoth, State.sendPacket]

@[simp] theorem State.modSession_around (n : Nat) (g : Session → Session) : (s.modSession n g).around c b = s.around c b := by
  simp [State.modSession]

@[simp] theorem State.forwardOps_around (p : List Byte) : (s.forwardOps c p).around c b = s.around c b := by
  simp [State.forwardOps, foldl_keeps (State.around · c b)]

@[simp] theorem State.forwardDiscard_around : (s.forwardDiscard c).around c b = s.around c b := by
  simp [State.forwardDiscard]

@[simp] theorem State.failOps_around (cause seq n : Nat) (cov : Bool) :
    (s.failOps c cause seq n cov).around c b = s.around c b := by
  simp [State.failOps, State.opsError]

@[simp] theorem State.breakAuth_around (n : Nat) : (s.breakAuth c n).around c b = s.around c b := by
  simp [State.breakAuth]

@[simp] theorem State.skipOps_around (p : List Byte) (prot : Bool) : (s.skipOps c p prot).around c b = s.around c b := by
  simp [State.skipOps]

@[simp] theorem State.closeScene_around (m : List Byte) (base : Option Nat) :
    (s.closeScene c m base).around c b = s.around c b := by
  simp [State.closeScene]

@[simp] theorem State.takeOps_around (p : List Byte) (prot : Bool) (base : Option Nat) (place : List Nat × Nat × Nat) :
    (s.takeOps c p prot base place).around c b = s.around c b := by
  unfold State.takeOps
  dsimp only
  split <;> simp

@[simp] theorem State.pauseOps_around (p : List Byte) : (s.pauseOps c p).around c b = s.around c b := by
  simp [State.pauseOps]

@[simp] theorem State.freshOps_around (p : List Byte) (prot mem : Bool) (base : Option Nat) :
    (s.freshOps c p prot mem base).1.around c b = s.around c b := by
  unfold State.freshOps
  dsimp only
  repeat' split
  all_goals simp

@[simp] theorem State.ingestOps_around (p : List Byte) (prot mem : Bool) (base : Option Nat) :
    (s.ingestOps c p prot mem base).1.around c b = s.around c b := by
  simp [State.ingestOps]

@[simp] theorem State.advance_around (n : Nat) : (s.advance c n).around c b = s.around c b := by
  unfold State.advance State.subDone State.endSub
  repeat' split
  all_goals simp

@[simp] theorem State.noteTag_around (p : List Byte) : (s.noteTag c p).around c b = s.around c b := by
  simp [State.noteTag]

@[simp] theorem State.unframed_around (seq : Nat) (failed : Bool) : (s.unframed c seq failed).around c b = s.around c b := by
  simp [State.unframed]

@[simp] theorem State.opsPacket_around (bytes : List Byte) (ok : Bool) :
    (s.opsPacket c bytes ok).around c b = s.around c b := by
  unfold State.opsPacket
  dsimp only
  repeat' split
  all_goals simp

/-- Ingest works on its channel, the letterboxes, the ring ports and what is kept of it; of another channel it ends pauses. -/
theorem State.frame_of_around {c : Nat} {s t : State} (h : t.around c t = s.around c t) :
    (∀ d, d ≠ c → t.chan d = { s.chan d with paused := (t.chan d).paused })
      ∧ t = { s with boxes := t.boxes, chans := t.chans, cellar := t.cellar, trust := t.trust, ring := t.ring,
                     outA := t.outA, outB := t.outB } := by
  obtain ⟨hrest, hchan, -⟩ := Prod.mk.inj h |>.imp_right Prod.mk.inj
  refine ⟨fun d hd => ?_, hrest⟩
  have hk := congrFun hchan d
  simp only [hd, if_false] at hk
  calc t.chan d = { ({ t.chan d with paused := none } : Channel) with paused := (t.chan d).paused } := rfl
    _ = _ := by rw [hk]

end Sys2Proof.Machine
end

section
/-! PROOF. What the operations of ingest do to the stream of their channel, to its submissions, to sessions and to violations
(R115 to R129, R482). -/
namespace Sys2Proof.Machine

/-! ### Channels and submissions -/

theorem Channel.modSub_eq (k : Channel) (g : Submission → Submission) :
    k.modSub g = { k with subs := k.subs.modifyHead g } := by
  cases k
  unfold Channel.modSub
  dsimp only
  split <;> rfl

/-- What ingest decides of a channel's stream, apart from its submissions: the open packets, whether it skips and whether for
R122, the packets discarded, the latest PACKET_SEQ, and the packets of each pending scene commit. -/
structure Stream where
  openPkts  : List ScenePkt
  skipping  : Bool
  authSkip  : Bool
  discarded : Nat
  lastSeq   : Nat
  commits   : List (List ScenePkt)

/-- The stream of a channel. -/
def Channel.stream (k : Channel) : Stream :=
  ⟨k.openPkts, k.skipping, k.authSkip, k.discarded, k.lastSeq, k.pending.map (·.pkts)⟩

/-- The command that a submission answers, its length and how far it has been read. -/
def Submission.order (b : Submission) : Nat × Nat × Nat × Nat := (b.func, b.cmdId, b.total, b.pos)

/-- From `s` to `t` a submission completes with OK, where its function's completion ring takes it (R464, R468, R482). -/
def Submission.completes (b : Submission) (s t : State) : Prop :=
  b.cmdId < 0x100000000 → b.func < s.boxes.length → (s.box b.func).cqEn = true → (s.box b.func).cqSize ≠ 0 →
    ∃ x ∈ (t.box b.func).cq, x.cmdId = b.cmdId ∧ x.status = stOk

/-- What the ring ports have no part in: what is kept of trust, Cellar's part, the letterboxes, and a channel's stream with its
submissions. -/
def State.account (s : State) (c : Nat) :
    Trust × Cellar × List Letterbox × Stream × List Submission :=
  (s.trust, s.cellar, s.boxes, (s.chan c).stream, (s.chan c).subs)

variable (s : State) (c : Nat)

@[simp] theorem State.modBox_chan (f : Nat) (g : Letterbox → Letterbox) : (s.modBox f g).chan c = s.chan c := rfl
@[simp] theorem State.modCellar_chan (g : Cellar → Cellar) : (s.modCellar g).chan c = s.chan c := rfl
@[simp] theorem State.modCellar_box (g : Cellar → Cellar) (f : Nat) : (s.modCellar g).box f = s.box f := rfl

/-- What every update of a channel leaves, `modChan` leaves of the channel. -/
theorem State.modChan_keeps {β : Type} (view : Channel → β) (g : Channel → Channel) (h : ∀ k, view (g k) = view k) :
    view ((s.modChan c g).chan c) = view (s.chan c) := by
  by_cases hc : c < s.chans.length
  · rw [State.chan_modChan_self _ _ _ hc, h]
  · simp [State.chan, hc]

/-! ### The ring ports and the journal -/

theorem State.sendBoth_account (typ flags dst : Nat) (body : List Byte) :
    (s.sendBoth typ flags dst body).account c = s.account c := by
  have hport (t : State) (p : RPort) (d h : Nat) (x : List Byte) :
      (t.sendPacket p typ flags d dst h x).account c = t.account c := by
    unfold State.sendPacket
    split
    · cases p <;> rfl
    · rfl
  simp only [State.sendBoth, hport]

theorem State.forwardDiscard_account : (s.forwardDiscard c).account c = s.account c := by
  unfold State.forwardDiscard
  split
  · exact s.sendBoth_account ..
  · rfl

theorem State.forwardOps_account (p : List Byte) : (s.forwardOps c p).account c = s.account c := by
  unfold State.forwardOps
  split
  · refine foldl_keeps (State.account · c) _ (fun a f => ?_) _ _
    rw [← a.sendBoth_account c 1 0 0xFFFF (sceneBody c 0 (a.frameOf .A) (a.chan c).fwdPos f)]
    generalize a.sendBoth 1 0 0xFFFF _ = u
    have hfwd := u.modChan_keeps c (fun k => (k.stream, k.subs)) (fun k => { k with fwdPos := k.fwdPos + f.length })
      fun _ => rfl
    simp only [Prod.mk.injEq] at hfwd
    simp [State.account, hfwd]
  · rfl

@[simp] theorem State.forwardDiscard_trust : (s.forwardDiscard c).trust = s.trust :=
  congrArg (·.1) (s.forwardDiscard_account c)

@[simp] theorem State.forwardDiscard_cellar : (s.forwardDiscard c).cellar = s.cellar :=
  congrArg (·.2.1) (s.forwardDiscard_account c)

@[simp] theorem State.forwardDiscard_box (f : Nat) : (s.forwardDiscard c).box f = s.box f :=
  congrArg (fun a => a.2.2.1.getD f (Letterbox.reset false)) (s.forwardDiscard_account c)

@[simp] theorem State.forwardDiscard_stream : ((s.forwardDiscard c).chan c).stream = (s.chan c).stream :=
  congrArg (·.2.2.2.1) (s.forwardDiscard_account c)

@[simp] theorem State.forwardDiscard_subs : ((s.forwardDiscard c).chan c).subs = (s.chan c).subs :=
  congrArg (·.2.2.2.2) (s.forwardDiscard_account c)

@[simp] theorem State.forwardOps_trust (p : List Byte) : (s.forwardOps c p).trust = s.trust :=
  congrArg (·.1) (s.forwardOps_account c p)

@[simp] theorem State.forwardOps_cellar (p : List Byte) : (s.forwardOps c p).cellar = s.cellar :=
  congrArg (·.2.1) (s.forwardOps_account c p)

@[simp] theorem State.forwardOps_boxes (p : List Byte) : (s.forwardOps c p).boxes = s.boxes :=
  congrArg (·.2.2.1) (s.forwardOps_account c p)

@[simp] theorem State.forwardOps_stream (p : List Byte) : ((s.forwardOps c p).chan c).stream = (s.chan c).stream :=
  congrArg (·.2.2.2.1) (s.forwardOps_account c p)

@[simp] theorem State.forwardOps_subs (p : List Byte) : ((s.forwardOps c p).chan c).subs = (s.chan c).subs :=
  congrArg (·.2.2.2.2) (s.forwardOps_account c p)

/-- An entry in the journal changes Cellar's part only, and no violation counter of it. -/
theorem State.journal_eq (e : JEntry) (a : Bool) :
    ∃ l : Cellar, s.journal e a = s.modCellar (fun _ => l) ∧ l.viol = s.cellar.viol := by
  unfold State.journal
  dsimp only
  split <;> exact ⟨_, rfl, rfl⟩

/-! ### Letterboxes -/

/-- Whether a letterbox takes completions, and how many its ring holds. -/
def Letterbox.cqRing (b : Letterbox) : Bool × Nat := (b.cqEn, b.cqSize)

theorem Letterbox.postEvent_cqRing (b : Letterbox) (now code : Nat) (data : List Byte) :
    (b.postEvent now code data).cqRing = b.cqRing := by
  unfold Letterbox.postEvent Letterbox.raiseEq Letterbox.fire
  dsimp only
  repeat' split
  all_goals rfl

theorem State.event_cqRing (g code : Nat) (data : List Byte) (f : Nat) :
    ((s.event g code data).box f).cqRing = (s.box f).cqRing := by
  by_cases hf : f = g
  · subst hf
    by_cases hl : f < s.boxes.length
    · rw [State.event, State.box_modBox_self _ _ _ hl, Letterbox.postEvent_cqRing]
    · simp [State.event, State.box, hl]
  · rw [State.event, State.box_modBox_ne _ _ hf]

/-- A completion with OK is in the ring afterwards, where the ring takes it (R468). -/
theorem Letterbox.postCompletion_posts (b : Letterbox) (now id status retry len : Nat) (ok : Bool) (resp : List Byte)
    (hid : id < 0x100000000) (hen : b.cqEn = true) (hsize : b.cqSize ≠ 0) :
    ∃ x ∈ (b.postCompletion now id status retry len ok resp).cq, x.cmdId = id ∧ x.status = status := by
  have hid' : ¬ 4294967296 ≤ id := by omega
  simp [Letterbox.postCompletion, hen, hsize, hid', Letterbox.raiseCq_cq]

/-! ### Discards -/

variable {c}

theorem State.chans_length_of_around {s t : State} (h : ∀ b, t.around c b = s.around c b) :
    t.chans.length = s.chans.length :=
  congrArg (·.2.2.1) (h s)

theorem State.boxes_length_of_around {s t : State} (h : ∀ b, t.around c b = s.around c b) :
    t.boxes.length = s.boxes.length :=
  congrArg (·.2.2.2) (h s)

/-- A failed check discards the open commit with its packets, counts them, and skips (R125, R126). -/
theorem State.failOps_stream (hc : c < s.chans.length) (cause seq n : Nat) (cov : Bool) :
    ((s.failOps c cause seq n cov).chan c).stream = { (s.chan c).stream with
      openPkts := [], skipping := true, authSkip := false,
      discarded := min 0xFFFFFFFF ((s.chan c).discarded + ((s.chan c).openPkts.length + n)) } := by
  rw [State.failOps, State.forwardDiscard_stream, State.opsError, State.event, State.modBox_chan,
    State.chan_modChan_self _ _ _ hc]
  simp [Channel.stream, Channel.dropOpen, Channel.modSub_eq, sat, Nat.min_comm]

theorem State.failOps_subs (hc : c < s.chans.length) {b : Submission} {rest : List Submission}
    (hs : (s.chan c).subs = b :: rest) (cause seq n : Nat) (cov : Bool) :
    ∃ q, ((s.failOps c cause seq n cov).chan c).subs = q :: rest ∧ q.order = b.order := by
  rw [State.failOps, State.forwardDiscard_subs, State.opsError, State.event, State.modBox_chan,
    State.chan_modChan_self _ _ _ hc]
  simp only [Channel.modSub_eq, Channel.dropOpen, hs, List.modifyHead_cons]
  exact ⟨_, rfl, rfl⟩

@[simp] theorem State.failOps_trust (cause seq n : Nat) (cov : Bool) : (s.failOps c cause seq n cov).trust = s.trust := by
  simp [State.failOps, State.opsError, State.event]

@[simp] theorem State.failOps_viol (cause seq n : Nat) (cov : Bool) :
    (s.failOps c cause seq n cov).cellar.viol = s.cellar.viol := by
  simp [State.failOps, State.opsError, State.event]

theorem State.failOps_cqRing (cause seq n : Nat) (cov : Bool) (f : Nat) :
    ((s.failOps c cause seq n cov).box f).cqRing = (s.box f).cqRing := by
  rw [State.failOps, State.forwardDiscard_box, State.opsError, State.event_cqRing]
  rfl

/-- A packet that breaks R122 drops the open commit, and counts nothing as discarded (R123). -/
theorem State.breakAuth_stream (hc : c < s.chans.length) (n : Nat) :
    ((s.breakAuth c n).chan c).stream
      = { (s.chan c).stream with openPkts := [], skipping := true, authSkip := true } := by
  rw [State.breakAuth, State.forwardDiscard_stream, State.chan_modChan_self _ _ _ (by simpa [State.violate] using hc)]
  simp [Channel.stream, Channel.dropOpen, Channel.modSub_eq, State.violate, State.chan]

@[simp] theorem State.breakAuth_trust (n : Nat) : (s.breakAuth c n).trust = s.trust := by
  simp [State.breakAuth, State.violate]

@[simp] theorem State.breakAuth_cellar (n : Nat) : (s.breakAuth c n).cellar = (s.violate 5).cellar := by
  simp [State.breakAuth]

/-! ### Reading on -/

/-- What has been answered counts as before. -/
@[simp] theorem Channel.answer_stream (k : Channel) : k.answer.stream = k.stream := by
  simp [Channel.answer, Channel.stream]

@[simp] theorem State.endSub_trust (st : Nat) : (s.endSub c st).trust = s.trust := by
  unfold State.endSub; split <;> rfl

@[simp] theorem State.endSub_viol (st : Nat) : (s.endSub c st).cellar.viol = s.cellar.viol := by
  unfold State.endSub; split <;> rfl

theorem State.endSub_stream (st : Nat) : ((s.endSub c st).chan c).stream = (s.chan c).stream := by
  unfold State.endSub
  split
  · rfl
  · exact s.modChan_keeps c Channel.stream _ fun k => by rw [Channel.answer_stream]; rfl

theorem State.advance_stream (n : Nat) : ((s.advance c n).chan c).stream = (s.chan c).stream := by
  have hmove : ((s.modChan c fun k => k.modSub fun b => { b with pos := b.pos + n }).chan c).stream = (s.chan c).stream :=
    s.modChan_keeps c Channel.stream _ fun k => by rw [Channel.modSub_eq]; rfl
  unfold State.advance State.subDone
  split
  · exact hmove
  · split
    · rw [State.endSub_stream, hmove]
    · exact hmove

@[simp] theorem State.advance_trust (n : Nat) : (s.advance c n).trust = s.trust := by
  unfold State.advance State.subDone
  split
  · rfl
  · split <;> simp

@[simp] theorem State.advance_viol (n : Nat) : (s.advance c n).cellar.viol = s.cellar.viol := by
  unfold State.advance State.subDone
  split
  · rfl
  · split <;> simp

section
variable {q : Submission} {rest : List Submission} {n : Nat} (hc : c < s.chans.length) (hs : (s.chan c).subs = q :: rest)
include hc hs

theorem State.chan_move :
    ((s.modChan c fun k => k.modSub fun b => { b with pos := b.pos + n }).chan c).subs
      = { q with pos := q.pos + n } :: rest := by
  rw [State.chan_modChan_self _ _ _ hc, Channel.modSub_eq, hs]
  rfl

/-- Before the last byte the submission goes on. -/
theorem State.advance_subs_of_lt (hn : q.pos + n < q.total) :
    ((s.advance c n).chan c).subs = { q with pos := q.pos + n } :: rest := by
  have hmove := s.chan_move hc hs (n := n)
  rw [State.advance, State.subDone, hmove]
  dsimp only
  rw [if_neg (Nat.not_le.2 hn), hmove]

/-- With the last byte the submission is off the queue, and completes with OK (R482). -/
theorem State.advance_of_le (hn : q.total ≤ q.pos + n) :
    ((s.advance c n).chan c).subs = rest ∧ q.completes s (s.advance c n) := by
  have hmove := s.chan_move hc hs (n := n)
  rw [State.advance, State.subDone, hmove]
  dsimp only
  rw [if_pos hn, State.endSub, hmove]
  dsimp only
  refine ⟨?_, fun hid hf hen hsize => ?_⟩
  · rw [State.modCellar_chan, State.modBox_chan, State.chan_modChan_self _ _ _ (by simpa using hc)]
    rfl
  · rw [State.modCellar_box, State.box_modBox_self _ _ _ (by simpa using hf)]
    exact Letterbox.postCompletion_posts _ _ _ _ _ _ _ _ hid hen hsize

end

end Sys2Proof.Machine
end

section
/-! PROOF. What becomes of a packet that a channel does not skip: noted, judged, and taken into the store and the open commit
(R115 to R122, R126). -/
namespace Sys2Proof.Machine

variable (s : State) {c : Nat}

/-! ### A packet that is not skipped -/

/-- A submission with the AUTH_TAG that it may have met noted for its receipt (R482). -/
def Submission.note (p : List Byte) (b : Submission) : Submission :=
  if (opsType p = 6 ∧ p.length = 48 ∧ opsCrcOk p = true ∧ nAt p 1 1 = 1) ∧ ¬(b.hasTag ∧ nAt p 0x18 8 ≤ b.highSeq) then
    { b with hasTag := true, highSeq := nAt p 0x18 8, session := nAt p 0x10 2 }
  else b

/-- The channel as it takes a packet that it does not skip, or that ends its skip. -/
def Channel.unskip (p : List Byte) (k : Channel) : Channel :=
  { k with subs := k.subs.modifyHead (·.note p), skipping := false, authSkip := false }

theorem State.noteTag_eq (p : List Byte) : s.noteTag c p = s.modChan c fun k => k.modSub (·.note p) := by
  by_cases h : opsType p = 6 ∧ p.length = 48 ∧ opsCrcOk p = true ∧ nAt p 1 1 = 1
  · simp only [State.noteTag, Submission.note, h, true_and, and_self, if_true, ite_not]
  · have hnote : (fun k : Channel => k.modSub (·.note p)) = id := funext fun k => by
      have hb : (fun b : Submission => b.note p) = id := funext fun b => if_neg fun hn => h hn.1
      rw [hb, Channel.modSub_eq, List.modifyHead_id]
      rfl
    rw [State.noteTag, if_neg h, hnote]
    simp [State.modChan]

theorem State.noteTag_unskip (p : List Byte) :
    (s.noteTag c p).modChan c (fun k => { k with skipping := false, authSkip := false })
      = s.modChan c (Channel.unskip p) := by
  simp only [State.noteTag_eq, Channel.modSub_eq, State.modChan, List.modify_modify_eq]
  rfl

theorem flatMap_modify {α β : Type} (f : α → List β) (g : α → α) (h : ∀ x, f (g x) = f x) (l : List α) (n : Nat) :
    (l.modify n g).flatMap f = l.flatMap f := by
  induction l generalizing n with
  | nil => rw [List.modify_nil]
  | cons x l ih => cases n <;> simp [h, ih]

section
variable (hc : c < s.chans.length) (p : List Byte)

theorem State.unskip_poolFree : (s.modChan c (Channel.unskip p)).poolFree = s.poolFree := by
  have hused : (s.modChan c (Channel.unskip p)).usedBufs = s.usedBufs := by
    simp only [State.usedBufs, State.modChan_chans]
    rw [flatMap_modify Channel.usedBufs (Channel.unskip p) fun _ => rfl]
  unfold State.poolFree
  rw [hused]
  rfl

include hc

theorem State.unskip_storePlace (len : Nat) : (s.modChan c (Channel.unskip p)).storePlace c len = s.storePlace c len := by
  unfold State.storePlace
  rw [State.unskip_poolFree, State.chan_modChan_self _ _ _ hc]
  rfl

theorem State.unskip_opsCause (m : Bool) (q : List Byte) :
    (s.modChan c (Channel.unskip p)).opsCause c m q = s.opsCause c m q := by
  unfold State.opsCause
  rw [State.chan_modChan_self _ _ _ hc]
  rfl

theorem State.unskip_opsTagOk (m q : List Byte) :
    (s.modChan c (Channel.unskip p)).opsTagOk c m q = s.opsTagOk c m q := by
  unfold State.opsTagOk
  rw [State.chan_modChan_self _ _ _ hc]
  rfl

end

variable {s} {p : List Byte} {prot mem : Bool} {base : Option Nat} {place : List Nat × Nat × Nat}

theorem State.freshOps_of_cause (h : s.opsCause c mem p ≠ 0) :
    s.freshOps c p prot mem base = (s.failOps c (s.opsCause c mem p) (opsSeq p) 1
      (opsCovered p || s.opsCause c mem p == 2), if s.opsCause c mem p = 2 then .ends else .took) := by
  simp [State.freshOps, h]

theorem State.freshOps_open (h : s.opsCause c mem p = 0) (hp : s.storePlace c p.length = some place) :
    s.freshOps c p false mem base = (s.takeOps c p false base place, .took) := by
  simp [State.freshOps, h, hp]

theorem State.freshOps_full (h : s.opsCause c mem p = 0) (hp : s.storePlace c p.length = none) :
    s.freshOps c p false mem base = (s.pauseOps c p, .waits) := by
  simp [State.freshOps, h, hp]

theorem State.freshOps_badTag (h : s.opsCause c mem p = 0) (ht : opsType p = 6)
    (hbad : (s.chan c).covered = none ∨ ∃ m, (s.chan c).covered = some m ∧ s.opsTagOk c m p = false) :
    s.freshOps c p true mem base = (s.breakAuth c 1, .took) := by
  obtain hn | ⟨m, hm, ho⟩ := hbad
  · simp [State.freshOps, h, ht, hn]
  · simp [State.freshOps, h, ht, hm, ho]

theorem State.freshOps_goodTag (h : s.opsCause c mem p = 0) (ht : opsType p = 6) {m : List Byte}
    (hm : (s.chan c).covered = some m) (ho : s.opsTagOk c m p = true) (hp : s.storePlace c p.length = some place) :
    s.freshOps c p true mem base = (s.takeOps c p true base place, .took) := by
  simp [State.freshOps, h, ht, hm, ho, hp]

/-! ### A packet that is accepted -/

/-- The packet that an accepted one becomes in the open scene commit. -/
def Channel.packet (k : Channel) (p : List Byte) (place : List Nat × Nat × Nat) : ScenePkt :=
  ⟨opsSeq p, opsEffect k.view p place.1 (if k.tailBuf = place.1.head? then k.curOff else 0), place.1⟩

/-- A session that an accepted tag has moved on to its number. -/
def Session.raise (n : Nat) (x : Session) : Session := { x with highSeq := n }

/-- Whether a tag covers a mark of which R123 skipped the rest: it joins no open commit. -/
def Channel.orphanTag (k : Channel) (p : List Byte) (prot : Bool) : Bool := prot && opsType p == 6 && k.orphan

/-- The channel with an accepted packet in its store, and in its open commit unless it is a tag that joins none. -/
def Channel.keep (k : Channel) (pkt : ScenePkt) (alone : Bool) (p : List Byte) (prot : Bool) (place : List Nat × Nat × Nat) :
    Channel :=
  { k with openPkts := if alone then k.openPkts else k.openPkts ++ [pkt], lastSeq := opsSeq p,
           headerSeen := true, session := if opsType p = 1 then nAt p 0x16 2 else k.session,
           covered := if prot && opsCovered p then some p else none, orphan := false,
           curBuf := some place.2.1, curOff := place.2.2, paused := none }.modSub fun b =>
    { b with accepted := b.accepted + 1, inOpen := if alone then b.inOpen else b.inOpen + 1 }

/-- The machine with an accepted packet in the store and the journal, before the ring and the commit see it. -/
def State.keepOps (s : State) (c : Nat) (p : List Byte) (prot : Bool) (place : List Nat × Nat × Nat) : State :=
  (s.endPauses.journal (.scene c (opsSeq p) p.length) false).modChan c fun k =>
    k.keep ((s.chan c).packet p place) ((s.chan c).orphanTag p prot) p prot place

theorem State.takeOps_open (h5 : opsType p ≠ 5) :
    s.takeOps c p false base place = (s.keepOps c p false place).forwardOps c p := by
  unfold State.takeOps
  exact if_neg h5

theorem State.takeOps_mark (h5 : opsType p = 5) :
    s.takeOps c p false base place = ((s.keepOps c p false place).forwardOps c p).closeScene c p base := by
  unfold State.takeOps
  exact if_pos h5

/-- The machine with an accepted tag kept, and its session moved on. -/
def State.keepTag (s : State) (c : Nat) (p : List Byte) (place : List Nat × Nat × Nat) : State :=
  (s.keepOps c p true place).modSession (nAt p 0x10 2) (Session.raise (nAt p 0x18 8))

/-- A good tag moves its session's number on; with its packet it joins the open commit, and closes it where the packet is a
mark (R121, R122). -/
theorem State.takeOps_tag {m : List Byte} (h6 : opsType p = 6) (hm : (s.chan c).covered = some m) :
    s.takeOps c p true base place =
      if (s.chan c).orphan then s.keepTag c p place
      else if opsType m = 5 then (((s.keepTag c p place).forwardOps c m).forwardOps c p).closeScene c m base
      else ((s.keepTag c p place).forwardOps c m).forwardOps c p := by
  have h6' : (opsType p == 6) = true := by simp [h6]
  have halone : (s.chan c).orphanTag p true = (s.chan c).orphan := by simp [Channel.orphanTag, h6]
  unfold State.takeOps State.keepTag State.keepOps
  dsimp only
  rw [halone, hm, h6']
  cases (s.chan c).orphan <;> rfl

/-- Closing the open commit empties it, and appends a commit that holds its packets to the pending ones. -/
theorem State.closeScene_eq (m : List Byte) : ∃ x : Channel → SceneCommit,
    s.closeScene c m base = (s.modChan c fun k => Channel.modSub { k with openPkts := [], pending := k.pending ++ [x k] }
      fun b => { b with inOpen := 0 }) ∧ ∀ k, (x k).pkts = k.openPkts :=
  ⟨_, rfl, fun _ => rfl⟩

section
variable (hc : c < s.chans.length)
include hc

theorem State.keepOps_chan : ∃ x, (s.keepOps c p prot place).chan c
    = { s.chan c with paused := x }.keep ((s.chan c).packet p place) ((s.chan c).orphanTag p prot) p prot place := by
  obtain ⟨x, hx⟩ := s.endPauses_chan c
  obtain ⟨l, hl, -⟩ := s.endPauses.journal_eq (.scene c (opsSeq p) p.length) false
  refine ⟨x, ?_⟩
  rw [State.keepOps, hl, State.chan_modChan_self _ _ _ (by simpa [State.endPauses] using hc), State.modCellar_chan, hx]

theorem State.keepOps_stream : ((s.keepOps c p prot place).chan c).stream = { (s.chan c).stream with
    openPkts := if (s.chan c).orphanTag p prot then (s.chan c).openPkts
      else (s.chan c).openPkts ++ [(s.chan c).packet p place],
    lastSeq := opsSeq p } := by
  obtain ⟨x, hx⟩ := State.keepOps_chan (p := p) (prot := prot) (place := place) hc
  rw [hx, Channel.keep, Channel.modSub_eq]
  rfl

theorem State.keepOps_subs {b : Submission} {rest : List Submission} (hs : (s.chan c).subs = b :: rest) :
    ∃ q, ((s.keepOps c p prot place).chan c).subs = q :: rest ∧ q.order = b.order ∧ q.accepted = b.accepted + 1
      ∧ q.discarded = b.discarded := by
  obtain ⟨x, hx⟩ := State.keepOps_chan (p := p) (prot := prot) (place := place) hc
  rw [hx, Channel.keep, Channel.modSub_eq]
  exact ⟨_, congrArg (List.modifyHead _) hs, rfl, rfl, rfl⟩

/-- A closed commit waits with the open packets (R115 to R117). -/
theorem State.closeScene_stream (m : List Byte) : ((s.closeScene c m base).chan c).stream = { (s.chan c).stream with
    openPkts := [], commits := (s.chan c).stream.commits ++ [(s.chan c).stream.openPkts] } := by
  obtain ⟨x, hx, hpkts⟩ := s.closeScene_eq (c := c) (base := base) m
  rw [hx, State.chan_modChan_self _ _ _ hc, Channel.modSub_eq]
  simp [Channel.stream, hpkts]

theorem State.closeScene_subs (m : List Byte) {b : Submission} {rest : List Submission} (hs : (s.chan c).subs = b :: rest) :
    ∃ q, ((s.closeScene c m base).chan c).subs = q :: rest ∧ q.order = b.order ∧ q.accepted = b.accepted
      ∧ q.discarded = b.discarded := by
  obtain ⟨x, hx, -⟩ := s.closeScene_eq (c := c) (base := base) m
  rw [hx, State.chan_modChan_self _ _ _ hc, Channel.modSub_eq]
  exact ⟨_, congrArg (List.modifyHead _) hs, rfl, rfl, rfl⟩

end

@[simp] theorem State.keepOps_around (u : State) : (s.keepOps c p prot place).around c u = s.around c u := by
  simp [State.keepOps]

@[simp] theorem State.keepOps_trust : (s.keepOps c p prot place).trust = s.trust := by
  obtain ⟨l, hl, -⟩ := s.endPauses.journal_eq (.scene c (opsSeq p) p.length) false
  rw [State.keepOps, hl]
  rfl

@[simp] theorem State.keepOps_viol : (s.keepOps c p prot place).cellar.viol = s.cellar.viol := by
  obtain ⟨l, hl, hv⟩ := s.endPauses.journal_eq (.scene c (opsSeq p) p.length) false
  rw [State.keepOps, hl]
  exact hv

@[simp] theorem State.keepOps_boxes : (s.keepOps c p prot place).boxes = s.boxes := by
  obtain ⟨l, hl, -⟩ := s.endPauses.journal_eq (.scene c (opsSeq p) p.length) false
  rw [State.keepOps, hl]
  rfl

end Sys2Proof.Machine
end

section
/-! PROOF. The next packet of a submission, from its framing to what follows it (R92, R125 to R127, R142). -/
namespace Sys2Proof.Machine

variable {s : State} {c n : Nat} {bytes p m : List Byte} {b : Submission} {rest : List Submission} {base : Option Nat}
  {prot : Bool} {place : List Nat × Nat × Nat}

/-! ### What an accepted packet leaves -/

theorem Submission.note_tally (b : Submission) (p : List Byte) :
    (b.note p).order = b.order ∧ (b.note p).accepted = b.accepted ∧ (b.note p).discarded = b.discarded := by
  unfold Submission.note
  split <;> exact ⟨rfl, rfl, rfl⟩

theorem State.kept_length (hc : c < s.chans.length) :
    c < ((s.keepOps c p prot place).forwardOps c p).chans.length := by
  rwa [State.chans_length_of_around (c := c) (s := s) fun u => by simp]

/-- In a channel that is not protected a packet joins the open commit; a COMMIT_MARK closes it with all its packets. -/
theorem State.takeOps_stream (hc : c < s.chans.length) : ((s.takeOps c p false base place).chan c).stream =
    if opsType p = 5 then { (s.chan c).stream with
      openPkts := [], lastSeq := opsSeq p,
      commits := (s.chan c).stream.commits ++ [(s.chan c).openPkts ++ [(s.chan c).packet p place]] }
    else { (s.chan c).stream with
      openPkts := (s.chan c).openPkts ++ [(s.chan c).packet p place], lastSeq := opsSeq p } := by
  have hkeep := State.keepOps_stream (p := p) (prot := false) (place := place) hc
  have halone : (s.chan c).orphanTag p false = false := rfl
  rw [halone, if_neg Bool.false_ne_true] at hkeep
  split
  · next h5 => rw [State.takeOps_mark h5, State.closeScene_stream (State.kept_length hc), State.forwardOps_stream, hkeep]
  · next h5 => rw [State.takeOps_open h5, State.forwardOps_stream, hkeep]

theorem State.takeOps_subs (hc : c < s.chans.length) (hs : (s.chan c).subs = b :: rest) :
    ∃ q, ((s.takeOps c p false base place).chan c).subs = q :: rest ∧ q.order = b.order ∧ q.accepted = b.accepted + 1
      ∧ q.discarded = b.discarded := by
  obtain ⟨q, hq, hord, hacc, hdis⟩ := State.keepOps_subs (p := p) (prot := false) (place := place) hc hs
  rw [← State.forwardOps_subs (s.keepOps c p false place) c p] at hq
  by_cases h5 : opsType p = 5
  · rw [State.takeOps_mark h5]
    obtain ⟨q', hq', hord', hacc', hdis'⟩ := State.closeScene_subs (base := base) (State.kept_length hc) p hq
    exact ⟨q', hq', hord'.trans hord, hacc'.trans hacc, hdis'.trans hdis⟩
  · rw [State.takeOps_open h5]
    exact ⟨q, hq, hord, hacc, hdis⟩

@[simp] theorem State.closeScene_trust (m : List Byte) : (s.closeScene c m base).trust = s.trust := rfl
@[simp] theorem State.closeScene_cellar (m : List Byte) : (s.closeScene c m base).cellar = s.cellar := rfl
@[simp] theorem State.closeScene_boxes (m : List Byte) : (s.closeScene c m base).boxes = s.boxes := rfl

@[simp] theorem State.takeOps_trust : (s.takeOps c p false base place).trust = s.trust := by
  by_cases h5 : opsType p = 5
  · simp [State.takeOps_mark h5]
  · simp [State.takeOps_open h5]

@[simp] theorem State.takeOps_boxes : (s.takeOps c p false base place).boxes = s.boxes := by
  by_cases h5 : opsType p = 5
  · simp [State.takeOps_mark h5]
  · simp [State.takeOps_open h5]

/-- An update of a session, by its number, reads back. -/
theorem State.sessionOf_modSession (s : State) (k : Nat) (g : Session → Session) (hg : ∀ x, (g x).num = x.num) :
    (s.modSession k g).sessionOf k = (s.sessionOf k).map g := by
  have hnum : (fun x : Session => (if x.num = k then g x else x).num == k) = fun x => x.num == k := by
    funext x
    split <;> simp [hg]
  simp only [State.sessionOf, State.modSession, State.modTrust_trust, List.find?_map, Function.comp_def, hnum]
  cases h : s.trust.sessions.find? fun x => x.num == k with
  | none => rfl
  | some x => simpa using fun hne => absurd (by simpa using List.find?_some h) hne

section
variable (h6 : opsType p = 6) (hm : (s.chan c).covered = some m)
include h6 hm

theorem State.takeOps_tag_viol : (s.takeOps c p true base place).cellar.viol = s.cellar.viol := by
  rw [State.takeOps_tag h6 hm]
  repeat' split
  all_goals simp [State.keepTag, State.modSession]

theorem State.takeOps_tag_trust : (s.takeOps c p true base place).trust =
    (s.modSession (nAt p 0x10 2) (Session.raise (nAt p 0x18 8))).trust := by
  rw [State.takeOps_tag h6 hm]
  repeat' split
  all_goals simp [State.keepTag, State.modSession]

/-- With its tag a mark closes the open commit, unless what R123 skipped makes it stand alone. -/
theorem State.takeOps_tag_stream (hc : c < s.chans.length) :
    ((s.takeOps c p true base place).chan c).lastSeq = opsSeq p ∧
      (opsType m = 5 → ((s.takeOps c p true base place).chan c).openPkts = [] ∨ (s.chan c).orphan = true) := by
  have hkeep := congrArg Stream.lastSeq (State.keepOps_stream (p := p) (prot := true) (place := place) hc)
  have hsent : ((((s.keepTag c p place).forwardOps c m).forwardOps c p).chan c).stream
      = ((s.keepOps c p true place).chan c).stream := by
    rw [State.forwardOps_stream, State.forwardOps_stream]
    rfl
  have hlen : c < (((s.keepTag c p place).forwardOps c m).forwardOps c p).chans.length := by
    rwa [State.chans_length_of_around (c := c) (s := s) fun u => by simp [State.keepTag]]
  rw [State.takeOps_tag h6 hm]
  split
  · next ho => exact ⟨hkeep, fun _ => .inr ho⟩
  · split
    · have hclosed := State.closeScene_stream (base := base) hlen m
      exact ⟨(congrArg Stream.lastSeq hclosed).trans ((congrArg Stream.lastSeq hsent).trans hkeep),
        fun _ => .inl (congrArg Stream.openPkts hclosed)⟩
    · next h5 => exact ⟨(congrArg Stream.lastSeq hsent).trans hkeep, fun h => absurd h h5⟩

end

/-- A channel that was not paused pauses for store room (R129). -/
theorem State.pauseOps_chan (hc : c < s.chans.length) (hp : (s.chan c).paused = none) :
    (s.pauseOps c p).chan c = { s.chan c with paused := some (s.us, opsSeq p, p.length) } := by
  have hnow : s.pausedNow c = false := by simp [State.pausedNow, hp]
  rw [State.pauseOps, hnow, if_neg Bool.false_ne_true]
  exact State.chan_modChan_self s c _ hc

/-! ### The next packet of a submission -/

/-- What follows a packet in its submission: nothing while it waits, the next packet, or the end. -/
def State.readOn (c n left : Nat) : State × Ing → State
  | (t, .waits) => t
  | (t, .took) => t.advance c n
  | (t, .ends) => t.advance c left

theorem State.readOn_stream (left : Nat) (r : State × Ing) :
    ((State.readOn c n left r).chan c).stream = (r.1.chan c).stream := by
  obtain ⟨t, _ | _ | _⟩ := r
  · rfl
  · exact t.advance_stream n
  · exact t.advance_stream left

theorem State.readOn_trust (left : Nat) (r : State × Ing) : (State.readOn c n left r).trust = r.1.trust := by
  obtain ⟨t, _ | _ | _⟩ := r
  · rfl
  · exact t.advance_trust n
  · exact t.advance_trust left

theorem State.readOn_viol (left : Nat) (r : State × Ing) : (State.readOn c n left r).cellar.viol = r.1.cellar.viol := by
  obtain ⟨t, _ | _ | _⟩ := r
  · rfl
  · exact t.advance_viol n
  · exact t.advance_viol left

/-- A packet that its channel does not skip, or that ends the skip, at ingest; `left` bytes of the submission are not read. -/
def State.freshPacket (s : State) (c n left : Nat) (p : List Byte) (prot : Bool) : State :=
  State.readOn c n left ((s.modChan c (Channel.unskip p)).freshOps c p prot false none)

theorem State.mayIngest_eq_false (h : (s.chan c).subs = [] ∨ (s.chan c).enabled = false ∨ 8 ≤ (s.chan c).pending.length
    ∨ s.journalRoom = false) : s.mayIngest c = false := by
  unfold State.mayIngest
  dsimp only
  split
  · rfl
  · next hs => obtain h | h | h | h := h <;> simp_all

theorem State.mayIngest_eq_true (hs : (s.chan c).subs = b :: rest) (hen : (s.chan c).enabled = true)
    (hpend : (s.chan c).pending.length < 8) (hroom : s.journalRoom = true) (hpos : b.pos < b.total) :
    s.mayIngest c = true := by
  simp [State.mayIngest, hs, hen, hpend, hroom, hpos]

section
variable (hmay : s.mayIngest c = true) (hc : c < s.chans.length) (hs : (s.chan c).subs = b :: rest)
include hmay hs

theorem State.pos_lt_of_mayIngest : b.pos < b.total := by
  simp only [State.mayIngest, hs, Bool.and_eq_true, decide_eq_true_eq] at hmay
  exact hmay.2

/-- A packet whose read fails is discarded with the open commit, and ends its submission (R125, R127). -/
theorem State.opsPacket_unread (hc : c < s.chans.length) (hskip : (s.chan c).skipping = false) :
    ((s.opsPacket c bytes false).chan c).stream = { (s.chan c).stream with
        openPkts := [], skipping := true, authSkip := false,
        discarded := min 0xFFFFFFFF ((s.chan c).discarded + ((s.chan c).openPkts.length + 1)) } ∧
      ((s.opsPacket c bytes false).chan c).subs = rest ∧
      b.completes s (s.opsPacket c bytes false) := by
  have hpos := State.pos_lt_of_mayIngest hmay hs
  obtain ⟨seq, hpkt⟩ : ∃ seq, s.opsPacket c bytes false = (s.failOps c 2 seq 1 true).advance c (b.total - b.pos) :=
    ⟨_, by simp [State.opsPacket, hs, hmay, State.unframed, hskip]; rfl⟩
  obtain ⟨q, hq, hord⟩ := State.failOps_subs s hc hs 2 seq 1 true
  obtain ⟨hfunc, hid, htotal, hqpos⟩ : q.func = b.func ∧ q.cmdId = b.cmdId ∧ q.total = b.total ∧ q.pos = b.pos := by
    simpa [Submission.order] using hord
  have haround (u : State) := State.failOps_around s u c 2 seq 1 true
  have hlen : c < (s.failOps c 2 seq 1 true).chans.length := by rwa [State.chans_length_of_around haround]
  have hend : q.total ≤ q.pos + (b.total - b.pos) := by omega
  obtain ⟨hrest, hposts⟩ := State.advance_of_le _ hlen hq hend
  have hring := s.failOps_cqRing (c := c) 2 seq 1 true b.func
  simp only [Letterbox.cqRing, Prod.mk.injEq] at hring
  rw [hpkt, State.advance_stream, State.failOps_stream s hc]
  rw [Submission.completes, hfunc, hid, State.boxes_length_of_around haround, hring.1, hring.2] at hposts
  exact ⟨rfl, hrest, hposts⟩

end

section
variable (hmay : s.mayIngest c = true) (hc : c < s.chans.length) (hs : (s.chan c).subs = b :: rest)
  (hn : n = nAt bytes 4 4) (hp : p = bytesAt bytes 0 n) (h8 : n % 8 = 0) (h16 : 16 ≤ n) (hmax : n ≤ 16777216)
  (hleft : n ≤ b.total - b.pos) (htake : (s.chan c).skipping = false ∨ headerPkt p = true)
include hmay hc hs hn hp h8 h16 hmax hleft htake

/-- A packet that can be framed and is not skipped is judged afresh, with the skip over (R123 to R126). -/
theorem State.opsPacket_fresh : s.opsPacket c bytes true =
    s.freshPacket c n (b.total - b.pos) p (s.protectedChan c) := by
  have hframed : ¬(b.total - b.pos < 16 ∨ n % 8 ≠ 0 ∨ n < 16 ∨ 16777216 < n ∨ b.total - b.pos < n) := by omega
  have htaken : (((s.noteTag c p).chan c).skipping && !headerPkt p) = false := by
    rw [State.noteTag_eq, State.chan_modChan_self _ _ _ hc, Channel.modSub_eq]
    obtain h | h := htake <;> simp [h]
  have hfresh : (s.noteTag c p).ingestOps c p (s.protectedChan c) false none
      = (s.modChan c (Channel.unskip p)).freshOps c p (s.protectedChan c) false none := by
    rw [State.ingestOps, htaken, if_neg Bool.false_ne_true, State.noteTag_unskip]
  have hprot : (s.noteTag c p).protectedChan c = s.protectedChan c := by rw [State.noteTag_eq]; rfl
  rw [State.freshPacket, ← hfresh]
  simp only [State.opsPacket, hs, hmay, ← hn, ← hp, hframed, Bool.not_true, Bool.false_eq_true, if_false]
  rcases (s.noteTag c p).ingestOps c p (s.protectedChan c) false none with ⟨t, _ | _ | _⟩ <;> rfl

end

section
variable (hc : c < s.chans.length)
include hc

/-- A packet that fails a check of R126 is discarded with the open commit, and counted; the channel skips (R125). -/
theorem State.freshPacket_of_cause (left : Nat) (prot : Bool) (h : s.opsCause c false p ≠ 0) :
    ((s.freshPacket c n left p prot).chan c).stream = { (s.chan c).stream with
        openPkts := [], skipping := true, authSkip := false,
        discarded := min 0xFFFFFFFF ((s.chan c).discarded + ((s.chan c).openPkts.length + 1)) } ∧
      (s.freshPacket c n left p prot).cellar.viol = s.cellar.viol ∧ (s.freshPacket c n left p prot).trust = s.trust := by
  rw [← s.unskip_opsCause hc p] at h
  unfold State.freshPacket
  rw [State.readOn_stream, State.readOn_viol, State.readOn_trust, State.freshOps_of_cause h,
    State.failOps_stream _ (by simpa using hc), State.failOps_viol, State.failOps_trust, State.chan_modChan_self _ _ _ hc]
  exact ⟨rfl, rfl, rfl⟩

section
variable (hcause : s.opsCause c false p = 0)
include hcause

/-- A packet for which the store has no room pauses its channel, and is not read (R129). -/
theorem State.freshPacket_full (left : Nat) (hplace : s.storePlace c p.length = none) (hpaused : (s.chan c).paused = none) :
    (s.freshPacket c n left p false).chan c
      = { (s.chan c).unskip p with paused := some (s.us, opsSeq p, p.length) } := by
  rw [← s.unskip_opsCause hc p] at hcause
  rw [← s.unskip_storePlace hc p] at hplace
  unfold State.freshPacket
  rw [State.freshOps_full hcause hplace, State.readOn, State.pauseOps_chan (by simpa using hc),
    State.chan_modChan_self _ _ _ hc]
  · rfl
  · rwa [State.chan_modChan_self _ _ _ hc]

/-- An accepted packet of a channel that is not protected joins the open commit, which a mark closes; the submission reads on
(R115 to R121, R482). -/
theorem State.freshPacket_open (hs : (s.chan c).subs = b :: rest) (hplace : s.storePlace c p.length = some place)
    (left : Nat) :
    ((s.freshPacket c n left p false).chan c).stream =
        (if opsType p = 5 then { (s.chan c).stream with
          openPkts := [], skipping := false, authSkip := false, lastSeq := opsSeq p,
          commits := (s.chan c).stream.commits ++ [(s.chan c).openPkts ++ [(s.chan c).packet p place]] }
        else { (s.chan c).stream with
          openPkts := (s.chan c).openPkts ++ [(s.chan c).packet p place], skipping := false, authSkip := false,
          lastSeq := opsSeq p }) ∧
      (s.freshPacket c n left p false).trust = s.trust ∧
      (b.pos + n < b.total → ∃ q, ((s.freshPacket c n left p false).chan c).subs = q :: rest ∧ q.pos = b.pos + n
        ∧ q.accepted = b.accepted + 1 ∧ q.discarded = b.discarded) ∧
      (b.total ≤ b.pos + n → ((s.freshPacket c n left p false).chan c).subs = rest ∧
        b.completes s (s.freshPacket c n left p false)) := by
  rw [← s.unskip_opsCause hc p] at hcause
  rw [← s.unskip_storePlace hc p] at hplace
  have hchan := State.chan_modChan_self s c (Channel.unskip p) hc
  have hc' : c < (s.modChan c (Channel.unskip p)).chans.length := by simpa using hc
  have hs' : ((s.modChan c (Channel.unskip p)).chan c).subs = b.note p :: rest := by
    rw [hchan, Channel.unskip, hs, List.modifyHead_cons]
  obtain ⟨hord, hacc, hdis⟩ := b.note_tally p
  obtain ⟨q, hq, hqord, hqacc, hqdis⟩ := State.takeOps_subs (p := p) (base := none) (place := place) hc' hs'
  obtain ⟨hfunc, hid, htotal, hpos⟩ : q.func = b.func ∧ q.cmdId = b.cmdId ∧ q.total = b.total ∧ q.pos = b.pos := by
    simpa [Submission.order] using hqord.trans hord
  have hlen : c < ((s.modChan c (Channel.unskip p)).takeOps c p false none place).chans.length := by
    rwa [State.chans_length_of_around (c := c) (s := s) fun u => by simp]
  have hread : s.freshPacket c n left p false
      = ((s.modChan c (Channel.unskip p)).takeOps c p false none place).advance c n := by
    rw [State.freshPacket, State.freshOps_open hcause hplace, State.readOn]
  rw [hread]
  refine ⟨?_, ?_, fun hlt => ?_, fun hle => ?_⟩
  · rw [State.advance_stream, State.takeOps_stream hc', hchan]
    rfl
  · rw [State.advance_trust, State.takeOps_trust, State.modChan_trust]
  · have hsubs := State.advance_subs_of_lt _ hlen hq (n := n) (by omega)
    exact ⟨_, hsubs, congrArg (· + n) hpos, hqacc.trans (congrArg (· + 1) hacc), hqdis.trans hdis⟩
  · have hdone := State.advance_of_le _ hlen hq (n := n) (by omega)
    rwa [Submission.completes, hfunc, hid, State.box, State.takeOps_boxes] at hdone

/-- A tag out of place breaks R122: the open commit is dropped, and one violation counted, with nothing discarded (R123). -/
theorem State.freshPacket_badTag (left : Nat) (h6 : opsType p = 6)
    (hbad : (s.chan c).covered = none ∨ ∃ m, (s.chan c).covered = some m ∧ s.opsTagOk c m p = false) :
    ((s.freshPacket c n left p true).chan c).stream
        = { (s.chan c).stream with openPkts := [], skipping := true, authSkip := true } ∧
      (s.freshPacket c n left p true).cellar.viol = (s.violate 5).cellar.viol ∧
      (s.freshPacket c n left p true).trust = s.trust := by
  rw [← s.unskip_opsCause hc p] at hcause
  have hchan := State.chan_modChan_self s c (Channel.unskip p) hc
  have hbad' : ((s.modChan c (Channel.unskip p)).chan c).covered = none ∨
      ∃ m, ((s.modChan c (Channel.unskip p)).chan c).covered = some m
        ∧ (s.modChan c (Channel.unskip p)).opsTagOk c m p = false := by
    simpa only [hchan, s.unskip_opsTagOk hc p, Channel.unskip] using hbad
  unfold State.freshPacket
  rw [State.readOn_stream, State.readOn_viol, State.readOn_trust, State.freshOps_badTag hcause h6 hbad',
    State.breakAuth_stream _ (by simpa using hc), State.breakAuth_cellar, State.breakAuth_trust, hchan]
  exact ⟨rfl, rfl, rfl⟩

/-- A good tag moves its session's number on, and closes the open commit where its packet is a mark (R121, R122). -/
theorem State.freshPacket_goodTag (left : Nat) (h6 : opsType p = 6) (hm : (s.chan c).covered = some m)
    (hok : s.opsTagOk c m p = true) (hplace : s.storePlace c p.length = some place) :
    (s.freshPacket c n left p true).cellar.viol = s.cellar.viol ∧
      (s.freshPacket c n left p true).trust
        = (s.modSession (nAt p 0x10 2) (Session.raise (nAt p 0x18 8))).trust ∧
      ((s.freshPacket c n left p true).chan c).lastSeq = opsSeq p ∧
      (opsType m = 5 → ((s.freshPacket c n left p true).chan c).openPkts = [] ∨ (s.chan c).orphan = true) := by
  rw [← s.unskip_opsCause hc p] at hcause
  rw [← s.unskip_storePlace hc p] at hplace
  rw [← s.unskip_opsTagOk hc p] at hok
  have hchan := State.chan_modChan_self s c (Channel.unskip p) hc
  have hm' : ((s.modChan c (Channel.unskip p)).chan c).covered = some m := by rwa [hchan]
  have hread : s.freshPacket c n left p true
      = ((s.modChan c (Channel.unskip p)).takeOps c p true none place).advance c n := by
    rw [State.freshPacket, State.freshOps_goodTag hcause h6 hm' hok hplace, State.readOn]
  obtain ⟨hlast, hopen⟩ := State.takeOps_tag_stream (base := none) (place := place) h6 hm' (by simpa using hc)
  have hstream := State.advance_stream ((s.modChan c (Channel.unskip p)).takeOps c p true none place) (c := c) n
  rw [hread, State.advance_viol, State.advance_trust, State.takeOps_tag_viol h6 hm', State.takeOps_tag_trust h6 hm']
  rw [hchan] at hopen
  exact ⟨rfl, rfl, (congrArg Stream.lastSeq hstream).trans hlast,
    fun h5 => (hopen h5).imp_left (congrArg Stream.openPkts hstream).trans⟩

end

end

end Sys2Proof.Machine
end

section
/-! PROOF. Ingest of a stream's packets (R115 to R129, R142, R482): each clause is one case of the packet at hand. -/
namespace Sys2Proof.Machine

variable {s : State} {c : Nat}

/-! ### The row's answer -/

/-- The machine with other outputs. -/
def State.withOuts (s : State) (x y : Output) : State := { s with outA := x, outB := y }

/-- Before a TILE_GROUP the outputs alone move on (R142). -/
theorem State.beforeIngest_eq (s : State) (bytes : List Byte) :
    ∃ x y, s.beforeIngest bytes = s.withOuts x y := by
  unfold State.beforeIngest
  split
  · exact ⟨_, _, rfl⟩
  · exact ⟨_, _, rfl⟩

theorem exec_opsPacket (h : s.mayIngest c = true) (bytes : List Byte) :
    ∃ x y, ∀ ok, exec (.opsPacket c bytes ok) s
      = .next ((s.withOuts x y).opsPacket c bytes ok) := by
  obtain ⟨x, y, hxy⟩ := s.beforeIngest_eq bytes
  refine ⟨x, y, fun ok => ?_⟩
  change execOpsPacket c bytes ok s = _
  rw [execOpsPacket, if_pos h, hxy]

theorem exec_opsPacket_idle (h : s.mayIngest c = false) (bytes : List Byte) (ok : Bool) :
    exec (.opsPacket c bytes ok) s = .next s := by
  change execOpsPacket c bytes ok s = _
  rw [execOpsPacket, h, if_neg Bool.false_ne_true]

/-- After a good tag its session stands at the tag's number. -/
theorem State.highSeq_of_tag {t : State} {m p : List Byte} (hok : s.opsTagOk c m p = true)
    (htrust : t.trust = (s.modSession (nAt p 0x10 2) (Session.raise (nAt p 0x18 8))).trust) :
    (t.sessionOf (nAt p 0x10 2)).map (·.highSeq) = some (nAt p 0x18 8) := by
  have hread := s.sessionOf_modSession (nAt p 0x10 2) (Session.raise (nAt p 0x18 8)) fun _ => rfl
  rw [State.sessionOf, htrust, ← State.sessionOf, hread]
  cases h : s.sessionOf (nAt p 0x10 2) with
  | none => simp [State.opsTagOk, h] at hok
  | some x => rfl

/-- Settles O56: each clause is the case of `freshPacket` that its packet falls into, or the failed read, with the outputs
moved on before. -/
theorem packetsAreIngested : Obligations.PacketsAreIngested := by
  unfold Obligations.PacketsAreIngested
  rintro c n bytes p b rest _ s rfl
  refine ⟨fun hidle => exec_opsPacket_idle (State.mayIngest_eq_false hidle) bytes, fun hs hc hen hpend hroom hpos => ?_⟩
  have hmay := State.mayIngest_eq_true hs hen hpend hroom hpos
  obtain ⟨x, y, hexec⟩ := exec_opsPacket hmay bytes
  refine ⟨fun ok => ⟨_, hexec ok, State.frame_of_around ((State.opsPacket_around ..).trans ?_)⟩,
    fun hskip => ⟨_, hexec false, ?_⟩, fun hn hp h8 h16 hmax hleft htake => ?_⟩
  · exact State.around_congr rfl rfl rfl
  · obtain ⟨hstream, hsubs, hposts⟩ :=
      State.opsPacket_unread (s := s.withOuts x y) (bytes := bytes) hmay hs hc hskip
    exact ⟨congrArg Stream.openPkts hstream, congrArg Stream.skipping hstream, hsubs, congrArg Stream.discarded hstream,
      hposts⟩
  have hfresh : exec (.opsPacket c bytes true) s = .next ((s.withOuts x y).freshPacket c n
      (b.total - b.pos) p (s.protectedChan c)) := by
    rw [hexec]
    exact congrArg _ (State.opsPacket_fresh hmay hc hs hn hp h8 h16 hmax hleft htake)
  have hlen : p.length = n := by rw [hp, bytesAt_length]
  refine ⟨fun hcause => ⟨_, hfresh, ?_⟩, fun hcause hprot => ⟨fun place off hplace hoff => ⟨_, hfresh, ?_⟩,
    fun hplace hpaused => ⟨_, hfresh, ?_⟩⟩, fun hcause hprot h6 => ⟨fun hbad => ⟨_, hfresh, ?_⟩,
    fun m place hm hok hplace => ⟨_, hfresh, ?_⟩⟩⟩
  · obtain ⟨hstream, hviol, htrust⟩ := State.freshPacket_of_cause (s := s.withOuts x y) (n := n) hc
      (b.total - b.pos) (s.protectedChan c) hcause
    exact ⟨congrArg Stream.openPkts hstream, congrArg Stream.skipping hstream, congrArg Stream.authSkip hstream, hviol,
      htrust, congrArg Stream.discarded hstream⟩
  · rw [hprot]
    obtain ⟨hstream, htrust, hmore, hdone⟩ := State.freshPacket_open (s := s.withOuts x y) (n := n) hc
      hcause hs (hlen ▸ hplace) (b.total - b.pos)
    subst hoff
    by_cases h5 : opsType p = 5
    · rw [if_pos h5] at hstream
      exact ⟨congrArg Stream.lastSeq hstream, congrArg Stream.skipping hstream, htrust, congrArg Stream.discarded hstream,
        fun h => absurd h5 h, fun _ => ⟨congrArg Stream.openPkts hstream, congrArg Stream.commits hstream⟩, hmore, hdone⟩
    · rw [if_neg h5] at hstream
      exact ⟨congrArg Stream.lastSeq hstream, congrArg Stream.skipping hstream, htrust, congrArg Stream.discarded hstream,
        fun _ => ⟨congrArg Stream.openPkts hstream, congrArg Stream.commits hstream⟩, fun h => absurd h h5, hmore, hdone⟩
  · rw [hprot]
    have hchan := State.freshPacket_full (s := s.withOuts x y) (n := n) hc hcause (b.total - b.pos)
      (hlen ▸ hplace) hpaused
    rw [hchan, hlen]
    refine ⟨rfl, rfl, _, congrArg (List.modifyHead _) hs, ?_⟩
    simpa [Submission.order] using congrArg (·.2.2.2) (b.note_tally p).1
  · rw [hprot]
    obtain ⟨hstream, hviol, htrust⟩ := State.freshPacket_badTag (s := s.withOuts x y) (n := n) hc hcause
      (b.total - b.pos) h6 hbad
    exact ⟨congrArg Stream.openPkts hstream, congrArg Stream.skipping hstream, congrArg Stream.authSkip hstream, hviol,
      htrust, congrArg Stream.discarded hstream⟩
  · rw [hprot]
    obtain ⟨hviol, htrust, hlast, hopen⟩ := State.freshPacket_goodTag (s := s.withOuts x y) (n := n) hc
      hcause (b.total - b.pos) h6 hm hok (hlen ▸ hplace)
    exact ⟨hviol, State.highSeq_of_tag hok htrust, hlast, hopen⟩

end Sys2Proof.Machine
end

section
/-! PROOF. Frames of a small panel (R82, R84), for the states that the refutations below run. -/
namespace Sys2Proof.Machine

/-- A panel of one hogel with two views in a row, whose view division is 1 (R82): both slots form one replication group. -/
def twoViewMode : ModeCfg :=
  { hx := 2, hy := 1, w := 1, h := 1, div := 1, ray24 := true, rate := 60, slots := 0, scale := 0, pmax := 0, vmin := 500,
    vmax := 1000 }

/-- Frame 1 of that panel with effective slot codes `slots` and so many mixed replication groups. -/
def twoViewFrame (slots : Table Nat) (mixed : Nat) : FrameInfo :=
  { frame := 1, mode := twoViewMode, syn := [], slots := slots, lit := [], pat := 0, scenes := [], ids := [], fps := [],
    hdr := 0, budget := 0, locked := false, ramp := 256, rayOn := false, rayNew := 0, rayOld := 0, unifOn := [],
    unifNew := [], unifOld := [], source := 0, step := 0, confl := mixed, ring := false, wx := 0, wy := 0 }

end Sys2Proof.Machine
end

section
/-! PROOF. A composer meets an uncorrectable word of a layer while another fault is handled, on a machine with more slices
than an E2 has (R157, R200, R557, R572). -/
namespace Sys2Proof.Machine

theorem exec_frontPlaneRow (o : OutId) (y c : Nat) (flip : Word) (s : State) :
    exec (.frontPlaneRow o y c flip) s = .next (s.frontPlane o y c flip) := rfl

/-- Band 0 of frame 1, whose only span has been dispatched and whose rows channel 0 still lacks. -/
def dispatchedBand : Band :=
  { frame := 1, y := 0, expanded := [], prepDone := [], composed := [], cap := some 16, late := [], spans := [], undone := 1 }

/-- The span of that band, on a slice. -/
def dispatchedSpan : Span := { out := .A, frame := 1, row := 0, first := 0, len := 1, cap := 16, late := [], since := 0 }

/-- IS36 in the doorway protocol, swapped to frame 1 of output A; its layer 0 of channel 0 shows one texel, at address 0. -/
def layerLanding : Landing :=
  { Landing.reset true with
    inProtocol := true, swapA := 1
    sets := [{ blk := .cmp, out := .A, port := 0, cid := 1, frame := 1, words := [(0x1000, 0xFF02), (0x1008, 0x10001)] }] }

/-- A recovery of IS00, whose fault is being handled (R557). -/
def sliceRecovery : Recovery :=
  { island := 0, code := 0x201, logSeq := 0, resetAt := 0, replayed := false, rejoin := none, store := false }

/-- A machine with 37 slices, where an E2 has 32: the last, which bears IS36's number, holds the span of output A's band. The
word at address 0 is uncorrectable. -/
def spareSlices : State :=
  { State.reset with
    landings := State.reset.landings.set 36 layerLanding
    slices := List.replicate 36 none ++ [some dispatchedSpan]
    outA := { Output.reset with bands := [dispatchedBand], frames := [twoViewFrame [(0, 0), (1, 0)] 0] }
    cellar := { Cellar.reset with recov := [sliceRecovery] }
    dram := { Dram.reset with badWords := [0] } }

/-- The layer's fault 0x0301 is raised to FC3, so IS36 recovers, and the slice of its number gives its span back to the
band. -/
theorem spareSlices_spans :
    (spareSlices.frontPlane .A 0 0 0).outA.bands.map (·.spans) = [[(0, 0)]] := by decide

/-- Refutes O41 in `Clause.FrontPlanesAreComposed`: the clause lets a front plane row change a band by no more than the channel
composed, yet a layer read error that is raised to FC3 resets IS36 + c, and what a slice of that number held is pending again in
its band. An E2 has no such slice (`State.Inv`); the statement speaks of every state. -/
theorem not_bandsAreMade : ¬ Obligations.BandsAreMade := by
  rintro ⟨-, hfront, -⟩
  obtain ⟨-, hband⟩ := hfront .A 0 0 0 spareSlices
  obtain ⟨-, hcompose⟩ := hband dispatchedBand (twoViewFrame [(0, 0), (1, 0)] 0) (by decide) (by decide)
  obtain ⟨t, ht, hbands, -⟩ := hcompose (by decide) (by decide) (by decide) (by decide)
  rw [exec_frontPlaneRow] at ht
  cases ht
  have hspans := congrArg (List.map (·.spans)) hbands
  exact absurd (spareSlices_spans.symm.trans hspans) (by decide)

end Sys2Proof.Machine
end

section
/-! PROOF. A frame that starts with a mixed replication group raises its SLOT_CONFLICT event (R84, R161, R473). -/
namespace Sys2Proof.Machine

theorem exec_frameStart (o : OutId) (s : State) : exec (.frameStart o) s = .next (s.frameStart o) := rfl

/-- The PF's letterbox with an event ring of 16 entries and the mask bit of area 3, to which SLOT_CONFLICT belongs (R473). -/
def eventBox : Letterbox := { Letterbox.reset true with eqEn := true, eqSize := 16, evMask := 8 }

/-- An E2 whose output A may start frame 1. The frame's one replication group is mixed: both views are drawn as guard, and no
channel's band is waited for. -/
def mixedStart : State :=
  { State.reset with
    boxes := State.reset.boxes.set 0 eventBox
    commits := { State.reset.commits with
      doors := [(.A, { closeN := 1, closeClk := 0, closing := false, swapN := 1, joint := false, late := [] }),
                (.B, State.reset.door .B)] }
    outA := { Output.reset with frames := [twoViewFrame [] 1] }
    power := { Power.reset with hearth := true } }

theorem mixedStart_inv : mixedStart.Inv := ⟨by decide, by decide⟩

theorem mixedStart_startOuts : mixedStart.startOuts .A = [.A] := by decide

/-- The start posts one event to the PF. -/
theorem mixedStart_event : ((mixedStart.frameStart .A).box 0).evSeq = 1 := by decide

/-- Refutes O43 in `Clause.FramesStart`: its frame for a start that is not forced leaves out the letterboxes, yet a frame that
starts with a mixed replication group raises SLOT_CONFLICT (R84), which enters the PF's event ring. -/
theorem not_framesStartAndEnd : ¬ Obligations.FramesStartAndEnd := by
  rintro ⟨hstart, -⟩
  obtain ⟨-, -, -, hruns, -⟩ := hstart .A [.A] 1 mixedStart mixedStart_startOuts.symm (by decide)
  obtain ⟨t, ht, -, -, hframe⟩ := hruns (.inl (by decide)) (by decide) (by decide) (by decide)
  rw [exec_frameStart] at ht
  cases ht
  have hbox : ((mixedStart.frameStart .A).box 0).evSeq = (mixedStart.box 0).evSeq :=
    congrArg (fun t => (t.box 0).evSeq) hframe
  exact absurd (mixedStart_event.symm.trans hbox) (by decide)

end Sys2Proof.Machine
end

section
/-! PROOF. A step with no command waiting is one cycle of Cellar's crystal (R218), which enters OFF-HOLD where VMAIN is still
missing 100 ms after VAUX became valid (R621, R643). -/
namespace Sys2Proof.Machine

/-! ### Entry into SS4 -/

@[simp] theorem State.requeue_cellar (s : State) (slice : Nat) : (s.requeue slice).cellar = s.cellar := by
  unfold State.requeue
  split <;> simp

@[simp] theorem State.domainsOff_cellar (s : State) (keep : List Nat) : (s.domainsOff keep).cellar = s.cellar := by
  refine foldl_keeps State.cellar _ (fun a k => ?_) _ _
  by_cases hk : k ∈ keep <;> simp [hk]

@[simp] theorem State.forceMessage_cellar (s : State) (m : Nat) : (s.forceMessage m).cellar = s.cellar := by
  unfold State.forceMessage
  split <;> rfl

@[simp] theorem State.drivePsafe_cellar (s : State) : s.drivePsafe.cellar = s.cellar := rfl

@[simp] theorem State.unpowered_cellar (s : State) : s.unpowered.cellar = s.cellar := rfl

@[simp] theorem State.boxesReset_cellar (s : State) : s.boxesReset.cellar = s.cellar := rfl

@[simp] theorem State.dropCommands_cellar (s : State) : s.dropCommands.cellar = s.cellar := rfl

/-- An entry into SS4 that meets SS4 already in force leaves it in force. -/
theorem State.enterSs4_ss4 (s : State) (message counts : Bool) : (s.enterSs4 message counts).cellar.ss4 = true := by
  unfold State.enterSs4
  by_cases h : s.cellar.ss4 = true
  · rw [if_pos h, h]
  · cases message <;> simp [h]

theorem State.goOffHold_ss4 (s : State) : s.goOffHold.cellar.ss4 = true := s.enterSs4_ss4 true false

theorem State.goOffHold_offHold (s : State) : s.goOffHold.power.offHold = true := rfl

/-! ### The tick -/

theorem step_of_no_pending {s : State} (h : s.pending = []) : step s = .next s.tick := by
  unfold step
  rw [h]

/-- Cellar held in reset has no clock (R619). -/
theorem State.tick_of_vaux_invalid {s : State} (hv : s.power.vauxValid = false) : s.tick = s := by
  simp [State.tick, idle, hv]

/-- With VMAIN valid, in OFF-HOLD or before the 100 ms of R643 are over, only Cellar time goes on. -/
theorem State.tick_of_vmain_in_time {s : State} (hv : s.power.vauxValid = true)
    (hm : s.power.vmainValid = true ∨ s.power.offHold = true ∨ s.clk + 1 < 2500000) :
    s.tick = { s with clk := s.clk + 1 } := by
  have hi : idle s = { s with clk := s.clk + 1 } := if_pos hv
  unfold State.tick
  rw [hi]
  rcases hm with hm | ho | hc
  · simp [hm]
  · simp [ho]
  · simp [Nat.not_le.mpr hc]

/-- With VMAIN missing as the 100 ms of R643 end, the cycle ends in OFF-HOLD. -/
theorem State.tick_of_vmain_missing {s : State} (hv : s.power.vauxValid = true) (hm : s.power.vmainValid = false)
    (ho : s.power.offHold = false) (hc : 2500000 ≤ s.clk + 1) :
    s.tick = State.goOffHold { s with clk := s.clk + 1 } := by
  have hi : idle s = { s with clk := s.clk + 1 } := if_pos hv
  unfold State.tick
  rw [hi]
  simp [hv, hm, ho, hc]

/-- Settles O2: each clause is one case of the tick, and OFF-HOLD is an entry into SS4 (R621). -/
theorem emptyQueueRunsTheCrystal : Obligations.EmptyQueueRunsTheCrystal := by
  intro s hp
  rw [step_of_no_pending hp]
  refine ⟨fun hv => ?_, fun hv hm => ?_, fun hv hm ho hc => ?_⟩
  · rw [State.tick_of_vaux_invalid hv]
  · rw [State.tick_of_vmain_in_time hv hm]
  · exact ⟨_, congrArg _ (State.tick_of_vmain_missing hv hm ho hc), State.goOffHold_offHold _, State.goOffHold_ss4 _⟩

/-- A delivered E2 with VAUX alone, a number of crystal cycles after it became valid. -/
def vauxAlone (n : Nat) : State := { State.reset with clk := n, power := { Power.reset with vauxValid := true } }

/-- One cycle before the last of the 100 ms, only Cellar time goes on. -/
theorem vauxAlone_waits : step (vauxAlone 2499998) = .next (vauxAlone 2499999) := by
  obtain ⟨-, hrun, -⟩ := emptyQueueRunsTheCrystal (vauxAlone 2499998) rfl
  exact hrun rfl (.inr (.inr (by decide)))

/-- The last cycle of the 100 ms ends in OFF-HOLD with SS4. -/
theorem vauxAlone_enters_offHold :
    ∃ t, step (vauxAlone 2499999) = .next t ∧ t.power.offHold = true ∧ t.cellar.ss4 = true := by
  obtain ⟨-, -, hoff⟩ := emptyQueueRunsTheCrystal (vauxAlone 2499999) rfl
  exact hoff rfl rfl rfl (by decide)

end Sys2Proof.Machine
end

section
/-! PROOF. What taking a fault leaves where it forces no SS4 and resets no island (R555 to R564): the fault log's new entry,
PSAFE, spoiled frames, letterboxes, Cellar's records and the Transom's message, and nothing else. -/
namespace Sys2Proof.Machine

/-! ### What a report leaves -/

/-- A machine with what a report to Cellar works on taken from `b`, or put aside. -/
def State.calm (s b : State) : State :=
  { s with boxes := b.boxes, cellar := b.cellar, mram := b.mram, transom := b.transom,
           linkA := { s.linkA with psafe := false }, linkB := { s.linkB with psafe := false },
           outA := { s.outA with frameOk := false }, outB := { s.outB with frameOk := false } }

/-- What stands around a report, and the fault log. -/
def State.quiet (s b : State) : State × List LogEntry := (s.calm b, s.cellar.log)

section
variable (s b : State)

@[simp] theorem State.modCellar_quiet (g : Cellar → Cellar) (h : ∀ c, (g c).log = c.log) :
    (s.modCellar g).quiet b = s.quiet b := Prod.ext rfl (h s.cellar)

@[simp] theorem State.drivePsafe_quiet : s.drivePsafe.quiet b = s.quiet b := rfl

@[simp] theorem State.eventAll_quiet (code : Nat) (data : List Byte) : (s.eventAll code data).quiet b = s.quiet b := rfl

@[simp] theorem State.spoilFrames_quiet : s.spoilFrames.quiet b = s.quiet b := rfl

@[simp] theorem State.forceMessage_quiet (m : Nat) : (s.forceMessage m).quiet b = s.quiet b := by
  unfold State.forceMessage
  split <;> rfl

@[simp] theorem State.mark_quiet (f : Force) (code : Nat) : (s.mark f code).quiet b = s.quiet b := by
  cases f <;> rfl

@[simp] theorem State.dark_quiet (os : List OutId) (code : Nat) (fc4 message : Bool) :
    (s.dark os code fc4 message).quiet b = s.quiet b := by
  cases message <;> simp [State.dark]

/-- Every safe state below SS4 is forced by markings, causes of SS3, PSAFE and the Transom's message. -/
theorem State.force_quiet {f : Force} (hf : f.level ≠ 4) (code cls : Nat) : (s.force f code cls).quiet b = s.quiet b := by
  cases f with
  | ss4 => exact absurd rfl hf
  | ss4Off => exact absurd rfl hf
  | ss3All => simp [State.force]
  | ss3Quiet => simp [State.force]
  | _ => by_cases h4 : cls = 4 <;> simp [State.force, h4]

theorem State.startRecovery_store_quiet (isl code seq : Nat) : (s.startRecovery isl code seq true).quiet b = s.quiet b := rfl

theorem State.enterLog_quiet (x : FaultIn) :
    (s.enterLog x).quiet b = (s.calm b, logAppend s.cellar.log (s.entryOf x)) := by
  simp only [State.quiet, State.calm, State.enterLog]

end

/-- A report of class FC2 to FC4 that forces no SS4, and whose recovery resets no island, is entered in the log. -/
theorem State.fault_quiet (s b : State) {x : FaultIn} (hlow : 2 ≤ s.classOf x) (hhigh : s.classOf x ≤ 4)
    (hforce : x.force.level ≠ 4) (hstore : recoverable x (s.classOf x) = true → isStore x.code = true) :
    (s.fault x).quiet b = (s.calm b, logAppend s.cellar.log (s.entryOf x)) := by
  have hnew : s.repeated x = none := if_neg (by omega)
  have hf : s.forceOf x = x.force := if_neg (by omega)
  have hmin : min (s.classOf x) 4 = s.classOf x := by omega
  unfold State.fault
  simp only [hnew, hf, hmin]
  split
  case isTrue hrec =>
    rw [hstore hrec.1]
    simp [State.startRecovery_store_quiet, State.force_quiet, hforce, State.enterLog_quiet]
  case isFalse => simp [State.force_quiet, hforce, State.enterLog_quiet]

/-- The parts that a report leaves. -/
theorem State.frame_of_quiet {s t : State} {l : List LogEntry} (h : t.quiet t = (s.calm t, l)) :
    (∀ p, t.link p = { s.link p with psafe := (t.link p).psafe })
      ∧ (∀ p, t.out p = { s.out p with frameOk := (t.out p).frameOk }) ∧ t.clk = s.clk ∧ t.cellar.log = l
      ∧ s.sameButHandling t := by
  have hc : t.calm t = s.calm t := congrArg Prod.fst h
  have hclk : (t.calm t).clk = (s.calm t).clk := by rw [hc]
  refine ⟨fun p => ?_, fun p => ?_, hclk, congrArg Prod.snd h, ?_⟩
  · have hp : ({ t.link p with psafe := false } : Link) = { s.link p with psafe := false } := by
      cases p
      · exact congrArg State.linkA hc
      · exact congrArg State.linkB hc
    calc t.link p = { ({ t.link p with psafe := false } : Link) with psafe := (t.link p).psafe } := rfl
      _ = _ := by rw [hp]
  · have hp : ({ t.out p with frameOk := false } : Output) = { s.out p with frameOk := false } := by
      cases p
      · exact congrArg State.outA hc
      · exact congrArg State.outB hc
    calc t.out p = { ({ t.out p with frameOk := false } : Output) with frameOk := (t.out p).frameOk } := rfl
      _ = _ := by rw [hp]
  · calc t = { t.calm t with outA := t.outA, outB := t.outB, linkA := t.linkA, linkB := t.linkB,
                             landings := t.landings, chans := t.chans, lanes := t.lanes, slices := t.slices } := rfl
      _ = _ := by rw [hc]; rfl

/-! ### Handling -/

theorem State.sameButHandling.trans {s t u : State} (h : s.sameButHandling t) (h' : t.sameButHandling u) :
    s.sameButHandling u := by
  unfold State.sameButHandling at *
  rw [h'.trans (by rw [h])]

theorem State.modLink_sameButHandling (s : State) (o : OutId) (g : Link → Link) : s.sameButHandling (s.modLink o g) := by
  cases o <;> rfl

theorem State.modOut_sameButHandling (s : State) (o : OutId) (g : Output → Output) : s.sameButHandling (s.modOut o g) := by
  cases o <;> rfl

/-! ### The class of a report -/

/-- While nothing is handled, an FC2 fault stays FC2 (R557). -/
theorem State.classOf_fc2 {s : State} {x : FaultIn} (hh : s.handling = false) (hx : x.cls = 2) : s.classOf x = 2 := by
  simp [State.classOf, State.quick, State.classUp, hh, hx]

/-- An FC3 fault is FC3 or FC4 (R557, R558, R574). -/
theorem State.classOf_fc3 (s : State) {x : FaultIn} (hx : x.cls = 3) : 3 ≤ s.classOf x ∧ s.classOf x ≤ 4 := by
  have hup : s.classUp x = 3 ∨ s.classUp x = 4 := by
    unfold State.classUp
    split <;> omega
  unfold State.classOf
  split <;> omega

/-! ### The log -/

theorem mem_logAppend_self (l : List LogEntry) (e : LogEntry) : e ∈ logAppend l e := by
  unfold logAppend
  rw [List.drop_append_of_le_length (by omega)]
  simp

/-- The ring of 256 keeps its newest entry when one more is appended. -/
theorem mem_logAppend_logAppend (l : List LogEntry) (e f : LogEntry) : e ∈ logAppend (logAppend l e) f := by
  unfold logAppend
  rw [List.drop_append_of_le_length (by omega), List.drop_append_of_le_length (by simp)]
  rw [List.drop_append_of_le_length (by simp)]
  simp

/-- The entry of a report is the one that `State.logs` speaks of. -/
theorem State.logs_of_mem {s t : State} {x : FaultIn} (h : s.entryOf x ∈ t.cellar.log) : s.logs t x.code x.island :=
  ⟨_, h, rfl, rfl, rfl, rfl⟩

/-- Where the present time and the next sequence number are the same, the same entry is meant. -/
theorem State.logs.of_eq {s u t : State} {code island : Nat} (h : u.logs t code island)
    (hc : u.cellar.logSeq = s.cellar.logSeq) (hk : u.clk = s.clk) : s.logs t code island := by
  have hus : u.us = s.us := by rw [State.us, State.us, hk]
  unfold State.logs at h ⊢
  rwa [hc, hus] at h

end Sys2Proof.Machine
end

section
/-! PROOF. Backchannel blocks as they arrive, and the tearing-effect indication (R259 to R261, R265, R267, R286). -/
namespace Sys2Proof.Machine

/-! ### Outputs and links read back -/

section
variable (s : State)

@[simp] theorem State.modLink_out (o p : OutId) (g : Link → Link) : (s.modLink o g).out p = s.out p := by
  cases o <;> cases p <;> rfl

@[simp] theorem State.modOut_link (o p : OutId) (g : Output → Output) : (s.modOut o g).link p = s.link p := by
  cases o <;> cases p <;> rfl

@[simp] theorem State.modLane_link (n : Nat) (g : Lane → Lane) (p : OutId) : (s.modLane n g).link p = s.link p := by
  cases p <;> rfl

@[simp] theorem State.modLink_us (o : OutId) (g : Link → Link) : (s.modLink o g).us = s.us := by cases o <;> rfl

@[simp] theorem State.modOut_us (o : OutId) (g : Output → Output) : (s.modOut o g).us = s.us := by cases o <;> rfl

@[simp] theorem State.modLink_handling (o : OutId) (g : Link → Link) : (s.modLink o g).handling = s.handling := by
  simp [State.handling]

@[simp] theorem State.modOut_handling (o : OutId) (g : Output → Output) : (s.modOut o g).handling = s.handling := by
  simp [State.handling]

theorem State.modLink_modLink (o : OutId) (g h : Link → Link) :
    (s.modLink o g).modLink o h = s.modLink o fun l => h (g l) := by
  cases o <;> rfl

/-- PSAFE is no part of a link's state. -/
@[simp] theorem State.drivePsafe_link_st (p : OutId) : (s.drivePsafe.link p).st = (s.link p).st := by
  cases p <;> rfl

end

/-! ### Backchannel blocks (R265, R267, R286) -/

/-- The machine that takes a good message of an output's backchannel: when it was last heard is noted. -/
def State.bcHeard (s : State) (o : OutId) : State := s.modLink o fun l => { l with bcAt := s.clk }

section
variable (s : State) (o : OutId)

theorem State.bcHeard_link : (s.bcHeard o).link o = { s.link o with bcAt := s.clk } := State.modLink_link_self ..

@[simp] theorem State.bcHeard_out (p : OutId) : (s.bcHeard o).out p = s.out p := State.modLink_out ..

@[simp] theorem State.bcHeard_clk : (s.bcHeard o).clk = s.clk := State.modLink_clk ..

@[simp] theorem State.bcHeard_us : (s.bcHeard o).us = s.us := State.modLink_us ..

@[simp] theorem State.bcHeard_cellar : (s.bcHeard o).cellar = s.cellar := State.modLink_cellar ..

@[simp] theorem State.bcHeard_handling : (s.bcHeard o).handling = s.handling := State.modLink_handling ..

end

section
variable {s : State} {o : OutId} {sub : Nat} {b : List Byte} {k : State → State}

/-- Without block lock nothing is heard. -/
theorem State.bcRecv_unlocked (hl : (s.link o).bcLock = false) : s.bcRecv o sub b k = s := by
  simp [State.bcRecv, hl]

/-- A block whose CRC fails is discarded and counted. -/
theorem State.bcRecv_discards (hl : (s.link o).bcLock = true) (hb : ctlOk b = false) : s.bcRecv o sub b k = s.bcDiscard o := by
  simp [State.bcRecv, hl, hb]

/-- A good message of another SUBTYPE is not the row's. -/
theorem State.bcRecv_other (hl : (s.link o).bcLock = true) (hb : ctlOk b = true) (hs : nAt b 0 1 ≠ sub) :
    s.bcRecv o sub b k = s := by
  simp [State.bcRecv, hl, hb, hs]

/-- A good message of the row's SUBTYPE is taken; it also shows that the backchannel is there. -/
theorem State.bcRecv_takes (hl : (s.link o).bcLock = true) (hb : ctlOk b = true) (hs : nAt b 0 1 = sub) :
    s.bcRecv o sub b k = k (s.bcHeard o) := by
  simp [State.bcRecv, State.bcHeard, hl, hb, hs]

end

theorem exec_crcEcho (o : OutId) (b : List Byte) (s : State) : exec (.crcEcho o b) s = .next (s.recvEcho o b) := rfl
theorem exec_statusMsg (o : OutId) (b : List Byte) (s : State) : exec (.statusMsg o b) s = .next (s.recvStatus o b) := rfl

/-- What a backchannel block does as it arrives, by its header: nothing of it is heard without block lock. -/
theorem exec_backchannelBlockDiscard_unlocked {k : BcBlock} {s : State} (hl : (s.link k.out).bcLock = false) :
    exec (.backchannelBlockDiscard k) s = .next s := by
  show execBackchannelBlockDiscard k s = _
  simp [execBackchannelBlockDiscard, hl]

theorem exec_backchannelBlockDiscard_noHeader {k : BcBlock} {s : State} (hl : (s.link k.out).bcLock = true)
    (hh : classHeader k.header = none) : exec (.backchannelBlockDiscard k) s = .next (s.bcDiscard k.out) := by
  show execBackchannelBlockDiscard k s = _
  simp [execBackchannelBlockDiscard, hl, hh]

/-- A block whose header is a codeword is discarded where its CRC fails, and otherwise taken. -/
theorem exec_backchannelBlockDiscard_codeword {k : BcBlock} {s : State} {c : BlockKind} (hl : (s.link k.out).bcLock = true)
    (hh : classHeader k.header = some (c, false)) :
    exec (.backchannelBlockDiscard k) s = .next (if c.hasCrc && !ctlOk k.payload then s.bcDiscard k.out else s) := by
  show execBackchannelBlockDiscard k s = _
  simp [execBackchannelBlockDiscard, hl, hh]

/-- A block whose header is one bit off a codeword is counted, and taken where its CRC is good or it carries none. -/
theorem exec_backchannelBlockDiscard_corrected {k : BcBlock} {s : State} {c : BlockKind} (hl : (s.link k.out).bcLock = true)
    (hh : classHeader k.header = some (c, true)) (hc : c.hasCrc = false ∨ ctlOk k.payload = true) :
    exec (.backchannelBlockDiscard k) s = .next (s.modLink k.out fun l => { l with bcFixed := l.bcFixed + 1 }) := by
  show execBackchannelBlockDiscard k s = _
  rcases hc with hc | hc <;> simp [execBackchannelBlockDiscard, hl, hh, hc]

/-- Each row that takes a backchannel message judges it by `State.bcRecv`. -/
theorem backchannelMessagesAreChecked : Clause.BackchannelMessagesAreChecked := by
  rintro o b k s rfl
  refine ⟨fun hl => ?_, fun hl u hu => ?_, fun hl c hc => ?_, fun hl hb => ?_⟩
  · have hr (sub : Nat) (f : State → State) : s.bcRecv k.out sub b f = s := State.bcRecv_unlocked hl
    exact ⟨congrArg _ (hr ..), congrArg _ (hr ..), congrArg _ (hr ..), congrArg _ (hr ..), congrArg _ (hr ..),
      congrArg _ (hr ..), exec_backchannelBlockDiscard_unlocked hl⟩
  · have hd : s.bcDiscard k.out = u := hu.symm
    refine ⟨fun hh => ?_, fun c hh hc hp => ?_, fun hb => ?_⟩
    · rw [exec_backchannelBlockDiscard_noHeader hl hh, hd]
    · rw [exec_backchannelBlockDiscard_codeword hl hh]
      simp [hc, hp, hd]
    · have hr (sub : Nat) (f : State → State) : s.bcRecv k.out sub b f = u := (State.bcRecv_discards hl hb).trans hd
      exact ⟨congrArg _ (hr ..), congrArg _ (hr ..), congrArg _ (hr ..), congrArg _ (hr ..), congrArg _ (hr ..),
        congrArg _ (hr ..)⟩
  · refine ⟨fun hh => ?_, fun hh => exec_backchannelBlockDiscard_corrected hl hh hc⟩
    rw [exec_backchannelBlockDiscard_codeword hl hh]
    rcases hc with hc | hc <;> simp [hc]
  · have hr {sub : Nat} (f : State → State) (hs : nAt b 0 1 ≠ sub) : s.bcRecv k.out sub b f = s :=
      State.bcRecv_other hl hb hs
    exact ⟨fun h => congrArg _ (hr _ h), fun h => congrArg _ (hr _ h), fun h => congrArg _ (hr _ h),
      fun h => congrArg _ (hr _ h), fun h => congrArg _ (hr _ h), fun h => congrArg _ (hr _ h)⟩

/-! ### The tearing-effect indication (R259 to R261) -/

/-- What is noted of the indication is since when it permits a start. -/
theorem State.noteTe_out (s t : State) (p : OutId) :
    (s.noteTe t).out p = { t.out p with teOpen := ((s.noteTe t).out p).teOpen } := by
  simp only [State.noteTe, List.foldl]
  split <;> split <;> cases p <;> rfl

theorem State.noteTe_eq (s t : State) : s.noteTe t = { t with outA := (s.noteTe t).outA, outB := (s.noteTe t).outB } := by
  simp only [State.noteTe, List.foldl]
  split <;> split <;> rfl

theorem State.modOut_out_other (s : State) (o : OutId) (g : Output → Output) :
    (s.modOut o g).out o.other = s.out o.other := by
  cases o <;> rfl

/-- A change of an output's indication is that output's update, but for since when a start is permitted. -/
theorem State.teChange_out (s : State) (o : OutId) (g : Output → Output) :
    (s.teChange o g).out o = { g (s.out o) with teOpen := ((s.teChange o g).out o).teOpen } :=
  (State.noteTe_out ..).trans (by rw [State.modOut_out_self]; rfl)

/-- Of the other output it leaves all but that. -/
theorem State.teChange_out_other (s : State) (o : OutId) (g : Output → Output) :
    (s.teChange o g).out o.other = { s.out o.other with teOpen := ((s.teChange o g).out o.other).teOpen } :=
  (State.noteTe_out ..).trans (by rw [State.modOut_out_other]; rfl)

theorem State.teChange_eq (s : State) (o : OutId) (g : Output → Output) :
    s.teChange o g = { s with outA := (s.teChange o g).outA, outB := (s.teChange o g).outB } := by
  unfold State.teChange
  rw [State.noteTe_eq]
  cases o <;> rfl

theorem exec_tePinChange (o : OutId) (level : Bool) (s : State) :
    exec (.tePinChange o level) s = .next (s.teChange o fun x => { x with tePin := level }) := rfl

/-- A good TE message changes the indication of a machine that has heard it. -/
theorem exec_teMsg_takes {o : OutId} {b : List Byte} {s : State} (hl : (s.link o).bcLock = true) (hb : ctlOk b = true)
    (hs : nAt b 0 1 = 0x30) : exec (.teMsg o b) s
      = .next ((s.bcHeard o).teChange o fun x => { x with teMsg := nAt b 1 1 == 1, teAt := some s.clk }) := by
  refine congrArg Host.Outcome.next ((State.bcRecv_takes hl hb hs).trans ?_)
  rw [State.bcHeard_clk]

/-- Settles O44: a change of the indication is the output's update, and the note since when a start is permitted. -/
theorem tearingEffect : Obligations.TearingEffect := by
  intro o level b s
  refine ⟨⟨_, exec_tePinChange o level s, ?_⟩, fun hl hb hs => ⟨_, exec_teMsg_takes hl hb hs, ?_⟩⟩
  · have hout := s.teChange_out o fun x => { x with tePin := level }
    exact ⟨(congrArg Output.tePin hout).trans rfl, (congrArg Output.teMsg hout).trans rfl, State.teChange_eq ..,
      State.teChange_out_other ..⟩
  · have hout := (s.bcHeard o).teChange_out o fun x => { x with teMsg := nAt b 1 1 == 1, teAt := some s.clk }
    rw [State.bcHeard_out] at hout
    refine ⟨(congrArg Output.teMsg hout).trans rfl, (congrArg Output.teAt hout).trans rfl,
      (congrArg Output.tePin hout).trans rfl, ?_⟩
    rw [State.teChange_eq]
    cases o <;> rfl

/-- An output whose link is ACTIVE, with block lock on its backchannel. -/
def listening : State :=
  { State.reset with linkA := { Link.reset with st := .active, bcLock := true, panelRst := false, psafe := false } }

/-- Its panel's TE message is taken. -/
theorem listening_hears_te :
    ∃ t, exec (.teMsg .A (ctlBlock [0x30, 1])) listening = .next t ∧ (t.out .A).teMsg = true := by
  obtain ⟨-, hmsg⟩ := tearingEffect .A false (ctlBlock [0x30, 1]) listening
  obtain ⟨t, ht, hte, -⟩ := hmsg rfl (ctlOk_ctlBlock _) (by decide)
  exact ⟨t, ht, hte.trans (by decide)⟩

end Sys2Proof.Machine
end

section
/-! PROOF. CRC echoes and panel status (R249, R260, R287, R562, R647): good echoes, bad ones, and the third bad one in a row,
which retrains the link. -/
namespace Sys2Proof.Machine

/-- Two states that differ in nothing but their outputs and links, what Cellar forces and the Transom's message. -/
def State.sameButPanels (s t : State) : Prop :=
  t = { s with linkA := t.linkA, linkB := t.linkB, outA := t.outA, outB := t.outB, cellar := t.cellar, transom := t.transom }

theorem State.sameButPanels.trans {s t u : State} (h : s.sameButPanels t) (h' : t.sameButPanels u) : s.sameButPanels u := by
  unfold State.sameButPanels at *
  rw [h'.trans (by rw [h])]

theorem State.modLink_sameButPanels (s : State) (o : OutId) (g : Link → Link) : s.sameButPanels (s.modLink o g) := by
  cases o <;> rfl

theorem State.modOut_sameButPanels (s : State) (o : OutId) (g : Output → Output) : s.sameButPanels (s.modOut o g) := by
  cases o <;> rfl

/-! ### Lifting (R649, R650) -/

/-- Releasing the Transom's hold touches nothing else. -/
theorem State.releaseHold_eq (s : State) : ∃ tr, s.releaseHold = { s with transom := tr } := by
  unfold State.releaseHold
  split
  · exact ⟨s.transom, rfl⟩
  · exact ⟨_, rfl⟩

/-- What Cellar no longer forces is lifted: nothing else changes but the Transom's hold. -/
theorem State.lift_eq (s : State) (g : Cellar → Cellar) :
    ∃ c tr, (s.modCellar g).noteLifts.releaseHold = { s with cellar := c, transom := tr } := by
  obtain ⟨tr, htr⟩ := State.releaseHold_eq (s.modCellar g).noteLifts
  exact ⟨_, tr, htr⟩

/-- A frame may have come to be known verified: nothing changes but that mark, Cellar's and the Transom's hold (R647, R649). -/
theorem State.tryKnown_eq (s : State) (o : OutId) :
    ∃ k c tr, s.tryKnown o = { s.modOut o (fun x => { x with knownV := k }) with cellar := c, transom := tr } := by
  have hsame : s = { s.modOut o (fun x => { x with knownV := (s.out o).knownV }) with
      cellar := s.cellar, transom := s.transom } := by cases o <;> rfl
  unfold State.tryKnown
  dsimp only
  split
  · exact ⟨_, _, _, hsame⟩
  · split
    · obtain ⟨c, tr, h⟩ := (s.modOut o fun x => { x with knownV := true }).lift_eq fun c =>
        { c with ss3 := c.ss3.filter fun d => !(d.out == o && d.code == 0xE09 && !d.fc4) }
      exact ⟨_, c, tr, h⟩
    · exact ⟨_, _, _, hsame⟩

theorem State.tryKnown_out (s : State) (o : OutId) : ∃ k, (s.tryKnown o).out o = { s.out o with knownV := k } := by
  obtain ⟨k, c, tr, h⟩ := s.tryKnown_eq o
  have hout (u : State) : ({ u with cellar := c, transom := tr } : State).out o = u.out o := by cases o <;> rfl
  exact ⟨k, by rw [h, hout, State.modOut_out_self]⟩

theorem State.tryKnown_link (s : State) (o : OutId) : (s.tryKnown o).link o = s.link o := by
  obtain ⟨k, c, tr, h⟩ := s.tryKnown_eq o
  have hlink (u : State) : ({ u with cellar := c, transom := tr } : State).link o = u.link o := by cases o <;> rfl
  rw [h, hlink, State.modOut_link]

theorem State.tryKnown_sameButPanels (s : State) (o : OutId) : s.sameButPanels (s.tryKnown o) := by
  obtain ⟨k, c, tr, h⟩ := s.tryKnown_eq o
  rw [h]
  exact (s.modOut_sameButPanels o _).trans rfl

/-! ### Bad echoes (R249, R562) -/

/-- An output that counts an echo that is not good. -/
def State.countEcho (s : State) (o : OutId) (resolves : Bool) : State :=
  s.modOut o fun x => { x with echoFail := sat 16 (x.echoFail + 1), echoBad := (s.out o).echoBad + 1,
                               echoDue := if resolves then none else x.echoDue, endOk := x.endOk && !resolves }

/-- The report of such an echo: SS1 on the output's regions (R562). -/
def echoReport (o : OutId) : FaultIn :=
  { code := 0x504, cls := 2, island := 44 + o.num, detail := 16384 * o.num, force := .ss1Out o }

/-- The report of a link that retrains. -/
def retrainReport (o : OutId) (code : Nat) : FaultIn :=
  { code := code, cls := 3, island := 44 + o.num, detail := 16384 * o.num, force := .ss3 o }

theorem State.badEcho_eq (s : State) (o : OutId) (resolves : Bool) : s.badEcho o resolves =
    if (s.out o).echoBad + 1 = 3 then ((s.countEcho o resolves).fault (echoReport o)).retrainLink o 1 0x505
    else (s.countEcho o resolves).fault (echoReport o) := rfl

@[simp] theorem State.countEcho_cellar (s : State) (o : OutId) (r : Bool) : (s.countEcho o r).cellar = s.cellar := by
  simp [State.countEcho]

@[simp] theorem State.countEcho_clk (s : State) (o : OutId) (r : Bool) : (s.countEcho o r).clk = s.clk := by
  simp [State.countEcho]

@[simp] theorem State.countEcho_handling (s : State) (o : OutId) (r : Bool) : (s.countEcho o r).handling = s.handling := by
  simp [State.countEcho]

/-- While nothing is handled, the report of a bad echo adds its entry to the log. -/
theorem State.fault_echoReport_quiet {s : State} (o : OutId) (b : State) (hh : s.handling = false) :
    (s.fault (echoReport o)).quiet b = (s.calm b, logAppend s.cellar.log (s.entryOf (echoReport o))) := by
  have hc : s.classOf (echoReport o) = 2 := State.classOf_fc2 hh rfl
  exact State.fault_quiet s b (by omega) (by omega) (by simp [echoReport, Force.level]) (by simp [recoverable, hc])

/-- What a bad echo leaves before any retraining. -/
theorem State.countEcho_fault {s t : State} {o : OutId} {r : Bool} (hh : s.handling = false)
    (ht : t = (s.countEcho o r).fault (echoReport o)) :
    s.logs t 0x504 (44 + o.num) ∧ (t.out o).echoFail = min 65535 ((s.out o).echoFail + 1)
      ∧ (t.out o).echoBad = (s.out o).echoBad + 1 ∧ (t.out o).echoDue = (if r then none else (s.out o).echoDue)
      ∧ (t.link o).st = (s.link o).st ∧ t.clk = s.clk ∧ s.sameButHandling t := by
  subst ht
  have hq := State.fault_echoReport_quiet (s := s.countEcho o r) o ((s.countEcho o r).fault (echoReport o)) (by simpa using hh)
  obtain ⟨hlink, hout, hclk, hlog, hsame⟩ := State.frame_of_quiet hq
  have hmem : (s.countEcho o r).entryOf (echoReport o) ∈ ((s.countEcho o r).fault (echoReport o)).cellar.log := by
    rw [hlog]
    exact mem_logAppend_self _ _
  have hself : (s.countEcho o r).out o = _ := State.modOut_out_self s o _
  have ho := hout o
  rw [hself] at ho
  refine ⟨(State.logs_of_mem hmem).of_eq (by simp) (by simp), ?_, congrArg Output.echoBad ho, congrArg Output.echoDue ho, ?_,
    by simpa using hclk, (State.modOut_sameButHandling s o _).trans hsame⟩
  · refine (congrArg Output.echoFail ho).trans ?_
    simp [sat, Nat.min_comm]
  · refine (congrArg Link.st (hlink o)).trans ?_
    simp [State.countEcho]

/-! ### A retraining (R291) -/

/-- What a retraining leaves as it was: the time, the fault log, and what an output has counted of its echoes. -/
def State.books (s : State) (p : OutId) : Nat × List LogEntry × Nat × Option Nat :=
  (s.clk, s.cellar.log, (s.out p).echoBad, (s.out p).echoDue)

section
variable (s : State) (p : OutId)

@[simp] theorem State.modLane_books (n : Nat) (g : Lane → Lane) : (s.modLane n g).books p = s.books p := by
  cases p <;> rfl

@[simp] theorem State.modLanding_books (n : Nat) (g : Landing → Landing) : (s.modLanding n g).books p = s.books p := by
  cases p <;> rfl

@[simp] theorem State.event_books (f code : Nat) (data : List Byte) : (s.event f code data).books p = s.books p := by
  cases p <;> rfl

@[simp] theorem State.commits_books (c : Commits) : ({ s with commits := c } : State).books p = s.books p := by
  cases p <;> rfl

@[simp] theorem State.modLink_books (o : OutId) (g : Link → Link) : (s.modLink o g).books p = s.books p := by
  simp [State.books]

@[simp] theorem State.drivePsafe_books : s.drivePsafe.books p = s.books p := by cases p <;> rfl

/-- An update of an output that leaves its echoes leaves the books. -/
theorem State.modOut_books (o : OutId) {g : Output → Output}
    (h : ∀ x, (g x).echoBad = x.echoBad ∧ (g x).echoDue = x.echoDue) :
    (s.modOut o g).books p = s.books p := by
  by_cases hp : p = o
  · subst hp
    simp [State.books, State.modOut_out_self, h]
  · simp [State.books, State.modOut_out_ne _ _ hp]

@[simp] theorem State.books_ite (q : Prop) [Decidable q] (t u : State) :
    (if q then t else u).books p = if q then t.books p else u.books p := apply_ite (State.books · p) ..

@[simp] theorem State.modLanes_books (ns : List Nat) (g : Lane → Lane) : (s.modLanes ns g).books p = s.books p :=
  foldl_keeps (State.books · p) _ (fun a n => a.modLane_books p n g) ns s

@[simp] theorem State.lneSettle_books : s.lneSettle.books p = s.books p :=
  (foldl_keeps (State.books · p) _ (fun a _ => a.event_books p ..) _ _).trans (s.commits_books p _)

@[simp] theorem State.lneWindow_books (n : Nat) (ns : List Nat) (atReturn : Bool) :
    (s.lneWindow n ns atReturn).books p = s.books p := by
  unfold State.lneWindow
  split
  · rfl
  · exact (State.lneSettle_books ..).trans ((State.commits_books ..).trans
      ((State.modLanding_books ..).trans (State.modLanes_books ..)))

@[simp] theorem State.abortCal_books (n : Nat) : (s.abortCal n).books p = s.books p := by
  simp [State.abortCal]

@[simp] theorem State.wakePort_books (n : Nat) : (s.wakePort n).books p = s.books p := by
  simp [State.wakePort]

@[simp] theorem State.startAttempt_books (o : OutId) (k : Nat) : (s.startAttempt o k).books p = s.books p := by
  have hcal (ns : List Nat) : (ns.foldl (fun a n => a.abortCal n) s).books p = s.books p :=
    foldl_keeps (State.books · p) _ (fun a n => a.abortCal_books p n) ns s
  simp [State.startAttempt, State.modOut_books, hcal]

@[simp] theorem State.noteTe_books (t : State) : (s.noteTe t).books p = t.books p := by
  refine foldl_keeps (State.books · p) _ (fun a o => ?_) _ _
  simp [State.modOut_books]

end

theorem State.noteTe_link (s t : State) (p : OutId) : (s.noteTe t).link p = t.link p := by
  rw [State.noteTe_eq]
  cases p <;> rfl

/-- A training attempt leaves no link ACTIVE. -/
theorem State.startAttempt_link_st (s : State) (o : OutId) (k : Nat) : ((s.startAttempt o k).link o).st ≠ .active := by
  unfold State.startAttempt
  simp only [State.drivePsafe_link_st, State.modOut_link]
  by_cases hk : k = 1
  · simp only [hk, if_true, State.modLink_link_self]
    split <;> simp
  · simp [hk, State.modLink_link_self]

/-- A link that retrains from a fault of its own is ACTIVE no more, and the fault is the one new entry of the log. -/
theorem State.retrainLink_books {s : State} {o : OutId} {k code : Nat} (hs : (s.link o).st = .active)
    (hstore : isStore code = true) : ∃ e : LogEntry, e.code = code
      ∧ (s.retrainLink o k code).books o = (s.clk, logAppend s.cellar.log e, (s.out o).echoBad, (s.out o).echoDue)
      ∧ ((s.retrainLink o k code).link o).st ≠ .active := by
  have hdrop (u : State) (hu : u = s.modLink o fun l => { l with drops := sat 16 (l.drops + 1) }) :
      (u.fault (retrainReport o code)).books o
        = (s.clk, logAppend s.cellar.log (u.entryOf (retrainReport o code)), (s.out o).echoBad, (s.out o).echoDue) := by
    obtain ⟨hlow, hhigh⟩ := State.classOf_fc3 u (x := retrainReport o code) rfl
    have hq := State.fault_quiet u (u.fault (retrainReport o code)) (x := retrainReport o code) (by omega) hhigh
      (by simp [retrainReport, Force.level]) fun _ => hstore
    obtain ⟨-, hout, hclk, hlog, -⟩ := State.frame_of_quiet hq
    have ho := hout o
    have hus : u.out o = s.out o ∧ u.clk = s.clk ∧ u.cellar = s.cellar := by simp [hu]
    obtain ⟨huo, huc, hul⟩ := hus
    simp only [State.books, hclk, hlog, congrArg Output.echoBad ho, congrArg Output.echoDue ho, huo, huc, hul]
  refine ⟨(s.modLink o fun l => { l with drops := sat 16 (l.drops + 1) }).entryOf (retrainReport o code), rfl, ?_, ?_⟩
  · unfold State.retrainLink
    rw [if_pos hs]
    dsimp only
    rw [State.noteTe_books, State.books_ite, State.startAttempt_books, ite_self, State.modLink_books]
    exact hdrop _ rfl
  · unfold State.retrainLink
    rw [if_pos hs, State.noteTe_link]
    split
    · exact State.startAttempt_link_st _ _ _
    · simp [State.modLink_link_self]

/-! ### CRC echoes (R249) -/

theorem ahead_self (n : Nat) : ahead n n = false := by
  simp [ahead]

/-- What a good echo of frame n leaves of the output and its link. -/
def State.goodEcho (s : State) (o : OutId) (n : Nat) : State :=
  (((s.bcHeard o).modOut o fun x => { x with echoSeen := some n }).modOut o fun x =>
    { x with echoFrame := n, echoBad := 0, echoDue := none }).modLink o fun l => { l with echoOk := true }

theorem State.goodEcho_out (s : State) (o : OutId) (n : Nat) :
    (s.goodEcho o n).out o = { s.out o with echoSeen := some n, echoFrame := n, echoBad := 0, echoDue := none } := by
  simp [State.goodEcho, State.modOut_out_self]

theorem State.goodEcho_echoOk (s : State) (o : OutId) (n : Nat) : ((s.goodEcho o n).link o).echoOk = true := by
  simp [State.goodEcho, State.modLink_link_self]

theorem State.goodEcho_sameButPanels (s : State) (o : OutId) (n : Nat) : s.sameButPanels (s.goodEcho o n) :=
  (((s.modLink_sameButPanels o _).trans (State.modOut_sameButPanels _ o _)).trans
    (State.modOut_sameButPanels _ o _)).trans (State.modLink_sameButPanels _ o _)

section
variable {s : State} {o : OutId} {b : List Byte} {f : Nat × Word}

/-- A good echo in time, of the frame that ended last, decides its outcome. -/
theorem State.recvEcho_good {d : Nat} (hl : (s.link o).bcLock = true) (hb : ctlOk b = true) (hs : nAt b 0 1 = 0x31)
    (ha : (s.link o).st = .active) (hd : (s.out o).echoDue = some d) (hf : (s.out o).frameCrc = some f) (hin : s.us ≤ d)
    (hn : nAt b 4 4 = f.1) (hc : nAt b 8 4 = f.2.toNat) (hst : (s.out o).echoStale f.1 = false) :
    s.recvEcho o b = (s.goodEcho o f.1).tryKnown o := by
  unfold State.recvEcho
  rw [State.bcRecv_takes hl hb hs]
  simp [State.goodEcho, State.bcHeard_link, ha, hd, hf, hin, hn, hc, hst, ahead_self]

/-- The echo of an earlier frame only advances the latest number echoed. -/
theorem State.recvEcho_earlier (hl : (s.link o).bcLock = true) (hb : ctlOk b = true) (hs : nAt b 0 1 = 0x31)
    (ha : (s.link o).st = .active) (hf : (s.out o).frameCrc = some f) (hst : (s.out o).echoStale (nAt b 4 4) = false)
    (hlate : ahead f.1 (nAt b 4 4) = true) (hnot : ahead (nAt b 4 4) f.1 = false) :
    s.recvEcho o b = (s.bcHeard o).modOut o fun x => { x with echoSeen := some (nAt b 4 4) } := by
  have hne : nAt b 4 4 ≠ f.1 := fun h => by simp [h, ahead_self] at hlate
  unfold State.recvEcho
  rw [State.bcRecv_takes hl hb hs]
  simp only [State.bcHeard_link, State.bcHeard_out, ha, hst, hf, hnot]
  cases hd : (s.out o).echoDue <;> simp [hne]

/-- What R249 counts as an echo that is not good: a number that fails to advance or that no frame sent carries, and for the
frame that ended last a late echo or another CRC. -/
def State.echoFails (s : State) (o : OutId) (b : List Byte) : Prop :=
  (s.out o).echoStale (nAt b 4 4) = true ∨ (s.out o).frameCrc = none
    ∨ (∃ f, (s.out o).frameCrc = some f ∧ ahead (nAt b 4 4) f.1 = true)
    ∨ (∃ f d, (s.out o).frameCrc = some f ∧ (s.out o).echoDue = some d ∧ nAt b 4 4 = f.1
        ∧ (d < s.us ∨ nAt b 8 4 ≠ f.2.toNat))

/-- A message that has been heard, with a latest number echoed. -/
def State.echoHeard (s : State) (o : OutId) (seen : Option Nat) : State :=
  (s.bcHeard o).modOut o fun x => { x with echoSeen := seen }

/-- Such an echo is a bad one of a machine that has at most noted its number. -/
theorem State.recvEcho_bad (hl : (s.link o).bcLock = true) (hb : ctlOk b = true) (hs : nAt b 0 1 = 0x31)
    (ha : (s.link o).st = .active) (hbad : s.echoFails o b) :
    ∃ seen r, s.recvEcho o b = (s.echoHeard o seen).badEcho o r := by
  have hsame : s.bcHeard o = s.echoHeard o (s.out o).echoSeen := by cases o <;> rfl
  unfold State.recvEcho
  rw [State.bcRecv_takes hl hb hs]
  simp only [State.bcHeard_link, State.bcHeard_out, ha, ne_eq, not_true_eq_false, if_false]
  by_cases hst : (s.out o).echoStale (nAt b 4 4) = true
  · exact ⟨_, false, (if_pos hst).trans (congrArg (State.badEcho · o false) hsame)⟩
  rw [if_neg hst]
  cases hf : (s.out o).frameCrc with
  | none => exact ⟨_, true, congrArg (State.badEcho · o true) hsame⟩
  | some f =>
    dsimp only
    by_cases hah : ahead (nAt b 4 4) f.1 = true
    · exact ⟨_, true, (if_pos hah).trans (congrArg (State.badEcho · o true) hsame)⟩
    rw [if_neg hah]
    obtain h | h | ⟨g, hg, h⟩ | ⟨g, d, hg, hd, hn, h⟩ := hbad
    · exact absurd h hst
    · simp [hf] at h
    · obtain rfl : f = g := by simpa [hf] using hg
      exact absurd h hah
    · obtain rfl : f = g := by simpa [hf] using hg
      have hnot : ¬ (s.us ≤ d ∧ nAt b 8 4 = f.2.toNat) := by
        rintro ⟨hin, hc⟩
        rcases h with h | h
        · omega
        · exact h hc
      refine ⟨some (nAt b 4 4), true, ?_⟩
      simp only [hd, hn, not_true_eq_false, if_false, State.modOut_us, State.bcHeard_us]
      exact if_neg hnot

end

theorem exec_echoTimeout_none {o : OutId} {s : State} (h : (s.out o).echoDue = none) : exec (.echoTimeout o) s = .next s := by
  show execEchoTimeout o s = _
  rw [execEchoTimeout, h]

/-- Only an ACTIVE link is waited for. -/
theorem exec_echoTimeout_some {o : OutId} {s : State} {d : Nat} (h : (s.out o).echoDue = some d) :
    exec (.echoTimeout o) s = .next (if (s.link o).st = .active then (s.atUs (d + 1)).badEcho o true else s) := by
  show execEchoTimeout o s = _
  rw [execEchoTimeout, h]

theorem State.atUs_out (s : State) (n : Nat) (p : OutId) : (s.atUs n).out p = s.out p := by cases p <;> rfl

theorem State.atUs_link (s : State) (n : Nat) (p : OutId) : (s.atUs n).link p = s.link p := by cases p <;> rfl

/-- An echo that is missing is counted, and the third frame in a row that has no good echo retrains the link (R249, R562). -/
theorem State.badEcho_missing {s t : State} {o : OutId} (ha : (s.link o).st = .active) (hh : s.handling = false)
    (ht : t = s.badEcho o true) :
    t.clk = s.clk ∧ s.logs t 0x504 (44 + o.num) ∧ (t.out o).echoBad = (s.out o).echoBad + 1 ∧ (t.out o).echoDue = none
      ∧ ((s.out o).echoBad ≠ 2 → s.sameButHandling t)
      ∧ ((s.out o).echoBad = 2 → (t.link o).st ≠ .active ∧ ∃ e ∈ t.cellar.log, e.code = 0x505) := by
  have hh' : (s.countEcho o true).handling = false := by simpa using hh
  have hq := State.fault_echoReport_quiet o ((s.countEcho o true).fault (echoReport o)) hh'
  obtain ⟨-, -, -, hlog, -⟩ := State.frame_of_quiet hq
  obtain ⟨hlogs, -, hbad, hdue, hst, hclk, hsame⟩ := State.countEcho_fault (r := true) hh rfl
  rw [State.badEcho_eq] at ht
  by_cases h2 : (s.out o).echoBad = 2
  · rw [if_pos (by omega)] at ht
    obtain ⟨e, hcode, hbooks, hdown⟩ := State.retrainLink_books (k := 1) (code := 0x505) (hst.trans ha) rfl
    rw [← ht] at hbooks hdown
    obtain ⟨htclk, htlog, htbad, htdue⟩ :
        t.clk = _ ∧ t.cellar.log = _ ∧ (t.out o).echoBad = _ ∧ (t.out o).echoDue = _ := by
      simpa [State.books] using hbooks
    have hmem : (s.countEcho o true).entryOf (echoReport o) ∈ t.cellar.log := by
      rw [htlog, hlog]
      exact mem_logAppend_logAppend _ _ _
    refine ⟨htclk.trans hclk, (State.logs_of_mem hmem).of_eq (by simp) (by simp), htbad.trans hbad, htdue.trans hdue,
      fun h => absurd h2 h, fun _ => ⟨hdown, e, ?_, hcode⟩⟩
    rw [htlog]
    exact mem_logAppend_self _ _
  · rw [if_neg (by omega)] at ht
    subst ht
    exact ⟨hclk, hlogs, hbad, hdue, fun _ => hsame, fun h => absurd h h2⟩

/-- Each clause is one case of the echo at hand, or of the echo that is missing. -/
theorem echoesAreCompared : Clause.EchoesAreCompared := by
  intro o b s
  refine ⟨fun hl hb hs ha => ⟨fun d f hd hf hin hn hc hst => ?_, fun hbad hthird hh => ?_, fun f hf hst hlate hnot => ?_⟩,
    fun hd => exec_echoTimeout_none hd, fun d hd hna => ?_, fun d hd ha hh => ?_⟩
  · refine ⟨_, exec_crcEcho o b s, ?_⟩
    rw [State.recvEcho_good hl hb hs ha hd hf hin hn hc hst]
    obtain ⟨k, hout⟩ := (s.goodEcho o f.1).tryKnown_out o
    rw [State.goodEcho_out] at hout
    refine ⟨?_, congrArg Output.echoFrame hout, congrArg Output.echoBad hout, congrArg Output.echoDue hout,
      congrArg Output.echoSeen hout, (s.goodEcho_sameButPanels o f.1).trans (State.tryKnown_sameButPanels ..)⟩
    rw [State.tryKnown_link, State.goodEcho_echoOk]
  · obtain ⟨seen, r, heq⟩ := State.recvEcho_bad hl hb hs ha hbad
    have hout : (s.echoHeard o seen).out o = { s.out o with echoSeen := seen } := by
      simp [State.echoHeard, State.modOut_out_self]
    have hubad : ((s.echoHeard o seen).out o).echoBad = (s.out o).echoBad := by rw [hout]
    have huh : (s.echoHeard o seen).handling = false := by simpa [State.echoHeard] using hh
    have hus : s.sameButHandling (s.echoHeard o seen) :=
      (State.modLink_sameButHandling ..).trans (State.modOut_sameButHandling ..)
    rw [State.badEcho_eq, if_neg (by omega)] at heq
    obtain ⟨hlogs, hfail, hbad, -, -, -, hsame⟩ := State.countEcho_fault huh heq
    refine ⟨_, exec_crcEcho o b s, hlogs.of_eq (by simp [State.echoHeard]) (by simp [State.echoHeard]), ?_, ?_, hus.trans hsame⟩
    · rw [hfail, hout]
    · rw [hbad, hubad]
  · exact (exec_crcEcho o b s).trans (congrArg _ (State.recvEcho_earlier hl hb hs ha hf hst hlate hnot))
  · rw [exec_echoTimeout_some hd, if_neg hna]
  · have hclk : (s.atUs (d + 1)).clk = max s.clk (25 * (d + 1)) := rfl
    obtain ⟨htclk, hlogs, hbad, hdue, hsame, hthird⟩ := State.badEcho_missing (s := s.atUs (d + 1)) (o := o)
      (by rwa [State.atUs_link]) hh rfl
    rw [State.atUs_out] at hbad hsame hthird
    refine ⟨_, (exec_echoTimeout_some hd).trans (by rw [if_pos ha]), htclk, ?_, hbad, hdue, ?_, hthird⟩
    · rw [htclk]
      exact hlogs
    · rw [htclk]
      exact hsame

/-! ### STATUS (R287) and the TE message's level (R260) -/

/-- The report of a panel fault: SS3 on its output (R562). -/
def panelReport (o : OutId) : FaultIn :=
  { code := 0x603, cls := 2, island := 44 + o.num, detail := 16384 * o.num, force := .ss3 o }

/-- A panel's fault as its link notes it (R287). -/
def State.notePanelFault (s : State) (o : OutId) : State :=
  (s.bcHeard o).modLink o fun l =>
    { l with statusSt := 2, panelFaults := sat 16 (l.panelFaults + 1), panelFaultAt := none }

/-- What a panel's fault leaves while nothing is handled. -/
theorem State.notePanelFault_fault {s t : State} {o : OutId} (hh : s.handling = false)
    (ht : t = (s.notePanelFault o).fault (panelReport o)) :
    s.logs t 0x603 (44 + o.num) ∧ (t.link o).statusSt = 2
      ∧ (t.link o).panelFaults = min 65535 ((s.link o).panelFaults + 1) ∧ (t.link o).panelFaultAt = none
      ∧ s.sameButHandling t := by
  subst ht
  have huh : (s.notePanelFault o).handling = false := by simpa [State.notePanelFault] using hh
  have hc : (s.notePanelFault o).classOf (panelReport o) = 2 := State.classOf_fc2 huh rfl
  have hq := State.fault_quiet (s.notePanelFault o) ((s.notePanelFault o).fault (panelReport o)) (x := panelReport o)
    (by omega) (by omega) (by simp [panelReport, Force.level]) (by simp [recoverable, hc])
  obtain ⟨hlink, -, -, hlog, hsame⟩ := State.frame_of_quiet hq
  have hmem : (s.notePanelFault o).entryOf (panelReport o)
      ∈ ((s.notePanelFault o).fault (panelReport o)).cellar.log := by
    rw [hlog]
    exact mem_logAppend_self _ _
  have hself : (s.notePanelFault o).link o = _ := State.modLink_link_self (s.bcHeard o) o _
  have ho := hlink o
  rw [hself] at ho
  refine ⟨(State.logs_of_mem hmem).of_eq (by simp [State.notePanelFault])
    (by simp [State.notePanelFault]), congrArg Link.statusSt ho, ?_, congrArg Link.panelFaultAt ho,
    ((State.modLink_sameButHandling ..).trans (State.modLink_sameButHandling ..)).trans hsame⟩
  refine (congrArg Link.panelFaults ho).trans ?_
  simp [State.bcHeard_link, sat, Nat.min_comm]

section
variable {s : State} {o : OutId} {b : List Byte}

/-- STATE 2 is the panel's fault. -/
theorem State.recvStatus_fault (hl : (s.link o).bcLock = true) (hb : ctlOk b = true) (hs : nAt b 0 1 = 0x32)
    (h2 : nAt b 1 1 = 2) :
    s.recvStatus o b = (s.notePanelFault o).fault (panelReport o) := by
  unfold State.recvStatus
  rw [State.bcRecv_takes hl hb hs]
  exact if_pos h2

/-- Any other STATE is noted, and after a panel fault since when. -/
theorem State.recvStatus_other (hl : (s.link o).bcLock = true) (hb : ctlOk b = true) (hs : nAt b 0 1 = 0x32)
    (h2 : nAt b 1 1 ≠ 2) :
    s.recvStatus o b = s.modLink o fun l =>
      { l with bcAt := s.clk, statusSt := nAt b 1 1,
               panelFaultAt := if l.statusSt = 2 then some s.us else l.panelFaultAt } := by
  unfold State.recvStatus
  rw [State.bcRecv_takes hl hb hs]
  dsimp only
  rw [if_neg h2, State.bcHeard_us, State.bcHeard, State.modLink_modLink]

end

theorem exec_panelFaultClear_none {o : OutId} {s : State} (h : (s.link o).panelFaultAt = none) :
    exec (.panelFaultClear o) s = .next s := by
  show execPanelFaultClear o s = _
  rw [execPanelFaultClear, h]

/-- The end of a panel fault's second, with the SS3 that it forced (R562). -/
def State.clearPanelFault (s : State) (o : OutId) : State :=
  (s.modLink o fun l => { l with panelFaultAt := none }).modCellar fun c =>
    { c with ss3 := c.ss3.filter fun d => !(d.out == o && d.code == 0x603 && !d.fc4) }

theorem exec_panelFaultClear_some {o : OutId} {s : State} {w : Nat} (h : (s.link o).panelFaultAt = some w) :
    exec (.panelFaultClear o) s = .next ((s.atUs (w + 1000000)).clearPanelFault o).noteLifts.releaseHold := by
  show execPanelFaultClear o s = _
  rw [execPanelFaultClear, h]
  rfl

theorem exec_teTimeout_none {o : OutId} {s : State} (h : (s.out o).teAt = none) : exec (.teTimeout o) s = .next s := by
  show execTeTimeout o s = _
  rw [execTeTimeout, h]

theorem exec_teTimeout_some {o : OutId} {s : State} {w : Nat} (h : (s.out o).teAt = some w) :
    exec (.teTimeout o) s = .next ((s.atClk (w + 25000)).modOut o fun x => { x with teMsg := false, teAt := none }) := by
  show execTeTimeout o s = _
  rw [execTeTimeout, h]

/-- Each clause is one case of STATE, or one of the two waits that end. -/
theorem statusIsHeard : Clause.StatusIsHeard := by
  intro o b s
  refine ⟨fun hl hb hs => ⟨fun h2 hh => ?_, fun h2 => ?_⟩, fun h => exec_panelFaultClear_none h, fun w h => ?_,
    fun h => exec_teTimeout_none h, fun w h => exec_teTimeout_some h⟩
  · exact ⟨_, exec_statusMsg o b s, State.notePanelFault_fault hh (State.recvStatus_fault hl hb hs h2)⟩
  · exact (exec_statusMsg o b s).trans (congrArg _ (State.recvStatus_other hl hb hs h2))
  · obtain ⟨tr, htr⟩ := State.releaseHold_eq ((s.atUs (w + 1000000)).clearPanelFault o).noteLifts
    refine ⟨_, exec_panelFaultClear_some h, ?_⟩
    rw [htr]
    have hss3 : ∀ d ∈ ((s.atUs (w + 1000000)).clearPanelFault o).cellar.ss3,
        ¬ (d.out = o ∧ d.code = 0x603 ∧ d.fc4 = false) := by
      intro d hd hcause
      have := List.of_mem_filter hd
      simp [hcause] at this
    cases o <;> exact ⟨rfl, rfl, hss3, rfl⟩

/-- Settles O36: blocks are judged as they arrive, echoes by the frame that ended last, and STATUS by its STATE. -/
theorem panelMessagesAreChecked : Obligations.PanelMessagesAreChecked :=
  ⟨backchannelMessagesAreChecked, echoesAreCompared, statusIsHeard⟩

/-- The panel of a listening output reports a fault. -/
theorem listening_hears_panelFault :
    ∃ t, exec (.statusMsg .A (ctlBlock [0x32, 2])) listening = .next t ∧ (t.link .A).panelFaults = 1 := by
  obtain ⟨hmsg, -⟩ := statusIsHeard .A (ctlBlock [0x32, 2]) listening
  obtain ⟨hfault, -⟩ := hmsg rfl (ctlOk_ctlBlock _) (by decide)
  obtain ⟨t, ht, -, -, hcount, -⟩ := hfault (by decide) (by decide)
  exact ⟨t, ht, hcount⟩

/-- A listening output whose panel has not echoed the latest frame, after two frames without a good echo. -/
def unechoed : State := { listening with outA := { Output.reset with echoDue := some 2000, echoBad := 2 } }

/-- The third frame in a row retrains the link. -/
theorem unechoed_retrains : ∃ t, exec (.echoTimeout .A) unechoed = .next t ∧ (t.link .A).st ≠ .active := by
  obtain ⟨-, -, -, hwait⟩ := echoesAreCompared .A [] unechoed
  obtain ⟨t, ht, -, -, -, -, -, hthird⟩ := hwait 2000 rfl rfl (by decide)
  exact ⟨t, ht, (hthird rfl).1⟩

end Sys2Proof.Machine
end

section
/-! PROOF. A link's third training attempt ends while another fault is handled (R290, R557, R572). -/
namespace Sys2Proof.Machine

/-- A phase of training that runs out ends the attempt (R288). -/
theorem exec_trainPhaseTimeout {o : OutId} {s : State} {n : Nat} (h : (s.link o).phaseBound = some n) :
    exec (.trainPhaseTimeout o) s = .next ((s.atClk ((s.link o).phaseAt + n)).endAttempt o) := by
  show execTrainPhaseTimeout o s = _
  rw [execTrainPhaseTimeout, h]

/-- A delivered E2 whose output A is in the EQUALISE phase of its third attempt, while a recovery of IS00 is under way. -/
def lastAttempt : State :=
  { State.reset with
    linkA := { Link.reset with st := .equalise, attempt := 3, panelRst := false }
    cellar := { Cellar.reset with recov := [sliceRecovery] } }

theorem lastAttempt_inv : lastAttempt.Inv := ⟨by decide, by decide⟩

/-- Fault 0x0602 is raised from FC2 to FC3 (R557), so IS44 recovers: its domain is switched off and on again, and the link that
was DOWN is disabled. -/
theorem lastAttempt_disabled : (((lastAttempt.atClk 1250000).endAttempt .A).link .A).st = .disabled := by decide

/-- Refutes O37 in `Clause.TrainingAttemptsEnd`: the clause has a link DOWN after its third attempt whatever else is in progress,
yet while a fault of FC3 or FC4 is handled the fault 0x0602 of that attempt is itself FC3 (R557), and the recovery of its island
resets the link (R572). -/
theorem not_linksTrain : ¬ Obligations.LinksTrain := by
  rintro ⟨-, hend⟩
  obtain ⟨-, -, -, hlast, -⟩ := hend .A lastAttempt
  obtain ⟨t, ht, -, hdown, -⟩ := hlast 1250000 rfl (by decide)
  rw [exec_trainPhaseTimeout (n := 1250000) rfl] at ht
  cases ht
  exact absurd (lastAttempt_disabled.symm.trans hdown) (by decide)

end Sys2Proof.Machine
end

section
/-! PROOF. Output B's link of an E1 is lost while another fault is handled (R2, R297, R555, R557). -/
namespace Sys2Proof.Machine

/-- An ACTIVE link whose backchannel is lost retrains from an attempt with PANEL_RST (R291). -/
theorem exec_backchannelLoss_active {o : OutId} {s : State} (h : (s.link o).st = .active) :
    exec (.backchannelLoss o) s
      = .next (((s.atClk ((s.link o).bcAt + 2500)).modLink o fun l => { l with bcLock := false }).retrainLink o 2 0x601) := by
  show execBackchannelLoss o s = _
  rw [execBackchannelLoss, h]

/-- An E1 whose record of output B, an output that an E1 does not drive, shows an ACTIVE link, with no cause of PSAFE there, while
a recovery of IS00 is under way. -/
def secondLink : State :=
  { readyE1 with
    linkB := { Link.reset with st := .active, panelRst := false, psafe := false }
    outB := { Output.reset with verified := true }
    cellar := { Cellar.reset with psafeAll := false, recov := [sliceRecovery] } }

theorem secondLink_inv : secondLink.Inv := ⟨by decide, by decide⟩

/-- Fault 0x0601 is raised to FC4 and darkens the outputs of the variant (R555): output A alone. LINK_EN of output B is no bit of
an E1, so that no attempt begins there, which would assert PSAFE. -/
theorem secondLink_psafe :
    ((((secondLink.atClk 2500).modLink .B fun l => { l with bcLock := false }).retrainLink .B 2 0x601).link .B).psafe
      = false := by decide

/-- Refutes O38 in the clause of a lost backchannel: it has PSAFE asserted on whatever output's link retrains, yet a fault that is
FC4 (R557) forces SS3 on the variant's outputs only, and on an E1 output B neither is one of them nor trains. On an E2 both
outputs are darkened; the statement speaks of every state. -/
theorem not_activeLinksRetrain : ¬ Obligations.ActiveLinksRetrain := by
  intro h
  obtain ⟨-, -, -, t, ht, ⟨-, -, hpsafe, -⟩, -⟩ := h .B [] secondLink rfl (by decide)
  rw [exec_backchannelLoss_active rfl] at ht
  cases ht
  exact absurd (secondLink_psafe.symm.trans hpsafe) (by decide)

end Sys2Proof.Machine
end

section
/-! PROOF. Runs of table writes, and zone masks, as the Transom's planes and marks use them (R330, R347, R360). -/
namespace Sys2Proof.Machine

/-! ### Runs of table writes -/

section
variable {α β : Type} [DecidableEq α] {d : α} {n : Nat} (key : β → Nat) (val : β → α)

/-- A run of writes leaves a key that none of them names. -/
theorem tget_foldl_tset_of_ne (l : List β) (t : Table α) (h : ∀ b ∈ l, key b ≠ n) :
    tget d (l.foldl (fun a b => tset d a (key b) (val b)) t) n = tget d t n := by
  induction l generalizing t with
  | nil => rfl
  | cons b l ih =>
    rw [List.foldl_cons, ih _ fun c hc => h c (List.mem_cons_of_mem _ hc),
      tget_tset_ne _ _ _ _ _ (h b List.mem_cons_self).symm]

/-- A key that some write of a run names holds the value that all of its writes agree on. -/
theorem tget_foldl_tset_of_mem {v : α} (l : List β) (t : Table α) (hv : ∀ b ∈ l, key b = n → val b = v)
    (h : ∃ b ∈ l, key b = n) : tget d (l.foldl (fun a b => tset d a (key b) (val b)) t) n = v := by
  induction l generalizing t with
  | nil => simp at h
  | cons b l ih =>
    rw [List.foldl_cons]
    by_cases hl : ∃ c ∈ l, key c = n
    · exact ih _ (fun c hc => hv c (List.mem_cons_of_mem _ hc)) hl
    · have hb : key b = n := by
        obtain ⟨c, hc, hn⟩ := h
        rcases List.mem_cons.mp hc with rfl | hc
        · exact hn
        · exact absurd ⟨c, hc, hn⟩ hl
      rw [tget_foldl_tset_of_ne key val l _ fun c hc hn => hl ⟨c, hc, hn⟩, hv b List.mem_cons_self hb, hb, tget_tset_self]

end

/-! ### Zone masks -/

theorem bitOf_maskAdd_self (m z : Nat) : bitOf (maskAdd m z) z = true := by
  unfold maskAdd
  split
  case isTrue h => exact h
  case isFalse h =>
    have hz : m / 2 ^ z % 2 ≠ 1 := by simpa [bitOf] using h
    have hdiv : (m + 2 ^ z) / 2 ^ z = m / 2 ^ z + 1 := Nat.add_div_right _ (by positivity)
    simp only [bitOf, hdiv, beq_iff_eq]
    omega

theorem bitOf_maskDrop_self (m z : Nat) : bitOf (maskDrop m z) z = false := by
  unfold maskDrop
  split
  case isFalse h => simpa using h
  case isTrue h =>
    have hz : m / 2 ^ z % 2 = 1 := by simpa [bitOf] using h
    have hdiv : (m - 2 ^ z) / 2 ^ z = m / 2 ^ z - 1 := by simpa using Nat.sub_mul_div m (2 ^ z) 1
    simp only [bitOf, hdiv, beq_eq_false_iff_ne]
    omega

/-- A place that holds 1 gives it up without a borrow. -/
theorem bitOf_maskDrop_ne (m : Nat) {z n : Nat} (h : n ≠ z) : bitOf (maskDrop m z) n = bitOf m n := by
  unfold maskDrop
  split
  case isFalse => rfl
  case isTrue hz =>
    have hodd : m / 2 ^ z % 2 = 1 := by simpa [bitOf] using hz
    have hle : 2 ^ z ≤ m := (Nat.one_le_div_iff (by positivity)).mp <| Nat.pos_of_ne_zero fun h0 => by simp [h0] at hodd
    rcases Nat.lt_or_gt_of_ne h with hlt | hgt
    · obtain ⟨k, rfl⟩ : ∃ k, z = n + (k + 1) := ⟨z - n - 1, by omega⟩
      have hpow : 2 ^ (n + (k + 1)) = 2 ^ n * (2 * 2 ^ k) := by ring
      have hdiv : (m - 2 ^ n * (2 * 2 ^ k)) / 2 ^ n = m / 2 ^ n - 2 * 2 ^ k := Nat.sub_mul_div ..
      have hfit : 2 * 2 ^ k ≤ m / 2 ^ n :=
        (Nat.le_div_iff_mul_le (by positivity)).mpr (by rw [Nat.mul_comm, ← hpow]; exact hle)
      rw [bitOf, bitOf, hpow, hdiv, Nat.sub_mul_mod hfit]
    · obtain ⟨k, rfl⟩ : ∃ k, n = z + (k + 1) := ⟨n - z - 1, by omega⟩
      have hsub : (m - 2 ^ z) / 2 ^ z = m / 2 ^ z - 1 := by simpa using Nat.sub_mul_div m (2 ^ z) 1
      have hdiv (w : Nat) : w / 2 ^ (z + (k + 1)) = w / 2 ^ z / 2 / 2 ^ k := by
        rw [pow_add, pow_succ', Nat.div_div_eq_div_mul, Nat.div_div_eq_div_mul]
      have hhalf : (m / 2 ^ z - 1) / 2 = m / 2 ^ z / 2 := by
        generalize m / 2 ^ z = w at hodd ⊢
        omega
      rw [bitOf, bitOf, hdiv, hdiv, hsub, hhalf]

end Sys2Proof.Machine
end

section
/-! PROOF. Requests of the Transom: TRANSOM_UPDATE and the load it begins, toggles that fall due, readings of TR_NTC, and
VCOM calibrations that fall due (R338, R339, R341, R342, R347, R390, R493, R504). -/
namespace Sys2Proof.Machine

/-! ### What a command's act leaves, whenever it completes -/

/-- A command that passes the checks leaves what its act leaves, letterboxes apart. -/
theorem State.command_rest {s : State} {f : Nat} {k : Card} {e : SqEntry} {cl : State → Cmd → Option (List Byte)}
    (h : s.runs f k e cl) (act : State → Cmd → CmdRes) (r : CmdRes)
    (hr : (act ((s.pop f).storeCounter k { f := f, e := e }) { f := f, e := e }).settled (s.pop f) = r) :
    r.st.sameButBoxes (s.command f k cl act) := by
  obtain ⟨n, hc⟩ := State.command_runs h act
  have hfin : r.st.sameButBoxes (r.finish { f := f, e := e }) := by
    unfold CmdRes.finish
    split
    · exact State.postAll_sameButBoxes ..
    · exact (State.complete_sameButBoxes ..).trans (State.postAll_sameButBoxes ..)
  rw [hc, hr]
  exact hfin.trans (drainBad_sameButBoxes ..)

/-! ### TRANSOM_UPDATE (R341, R342, R493, R504) -/

/-- A request's payload is out of line: its zone is not used, its image or its alternate image is no multiple of 64. -/
def State.trOutOfLine (s : State) (p : List Byte) : Prop :=
  16 ≤ nAt p 0 1 ∨ (s.zoneAt (nAt p 0 1)).2.2.1 = 0 ∨ nAt p 8 8 % 64 ≠ 0
    ∨ (s.blink (nAt p 0 1) = true ∧ (nAt p 1 1 = 0 ∨ nAt p 0x10 8 % 64 ≠ 0))

/-- An image that a request of a function names lies outside the function's pool. -/
def State.trOutside (s : State) (f : Nat) (p : List Byte) : Bool :=
  let len := (s.zoneAt (nAt p 0 1)).2.2.2 * ((s.zoneAt (nAt p 0 1)).2.2.1 / 4)
  !s.inPool f (nAt p 8 8) len || (s.blink (nAt p 0 1) && !s.inPool f (nAt p 0x10 8) len)

/-- The request that a command makes. -/
def State.trRequest (s : State) (c : Cmd) : TrReq :=
  let z := nAt c.payload 0 1
  { zone := z, issuer := c.f, tag := nAt c.payload 4 4, cmdId := c.cmdId, respLen := c.respLen, respOk := c.e.respOk,
    image := nAt c.payload 8 8, alt := if s.blink z then some (nAt c.payload 0x10 8) else none, rect := s.zoneAt z }

/-- A request takes the place of those of its zone that are pending, which end SUPERSEDED, and its load begins. -/
def State.trTaken (s : State) (q : TrReq) : State :=
  ((s.transom.pending.filter fun r => r.zone == q.zone).foldl (fun a r => a.trDrop r 1) s).modTrm fun t =>
    { t with pending := t.pending.filter fun r => r.zone ≠ q.zone, loading := t.loading ++ [q] }

/-- What the act of TRANSOM_UPDATE answers. -/
theorem exec_transomUpdate (f : Nat) (s : State) :
    ∃ act, exec (.transomUpdate f) s = .next (s.hostCommand f transomCard act) ∧ ∀ (u : State) (c : Cmd),
      (u.trOutOfLine c.payload → act u c = .bad u stBadField)
      ∧ (¬ u.trOutOfLine c.payload →
        (u.trOutside f c.payload = true → act u c = poolBreach u 16)
        ∧ (u.trOutside f c.payload = false →
          (u.trEn = false → act u c = .bad u stNotReady)
          ∧ (u.trEn = true → c.f = f → act u c = { CmdRes.ok (u.trTaken (u.trRequest c)) [] with later := true }))) := by
  refine ⟨_, rfl, fun u c => ⟨fun h => if_pos h, fun h => ⟨fun ho => (if_neg h).trans (if_pos ho), fun ho => ?_⟩⟩⟩
  have hno := ne_true_of_eq_false ho
  refine ⟨fun ht => (if_neg h).trans ((if_neg hno).trans (if_pos (by simp [ht]))), ?_⟩
  rintro ht rfl
  exact (if_neg h).trans ((if_neg hno).trans (if_neg (by simp [ht])))

theorem State.storeCounter_transomCard (s : State) (c : Cmd) : s.storeCounter transomCard c = s :=
  State.storeCounter_plain _ _ _ (Card.hasTrailer_plain _ _ rfl)

theorem State.trDrops_sameButBoxes (l : List TrReq) (outcome : Nat) (s : State) :
    s.sameButBoxes (l.foldl (fun a r => a.trDrop r outcome) s) := by
  induction l generalizing s with
  | nil => rfl
  | cons r l ih => exact (State.event_sameButBoxes ..).trans (ih _)

/-- Beside the letterboxes, the request is the only change. -/
theorem State.trTaken_eq (s : State) (q : TrReq) :
    ∃ bs, s.trTaken q = { s with
      boxes := bs
      transom := { s.transom with loading := s.transom.loading ++ [q],
                                  pending := s.transom.pending.filter fun r => r.zone ≠ q.zone } } := by
  have h := State.trDrops_sameButBoxes (s.transom.pending.filter fun r => r.zone == q.zone) 1 s
  unfold State.sameButBoxes at h
  rw [State.trTaken, h]
  exact ⟨_, rfl⟩

section
variable {f : Nat} {e : SqEntry} {s : State} (h : s.hostRuns f transomCard e)
include h

theorem transomUpdate_outOfLine (hline : s.trOutOfLine (payloadOf e)) :
    ∃ t, exec (.transomUpdate f) s = .next t ∧ s.sameButBoxes t ∧ (s.box f).gained (t.box f) e stBadField 0 [] := by
  obtain ⟨act, hx, hact⟩ := exec_transomUpdate f s
  obtain ⟨hbad, -⟩ := hact (s.pop f) { f := f, e := e }
  obtain ⟨hsame, hgain⟩ := State.command_answers h act (.bad (s.pop f) stBadField)
    (by rw [State.storeCounter_transomCard, hbad hline]; rfl) rfl rfl
  exact ⟨_, hx, (State.pop_sameButBoxes s f).trans hsame, hgain⟩

theorem transomUpdate_outside (hline : ¬ s.trOutOfLine (payloadOf e)) (hpool : s.trOutside f (payloadOf e) = true) :
    ∃ t, exec (.transomUpdate f) s = .next t ∧ (s.violate 3).sameButBoxes t := by
  obtain ⟨act, hx, hact⟩ := exec_transomUpdate f s
  obtain ⟨-, hin⟩ := hact (s.pop f) { f := f, e := e }
  obtain ⟨hbreach, -⟩ := hin hline
  have hrest := State.command_rest h act (poolBreach (s.pop f) 16)
    (by rw [State.storeCounter_transomCard, hbreach hpool]; rfl)
  have hpop : (s.violate 3).sameButBoxes ((s.pop f).violate 3) := rfl
  exact ⟨_, hx, hpop.trans hrest⟩

theorem transomUpdate_off (hline : ¬ s.trOutOfLine (payloadOf e)) (hpool : s.trOutside f (payloadOf e) = false)
    (hoff : s.trEn = false) :
    ∃ t, exec (.transomUpdate f) s = .next t ∧ s.sameButBoxes t ∧ (s.box f).gained (t.box f) e stNotReady 0 [] := by
  obtain ⟨act, hx, hact⟩ := exec_transomUpdate f s
  obtain ⟨-, hin⟩ := hact (s.pop f) { f := f, e := e }
  obtain ⟨-, hmine⟩ := hin hline
  obtain ⟨hready, -⟩ := hmine hpool
  obtain ⟨hsame, hgain⟩ := State.command_answers h act (.bad (s.pop f) stNotReady)
    (by rw [State.storeCounter_transomCard, hready hoff]; rfl) rfl rfl
  exact ⟨_, hx, (State.pop_sameButBoxes s f).trans hsame, hgain⟩

theorem transomUpdate_taken (hline : ¬ s.trOutOfLine (payloadOf e)) (hpool : s.trOutside f (payloadOf e) = false)
    (hon : s.trEn = true) :
    ∃ t, exec (.transomUpdate f) s = .next t ∧ (s.trTaken (s.trRequest { f := f, e := e })).sameButBoxes t := by
  obtain ⟨act, hx, hact⟩ := exec_transomUpdate f s
  obtain ⟨-, hin⟩ := hact (s.pop f) { f := f, e := e }
  obtain ⟨-, hmine⟩ := hin hline
  obtain ⟨-, htake⟩ := hmine hpool
  have hrest := State.command_rest h act
    { CmdRes.ok ((s.pop f).trTaken (s.trRequest { f := f, e := e })) [] with later := true }
    (by rw [State.storeCounter_transomCard, htake hon rfl]; rfl)
  obtain ⟨bs, hbs⟩ := (s.pop f).trTaken_eq (s.trRequest { f := f, e := e })
  obtain ⟨bs', hbs'⟩ := s.trTaken_eq (s.trRequest { f := f, e := e })
  have hpop : (s.trTaken (s.trRequest { f := f, e := e })).sameButBoxes
      ((s.pop f).trTaken (s.trRequest { f := f, e := e })) := by
    rw [hbs, hbs']
    rfl
  exact ⟨_, hx, hpop.trans hrest⟩

end

/-! ### Rails that are wanted (R343) -/

theorem Transom.requestRails_eq (t : Transom) (now : Nat) (enabled : Bool) :
    ∃ rail at_, t.requestRails now enabled = { t with ramping := rail, rampAt := at_ } := by
  unfold Transom.requestRails
  split
  · exact ⟨t.ramping, t.rampAt, rfl⟩
  · exact ⟨_, _, rfl⟩

/-- The request of the rails is the only thing that may change. -/
theorem State.wantRails_eq (s : State) :
    ∃ rail at_, s.wantRails = s.modTrm fun t => { t with ramping := rail, rampAt := at_ } := by
  unfold State.wantRails
  split
  · obtain ⟨rail, at_, h⟩ := s.transom.requestRails_eq s.clk s.trEn
    exact ⟨rail, at_, by rw [State.modTrm, h]; rfl⟩
  · exact ⟨s.transom.ramping, s.transom.rampAt, rfl⟩

/-- Where something waits and no rail is up or falls, the rails come up. -/
theorem State.wantRails_ramping {s : State} (hw : s.transom.wants = true) (hp : s.transom.powerLoss = false)
    (hon : s.trEn = true) (hr : s.transom.rails = []) (hf : s.transom.falling = none) :
    s.wantRails.transom.ramping.isSome = true := by
  rw [State.wantRails, if_pos hw]
  show (s.transom.requestRails s.clk s.trEn).ramping.isSome = true
  unfold Transom.requestRails
  split
  · simp_all
  · rfl

/-! ### TRANSOM_LOAD_DONE (R341, R342, R346, R441) -/

/-- The columns and lines of an image, line by line. -/
def imageCells (w h : Nat) : List (Nat × Nat) := (List.range h).flatMap fun y => (List.range w).map fun x => (x, y)

theorem mem_imageCells {w h x y : Nat} : (x, y) ∈ imageCells w h ↔ x < w ∧ y < h := by
  simp [imageCells, and_comm]

theorem loadPlane_eq (p : Table Nat) (r : Nat × Nat × Nat × Nat) (get : Nat → Byte) :
    loadPlane p r get = (imageCells r.2.2.1 r.2.2.2).foldl (fun a c =>
      tset 0 a (pixKey (r.1 + c.1) (r.2.1 + c.2)) (imagePix get r.2.2.1 c.1 c.2)) p := by
  simp only [imageCells, loadPlane, List.foldl_flatMap, List.foldl_map]

/-- Every pixel of a rectangle on the panel holds its level in the image that was loaded there. -/
theorem tget_loadPlane (p : Table Nat) (r : Nat × Nat × Nat × Nat) (get : Nat → Byte) {i j : Nat} (hi : i < r.2.2.1)
    (hj : j < r.2.2.2) (hx : r.1 + r.2.2.1 ≤ 2560) :
    tget 0 (loadPlane p r get) (pixKey (r.1 + i) (r.2.1 + j)) = imagePix get r.2.2.1 i j := by
  rw [loadPlane_eq]
  refine tget_foldl_tset_of_mem _ _ _ _ ?_ ⟨(i, j), mem_imageCells.mpr ⟨hi, hj⟩, rfl⟩
  rintro ⟨x, y⟩ hc hkey
  obtain ⟨hxw, -⟩ := mem_imageCells.mp hc
  simp only [pixKey] at hkey
  obtain ⟨rfl, rfl⟩ : x = i ∧ y = j := by omega
  rfl

/-- A completion that is not discarded stands in the ring (R464, R468). -/
theorem Letterbox.postCompletion_mem (b : Letterbox) {id : Nat} (now status retry len : Nat) (ok : Bool) (resp : List Byte)
    (hq : b.cqEn = true) (hz : b.cqSize ≠ 0) (hid : id < 0x100000000) :
    ∃ c ∈ (b.postCompletion now id status retry len ok resp).cq, c.cmdId = id ∧ c.status = status := by
  have hkeep : ¬ 4294967296 ≤ id := by omega
  simp [Letterbox.postCompletion, hq, hz, hkeep, Letterbox.raiseCq_cq]

/-- Two states that differ in nothing but their letterboxes and the Transom. -/
def State.sameButRequests (s t : State) : Prop := t = { s with boxes := t.boxes, transom := t.transom }

theorem State.sameButRequests.trans {s t u : State} (h : s.sameButRequests t) (h' : t.sameButRequests u) :
    s.sameButRequests u := by
  unfold State.sameButRequests at *
  rw [h'.trans (by rw [h])]

theorem State.modTrm_sameButRequests (s : State) (g : Transom → Transom) : s.sameButRequests (s.modTrm g) := rfl

theorem State.modBox_sameButRequests (s : State) (f : Nat) (g : Letterbox → Letterbox) : s.sameButRequests (s.modBox f g) :=
  rfl

/-- The oldest load of a zone ends: its command completes with OK_DEFERRED. -/
def State.loadEnds (s : State) (z : Nat) (r : TrReq) : State :=
  (s.modTrm fun t => { t with loading := t.loading.eraseP fun q => q.zone == z }).modBox r.issuer fun b =>
    b.postCompletion s.us r.cmdId stDeferred 0 r.respLen r.respOk (leBytes 4 r.tag)

section
variable {z : Nat} {r : TrReq} {s : State}

theorem exec_transomLoadDone_waits (h : (s.transom.loading.find? fun q => q.zone == z) = none ∨ s.dram.st ≠ 2) :
    exec (.transomLoadDone z) s = .next s := by
  show execTransomLoadDone z s = _
  unfold execTransomLoadDone
  split
  case h_1 => rfl
  case h_2 r hr =>
    rw [if_pos (h.resolve_left (by simp [hr]))]

theorem exec_transomLoadDone_dropped (hr : (s.transom.loading.find? fun q => q.zone == z) = some r) (hd : s.dram.st = 2)
    (h : r.rect ≠ s.zoneAt z ∨ ((s.transom.loading.eraseP fun q => q.zone == z).any fun q => q.zone == z) = true) :
    ∃ outcome, exec (.transomLoadDone z) s = .next ((s.loadEnds z r).trDrop r outcome) := by
  show ∃ outcome, execTransomLoadDone z s = _
  rw [execTransomLoadDone, hr]
  dsimp only
  rw [if_neg (not_not.mpr hd)]
  by_cases hrect : r.rect = s.zoneAt z
  · rw [if_neg (not_not.mpr hrect), if_pos (h.resolve_left (not_not.mpr hrect))]
    exact ⟨1, rfl⟩
  · rw [if_pos hrect]
    exact ⟨3, rfl⟩

theorem exec_transomLoadDone_taken (hr : (s.transom.loading.find? fun q => q.zone == z) = some r) (hd : s.dram.st = 2)
    (hrect : r.rect = s.zoneAt z) (h : ((s.transom.loading.eraseP fun q => q.zone == z).any fun q => q.zone == z) = false) :
    ∃ planeB, exec (.transomLoadDone z) s = .next ((s.loadEnds z r).modTrm fun t =>
      { t with planeP := loadPlane t.planeP r.rect fun k => memGet s.dram.mem (r.image + k), planeB := planeB,
               pending := t.pending ++ [r] }).wantRails := by
  show ∃ planeB, execTransomLoadDone z s = _
  rw [execTransomLoadDone, hr]
  dsimp only
  rw [if_neg (not_not.mpr hd), if_neg (not_not.mpr hrect), if_neg (ne_true_of_eq_false h)]
  exact ⟨_, rfl⟩

theorem State.loadEnds_completes (hid : r.cmdId < 0x100000000) (hl : r.issuer < s.boxes.length)
    (hq : (s.box r.issuer).cqEn = true) (hz : (s.box r.issuer).cqSize ≠ 0) :
    ∃ c ∈ ((s.loadEnds z r).box r.issuer).cq, c.cmdId = r.cmdId ∧ c.status = stDeferred := by
  rw [State.loadEnds, State.box_modBox_self _ _ _ (by exact hl)]
  exact Letterbox.postCompletion_mem _ _ _ _ _ _ _ hq hz hid

end

/-- A load ends (R341, R342, R346): the request is pending with its image in plane P, or is dropped. -/
theorem transomLoadDone_ends {z : Nat} {r : TrReq} {s : State}
    (hr : (s.transom.loading.find? fun q => q.zone == z) = some r) (hd : s.dram.st = 2) (hid : r.cmdId < 0x100000000)
    (hl : r.issuer < s.boxes.length) (hq : (s.box r.issuer).cqEn = true) (hz : (s.box r.issuer).cqSize ≠ 0) :
    ∃ t, exec (.transomLoadDone z) s = .next t ∧ t = { s with boxes := t.boxes, transom := t.transom }
      ∧ (∃ c ∈ (t.box r.issuer).cq, c.cmdId = r.cmdId ∧ c.status = stDeferred)
      ∧ t.transom.loading = s.transom.loading.eraseP (fun q => q.zone == z)
      ∧ (r.rect ≠ s.zoneAt z ∨ t.transom.loading.any (fun q => q.zone == z) = true →
          t.transom.pending = s.transom.pending ∧ t.transom.planeP = s.transom.planeP)
      ∧ (r.rect = s.zoneAt z → t.transom.loading.any (fun q => q.zone == z) = false →
          t.transom.pending = s.transom.pending ++ [r]
          ∧ ∀ i j, i < r.rect.2.2.1 → j < r.rect.2.2.2 → r.rect.1 + r.rect.2.2.1 ≤ 2560 →
              tget 0 t.transom.planeP (pixKey (r.rect.1 + i) (r.rect.2.1 + j))
                = imagePix (fun k => memGet s.dram.mem (r.image + k)) r.rect.2.2.1 i j) := by
  have hdone := State.loadEnds_completes (z := z) hid hl hq hz
  have hframe : s.sameButRequests (s.loadEnds z r) :=
    (State.modTrm_sameButRequests ..).trans (State.modBox_sameButRequests ..)
  by_cases h : r.rect ≠ s.zoneAt z ∨ ((s.transom.loading.eraseP fun q => q.zone == z).any fun q => q.zone == z) = true
  · obtain ⟨outcome, hx⟩ := exec_transomLoadDone_dropped hr hd h
    refine ⟨_, hx, hframe.trans (State.modBox_sameButRequests ..), ?_, rfl, fun _ => ⟨rfl, rfl⟩, fun hrect hnone => ?_⟩
    · rwa [State.trDrop, State.trEvent, State.event_box_cq]
    · rcases h with hne | hany
      · exact absurd hrect hne
      · exact absurd hany (ne_true_of_eq_false hnone)
  · obtain ⟨hrect, hnone⟩ := not_or.mp h
    rw [not_not] at hrect
    obtain ⟨planeB, hx⟩ := exec_transomLoadDone_taken hr hd hrect (Bool.eq_false_iff.mpr hnone)
    obtain ⟨rail, at_, hw⟩ := State.wantRails_eq ((s.loadEnds z r).modTrm fun t =>
      { t with planeP := loadPlane t.planeP r.rect fun k => memGet s.dram.mem (r.image + k), planeB := planeB,
               pending := t.pending ++ [r] })
    rw [hw] at hx
    refine ⟨_, hx, (hframe.trans (State.modTrm_sameButRequests ..)).trans (State.modTrm_sameButRequests ..), hdone, rfl,
      fun hor => ?_, fun _ _ => ⟨rfl, fun i j hi hj hfit => ?_⟩⟩
    · exact absurd hor (not_or.mpr ⟨not_not.mpr hrect, hnone⟩)
    · exact tget_loadPlane _ _ _ hi hj hfit

/-! ### Toggles (R347) -/

/-- A zone's toggle has fallen due at an instant. -/
def State.toggleFalls (s : State) (z at_ : Nat) : State :=
  (s.atClk at_).modTrm fun t => { t with toggleAt := t.toggleAt.filter (·.1 ≠ z), toggleDue := maskAdd t.toggleDue z }

section
variable {z : Nat} {s : State}

theorem exec_blinkToggle_none (h : (s.transom.toggleAt.find? fun e => e.1 == z) = none) : exec (.blinkToggle z) s = .next s := by
  show execBlinkToggle z s = _
  rw [execBlinkToggle, h]

variable {at_ : Nat} (h : (s.transom.toggleAt.find? fun e => e.1 == z) = some (z, at_))
include h

theorem exec_blinkToggle_off (hoff : s.transom.powerLoss = true ∨ s.trEn = false ∨ s.blink z = false) :
    exec (.blinkToggle z) s = .next s := by
  show execBlinkToggle z s = _
  rw [execBlinkToggle, h]
  exact congrArg _ (if_pos (by rcases hoff with h | h | h <;> simp [h]))

/-- A toggle that falls due is marked in its mask, and wants the rails. -/
theorem blinkToggle_due (hp : s.transom.powerLoss = false) (hon : s.trEn = true) (hb : s.blink z = true) :
    ∃ t, exec (.blinkToggle z) s = .next t ∧ t = { s with clk := max s.clk at_, transom := t.transom }
      ∧ bitOf t.transom.toggleDue z = true ∧ t.transom.toggleAt = s.transom.toggleAt.filter (fun e => e.1 ≠ z)
      ∧ (s.transom.rails = [] → s.transom.falling = none → t.transom.ramping.isSome = true)
      ∧ t.transom.pending = s.transom.pending ∧ t.transom.running = s.transom.running := by
  have hx : exec (.blinkToggle z) s = .next (s.toggleFalls z at_).wantRails := by
    show execBlinkToggle z s = _
    rw [execBlinkToggle, h]
    exact congrArg _ (if_neg (by simp [hp, hon, hb]))
  have hbit : bitOf (s.toggleFalls z at_).transom.toggleDue z = true := bitOf_maskAdd_self ..
  have hw : (s.toggleFalls z at_).transom.wants = true := by
    have hne : (s.toggleFalls z at_).transom.toggleDue ≠ 0 := fun h0 => by simp [h0, bitOf] at hbit
    simp [Transom.wants, hne]
  have hramp (hr : s.transom.rails = []) (hf : s.transom.falling = none) :
      (s.toggleFalls z at_).wantRails.transom.ramping.isSome = true := State.wantRails_ramping hw hp hon hr hf
  obtain ⟨rail, now, hu⟩ := (s.toggleFalls z at_).wantRails_eq
  rw [hu] at hx hramp
  exact ⟨_, hx, rfl, hbit, rfl, hramp, rfl, rfl⟩

end

/-! ### Readings of TR_NTC (R338, R339) -/

/-- A report that is entered in the log and told to the functions. -/
theorem State.enterLog_told (s : State) (x : FaultIn) (code : Nat) (data : List Byte) :
    s.sameButHandling ((s.enterLog x).eventAll code data).spoilFrames
      ∧ ((s.enterLog x).eventAll code data).spoilFrames.transom = s.transom
      ∧ ((s.enterLog x).eventAll code data).spoilFrames.cellar.log = logAppend s.cellar.log (s.entryOf x) := by
  obtain ⟨-, -, -, hlog, hframe⟩ := State.frame_of_quiet (s := s) (t := ((s.enterLog x).eventAll code data).spoilFrames)
    (l := logAppend s.cellar.log (s.entryOf x)) (by simp [State.enterLog_quiet])
  exact ⟨hframe, by simp only [State.spoilFrames, State.eventAll, State.enterLog], hlog⟩

/-- A report of FC0 or FC1 that forces no safe state changes nothing but Cellar, its records and letterboxes. -/
theorem State.fault_light {s : State} {x : FaultIn} (hc : s.classOf x ≤ 1) (hf : x.force = .none) :
    s.sameButHandling (s.fault x) ∧ (s.fault x).transom = s.transom
      ∧ (s.repeated x = none → s.logs (s.fault x) x.code x.island) := by
  have hforce : s.forceOf x = .none := (if_neg (by omega)).trans hf
  have hcls : min (s.classOf x) 4 ≠ 4 := by omega
  have hrec : recoverable x (min (s.classOf x) 4) = false := by
    have h3 : min (s.classOf x) 4 ≠ 3 := by omega
    simp [recoverable, h3, hcls]
  have hmark (u : State) : u.force .none x.code (min (s.classOf x) 4) = u := if_neg hcls
  unfold State.fault
  split
  case h_1 e he =>
    simp only [hforce, hmark]
    exact ⟨rfl, rfl, fun hnew => by simp [he] at hnew⟩
  case h_2 =>
    simp only [hforce, hmark, hrec, Bool.false_eq_true, false_and, if_false]
    obtain ⟨hframe, htrm, hlog⟩ := s.enterLog_told x 0x8D00 _
    exact ⟨hframe, htrm, fun _ => State.logs_of_mem (hlog ▸ mem_logAppend_self _ _)⟩

/-- While nothing is handled, an FC1 fault stays FC1 (R557). -/
theorem State.classOf_fc1 {s : State} {x : FaultIn} (hh : s.handling = false) (hx : x.cls = 1) : s.classOf x = 1 := by
  simp [State.classOf, State.quick, State.classUp, hh, hx]

/-- What an NTC fault reports (R339). -/
def ntcReport : FaultIn := { code := 0x802, cls := 1, island := 61, detail := 0, force := .none }

/-- TEMP has moved by 10 °C since the last calibration, and calibrations are on with none in progress (R390). -/
def State.tempMoved (s : State) (temp : Int) : Bool :=
  s.vcomEn && s.transom.vcomAt.isSome && s.transom.vcomLeft == 0 && decide (10 ≤ (temp - s.transom.vcomTemp).natAbs)

section
variable {ohms : Nat} {s : State}

theorem exec_ntcMeasure_stopped (h : s.cellar.ctlRuns = false) : exec (.ntcMeasure ohms) s = .next s :=
  congrArg Host.Outcome.next (if_pos (by simp [h]))

/-- A reading outside the band is an NTC fault, and the last good one stands. -/
theorem ntcMeasure_fault (hrun : s.cellar.ctlRuns = true) (hn : ntcTemp ohms = none) (hh : s.handling = false) :
    ∃ t, exec (.ntcMeasure ohms) s = .next t ∧ s.sameButHandling t ∧ t.transom.ntcFault = true
      ∧ t.transom.reading = s.transom.reading ∧ t.transom.temp = s.transom.temp
      ∧ ((∀ l ∈ s.cellar.log, ¬ (l.code = 0x802 ∧ l.island = 61 ∧ s.us < l.time + 1000000)) → s.logs t 0x802 61) := by
  have hx : exec (.ntcMeasure ohms) s = .next ((s.modTrm fun t => { t with ntcFault := true }).fault ntcReport) := by
    show execNtcMeasure ohms s = _
    rw [execNtcMeasure, hn, if_neg (by simp [hrun])]
    rfl
  have hu : s.sameButHandling (s.modTrm fun t => { t with ntcFault := true }) := rfl
  have hc : (s.modTrm fun t => { t with ntcFault := true }).classOf ntcReport = 1 := State.classOf_fc1 hh rfl
  obtain ⟨hframe, htrm, hlogs⟩ := State.fault_light hc.le rfl
  refine ⟨_, hx, hu.trans hframe, ?_, ?_, ?_, fun hold => hlogs ?_⟩
  · rw [htrm]; rfl
  · rw [htrm]; rfl
  · rw [htrm]; rfl
  · rw [State.repeated, if_pos hc.le, List.find?_eq_none]
    intro l hl
    have hus : (s.modTrm fun t => { t with ntcFault := true }).us = s.us := rfl
    simpa [ntcReport, hus] using hold l hl

/-- A good reading sets TEMP and the reading, and requests a VCOM calibration where TEMP has moved far enough (R390). -/
theorem ntcMeasure_good {d : Int} (hrun : s.cellar.ctlRuns = true) (hn : ntcTemp ohms = some d) :
    ∃ t, exec (.ntcMeasure ohms) s = .next t ∧ t = { s with free := t.free, transom := t.transom }
      ∧ t.transom.ntcFault = false ∧ t.transom.reading = some d ∧ t.useRange = s.trRange d
      ∧ (t.transom.temp = d ∨ t.transom.temp = d + 1)
      ∧ t.transom.vcomReq = (s.transom.vcomReq || (s.vcomEn && s.transom.vcomAt.isSome && s.transom.vcomLeft == 0
                              && decide (10 ≤ (t.transom.temp - s.transom.vcomTemp).natAbs))) := by
  have htemp : (d + (s.freeBelow 2 : Nat) : Int) = d ∨ (d + (s.freeBelow 2 : Nat) : Int) = d + 1 := by
    have hlt : s.freeBelow 2 < 2 := Nat.mod_lt _ (by decide)
    omega
  have hx : exec (.ntcMeasure ohms) s = .next (s.drawn.modTrm fun t =>
      { t with ntcFault := false, temp := d + (s.freeBelow 2 : Nat), reading := some d,
               vcomReq := s.transom.vcomReq || s.tempMoved (d + (s.freeBelow 2 : Nat)) }) := by
    show execNtcMeasure ohms s = _
    rw [execNtcMeasure, hn, if_neg (by simp [hrun])]
    cases hmoved : s.tempMoved (d + (s.freeBelow 2 : Nat)) with
    | true =>
      rw [Bool.or_true]
      exact congrArg _ (if_pos hmoved)
    | false =>
      rw [Bool.or_false]
      exact congrArg _ (if_neg (ne_true_of_eq_false hmoved))
  exact ⟨_, hx, rfl, rfl, rfl, rfl, htemp, rfl⟩

end

/-! ### VCOM calibrations that fall due (R390) -/

section
variable {s : State}

theorem exec_vcomCalDue_due {u : Nat} (hat : s.transom.vcomAt = some u) (hen : s.vcomEn = true)
    (hleft : s.transom.vcomLeft = 0) (hreq : s.transom.vcomReq = false) (hp : s.transom.powerLoss = false) :
    exec .vcomCalDue s = .next { s with
      clk := max s.clk (25 * (u + fld (s.lv .cal .A 0x108) 0 8 * 3600000000)),
      transom := { s.transom with vcomReq := true } } := by
  show execVcomCalDue s = _
  rw [execVcomCalDue, hat]
  exact congrArg _ (if_neg (by simp [hen, hleft, hreq, hp]))

theorem exec_vcomCalDue_not (h : s.transom.vcomAt = none ∨ s.vcomEn = false ∨ s.transom.vcomLeft ≠ 0
    ∨ s.transom.vcomReq = true ∨ s.transom.powerLoss = true) : exec .vcomCalDue s = .next s := by
  show execVcomCalDue s = _
  unfold execVcomCalDue
  split
  case h_1 => rfl
  case h_2 u hat =>
    refine congrArg _ (if_pos ?_)
    rcases h with h | h | h | h | h
    · simp [hat] at h
    all_goals simp [h]

end

/-! ### The requests together -/

theorem transomRequestsLoad : Clause.TransomRequestsLoad := by
  rintro f z e r s rfl
  refine ⟨fun h => ⟨fun hz hw ha hin hbl => ?_, fun hbad => ?_, fun hz hw ha hb hout => ?_⟩,
    exec_transomLoadDone_waits, transomLoadDone_ends⟩
  · have hline : ¬ s.trOutOfLine (payloadOf e) := by
      rintro (h16 | h0 | h64 | ⟨hb, hbad⟩)
      · omega
      · exact hw h0
      · exact h64 ha
      · obtain ⟨halt, h64, -⟩ := hbl hb
        exact hbad.elim halt (· h64)
    have hpool : s.trOutside f (payloadOf e) = false := by
      cases hb : s.blink (nAt (payloadOf e) 0 1) with
      | false => simp [State.trOutside, hin, hb]
      | true =>
        obtain ⟨-, -, hin'⟩ := hbl hb
        simp [State.trOutside, hin, hin']
    refine ⟨fun hon => ?_, transomUpdate_off h hline hpool⟩
    obtain ⟨t, hx, ht⟩ := transomUpdate_taken h hline hpool hon
    obtain ⟨bs, hbs⟩ := s.trTaken_eq (s.trRequest { f := f, e := e })
    rw [State.sameButBoxes, hbs] at ht
    exact ⟨t, _, hx, ht, rfl, rfl, rfl, rfl, rfl, rfl, rfl⟩
  · refine transomUpdate_outOfLine h ?_
    rcases hbad with h16 | h0 | h64
    · exact .inl h16
    · exact .inr (.inl h0)
    · exact .inr (.inr (.inl h64))
  · refine transomUpdate_outside h ?_ (by simp [State.trOutside, hout])
    rintro (h16 | h0 | h64 | ⟨hb', -⟩)
    · omega
    · exact hw h0
    · exact h64 ha
    · simp [hb] at hb'

theorem transomRequestsFallDue : Clause.TransomRequestsFallDue := by
  intro z ohms s
  exact ⟨fun at_ h => ⟨blinkToggle_due h, exec_blinkToggle_off h⟩, exec_blinkToggle_none, exec_ntcMeasure_stopped,
    ntcMeasure_fault, fun d => ntcMeasure_good, fun u => exec_vcomCalDue_due, exec_vcomCalDue_not⟩

/-- Settles O50: each clause is one case of its row's own lemma. -/
theorem transomRequests : Obligations.TransomRequests := ⟨transomRequestsLoad, transomRequestsFallDue⟩

end Sys2Proof.Machine
end

section
/-! PROOF. What the endings of the Transom's updates, its starts and its doorway leave (R343 to R348, R355 to R357). -/
namespace Sys2Proof.Machine

/-! ### What endings leave -/

/-- What the endings of updates leave of the Transom. -/
structure TrStore where
  planeD    : Table Nat
  planeT    : Table Nat
  planeP    : Table Nat
  ledger    : Table Int
  bus       : List TrLine
  pending   : List TrReq
  toggleDue : Nat

def Transom.store (t : Transom) : TrStore :=
  { planeD := t.planeD, planeT := t.planeT, planeP := t.planeP, ledger := t.ledger, bus := t.bus, pending := t.pending,
    toggleDue := t.toggleDue }

/-- A machine with what updates work on taken from `b`: the letterboxes, MRAM and the Transom. -/
def State.apart (s b : State) : State := { s with boxes := b.boxes, mram := b.mram, transom := b.transom }

/-- What stands around an update that ends, and what it leaves of the Transom. -/
def State.kept (s b : State) : State × TrStore := (s.apart b, s.transom.store)

section
variable (s b : State)

theorem State.modTrm_kept (g : Transom → Transom) (h : (g s.transom).store = s.transom.store) :
    (s.modTrm g).kept b = s.kept b := Prod.ext rfl h

@[simp] theorem State.trEvent_kept (issuer zone outcome range tag frames : Nat) :
    (s.trEvent issuer zone outcome range tag frames).kept b = s.kept b := rfl

@[simp] theorem State.scheduleBlink_kept (z : Nat) : (s.scheduleBlink z).kept b = s.kept b := s.modTrm_kept b _ rfl

@[simp] theorem State.endShown_kept (u : TrUpdate) : (s.endShown u).kept b = s.kept b := by
  have hcount : (s.modTrm fun t => { t with updates := sat 16 (t.updates + 1) }).kept b = s.kept b := s.modTrm_kept b _ rfl
  unfold State.endShown
  split
  case h_1 => exact (State.scheduleBlink_kept _ b _).trans ((State.trEvent_kept _ b ..).trans hcount)
  case h_2 => exact (State.scheduleBlink_kept _ b _).trans ((State.modTrm_kept _ b _ rfl).trans hcount)
  case h_3 => exact hcount
  case h_4 =>
    exact (foldl_keeps (State.kept · b) _ (fun a z => a.scheduleBlink_kept b z) _ _).trans
      ((State.modTrm_kept _ b _ rfl).trans hcount)
  case h_5 => exact (State.modTrm_kept _ b _ rfl).trans hcount
  case h_6 =>
    refine (State.modTrm_kept _ b _ ?_).trans hcount
    split <;> rfl

@[simp] theorem State.endAborted_kept (u : TrUpdate) (lost : Bool) : (s.endAborted u lost).kept b = s.kept b := by
  unfold State.endAborted
  dsimp only
  generalize hv : (if lost = true then _ else s : State) = v
  have hkept : v.kept b = s.kept b := by
    rw [← hv]
    split <;> rfl
  rw [← hkept]
  split
  case h_1 => rfl
  case h_2 => exact v.scheduleBlink_kept b _
  case h_3 => exact v.modTrm_kept b _ rfl
  case h_4 => exact v.modTrm_kept b _ rfl
  all_goals rfl

@[simp] theorem State.endUpdates_kept : s.endUpdates.kept b = s.kept b := by
  refine (foldl_keeps (State.kept · b) _ (fun a u => ?_) _ _).trans (s.modTrm_kept b _ rfl)
  split
  · exact a.endAborted_kept b u true
  · exact a.endShown_kept b u

@[simp] theorem State.wantRails_kept : s.wantRails.kept b = s.kept b := by
  unfold State.wantRails
  split
  · refine s.modTrm_kept b _ ?_
    unfold Transom.requestRails
    split <;> rfl
  · rfl

@[simp] theorem State.markDirty_kept : s.markDirty.kept b = s.kept b := by
  unfold State.markDirty
  dsimp only
  split <;> rfl

@[simp] theorem State.trFlush_kept : s.trFlush.kept b = s.kept b := by
  unfold State.trFlush Transom.down
  split <;> rfl

@[simp] theorem State.trLossFrame_kept : s.trLossFrame.kept b = s.kept b := by
  unfold State.trLossFrame
  dsimp only
  generalize hv : (if s.transom.lossBal = true then s else _ : State) = v
  have hkept : v.kept b = s.kept b := by
    rw [← hv]
    split
    · rfl
    · exact (State.endUpdates_kept _ b).trans (s.modTrm_kept b _ rfl)
  rw [← hkept]
  split
  · rfl
  · exact v.trFlush_kept b

end

/-! ### An engine with nothing to start -/

/-- Nothing waits to start: no request, no toggle, no clear, no message, no release of the hold, no refresh. -/
def Transom.idle (t : Transom) : Prop :=
  t.pending = [] ∧ t.toggleDue = 0 ∧ t.clears = 0 ∧ t.msgDue = false ∧ t.uncertain = false

theorem State.modTrm_idle {s : State} {g : Transom → Transom} (hg : ∀ t : Transom, t.idle → (g t).idle)
    (h : s.transom.idle) : (s.modTrm g).transom.idle := hg _ h

theorem State.scheduleBlink_idle {s : State} (z : Nat) (h : s.transom.idle) : (s.scheduleBlink z).transom.idle :=
  State.modTrm_idle (fun _ ht => ht) h

theorem State.endShown_idle {s : State} (u : TrUpdate) (h : s.transom.idle) : (s.endShown u).transom.idle := by
  have hcount : (s.modTrm fun t => { t with updates := sat 16 (t.updates + 1) }).transom.idle :=
    State.modTrm_idle (fun _ ht => ht) h
  unfold State.endShown
  split
  case h_1 => exact State.scheduleBlink_idle u.zone hcount
  case h_2 => exact State.scheduleBlink_idle u.zone (State.modTrm_idle (fun _ ht => ht) hcount)
  case h_3 => exact hcount
  case h_4 =>
    exact List.foldlRecOn (motive := fun a : State => a.transom.idle) _ _ (State.modTrm_idle (fun _ ht => ht) hcount)
      fun _ ha z _ => State.scheduleBlink_idle z ha
  case h_5 =>
    refine State.modTrm_idle (fun t ht => ?_) hcount
    obtain ⟨hpend, htog, hclr, hmsg, hunc⟩ := ht
    exact ⟨hpend, htog, by simp [hclr, maskDrop, bitOf], hmsg, hunc⟩
  case h_6 =>
    refine State.modTrm_idle (fun t ht => ?_) hcount
    obtain ⟨hpend, htog, hclr, hmsg, hunc⟩ := ht
    split
    · exact ⟨hpend, htog, hclr, hmsg, hunc⟩
    · exact ⟨hpend, htog, rfl, hmsg, rfl⟩

/-- The endings of updates that none has cut short leave nothing to start. -/
theorem State.endUpdates_idle {s : State} (h : s.transom.idle) (hr : ∀ u ∈ s.transom.running, u.aborted = false) :
    s.endUpdates.transom.idle := by
  refine List.foldlRecOn (motive := fun a : State => a.transom.idle) _ _ h fun a ha u hu => ?_
  rw [if_neg (by simp [hr u (List.mem_of_mem_filter hu)])]
  exact a.endShown_idle u ha

/-- A frame of a VCOM calibration works on the calibration's own record. -/
theorem State.vcomFrame_eq (s : State) : ∃ n g, s.vcomFrame = ({ s with free := n } : State).modTrm g
    ∧ ∀ t : Transom, (g t).store = t.store ∧ (g t).running = t.running ∧ (t.idle → (g t).idle) := by
  unfold State.vcomFrame State.vcomAbort
  dsimp only
  split
  · exact ⟨_, id, rfl, fun t => ⟨rfl, rfl, id⟩⟩
  · split
    · exact ⟨_, _, rfl, fun t => ⟨rfl, rfl, id⟩⟩
    · split
      · exact ⟨_, _, rfl, fun t => ⟨rfl, rfl, id⟩⟩
      · exact ⟨_, _, rfl, fun t => ⟨rfl, rfl, id⟩⟩

theorem Transom.idle.zoneReady {t : Transom} (h : t.idle) (z : Nat) : t.zoneReady z = false := by
  obtain ⟨hpend, htog, -, -, -⟩ := h
  simp [Transom.zoneReady, hpend, htog, bitOf]

theorem State.anyStart_of_idle {s : State} (h : s.transom.idle) : s.anyStart = false := by
  have hzone := h.zoneReady
  obtain ⟨-, -, hclr, hmsg, hunc⟩ := h
  simp [State.anyStart, hclr, hmsg, hunc, hzone]

theorem State.startClears_of_none {s : State} (h : s.transom.clears = 0) : s.startClears = s :=
  List.foldl_fixed' (fun z => if_neg (by simp [h, bitOf])) _

/-- Where nothing waits, a boundary begins a VCOM calibration at most. -/
theorem State.trStarts_of_idle {s : State} (h : s.transom.idle) :
    s.trStarts = s ∨ s.trStarts = s.modTrm fun t => { t with vcomReq := false, vcomLeft := 34 } := by
  have hzones : (List.range 16).foldl (fun a z => if a.transom.zoneReady z then a.startZone z else a) s = s :=
    List.foldl_fixed' (fun z => if_neg (by simp [h.zoneReady z])) _
  obtain ⟨-, -, hclr, hmsg, hunc⟩ := h
  unfold State.trStarts
  dsimp only
  rw [if_neg (by simp [hunc]), if_neg (by simp [hmsg]), State.startClears_of_none hclr, hzones]
  split
  · split
    · exact .inr rfl
    · exact .inl rfl
  · exact .inl (ite_self s)

/-! ### Starts -/

/-- What stands around an update that starts, the ledger and the bus. -/
def State.begun (s b : State) : State × Table Int × List TrLine := (s.apart b, s.transom.ledger, s.transom.bus)

theorem State.begun_of_kept {s t b : State} (h : t.kept b = s.kept b) : t.begun b = s.begun b :=
  congrArg (fun k => (k.1, k.2.ledger, k.2.bus)) h

section
variable (s b : State)

theorem State.modTrm_begun (g : Transom → Transom) (hl : (g s.transom).ledger = s.transom.ledger)
    (hb : (g s.transom).bus = s.transom.bus) : (s.modTrm g).begun b = s.begun b := Prod.ext rfl (Prod.ext hl hb)

@[simp] theorem State.startUpdate_begun (zone : Nat) (kind : TrKind) (issuer tag comp : Nat) (seqs : List PixSeq) :
    (s.startUpdate zone kind issuer tag comp seqs).begun b = s.begun b := s.modTrm_begun b _ rfl rfl

@[simp] theorem State.startTo_begun (zone : Nat) (kind : TrKind) (issuer tag : Nat) (ps : List Nat) (target : Nat → Nat) :
    (s.startTo zone kind issuer tag ps target).begun b = s.begun b := s.startUpdate_begun ..

@[simp] theorem State.startClear_begun (zone : Nat) (kind : TrKind) (ps : List Nat) :
    (s.startClear zone kind ps).begun b = s.begun b := s.startUpdate_begun ..

@[simp] theorem State.startZone_begun (z : Nat) : (s.startZone z).begun b = s.begun b := by
  unfold State.startZone
  dsimp only
  split
  · exact (State.startTo_begun ..).trans (s.modTrm_begun b _ rfl rfl)
  · exact (State.startTo_begun ..).trans (s.modTrm_begun b _ rfl rfl)

@[simp] theorem State.startClears_begun : s.startClears.begun b = s.begun b := by
  refine foldl_keeps (State.begun · b) _ (fun a z => ?_) _ _
  split
  · exact a.startClear_begun ..
  · rfl

@[simp] theorem State.trStarts_begun : s.trStarts.begun b = s.begun b := by
  have hzones (a : State) (z : Nat) : (if a.transom.zoneReady z then a.startZone z else a).begun b = a.begun b := by
    split
    · exact a.startZone_begun b z
    · rfl
  unfold State.trStarts
  dsimp only
  split
  · split
    · exact (State.startClear_begun ..).trans (s.modTrm_begun b _ rfl rfl)
    · rfl
  · split
    · split
      · exact s.startClears_begun b
      · split
        · rfl
        · split
          · exact (State.startTo_begun ..).trans (s.modTrm_begun b _ rfl rfl)
          · exact (State.startTo_begun ..).trans (s.modTrm_begun b _ rfl rfl)
    · split
      · split
        · exact s.modTrm_begun b _ rfl rfl
        · rfl
      · split
        · exact s.startClears_begun b
        · exact (foldl_keeps (State.begun · b) _ hzones _ _).trans (s.startClears_begun b)

end

/-! ### The update doorway (R346) -/

/-- What stands around the update doorway, the ledger, the bus and plane D. -/
def State.doorKept (s b : State) : State × Table Int × List TrLine × Table Nat :=
  ({ s.apart b with commits := b.commits, landings := b.landings }, s.transom.ledger, s.transom.bus, s.transom.planeD)

theorem State.trDoorway_of_none {s : State} (h : s.pendsOf .trm 0 = []) : s.trDoorway = s := by
  simp [State.trDoorway, h]

theorem State.modTrm_doorKept (s b : State) (g : Transom → Transom) (hl : (g s.transom).ledger = s.transom.ledger)
    (hb : (g s.transom).bus = s.transom.bus) (hd : (g s.transom).planeD = s.transom.planeD) :
    (s.modTrm g).doorKept b = s.doorKept b := Prod.ext rfl (Prod.ext hl (Prod.ext hb hd))

theorem State.event_doorKept (s b : State) (f code : Nat) (data : List Byte) :
    (s.event f code data).doorKept b = s.doorKept b := rfl

theorem State.scheduleBlink_doorKept (s b : State) (z : Nat) : (s.scheduleBlink z).doorKept b = s.doorKept b :=
  s.modTrm_doorKept b _ rfl rfl rfl

@[simp] theorem State.trDoorway_doorKept (s b : State) : s.trDoorway.doorKept b = s.doorKept b := by
  unfold State.trDoorway
  dsimp only
  split
  case h_1 => rfl
  case h_2 =>
    refine (foldl_keeps (State.doorKept · b) _ (fun a z => ?_) _ _).trans ?_
    · split
      · exact a.scheduleBlink_doorKept b z
      · rfl
    refine (State.modTrm_doorKept _ b _ rfl rfl rfl).trans ?_
    refine (foldl_keeps (State.doorKept · b) _ (fun a r => a.event_doorKept b ..) _ _).trans ?_
    exact (foldl_keeps (State.doorKept · b) _ (fun a p => a.event_doorKept b ..) _ _).trans rfl

/-! ### Boundaries (R343, R346) -/

/-- What stands around a boundary, the ledger and the bus. -/
def State.crossed (s b : State) : State × Table Int × List TrLine :=
  ({ s.apart b with commits := b.commits, landings := b.landings }, s.transom.ledger, s.transom.bus)

theorem State.crossed_of_begun {s t b : State} (h : t.begun b = s.begun b) : t.crossed b = s.crossed b :=
  congrArg (fun k => ({ k.1 with commits := b.commits, landings := b.landings }, k.2)) h

theorem State.crossed_of_kept {s t b : State} (h : t.kept b = s.kept b) : t.crossed b = s.crossed b :=
  State.crossed_of_begun (State.begun_of_kept h)

theorem State.crossed_of_doorKept {s t b : State} (h : t.doorKept b = s.doorKept b) : t.crossed b = s.crossed b :=
  congrArg (fun k => (k.1, k.2.1, k.2.2.1)) h

theorem State.crossed_bus_self (s b : State) : (s.modTrm fun t => { t with bus := s.transom.bus }).crossed b = s.crossed b :=
  rfl

theorem State.crossed_setBus {s t b : State} (bus : List TrLine) (h : t.crossed b = s.crossed b) :
    (t.modTrm fun t => { t with bus := bus }).crossed b = (s.modTrm fun t => { t with bus := bus }).crossed b :=
  congrArg (fun k => (k.1, k.2.1, bus)) h

/-- A boundary leaves the ledger, and while the Transom is on, the bus. -/
theorem State.trBoundary_crossed (s : State) : ∃ bus, (s.trEn = true → bus = s.transom.bus)
    ∧ ∀ b, s.trBoundary.crossed b = (s.modTrm fun t => { t with bus := bus }).crossed b := by
  have hsame (b : State) := (s.crossed_bus_self b).symm
  unfold State.trBoundary
  split
  · exact ⟨_, fun _ => rfl, hsame⟩
  split
  case isTrue hoff =>
    split
    · refine ⟨[], fun hon => by simp [hon] at hoff, fun b => ?_⟩
      have hdoor : s.trDoorway.wantRails.crossed b = s.crossed b :=
        (State.crossed_of_kept (State.wantRails_kept _ b)).trans (State.crossed_of_doorKept (s.trDoorway_doorKept b))
      exact State.crossed_setBus [] hdoor
    · exact ⟨_, fun _ => rfl, hsame⟩
  split
  · exact ⟨_, fun _ => rfl, hsame⟩
  refine ⟨_, fun _ => rfl, fun b => Eq.trans ?_ (hsame b)⟩
  dsimp only
  generalize hv : (if (s.transom.running.isEmpty && s.anyStart) = true then s.trDoorway else s) = v
  have hdoor : v.crossed b = s.crossed b := by
    rw [← hv]
    split
    · exact State.crossed_of_doorKept (s.trDoorway_doorKept b)
    · rfl
  split
  · exact hdoor
  · refine (State.crossed_of_kept (State.endUpdates_kept _ b)).trans ?_
    exact (State.crossed_of_kept (State.markDirty_kept _ b)).trans ((State.crossed_of_begun (v.trStarts_begun b)).trans hdoor)

theorem State.planeD_of_kept {s t : State} (h : t.kept s = s.kept s) : t.transom.planeD = s.transom.planeD :=
  congrArg (fun k => k.2.planeD) h

/-- A boundary at which nothing waits leaves every level. -/
theorem State.trBoundary_planeD {s : State} (h : s.transom.idle) : s.trBoundary.transom.planeD = s.transom.planeD := by
  unfold State.trBoundary
  split
  · rfl
  split
  · split
    · show s.trDoorway.wantRails.transom.planeD = _
      have hdoor : s.trDoorway.transom.planeD = s.transom.planeD := congrArg (·.2.2.2) (s.trDoorway_doorKept s)
      exact (State.planeD_of_kept (State.wantRails_kept _ _)).trans hdoor
    · rfl
  split
  · rfl
  rw [State.anyStart_of_idle h, Bool.and_false, if_neg Bool.false_ne_true]
  dsimp only
  split
  · rfl
  · refine (State.planeD_of_kept (State.endUpdates_kept _ _)).trans ((State.planeD_of_kept (State.markDirty_kept _ _)).trans ?_)
    rcases State.trStarts_of_idle h with hs | hs <;> rw [hs]
    rfl

end Sys2Proof.Machine
end

section
/-! PROOF. Waveform frames: the drive of a frame that ends, and the zones that start at a boundary (R328, R329, R343, R344,
R347, R349). -/
namespace Sys2Proof.Machine

/-! ### The drive of a frame (R344, R349) -/

/-- The sequences of running updates, each with whether its update runs its balancing phase. -/
def Transom.sequences (us : List TrUpdate) : List (PixSeq × Bool) := us.flatMap fun u => u.seqs.map fun q => (q, u.aborted)

/-- What the sequences drive, one by one. -/
def Transom.driveAll (l : List (PixSeq × Bool)) (t : Transom) : Transom := l.foldl (fun a e => a.drive e.1 e.2) t

theorem Transom.sequences_map_fst (us : List TrUpdate) : (Transom.sequences us).map Prod.fst = us.flatMap (·.seqs) := by
  simp [Transom.sequences, List.map_flatMap, Function.comp_def]

/-- A frame in which every line takes its drive puts its gate scan on the bus and drives every sequence. -/
theorem State.driveFrame_eq (s : State) : s.driveFrame (fun _ => true) = s.modTrm fun t =>
    Transom.driveAll (Transom.sequences t.running) { t with bus := s.gateScan fun _ => true } := by
  simp only [State.driveFrame, Transom.driveAll, Transom.sequences, List.filter_true, List.foldl_flatMap, List.foldl_map]

/-- A drive works on the ledger and plane D alone. -/
theorem Transom.drive_eq (t : Transom) (q : PixSeq) (bal : Bool) :
    ∃ led d, t.drive q bal = { t with ledger := led, planeD := d } := by
  unfold Transom.drive
  split
  · exact ⟨t.ledger, t.planeD, rfl⟩
  · exact ⟨_, _, rfl⟩

theorem Transom.driveAll_eq (l : List (PixSeq × Bool)) (t : Transom) :
    ∃ led d, Transom.driveAll l t = { t with ledger := led, planeD := d } := by
  induction l generalizing t with
  | nil => exact ⟨t.ledger, t.planeD, rfl⟩
  | cons e l ih =>
    obtain ⟨led, d, h⟩ := t.drive_eq e.1 e.2
    obtain ⟨led', d', h'⟩ := ih (t.drive e.1 e.2)
    exact ⟨led', d', h'.trans (by rw [h])⟩

section
variable {p : Nat}

/-- A pixel keeps its ledger entry and its level in a drive of another. -/
theorem Transom.drive_ne (t : Transom) {q : PixSeq} (bal : Bool) (h : q.pix ≠ p) :
    tget 0 (t.drive q bal).ledger p = tget 0 t.ledger p ∧ tget 0 (t.drive q bal).planeD p = tget 0 t.planeD p := by
  unfold Transom.drive
  split
  · exact ⟨rfl, rfl⟩
  · refine ⟨tget_tset_ne _ _ _ _ _ h.symm, ?_⟩
    dsimp only
    split
    · exact tget_tset_ne _ _ _ _ _ h.symm
    · rfl

/-- A pixel's next code counts in its ledger entry, and its last one shows its target. -/
theorem Transom.drive_self (t : Transom) {q : PixSeq} {c : Nat} {cs : List Nat} (bal : Bool) (hp : q.pix = p)
    (hc : q.codes = c :: cs) :
    tget 0 (t.drive q bal).ledger p = clampLedger (tget 0 t.ledger p + codeSign c)
      ∧ (bal = false → tget 0 (t.drive q bal).planeD p = if cs = [] then q.target else tget 0 t.planeD p) := by
  subst hp
  rw [Transom.drive, hc]
  refine ⟨tget_tset_self .., ?_⟩
  rintro rfl
  cases cs with
  | nil => exact tget_tset_self ..
  | cons c' cs => rfl

theorem Transom.driveAll_none {l : List (PixSeq × Bool)} (t : Transom) (h : l.filter (fun e => e.1.pix == p) = []) :
    tget 0 (Transom.driveAll l t).ledger p = tget 0 t.ledger p
      ∧ tget 0 (Transom.driveAll l t).planeD p = tget 0 t.planeD p := by
  induction l generalizing t with
  | nil => exact ⟨rfl, rfl⟩
  | cons e l ih =>
    have hne : e.1.pix ≠ p := by
      have := List.filter_eq_nil_iff.mp h e List.mem_cons_self
      simpa using this
    have hrest : l.filter (fun e => e.1.pix == p) = [] :=
      List.filter_eq_nil_iff.mpr fun e he => List.filter_eq_nil_iff.mp h e (List.mem_cons_of_mem _ he)
    obtain ⟨hled, hd⟩ := ih (t.drive e.1 e.2) hrest
    obtain ⟨hled', hd'⟩ := t.drive_ne e.2 hne
    exact ⟨hled.trans hled', hd.trans hd'⟩

theorem Transom.driveAll_one {l : List (PixSeq × Bool)} (t : Transom) {q : PixSeq} {bal : Bool} {c : Nat} {cs : List Nat}
    (h : l.filter (fun e => e.1.pix == p) = [(q, bal)]) (hc : q.codes = c :: cs) :
    tget 0 (Transom.driveAll l t).ledger p = clampLedger (tget 0 t.ledger p + codeSign c)
      ∧ (bal = false →
          tget 0 (Transom.driveAll l t).planeD p = if cs = [] then q.target else tget 0 t.planeD p) := by
  obtain ⟨l₁, l₂, rfl, hbefore, hp, hafter⟩ := List.filter_eq_cons_iff.mp h
  have hsplit : Transom.driveAll (l₁ ++ (q, bal) :: l₂) t
      = Transom.driveAll l₂ ((Transom.driveAll l₁ t).drive q bal) := by simp [Transom.driveAll]
  obtain ⟨hled₁, hd₁⟩ := Transom.driveAll_none t (List.filter_eq_nil_iff.mpr hbefore)
  obtain ⟨hled, hd⟩ := (Transom.driveAll l₁ t).drive_self bal (by simpa using hp) hc
  obtain ⟨hled₂, hd₂⟩ := Transom.driveAll_none ((Transom.driveAll l₁ t).drive q bal) hafter
  rw [hsplit, hled₂, hd₂, hled, hled₁, ← hd₁]
  exact ⟨rfl, hd⟩

/-- The sequences of a pixel, with their marks. -/
theorem Transom.sequences_filter (us : List TrUpdate) : (us.flatMap (·.seqs)).filter (fun q => q.pix == p)
    = ((Transom.sequences us).filter fun e => e.1.pix == p).map Prod.fst := by
  rw [← Transom.sequences_map_fst, List.filter_map]
  rfl

end

/-! ### The end of a frame -/

/-- The engine as the drive of a frame that ends leaves it, its updates each a frame on. -/
def State.scanned (s : State) : State :=
  ((s.atClk (s.transom.frameAt + wavePeriod)).driveFrame fun _ => true).modTrm fun t =>
    { t with running := t.running.map TrUpdate.step }

theorem State.scanned_eq (s : State) : ∃ led d, s.scanned = { s with
      clk := max s.clk (s.transom.frameAt + 294118)
      transom := { s.transom with ledger := led, planeD := d, bus := s.gateScan fun _ => true,
                                  running := s.transom.running.map TrUpdate.step } }
    ∧ ∀ t, t = Transom.driveAll (Transom.sequences s.transom.running) { s.transom with bus := s.gateScan fun _ => true } →
      led = t.ledger ∧ d = t.planeD := by
  obtain ⟨led, d, h⟩ := Transom.driveAll_eq (Transom.sequences s.transom.running)
    { s.transom with bus := s.gateScan fun _ => true }
  refine ⟨led, d, ?_, ?_⟩
  · have hdrive : (s.atClk (s.transom.frameAt + wavePeriod)).driveFrame (fun _ => true)
        = { s with clk := max s.clk (s.transom.frameAt + 294118)
                   transom := { s.transom with ledger := led, planeD := d, bus := s.gateScan fun _ => true } } := by
      rw [State.driveFrame_eq]
      exact congrArg (fun t => ({ s with clk := max s.clk (s.transom.frameAt + 294118), transom := t } : State)) h
    rw [State.scanned, hdrive]
    rfl
  · rintro t rfl
    rw [h]
    exact ⟨rfl, rfl⟩

theorem State.frameOver_kept (s : State) : ∃ n, ∀ b, s.frameOver.kept b = ({ s.scanned with free := n } : State).kept b := by
  obtain ⟨n, g, hv, hg⟩ := s.scanned.vcomFrame_eq
  refine ⟨n, fun b => (State.modTrm_kept _ b _ rfl).trans ((State.endUpdates_kept _ b).trans ?_)⟩
  show s.scanned.vcomFrame.kept b = _
  obtain ⟨hstore, -, -⟩ := hg s.scanned.transom
  rw [hv]
  exact State.modTrm_kept _ b g hstore

/-- Where nothing waits and no update has been cut short, nothing waits after the frame. -/
theorem State.frameOver_idle {s : State} (h : s.transom.idle) (hr : ∀ u ∈ s.transom.running, u.aborted = false) :
    s.frameOver.transom.idle := by
  obtain ⟨n, g, hv, hg⟩ := s.scanned.vcomFrame_eq
  obtain ⟨-, hrun, hidle⟩ := hg s.scanned.transom
  obtain ⟨led, d, hs, -⟩ := s.scanned_eq
  have hscan : s.scanned.transom.idle := by rw [hs]; exact h
  refine State.modTrm_idle (fun _ ht => ht) (State.endUpdates_idle ?_ ?_)
  · show s.scanned.vcomFrame.transom.idle
    rw [hv]
    exact hidle hscan
  · show ∀ u ∈ s.scanned.vcomFrame.transom.running, u.aborted = false
    rw [hv]
    show ∀ u ∈ (g s.scanned.transom).running, u.aborted = false
    rw [hrun, hs]
    intro u hu
    obtain ⟨v, hv, rfl⟩ := List.mem_map.mp hu
    exact hr v hv

/-- What follows the frame: the procedure of a power loss, or the boundary's starts. -/
def State.afterFrame (s : State) : State :=
  if s.frameOver.transom.powerLoss then s.frameOver.trLossFrame.markDirty else s.frameOver.trBoundary

theorem exec_waveformFrame_inFrame {s : State} (hp : s.power.vauxValid = true ∨ s.transom.powerLoss = true)
    (hin : s.transom.inFrame = true) : exec .waveformFrame s = .next s.afterFrame := by
  have hon : ¬ (!s.power.vauxValid && !s.transom.powerLoss) = true := by rcases hp with h | h <;> simp [h]
  exact congrArg Host.Outcome.next ((if_neg hon).trans (if_pos hin))

theorem State.afterFrame_crossed (s : State) : ∃ n bus, (s.trEn = true → bus = s.gateScan fun _ => true)
    ∧ ∀ b, s.afterFrame.crossed b
      = (({ s.scanned with free := n } : State).modTrm fun t => { t with bus := bus }).crossed b := by
  obtain ⟨n, hu⟩ := s.frameOver_kept
  obtain ⟨led, d, hs, -⟩ := s.scanned_eq
  have hbus : s.frameOver.transom.bus = s.gateScan fun _ => true := by
    have h : s.frameOver.transom.bus = s.scanned.transom.bus := congrArg (fun k => k.2.bus) (hu s)
    rw [h, hs]
  have hon : s.frameOver.trEn = s.trEn := by
    have h : s.frameOver.trEn = s.scanned.trEn := congrArg (fun k => k.1.trEn) (hu s)
    rw [h, hs]
    rfl
  unfold State.afterFrame
  split
  · refine ⟨n, s.frameOver.transom.bus, fun _ => hbus, fun b => ?_⟩
    have hloss := (State.crossed_of_kept (s.frameOver.trLossFrame.markDirty_kept b)).trans
      (State.crossed_of_kept (s.frameOver.trLossFrame_kept b))
    exact (hloss.trans (State.crossed_bus_self _ b).symm).trans (State.crossed_setBus _ (State.crossed_of_kept (hu b)))
  · obtain ⟨bus, hb, hcross⟩ := s.frameOver.trBoundary_crossed
    refine ⟨n, bus, fun h => (hb (hon.trans h)).trans hbus, fun b => (hcross b).trans ?_⟩
    exact State.crossed_setBus bus (State.crossed_of_kept (hu b))

theorem State.afterFrame_planeD {s : State} (h : s.transom.idle) (hr : ∀ u ∈ s.transom.running, u.aborted = false) :
    s.afterFrame.transom.planeD = s.scanned.transom.planeD := by
  obtain ⟨n, hu⟩ := s.frameOver_kept
  have hd : s.frameOver.transom.planeD = s.scanned.transom.planeD := congrArg (fun k => k.2.planeD) (hu s)
  rw [← hd]
  unfold State.afterFrame
  split
  · exact (State.planeD_of_kept (State.markDirty_kept _ _)).trans (State.planeD_of_kept (State.trLossFrame_kept _ _))
  · exact State.trBoundary_planeD (s.frameOver_idle h hr)

/-- The frame changes no more than the boundary that follows it may. -/
theorem State.afterFrame_frame (s : State) : s.afterFrame.clk = max s.clk (s.transom.frameAt + 294118)
    ∧ s.afterFrame = { s with
        clk := s.afterFrame.clk, free := s.afterFrame.free, boxes := s.afterFrame.boxes, commits := s.afterFrame.commits
        landings := s.afterFrame.landings, mram := s.afterFrame.mram, transom := s.afterFrame.transom } := by
  obtain ⟨n, bus, -, hc⟩ := s.afterFrame_crossed
  obtain ⟨led, d, hs, -⟩ := s.scanned_eq
  generalize s.afterFrame = t at hc ⊢
  rw [hs] at hc
  have hall := congrArg Prod.fst (hc t)
  have hclk : t.clk = _ := congrArg State.clk hall
  have hfree : t.free = _ := congrArg State.free hall
  refine ⟨hclk, ?_⟩
  rw [hclk, hfree]
  exact hall

theorem State.afterFrame_ledger (s : State) : s.afterFrame.transom.ledger = s.scanned.transom.ledger := by
  obtain ⟨n, bus, -, hc⟩ := s.afterFrame_crossed
  exact congrArg (·.2.1) (hc s)

theorem State.afterFrame_bus {s : State} (hon : s.trEn = true) : s.afterFrame.transom.bus = s.gateScan fun _ => true := by
  obtain ⟨n, bus, hb, hc⟩ := s.afterFrame_crossed
  exact (congrArg (·.2.2) (hc s)).trans (hb hon)

end Sys2Proof.Machine
end

section
/-! PROOF. The zones that start at a boundary with no frame in progress (R343, R344, R347). -/
namespace Sys2Proof.Machine

/-! ### One zone -/

theorem tget_copyPix (src dst : Table Nat) (ps : List Nat) (p : Nat) :
    tget 0 (copyPix src dst ps) p = if p ∈ ps then tget 0 src p else tget 0 dst p := by
  split
  case isTrue h => exact tget_foldl_tset_of_mem id (tget 0 src) ps dst (fun _ _ hb => congrArg _ hb) ⟨p, h, rfl⟩
  case isFalse h => exact tget_foldl_tset_of_ne id (tget 0 src) ps dst fun b hb hp => h (hp ▸ hb)

theorem State.buildSeqs_pix (s : State) (range : Nat) (ps : List Nat) (target : Nat → Nat) :
    ∀ q ∈ (s.buildSeqs range ps target).2, q.pix ∈ ps := by
  intro q hq
  obtain ⟨p, hp, rfl⟩ := List.mem_map.mp hq
  exact List.mem_of_mem_filter hp

/-- A zone that starts: its pending request leaves the queue, its toggle is taken, and an update of its pixels runs. Plane T
is plane P where it was before, and in the zone's area where a request starts. -/
theorem State.startZone_eq (s : State) (z : Nat) : ∃ pT blinkB toggleAt kind issuer tag comp seqs,
    s.startZone z = (s.modTrm fun t =>
        { t with planeT := pT, pending := t.pending.filter fun r => r.zone ≠ z, blinkB := blinkB,
                 toggleDue := maskDrop t.toggleDue z, toggleAt := toggleAt }).startUpdate z kind issuer tag comp seqs
    ∧ (∀ q ∈ seqs, q.pix ∈ rectPix (s.zoneAt z))
    ∧ (∀ p, tget 0 s.transom.planeT p = tget 0 s.transom.planeP p → tget 0 pT p = tget 0 s.transom.planeP p)
    ∧ ((∃ r ∈ s.transom.pending, r.zone = z) → ∀ p ∈ rectPix (s.zoneAt z), tget 0 pT p = tget 0 s.transom.planeP p) := by
  unfold State.startZone
  dsimp only
  split
  case h_1 r hr =>
    refine ⟨_, _, _, _, _, _, _, _, rfl, State.buildSeqs_pix _ _ _ _, fun p hp => ?_, fun _ p hp => ?_⟩
    · rw [tget_copyPix, hp, ite_self]
    · rw [tget_copyPix, if_pos hp]
  case h_2 hnone =>
    have hfree : ∀ r ∈ s.transom.pending, r.zone ≠ z := by simpa using hnone
    have hfilter : s.transom.pending.filter (fun r => r.zone ≠ z) = s.transom.pending :=
      List.filter_eq_self.mpr fun r hr => by simpa using hfree r hr
    have hsame : (s.modTrm fun t => { t with toggleDue := maskDrop t.toggleDue z }) = s.modTrm fun t =>
        { t with planeT := s.transom.planeT, pending := t.pending.filter fun r => r.zone ≠ z, blinkB := s.transom.blinkB,
                 toggleDue := maskDrop t.toggleDue z, toggleAt := s.transom.toggleAt } := by
      simp only [State.modTrm, hfilter]
    rw [hsame]
    exact ⟨_, _, _, _, _, _, _, _, rfl, State.buildSeqs_pix _ _ _ _, fun p hp => hp,
      fun ⟨r, hr, hz⟩ => absurd hz (hfree r hr)⟩

section
variable (s : State) (z : Nat)

theorem State.startZone_pending :
    (s.startZone z).transom.pending = s.transom.pending.filter fun r => r.zone ≠ z := by
  obtain ⟨pT, blinkB, toggleAt, kind, issuer, tag, comp, seqs, h, -⟩ := s.startZone_eq z
  rw [h]; rfl

theorem State.startZone_toggleDue : (s.startZone z).transom.toggleDue = maskDrop s.transom.toggleDue z := by
  obtain ⟨pT, blinkB, toggleAt, kind, issuer, tag, comp, seqs, h, -⟩ := s.startZone_eq z
  rw [h]; rfl

theorem State.startZone_planeP : (s.startZone z).transom.planeP = s.transom.planeP := by
  obtain ⟨pT, blinkB, toggleAt, kind, issuer, tag, comp, seqs, h, -⟩ := s.startZone_eq z
  rw [h]; rfl

/-- A pixel outside the zone keeps its level. -/
theorem State.startZone_planeD {p : Nat} (hp : p ∉ rectPix (s.zoneAt z)) :
    tget 0 (s.startZone z).transom.planeD p = tget 0 s.transom.planeD p := by
  obtain ⟨pT, blinkB, toggleAt, kind, issuer, tag, comp, seqs, h, hpix, -⟩ := s.startZone_eq z
  rw [h]
  exact tget_foldl_tset_of_ne PixSeq.pix PixSeq.target _ _ fun q hq heq => hp (heq ▸ hpix q (List.mem_of_mem_filter hq))

/-- The zone that starts is busy; every other is as ready as before. -/
theorem State.startZone_zoneReady {z : Nat} (hz : z < 16) (n : Nat) :
    (s.startZone z).transom.zoneReady n = (s.transom.zoneReady n && n != z) := by
  have hpend := s.startZone_pending z
  have htog := s.startZone_toggleDue z
  obtain ⟨pT, blinkB, toggleAt, kind, issuer, tag, comp, seqs, h, -⟩ := s.startZone_eq z
  have hload : (s.startZone z).transom.loading = s.transom.loading := by rw [h]; rfl
  have hclr : (s.startZone z).transom.clears = s.transom.clears := by rw [h]; rfl
  have hbusy : (s.startZone z).transom.busy n = (s.transom.busy n || n == z) := by
    have h16 : (z == 16) = false := by simp; omega
    rw [h]
    simp [Transom.busy, State.startUpdate, State.modTrm, h16, Bool.beq_comm]
  rw [Transom.zoneReady, Transom.zoneReady, hpend, htog, hload, hclr, hbusy]
  by_cases hn : n = z
  · simp [hn]
  · have hne : (n == z) = false := beq_false_of_ne hn
    have hany : (s.transom.pending.filter fun r => r.zone ≠ z).any (fun r => r.zone == n)
        = s.transom.pending.any fun r => r.zone == n := by
      rw [List.any_filter]
      congr 1
      funext r
      by_cases hr : r.zone = n <;> simp [hr, hn]
    rw [hany, bitOf_maskDrop_ne _ hn, bne, hne]
    simp

end

/-! ### Zones one after another -/

/-- A zone's turn at a boundary: it starts where it is ready. -/
def State.turn (s : State) (z : Nat) : State := if s.transom.zoneReady z then s.startZone z else s

/-- A request of a zone is pending. -/
def Transom.asks (t : Transom) (z : Nat) : Prop := ∃ r ∈ t.pending, r.zone = z

/-- Neither a pending request nor a toggle of a zone waits. -/
def Transom.served (t : Transom) (z : Nat) : Prop := (∀ r ∈ t.pending, r.zone ≠ z) ∧ bitOf t.toggleDue z = false

theorem bitOf_maskDrop_of_false {m n : Nat} (z : Nat) (h : bitOf m n = false) : bitOf (maskDrop m z) n = false := by
  by_cases hn : n = z
  · rw [hn, bitOf_maskDrop_self]
  · rw [bitOf_maskDrop_ne _ hn, h]

section
variable (s : State) (z : Nat)

theorem State.startZone_served : (s.startZone z).transom.served z := by
  rw [Transom.served, State.startZone_pending, State.startZone_toggleDue]
  exact ⟨fun r hr => by simpa using List.of_mem_filter hr, bitOf_maskDrop_self ..⟩

theorem State.startZone_planeT (h : s.transom.asks z) {p : Nat} (hp : p ∈ rectPix (s.zoneAt z)) :
    tget 0 (s.startZone z).transom.planeT p = tget 0 (s.startZone z).transom.planeP p := by
  obtain ⟨pT, blinkB, toggleAt, kind, issuer, tag, comp, seqs, hs, -, -, hload⟩ := s.startZone_eq z
  rw [hs]
  exact hload h p hp

theorem State.turn_served {n : Nat} (h : s.transom.served n) : (s.turn z).transom.served n := by
  unfold State.turn
  split
  · obtain ⟨hpend, htog⟩ := h
    rw [Transom.served, State.startZone_pending, State.startZone_toggleDue]
    exact ⟨fun r hr => hpend r (List.mem_of_mem_filter hr), bitOf_maskDrop_of_false z htog⟩
  · exact h

theorem State.turn_begun (b : State) : (s.turn z).begun b = s.begun b := by
  unfold State.turn
  split
  · exact s.startZone_begun b z
  · rfl

theorem State.turn_planeP : (s.turn z).transom.planeP = s.transom.planeP := by
  unfold State.turn
  split
  · exact s.startZone_planeP z
  · rfl

theorem State.turn_planeT {p : Nat} (h : tget 0 s.transom.planeT p = tget 0 s.transom.planeP p) :
    tget 0 (s.turn z).transom.planeT p = tget 0 (s.turn z).transom.planeP p := by
  unfold State.turn
  split
  · obtain ⟨pT, blinkB, toggleAt, kind, issuer, tag, comp, seqs, hs, -, hkeep, -⟩ := s.startZone_eq z
    rw [hs]
    exact hkeep p h
  · exact h

theorem State.turn_zoneAt (n : Nat) : (s.turn z).zoneAt n = s.zoneAt n :=
  congrArg (fun k => k.1.zoneAt n) (s.turn_begun z s)

theorem State.turn_asks {n : Nat} (hn : n ≠ z) (h : s.transom.asks n) : (s.turn z).transom.asks n := by
  unfold State.turn
  split
  · obtain ⟨r, hr, hz⟩ := h
    rw [Transom.asks, State.startZone_pending]
    exact ⟨r, List.mem_filter.mpr ⟨hr, by simp [hz, hn]⟩, hz⟩
  · exact h

/-- A pixel that no ready zone holds keeps its level. -/
theorem State.turn_planeD {p : Nat} (hp : s.transom.zoneReady z = true → p ∉ rectPix (s.zoneAt z)) :
    tget 0 (s.turn z).transom.planeD p = tget 0 s.transom.planeD p := by
  unfold State.turn
  split
  case isTrue h => exact s.startZone_planeD z (hp h)
  case isFalse => rfl

theorem State.turn_zoneReady {z : Nat} (hz : z < 16) (n : Nat) :
    (s.turn z).transom.zoneReady n = (s.transom.zoneReady n && n != z) := by
  unfold State.turn
  split
  case isTrue => exact s.startZone_zoneReady hz n
  case isFalse h =>
    by_cases hn : n = z
    · simp [hn, h]
    · simp [hn]

end

/-! ### The zones of a boundary -/

/-- The zones' turns, one after another. -/
def State.turns (s : State) (zs : List Nat) : State := zs.foldl State.turn s

theorem State.turns_begun (s : State) (zs : List Nat) (b : State) : (s.turns zs).begun b = s.begun b :=
  foldl_keeps (State.begun · b) _ (fun a z => a.turn_begun z b) _ _

theorem State.turns_apart (s : State) (zs : List Nat) (b : State) : (s.turns zs).apart b = s.apart b :=
  congrArg Prod.fst (s.turns_begun zs b)

theorem State.turns_ledger (s : State) (zs : List Nat) : (s.turns zs).transom.ledger = s.transom.ledger :=
  congrArg (·.2.1) (s.turns_begun zs s)

theorem State.turns_planeP (s : State) (zs : List Nat) : (s.turns zs).transom.planeP = s.transom.planeP :=
  foldl_keeps (·.transom.planeP) _ State.turn_planeP _ _

theorem State.turns_zoneAt (s : State) (zs : List Nat) (n : Nat) : (s.turns zs).zoneAt n = s.zoneAt n :=
  foldl_keeps (·.zoneAt n) _ (fun a z => a.turn_zoneAt z n) _ _

/-- The turns of other zones leave a zone ready, and its request pending. -/
theorem State.turns_others (s : State) {z : Nat} {zs : List Nat} (hzs : ∀ n ∈ zs, n < 16 ∧ n ≠ z)
    (hready : s.transom.zoneReady z = true) :
    (s.turns zs).transom.zoneReady z = true ∧ (s.transom.asks z → (s.turns zs).transom.asks z) := by
  refine List.foldlRecOn
    (motive := fun a : State => a.transom.zoneReady z = true ∧ (s.transom.asks z → a.transom.asks z)) _ _ ⟨hready, id⟩ ?_
  rintro a ⟨hr, hask⟩ n hn
  obtain ⟨hlt, hne⟩ := hzs n hn
  refine ⟨?_, fun h => a.turn_asks n hne.symm (hask h)⟩
  rw [a.turn_zoneReady hlt, hr]
  simpa using hne.symm

theorem State.turns_served (s : State) (zs : List Nat) {z : Nat} (h : s.transom.served z) : (s.turns zs).transom.served z :=
  List.foldlRecOn (motive := fun a : State => a.transom.served z) _ _ h fun a ha n _ => a.turn_served n ha

theorem State.turns_planeT (s : State) (zs : List Nat) {p : Nat} (h : tget 0 s.transom.planeT p = tget 0 s.transom.planeP p) :
    tget 0 (s.turns zs).transom.planeT p = tget 0 (s.turns zs).transom.planeP p :=
  List.foldlRecOn (motive := fun a : State => tget 0 a.transom.planeT p = tget 0 a.transom.planeP p) _ _ h
    fun a ha n _ => a.turn_planeT n ha

/-- A zone that is ready starts in its turn: nothing of it waits, and where a request of it did, plane T is its image. -/
theorem State.turns_serve (s : State) {z : Nat} (hz : z < 16) (hready : s.transom.zoneReady z = true) :
    (s.turns (List.range 16)).transom.served z
      ∧ (s.transom.asks z → ∀ p ∈ rectPix (s.zoneAt z),
          tget 0 (s.turns (List.range 16)).transom.planeT p = tget 0 s.transom.planeP p) := by
  obtain ⟨before, after, hsplit⟩ := List.append_of_mem (List.mem_range.mpr hz)
  have hothers (n : Nat) (hn : n ∈ before) : n < 16 ∧ n ≠ z := by
    have hnodup : (before ++ z :: after).Nodup := hsplit ▸ List.nodup_range
    obtain ⟨-, -, hdisj⟩ := List.nodup_append.mp hnodup
    exact ⟨List.mem_range.mp (hsplit ▸ List.mem_append_left _ hn), hdisj n hn z List.mem_cons_self⟩
  obtain ⟨hr, hask⟩ := s.turns_others hothers hready
  have hturns : s.turns (List.range 16) = ((s.turns before).startZone z).turns after := by
    have hturn : (s.turns before).turn z = (s.turns before).startZone z := if_pos hr
    rw [hsplit, ← hturn]
    simp [State.turns]
  have hP : (s.turns (List.range 16)).transom.planeP = s.transom.planeP := s.turns_planeP _
  refine ⟨?_, fun ha p hp => ?_⟩
  · rw [hturns]
    exact State.turns_served _ after ((s.turns before).startZone_served z)
  · rw [← hP, hturns]
    refine State.turns_planeT _ after ((s.turns before).startZone_planeT z (hask ha) ?_)
    rwa [s.turns_zoneAt]

/-- A pixel that no ready zone holds keeps its level through the turns. -/
theorem State.turns_planeD (s : State) {zs : List Nat} (hzs : ∀ n ∈ zs, n < 16) {p : Nat}
    (hp : ∀ z, z < 16 → s.transom.zoneReady z = true → p ∉ rectPix (s.zoneAt z)) :
    tget 0 (s.turns zs).transom.planeD p = tget 0 s.transom.planeD p := by
  obtain ⟨-, -, hd⟩ := List.foldlRecOn (op := State.turn) (b := s)
    (motive := fun a : State => (∀ n, a.transom.zoneReady n = true → s.transom.zoneReady n = true)
      ∧ (∀ n, a.zoneAt n = s.zoneAt n) ∧ tget 0 a.transom.planeD p = tget 0 s.transom.planeD p)
    zs ⟨fun _ h => h, fun _ => rfl, rfl⟩ fun a ⟨hr, hat, hd⟩ z hz => by
      refine ⟨fun n h => hr n ?_, fun n => (a.turn_zoneAt z n).trans (hat n), (a.turn_planeD z fun h => ?_).trans hd⟩
      · rw [a.turn_zoneReady (hzs z hz)] at h
        exact (Bool.and_eq_true_iff.mp h).1
      · rw [hat]
        exact hp z (hzs z hz) (hr z h)
  exact hd

/-- With the rails good, no message, refresh, clear, calibration or hold in the way and no TRM commit pending, a boundary with
no update running gives every zone its turn. -/
theorem State.trBoundary_turns {s : State} (hp : s.transom.powerLoss = false) (hin : s.transom.inFrame = false)
    (hon : s.trEn = true) (hgood : s.transom.good = true) (hunc : s.transom.uncertain = false)
    (hmsg : s.transom.msgDue = false) (hreq : s.transom.vcomReq = false) (hclr : s.transom.clears = 0)
    (hhold : s.transom.hold = false) (hpend : s.pendsOf .trm 0 = []) :
    s.trBoundary = (s.turns (List.range 16)).markDirty.endUpdates := by
  have hleft : (s.transom.vcomLeft != 0) = false := (Bool.or_eq_false_iff.mp hin).2
  have hdoor : (if (s.transom.running.isEmpty && s.anyStart) = true then s.trDoorway else s) = s := by
    rw [State.trDoorway_of_none hpend, ite_self]
  have hstarts : s.trStarts = s.turns (List.range 16) := by
    unfold State.trStarts
    dsimp only
    rw [if_neg (by simp [hunc]), if_neg (by simp [hmsg]), if_neg (by simp [hreq]), if_neg (by simp [hhold, hpend]),
      State.startClears_of_none hclr]
    rfl
  unfold State.trBoundary
  rw [if_neg (by simp [hp]), if_neg (by simp [hon]), if_neg (by simp [hgood, hleft]), hdoor]
  dsimp only
  rw [if_neg (by simp [hon]), hstarts]

end Sys2Proof.Machine
end

section
/-! PROOF. WAVEFORM_FRAME at the end of a frame and at a boundary (R328, R329, R343, R344, R347, R349). -/
namespace Sys2Proof.Machine

theorem exec_waveformFrame_dark {s : State} (hv : s.power.vauxValid = false) (hp : s.transom.powerLoss = false) :
    exec .waveformFrame s = .next s := congrArg Host.Outcome.next (if_pos (by simp [hv, hp]))

/-- What a frame does to a pixel: one without a sequence keeps its ledger entry, one with a single sequence takes its next code;
where nothing waits, the first keeps its level and the second shows its target once its sequence ends. -/
theorem afterFrame_pixel (s : State) {quiet : Bool}
    (hq : quiet = (s.transom.pending.isEmpty && s.transom.toggleDue == 0 && s.transom.clears == 0 && !s.transom.msgDue
      && !s.transom.uncertain && s.transom.running.all fun u => !u.aborted)) (p : Nat) :
    (((s.transom.running.flatMap (·.seqs)).filter fun q => q.pix == p) = [] →
      tget 0 s.afterFrame.transom.ledger p = tget 0 s.transom.ledger p
      ∧ (quiet = true → tget 0 s.afterFrame.transom.planeD p = tget 0 s.transom.planeD p))
    ∧ ∀ q c cs, ((s.transom.running.flatMap (·.seqs)).filter fun q => q.pix == p) = [q] → q.codes = c :: cs →
      tget 0 s.afterFrame.transom.ledger p = max (-32768) (min 32767
        (tget 0 s.transom.ledger p + if c = 1 then 1 else if c = 2 then -1 else 0))
      ∧ (quiet = true →
          tget 0 s.afterFrame.transom.planeD p = if cs = [] then q.target else tget 0 s.transom.planeD p) := by
  obtain ⟨led, d, hscan, hdrive⟩ := s.scanned_eq
  obtain ⟨hled, hd⟩ := hdrive _ rfl
  have hledger : s.afterFrame.transom.ledger = led := by rw [s.afterFrame_ledger, hscan]
  have hrun (h : quiet = true) : ∀ u ∈ s.transom.running, u.aborted = false := by
    rw [hq] at h
    simp only [Bool.and_eq_true, List.all_eq_true, Bool.not_eq_true'] at h
    obtain ⟨-, hall⟩ := h
    exact hall
  have hplane (h : quiet = true) : s.afterFrame.transom.planeD = d := by
    have hidle : s.transom.idle := by
      rw [hq] at h
      simp only [Bool.and_eq_true, List.isEmpty_iff, beq_iff_eq, Bool.not_eq_true'] at h
      obtain ⟨⟨⟨⟨⟨hpend, htog⟩, hclr⟩, hmsg⟩, hunc⟩, -⟩ := h
      exact ⟨hpend, htog, hclr, hmsg, hunc⟩
    rw [State.afterFrame_planeD hidle (hrun h), hscan]
  rw [Transom.sequences_filter, hledger, hled]
  refine ⟨fun hnone => ?_, fun q c cs hone hc => ?_⟩
  · obtain ⟨hl, hd'⟩ := Transom.driveAll_none { s.transom with bus := s.gateScan fun _ => true }
      (List.map_eq_nil_iff.mp hnone)
    exact ⟨hl, fun h => by rw [hplane h, hd, hd']⟩
  · obtain ⟨⟨q', bal⟩, hfilter, rfl⟩ := List.map_eq_singleton_iff.mp hone
    obtain ⟨hl, hd'⟩ := Transom.driveAll_one { s.transom with bus := s.gateScan fun _ => true } hfilter hc
    refine ⟨hl, fun h => ?_⟩
    have hbal : bal = false := by
      have hmem : (q', bal) ∈ Transom.sequences s.transom.running :=
        List.mem_of_mem_filter (hfilter ▸ List.mem_singleton_self _)
      obtain ⟨u, hu, hmap⟩ := List.mem_flatMap.mp hmem
      obtain ⟨q'', -, heq⟩ := List.mem_map.mp hmap
      cases heq
      exact hrun h u hu
    rw [hplane h, hd, hd' hbal]

/-- What a boundary at which no frame was in progress has done to the engine: every ready zone is served. -/
def State.startsDone (s : State) (t : Transom) : Prop :=
  (∀ z, z < 16 → s.transom.zoneReady z = true →
    (∀ r ∈ t.pending, r.zone ≠ z) ∧ bitOf t.toggleDue z = false
    ∧ ((∃ r ∈ s.transom.pending, r.zone = z) → ∀ p ∈ rectPix (s.zoneAt z),
        tget 0 t.planeT p = tget 0 s.transom.planeP p))
  ∧ t.ledger = s.transom.ledger
  ∧ ∀ p, (∀ z, z < 16 → s.transom.zoneReady z = true → p ∉ rectPix (s.zoneAt z)) →
      tget 0 t.planeD p = tget 0 s.transom.planeD p

theorem State.startsDone_of_store {s : State} {t u : Transom} (h : s.startsDone t) (hu : u.store = t.store) :
    s.startsDone u := by
  have hpend : u.pending = t.pending := congrArg TrStore.pending hu
  have htog : u.toggleDue = t.toggleDue := congrArg TrStore.toggleDue hu
  have hT : u.planeT = t.planeT := congrArg TrStore.planeT hu
  have hled : u.ledger = t.ledger := congrArg TrStore.ledger hu
  have hD : u.planeD = t.planeD := congrArg TrStore.planeD hu
  rw [State.startsDone, hpend, htog, hT, hled, hD]
  exact h

theorem State.turns_startsDone (s : State) : s.startsDone (s.turns (List.range 16)).transom := by
  refine ⟨fun z hz hr => ?_, s.turns_ledger _, fun p hp => ?_⟩
  · obtain ⟨⟨hpend, htog⟩, hT⟩ := s.turns_serve hz hr
    exact ⟨hpend, htog, hT⟩
  · exact s.turns_planeD (fun n hn => List.mem_range.mp hn) hp

/-- The boundary that a row with no frame in progress comes to. -/
def State.rested (s : State) : State := (s.modTrm fun t => { t with bus := [] }).atClk (s.transom.rampAt + 12500)

theorem exec_waveformFrame_rested {s : State} (hv : s.power.vauxValid = true) (hin : s.transom.inFrame = false) :
    exec .waveformFrame s = .next (
      if s.rested.trBoundary.transom.inFrame = true then
        s.rested.trBoundary.modTrm fun t => { t with frameAt := s.rested.trBoundary.clk }
      else if s.rested.trBoundary.transom = s.transom ∧ s.rested.trBoundary.commits = s.commits then s
      else s.rested.trBoundary) := by
  have hon : ¬ (!s.power.vauxValid && !s.transom.powerLoss) = true := by simp [hv]
  exact congrArg Host.Outcome.next ((if_neg hon).trans (if_neg (by simp [hin])))

/-- Whatever a row with no frame in progress answers, its engine has done the boundary's starts and nothing else has changed
but the clock, letterboxes and MRAM. -/
theorem waveformFrame_rested {s : State} (hv : s.power.vauxValid = true) (hin : s.transom.inFrame = false)
    (hdone : s.startsDone s.rested.trBoundary.transom)
    (hframe : ∀ b, s.rested.trBoundary.apart b = s.rested.apart b) :
    ∃ t, exec .waveformFrame s = .next t
      ∧ t = { s with clk := t.clk, boxes := t.boxes, mram := t.mram, transom := t.transom } ∧ s.startsDone t.transom := by
  rw [exec_waveformFrame_rested hv hin]
  generalize s.rested.trBoundary = u at *
  have hu : u = { s with clk := u.clk, boxes := u.boxes, mram := u.mram, transom := u.transom } := by
    have hclk : u.clk = (s.rested.apart u).clk := congrArg State.clk (hframe u)
    rw [hclk]
    exact hframe u
  refine ⟨_, rfl, ?_⟩
  split
  · exact ⟨congrArg (fun v : State => v.modTrm fun t => { t with frameAt := u.clk }) hu,
      State.startsDone_of_store hdone rfl⟩
  · split
    case isTrue hidle =>
      obtain ⟨htrm, -⟩ := hidle
      exact ⟨rfl, htrm ▸ hdone⟩
    case isFalse => exact ⟨hu, hdone⟩

/-- Settles O51: the drive of a frame is a run over the sequences, of which one at most is a pixel's; the starts of a boundary
are the zones' turns, of which each serves its own zone and leaves every other as ready as it was. -/
theorem waveformFramesDrive : Obligations.WaveformFramesDrive := by
  intro s
  refine ⟨exec_waveformFrame_dark, fun hp hin => ?_, fun hv hp hin hon hgood hunc hmsg hreq hclr hhold hpend => ?_⟩
  · obtain ⟨hclk, hframe⟩ := s.afterFrame_frame
    exact ⟨_, exec_waveformFrame_inFrame hp hin, hclk, hframe, State.afterFrame_bus, fun quiet hq => afterFrame_pixel s hq⟩
  · have hturns : s.rested.trBoundary = (s.rested.turns (List.range 16)).markDirty.endUpdates :=
      State.trBoundary_turns hp hin hon hgood hunc hmsg hreq hclr hhold hpend
    have hkept (b : State) : s.rested.trBoundary.kept b = (s.rested.turns (List.range 16)).kept b := by
      rw [hturns, State.endUpdates_kept, State.markDirty_kept]
    have hdone : s.startsDone s.rested.trBoundary.transom :=
      State.startsDone_of_store s.rested.turns_startsDone (congrArg Prod.snd (hkept s))
    exact waveformFrame_rested hv hin hdone fun b =>
      (congrArg Prod.fst (hkept b)).trans (s.rested.turns_apart _ b)

end Sys2Proof.Machine
end

section
/-! PROOF. Machines that meet the hypotheses of the Transom's statements: an image loaded, a zone that starts, a pixel driven. -/
namespace Sys2Proof.Machine

/-- IS61 with the Transom on and zone 0 used: 16 pixels of one line, at the panel's corner. -/
def trmLanding : Landing :=
  { Landing.reset true with
    sets := [{ blk := .trm, out := .A, port := 0, cid := 1, frame := 1, words := [(0, 1), (0x24, 0x10010)] }] }

/-- A request of zone 0 by function 0, its image at address 0. -/
def cornerRequest : TrReq :=
  { zone := 0, issuer := 0, tag := 7, cmdId := 9, respLen := 0, respOk := true, image := 0, alt := none, rect := (0, 0, 16, 1) }

/-- A machine that loads that request, its image black in the first pixel. -/
def loadingCorner : State :=
  { State.reset with
    boxes := State.reset.boxes.set 0 { Letterbox.reset true with cqEn := true, cqSize := 2 }
    landings := State.reset.landings.set 61 trmLanding
    dram := { Dram.reset with st := 2, mem := [(0, 3)] }
    transom := { Transom.reset with loading := [cornerRequest] } }

/-- The load ends with the request pending and the first pixel black in plane P. -/
theorem loadingCorner_loaded : ∃ t, exec (.transomLoadDone 0) loadingCorner = .next t
    ∧ t.transom.pending = [cornerRequest] ∧ tget 0 t.transom.planeP (pixKey 0 0) = 3 := by
  obtain ⟨t, hx, -, -, hload, -, htaken⟩ := transomLoadDone_ends (z := 0) (r := cornerRequest) (s := loadingCorner)
    (by decide) (by decide) (by decide) (by decide) (by decide) (by decide)
  obtain ⟨hpend, hpix⟩ := htaken (by decide) (by rw [hload]; decide)
  have hlevel : imagePix (fun k => memGet loadingCorner.dram.mem (0 + k)) 16 0 0 = 3 := by decide
  exact ⟨t, hx, hpend, (hpix 0 0 (by decide) (by decide) (by decide)).trans hlevel⟩

/-- A machine with every rail good and that request pending. -/
def readyCorner : State :=
  { loadingCorner with
    power := { Power.reset with vauxValid := true }
    transom := { Transom.reset with
      hold := false, rails := [.vgl, .vgh, .vsl, .vsh, .vcom], pending := [cornerRequest], planeP := [(pixKey 0 0, 3)] } }

/-- The boundary takes the request: it is pending no longer, and its image is plane T. -/
theorem readyCorner_starts : ∃ t, exec .waveformFrame readyCorner = .next t
    ∧ (∀ r ∈ t.transom.pending, r.zone ≠ 0) ∧ tget 0 t.transom.planeT (pixKey 0 0) = 3 := by
  obtain ⟨-, -, hstart⟩ := waveformFramesDrive readyCorner
  obtain ⟨t, hx, -, hzones, -⟩ := hstart rfl rfl rfl (by decide) (by decide) rfl (by decide) rfl rfl rfl rfl
  obtain ⟨hpend, -, hT⟩ := hzones 0 (by decide) (by decide)
  have hlevel : tget 0 readyCorner.transom.planeP (pixKey 0 0) = 3 := by decide
  exact ⟨t, hx, hpend, (hT ⟨cornerRequest, by decide, rfl⟩ _ (by decide)).trans hlevel⟩

/-- One frame of VSH is left of the corner pixel's way to black. -/
def lastFrame : State :=
  { readyCorner with
    transom := { readyCorner.transom with
      pending := []
      running := [{ zone := 0, kind := .host, issuer := 0, tag := 7, seqs := [⟨0, [1], 3, 0⟩], frames := 4, compN := 0,
                    range := 3, aborted := false }] } }

/-- The frame that ends counts in the pixel's ledger entry, and the pixel is black. -/
theorem lastFrame_driven : ∃ t, exec .waveformFrame lastFrame = .next t
    ∧ tget 0 t.transom.ledger (pixKey 0 0) = 1 ∧ tget 0 t.transom.planeD (pixKey 0 0) = 3 := by
  obtain ⟨-, hframe, -⟩ := waveformFramesDrive lastFrame
  obtain ⟨t, hx, -, -, -, hpix⟩ := hframe (.inl rfl) rfl
  obtain ⟨-, hone⟩ := hpix true (by decide) (pixKey 0 0)
  obtain ⟨hled, hd⟩ := hone ⟨0, [1], 3, 0⟩ 1 [] (by decide) rfl
  exact ⟨t, hx, hled, hd rfl⟩

end Sys2Proof.Machine
end

section
/-! PROOF. A rail leaves its band on an engine whose record shows one rail falling and another being enabled (R333, R334). -/
namespace Sys2Proof.Machine

theorem exec_railOutOfBand_of_mem {r : Rail} {s : State} (h : r ∈ s.transom.rails) :
    exec (.railOutOfBand r) s = .next s.railFault := congrArg Host.Outcome.next (if_pos h)

/-- VGL is up, VGH falls, and VSL is being enabled. -/
def crossedRails : State :=
  { State.reset with transom := { Transom.reset with rails := [.vgl], falling := some .vgh, ramping := some .vsl } }

/-- The rails are taken for falling already, and VSL goes on being enabled. -/
theorem crossedRails_ramping : crossedRails.railFault.transom.ramping = some .vsl := by decide

/-- Refutes O52 in the clause of a rail out of its band: it has no rail being enabled afterwards, yet where a rail falls already
the engine leaves the record of its rails as it is, and with it a rail that is being enabled. No row of the model brings both
about, as rails are requested only while none falls (R332) and go down with none being enabled (R333); the statement speaks of
every state. -/
theorem not_railsRiseAndFall : ¬ Obligations.RailsRiseAndFall := by
  intro h
  obtain ⟨-, -, -, hband, -⟩ := h .vgl crossedRails
  obtain ⟨t, ht, -, -, hramp, -⟩ := hband (by decide)
  rw [exec_railOutOfBand_of_mem (by decide)] at ht
  cases ht
  exact absurd (crossedRails_ramping.symm.trans hramp) (by decide)

end Sys2Proof.Machine
end

section
/-! PROOF. Camera ports: what updates of a frame, truncation, a pipeline that takes a frame and the sensor-frame doorway leave of
the machine, and how a frame is found again after an update (R365, R367, R370, R371, R377). -/
namespace Sys2Proof.Machine

/-! ### A port's record -/

theorem State.cam_modCam_self (s : State) (n : Nat) (g : Camera → Camera) (h : n < s.cams.length) :
    (s.modCam n g).cam n = g (s.cam n) := by
  simp [State.cam, State.modCam, List.getD_eq_getElem?_getD, h]

theorem State.cam_modCam_ne (s : State) {n p : Nat} (g : Camera → Camera) (h : p ≠ n) : (s.modCam n g).cam p = s.cam p := by
  simp [State.cam, State.modCam, List.getD_eq_getElem?_getD, Ne.symm h]

/-- A view of a port's record that an update of any record leaves. -/
theorem State.cam_modCam_congr {α : Type} (view : Camera → α) {g : Camera → Camera} (hg : ∀ c, view (g c) = view c)
    (s : State) (n p : Nat) : view ((s.modCam n g).cam p) = view (s.cam p) := by
  by_cases hp : p = n
  · subst hp
    by_cases hl : p < s.cams.length
    · rw [s.cam_modCam_self p g hl, hg]
    · simp [State.cam, State.modCam, List.getD_eq_getElem?_getD, List.getElem?_eq_none (Nat.le_of_not_lt hl)]
  · rw [s.cam_modCam_ne g hp]

theorem State.modCam_id (s : State) (port : Nat) : s.modCam port id = s := by simp [State.modCam]

/-! ### Updates of one frame -/

/-- An update of the frame of a port and number. -/
def onFrame (port n : Nat) (g : CamFrame → CamFrame) (k : CamFrame) : CamFrame :=
  if k.port = port ∧ k.frame = n then g k else k

theorem State.modFrame_eq (s : State) (port n : Nat) (g : CamFrame → CamFrame) :
    s.modFrame port n g = ({ s with pipes := s.pipes.map fun p => p.map (onFrame port n g) } : State).modCam port fun c =>
      { c with waiting := c.waiting.map (onFrame port n g) } := rfl

theorem State.modFrame_cam_self {s : State} {port : Nat} (hp : port < s.cams.length) (n : Nat) (g : CamFrame → CamFrame) :
    (s.modFrame port n g).cam port = { s.cam port with waiting := (s.cam port).waiting.map (onFrame port n g) } := by
  rw [State.modFrame_eq, State.cam_modCam_self _ _ _ (by exact hp)]
  rfl

/-- An update that leaves which frame it is keeps every frame's port and number. -/
theorem onFrame_id {port n : Nat} {g : CamFrame → CamFrame} (hg : ∀ q, (g q).port = q.port ∧ (g q).frame = q.frame)
    (k : CamFrame) : (onFrame port n g k).port = k.port ∧ (onFrame port n g k).frame = k.frame := by
  unfold onFrame
  split
  · exact hg k
  · exact ⟨rfl, rfl⟩

/-- A frame is looked for in the pipelines, and then in its port's queue. -/
theorem State.findFrame_eq (s : State) (port n : Nat) :
    s.findFrame port n = (((s.pipes.filterMap id).find? fun k => k.port == port && k.frame == n).map (·, true)).or
      (((s.cam port).waiting.find? (·.frame == n)).map (·, false)) := by
  unfold State.findFrame
  cases (s.pipes.filterMap id).find? fun k => k.port == port && k.frame == n <;> rfl

/-- A frame that is updated is found in the same place. -/
theorem State.findFrame_modFrame {s : State} {port n : Nat} {k : CamFrame} {inPipe : Bool} {g : CamFrame → CamFrame}
    (hp : port < s.cams.length) (hf : s.findFrame port n = some (k, inPipe)) (hport : k.port = port) (hframe : k.frame = n)
    (hg : ∀ q, (g q).port = q.port ∧ (g q).frame = q.frame) :
    (s.modFrame port n g).findFrame port n = some (g k, inPipe) := by
  have hpipes : (s.modFrame port n g).pipes.filterMap id = (s.pipes.filterMap id).map (onFrame port n g) := by
    simp [State.modFrame_eq, List.filterMap_map, List.map_filterMap]
  have hwait : ((s.modFrame port n g).cam port).waiting = (s.cam port).waiting.map (onFrame port n g) := by
    rw [State.modFrame_cam_self hp]
  have hk : onFrame port n g k = g k := if_pos ⟨hport, hframe⟩
  have hmap : (s.modFrame port n g).findFrame port n = (s.findFrame port n).map (Prod.map (onFrame port n g) id) := by
    rw [State.findFrame_eq, State.findFrame_eq, hpipes, hwait]
    simp [List.find?_map, Function.comp_def, onFrame_id hg, Option.map_or]
  rw [hmap, hf, ← hk]
  rfl

/-- An update of a port's record that leaves its queue leaves where frames are found. -/
theorem State.findFrame_modCam (s : State) (port n p : Nat) {g : Camera → Camera} (hg : ∀ c, (g c).waiting = c.waiting) :
    (s.modCam p g).findFrame port n = s.findFrame port n := by
  have hwait := s.cam_modCam_congr Camera.waiting hg p port
  rw [State.findFrame_eq, State.findFrame_eq, hwait]
  rfl

/-! ### The remainder of a frame is dropped (R377) -/

theorem sat_16 (n : Nat) : sat 16 n = min 65535 n := Nat.min_comm ..

/-- What a truncated frame reports. -/
def truncReport : FaultIn := { code := 0x901, cls := 0, island := 57, detail := 0, force := .none }

/-- An FC0 fault is FC0, or FC1 while another fault is handled (R557). -/
theorem State.classOf_fc0 (s : State) {x : FaultIn} (hx : x.cls = 0) : s.classOf x ≤ 1 := by
  have hup : s.classUp x ≤ 1 := by
    unfold State.classUp
    split <;> omega
  have h3 : s.classUp x ≠ 3 := by omega
  simpa [State.classOf, State.quick, h3] using hup

/-- What a port keeps of its open frame and its queue when the frame's remainder is dropped, before the fault is taken. -/
def State.cutShort (s : State) (port n cause : Nat) : State :=
  (s.modFrame port n fun k => { k with ended := true, endUs := s.us, cause := cause }).modCam port fun c =>
    { c with open_ := none, trunc := sat 16 (c.trunc + 1), cause := cause }

theorem State.truncate_of_open {s : State} {port n : Nat} (h : (s.cam port).open_ = some n) (cause : Nat) :
    s.truncate port cause = (s.cutShort port n cause).fault truncReport := by
  unfold State.truncate
  rw [h]
  rfl

theorem State.truncate_of_closed {s : State} {port : Nat} (h : (s.cam port).open_ = none) (cause : Nat) :
    s.truncate port cause = s := by
  unfold State.truncate
  rw [h]

theorem State.cutShort_cam {s : State} {port : Nat} (hp : port < s.cams.length) (n cause : Nat) :
    ∃ ws, (s.cutShort port n cause).cam port = { s.cam port with
      waiting := ws, open_ := none, trunc := min 65535 ((s.cam port).trunc + 1), cause := cause } := by
  rw [State.cutShort, State.cam_modCam_self _ _ _ (by simpa [State.modFrame] using hp), State.modFrame_cam_self hp, sat_16]
  exact ⟨_, rfl⟩

/-- What handling a light fault leaves of the cameras. -/
theorem State.sameButHandling.cameras {s t : State} (h : s.sameButHandling t) : t.cams = s.cams ∧ t.pipes = s.pipes := by
  unfold State.sameButHandling at h
  rw [h]
  exact ⟨rfl, rfl⟩

theorem State.truncate_truncates {s : State} {port n : Nat} (h : (s.cam port).open_ = some n) (hp : port < s.cams.length)
    (cause : Nat) : s.truncates (s.truncate port cause) port cause := by
  rw [State.truncate_of_open h]
  obtain ⟨hframe, -, hlogs⟩ := State.fault_light ((s.cutShort port n cause).classOf_fc0 (x := truncReport) rfl) rfl
  obtain ⟨hcams, hpipes⟩ := hframe.cameras
  obtain ⟨ws, hcut⟩ := State.cutShort_cam hp n cause
  have hcam : ((s.cutShort port n cause).fault truncReport).cam port = (s.cutShort port n cause).cam port := by
    rw [State.cam, hcams, State.cam]
  rw [hcut] at hcam
  refine ⟨congrArg Camera.open_ hcam, congrArg Camera.trunc hcam, congrArg Camera.cause hcam, fun hold => hlogs ?_, ?_⟩
  · rw [State.repeated, if_pos (State.classOf_fc0 _ rfl), List.find?_eq_none]
    intro l hl
    have hus : (s.cutShort port n cause).us = s.us := rfl
    simpa [truncReport, hus] using hold l hl
  · rw [hcams, hpipes]
    exact hframe

/-! ### What stands around the cameras -/

/-- A machine with its cameras, pipelines and commits, and what handling a fault touches, taken from `b`. -/
def State.offCameras (s b : State) : State :=
  { s with boxes := b.boxes, cellar := b.cellar, mram := b.mram, transom := b.transom, outA := b.outA, outB := b.outB,
           linkA := b.linkA, linkB := b.linkB, landings := b.landings, chans := b.chans, lanes := b.lanes,
           slices := b.slices, cams := b.cams, pipes := b.pipes, commits := b.commits }

/-- The machine around the cameras, and the number of a port's latest sensor frame. -/
def State.sensorView (s : State) (p : Nat) (b : State) : State × Nat := (s.offCameras b, (s.cam p).sensor)

section
variable (s : State) (p : Nat) (b : State)

theorem State.modCam_sensorView (n : Nat) {g : Camera → Camera} (hg : ∀ c, (g c).sensor = c.sensor) :
    (s.modCam n g).sensorView p b = s.sensorView p b :=
  Prod.ext rfl (s.cam_modCam_congr Camera.sensor hg n p)

theorem State.modFrame_sensorView (port n : Nat) (g : CamFrame → CamFrame) :
    (s.modFrame port n g).sensorView p b = s.sensorView p b :=
  State.modCam_sensorView { s with pipes := s.pipes.map fun q => q.map (onFrame port n g) } p b port fun _ => rfl

theorem State.sensorView_of_sameButHandling {s t : State} (h : s.sameButHandling t) (p : Nat) (b : State) :
    t.sensorView p b = s.sensorView p b := by
  unfold State.sameButHandling at h
  rw [h]
  rfl

theorem State.truncate_sensorView (port cause : Nat) : (s.truncate port cause).sensorView p b = s.sensorView p b := by
  cases h : (s.cam port).open_ with
  | none => rw [State.truncate_of_closed h]
  | some n =>
    obtain ⟨hframe, -⟩ := State.fault_light ((s.cutShort port n cause).classOf_fc0 (x := truncReport) rfl) rfl
    rw [State.truncate_of_open h, State.sensorView_of_sameButHandling hframe, State.cutShort,
      State.modCam_sensorView _ _ _ _ fun _ => by rfl, State.modFrame_sensorView]

theorem State.event_sensorView (f code : Nat) (data : List Byte) :
    (s.event f code data).sensorView p b = s.sensorView p b := rfl

theorem State.camLive_sensorView (port n : Nat) (q : Pend) : (s.camLive port n q).sensorView p b = s.sensorView p b := by
  unfold State.camLive
  dsimp only
  rw [State.event_sensorView]
  refine (foldl_keeps (State.sensorView · p b) _ (fun a k => ?_) _ _).trans ?_
  · rfl
  · exact s.modCam_sensorView p b port fun _ => rfl

theorem State.camDoor_sensorView (port n : Nat) : (s.camDoor port n).sensorView p b = s.sensorView p b :=
  foldl_keeps (State.sensorView · p b) _ (fun a q => a.camLive_sensorView p b port n q) _ _

end

/-! ### A pipeline takes a waiting frame (R367) -/

/-- A frame leaves its port's queue for a pipeline. -/
def State.taking (s : State) (pipe : Nat) (k : CamFrame) : State :=
  ({ s with pipes := s.pipes.set pipe (some { k with fifo := 0 }) } : State).modCam k.port fun c =>
    { c with waiting := c.waiting.filter fun q => q.frame ≠ k.frame }

/-- A choice that keeps what it has or takes the next ends with one of them. -/
theorem foldl_choice_mem {α : Type} {f : Option α → α → Option α} (hf : ∀ a x, f a x = a ∨ f a x = some x) (l : List α)
    (a : Option α) : l.foldl f a = a ∨ ∃ x ∈ l, l.foldl f a = some x := by
  induction l generalizing a with
  | nil => exact .inl rfl
  | cons x l ih =>
    rw [List.foldl_cons]
    rcases ih (f a x) with h | ⟨y, hy, h⟩
    · rw [h]
      exact (hf a x).imp_right fun hx => ⟨x, List.mem_cons_self, hx⟩
    · exact .inr ⟨y, List.mem_cons_of_mem _ hy, h⟩

/-- A pipeline takes no frame, or one that waits for it. -/
theorem State.takeNext_cases (s : State) (pipe : Nat) :
    s.takeNext pipe = s ∨ ∃ p k, p < 4 ∧ k ∈ (s.cam p).waiting ∧ s.takeNext pipe = s.taking pipe k := by
  unfold State.takeNext
  dsimp only
  split
  · exact .inl rfl
  split
  · exact .inl rfl
  next k hk =>
    have hchoice := foldl_choice_mem (fun a x => ?_) _ _ |>.resolve_left (hk ▸ Option.some_ne_none k)
    · obtain ⟨x, hx, hsome⟩ := hchoice
      obtain rfl : k = x := Option.some.inj (hk.symm.trans hsome)
      obtain ⟨p, hp, hfind⟩ := List.mem_filterMap.1 hx
      exact .inr ⟨p, k, List.mem_range.1 hp, List.mem_of_find?_eq_some hfind, rfl⟩
    · cases a with
      | none => exact .inr rfl
      | some b => exact (ite_eq_or_eq _ _ _).symm

theorem State.takeNext_sensorView (s : State) (p : Nat) (b : State) (pipe : Nat) :
    (s.takeNext pipe).sensorView p b = s.sensorView p b := by
  obtain h | ⟨_, k, -, -, h⟩ := s.takeNext_cases pipe
  · rw [h]
  · rw [h]
    exact State.modCam_sensorView { s with pipes := _ } p b k.port fun _ => rfl

end Sys2Proof.Machine
end

section
/-! PROOF. An FS: its number, the doorway at it, and the frame that it opens (R364, R365, R367, R369 to R371). -/
namespace Sys2Proof.Machine

/-! ### Frames start (R365, R369 to R371) -/

/-- A packet of another channel is counted and ignored. -/
theorem State.modCam_ignore (s : State) (port : Nat) :
    s.modCam port Camera.ignore = s.modCam port fun c => { c with ignored := min 65535 (c.ignored + 1) } :=
  congrArg (s.modCam port) (funext fun c => by rw [Camera.ignore, sat_16])

/-- A port's record is updated from what it holds. -/
theorem State.modCam_of_cam (s : State) (port : Nat) (g : Camera → Camera) :
    (s.modCam port fun _ => g (s.cam port)) = s.modCam port g := by
  have hcams : (s.cams.modify port fun _ => g (s.cam port)) = s.cams.modify port g := by
    refine List.ext_getElem? fun i => ?_
    by_cases h : port = i
    · subst h
      cases hc : s.cams[port]? <;> simp [State.cam, List.getD_eq_getElem?_getD, hc]
    · simp [h]
  rw [State.modCam, State.modCam, hcams]

/-- The doorway of sensor frame n: a frame still open is truncated, and what is due becomes live. -/
def State.fsDoor (s : State) (port n : Nat) : State :=
  ((s.truncate port 8).modCam port fun c => { c with sensor := n }).camDoor port n

/-- The doorway, and the linked values that are in force from frame n on. -/
def State.fsLinked (s : State) (port n : Nat) : State := (s.fsDoor port n).modCam port fun c => (c.linkedAt n).1

/-- The frame that an FS opens. -/
def State.fsFrame (s : State) (port n : Nat) (unsure : Bool) : CamFrame :=
  { frame := n, port := port, startClk := s.clk, cfg := (s.cam port).live, expTag := (s.cam port).expTag,
    gain := (s.cam port).gain, unsure := unsure, lines := [], fifo := 0, spilled := 0, place := 0, ended := false,
    endUs := 0, cause := 0 }

/-- A frame joins its port's queue as the open one. -/
def State.fsQueue (s : State) (port n : Nat) (k : CamFrame) : State :=
  s.modCam port fun c => { c with open_ := some n, waiting := c.waiting ++ [k] }

/-- Where CAM_EN is 0 the FS came early; else the frame opens. -/
def State.fsOpen (s : State) (port n : Nat) (unsure : Bool) : State :=
  if !bitOf (s.cw port 0) 0 then s.modCam port fun c => { c with early := sat 16 (c.early + 1) }
  else (s.fsQueue port n (s.fsFrame port n unsure)).takeNext (s.pipeOf (s.fsFrame port n unsure))

section
variable {port vc n : Nat} {s : State}

theorem exec_camFrameStart_off (h : s.camsOn = false ∨ 4 ≤ port) : exec (.camFrameStart port vc) s = .next s :=
  congrArg Host.Outcome.next (if_pos (by simpa using h))

section
variable (hon : s.camsOn = true) (h4 : port < 4)
include hon h4

theorem exec_camFrameStart_other (hvc : vc ≠ fld (s.cw port 0) 7 2) :
    exec (.camFrameStart port vc) s = .next (s.modCam port Camera.ignore) :=
  congrArg Host.Outcome.next ((if_neg (by simp [hon, h4])).trans (if_pos hvc))

theorem exec_camFrameStart_own (hn : n = w32 ((s.cam port).sensor + 1)) (hvc : vc = fld (s.cw port 0) 7 2) :
    exec (.camFrameStart port vc) s
      = .next ((s.fsLinked port n).fsOpen port n (((s.fsDoor port n).cam port).linkedAt n).2) := by
  subst hn
  rw [State.fsLinked, ← State.modCam_of_cam]
  exact congrArg Host.Outcome.next ((if_neg (by simp [hon, h4])).trans (if_neg (by simp [hvc])))

end

theorem Camera.linkedAt_sensor (c : Camera) (n : Nat) : (c.linkedAt n).1.sensor = c.sensor := by
  unfold Camera.linkedAt
  dsimp only
  split <;> rfl

/-- Opening a frame leaves the number of the latest sensor frame. -/
theorem State.fsOpen_sensorView (s : State) (port n : Nat) (unsure : Bool) (p : Nat) (b : State) :
    (s.fsOpen port n unsure).sensorView p b = s.sensorView p b := by
  unfold State.fsOpen
  split
  · exact s.modCam_sensorView p b port fun _ => rfl
  · rw [State.takeNext_sensorView]
    exact s.modCam_sensorView p b port fun _ => rfl

theorem State.truncate_cams_length (s : State) (port cause : Nat) : (s.truncate port cause).cams.length = s.cams.length := by
  have h := congrArg (fun w : Whole => w.1.2.2.2[3]?) (s.truncate_whole port cause)
  exact Option.some.inj h

/-- An FS on the port's channel takes the next number; nothing changes around the cameras but what a fault touches. -/
theorem camFrameStart_numbers (s : State) (hp : port < s.cams.length) (unsure : Bool) :
    (((s.fsLinked port n).fsOpen port n unsure).cam port).sensor = n
      ∧ ({ s with cams := ((s.fsLinked port n).fsOpen port n unsure).cams
                  pipes := ((s.fsLinked port n).fsOpen port n unsure).pipes
                  commits := ((s.fsLinked port n).fsOpen port n unsure).commits } : State).sameButHandling
          ((s.fsLinked port n).fsOpen port n unsure) := by
  generalize ht : (s.fsLinked port n).fsOpen port n unsure = t
  have hdoor : t.sensorView port t = ((s.truncate port 8).modCam port fun c => { c with sensor := n }).sensorView port t := by
    rw [← ht, State.fsOpen_sensorView, State.fsLinked, State.modCam_sensorView _ _ _ _ (·.linkedAt_sensor n), State.fsDoor,
      State.camDoor_sensorView]
  constructor
  · have hn : (t.cam port).sensor = (((s.truncate port 8).modCam port fun c => { c with sensor := n }).cam port).sensor :=
      congrArg Prod.snd hdoor
    rw [hn, State.cam_modCam_self _ _ _ (by rwa [State.truncate_cams_length])]
  · have hrest : t.offCameras t = (s.truncate port 8).offCameras t := congrArg Prod.fst hdoor
    have htrunc : (s.truncate port 8).offCameras t = s.offCameras t :=
      congrArg Prod.fst (s.truncate_sensorView port t port 8)
    exact hrest.trans htrunc

/-! ### An FS where nothing else is due -/

theorem State.camDoor_idle (h : (s.pendsOf .cam port).filter (camDue n) = []) : s.camDoor port n = s := by
  unfold State.camDoor
  simp [h]

theorem Camera.linkedAt_idle {c : Camera} (h : (c.linked.filter fun l => !ahead l.frame n) = []) :
    c.linkedAt n = (c, false) := by
  unfold Camera.linkedAt
  simp [h]

section
variable (hopen : (s.cam port).open_ = none) (hpend : (s.pendsOf .cam port).filter (camDue n) = [])
  (hlink : ((s.cam port).linked.filter fun l => !ahead l.frame n) = [])

include hopen hpend in
theorem State.fsDoor_idle : s.fsDoor port n = s.modCam port fun c => { c with sensor := n } := by
  rw [State.fsDoor, State.truncate_of_closed hopen]
  exact State.camDoor_idle hpend

include hopen hpend hlink

theorem State.fsDoor_linkedAt_idle :
    ((s.fsDoor port n).cam port).linkedAt n = ((s.fsDoor port n).cam port, false) := by
  rw [State.fsDoor_idle hopen hpend]
  refine Camera.linkedAt_idle ?_
  rwa [s.cam_modCam_congr Camera.linked fun _ => by rfl]

theorem State.fsLinked_idle : s.fsLinked port n = s.modCam port fun c => { c with sensor := n } := by
  have hsame : ((s.fsDoor port n).modCam port fun _ => (s.fsDoor port n).cam port) = s.fsDoor port n :=
    (State.modCam_of_cam _ _ id).trans (State.modCam_id ..)
  rw [State.fsLinked, ← State.modCam_of_cam, State.fsDoor_linkedAt_idle hopen hpend hlink, hsame,
    State.fsDoor_idle hopen hpend]

end

/-- A frame that joins its port's queue is there, or its pipeline has taken it. -/
theorem State.takeNext_fsQueue {k : CamFrame} {pipe : Nat} (hp : port < s.cams.length) (hpipe : pipe < s.pipes.length)
    (hframe : k.frame = n) (hfifo : k.fifo = 0)
    (hnew : ∀ p q, p < 4 → q ∈ (s.cam p).waiting → ¬ (q.port = port ∧ q.frame = n)) :
    (k ∈ (((s.fsQueue port n k).takeNext pipe).cam port).waiting ∨ some k ∈ ((s.fsQueue port n k).takeNext pipe).pipes)
      ∧ (((s.fsQueue port n k).takeNext pipe).cam port).open_ = some n := by
  have hcam : (s.fsQueue port n k).cam port
      = { s.cam port with open_ := some n, waiting := (s.cam port).waiting ++ [k] } := s.cam_modCam_self port _ hp
  obtain h | ⟨p, q, hp4, hq, h⟩ := (s.fsQueue port n k).takeNext_cases pipe
  · rw [h, hcam]
    exact ⟨.inl (by simp), rfl⟩
  have hwait : ((s.fsQueue port n k).cam port).waiting = (s.cam port).waiting ++ [k] := by rw [hcam]
  rw [h]
  refine ⟨?_, ?_⟩
  · by_cases hqn : q.port = port ∧ q.frame = n
    · have hqk : q = k := by
        by_cases hpp : p = port
        · rw [hpp, hwait, List.mem_append, List.mem_singleton] at hq
          exact hq.resolve_left fun hold => hnew port q (hpp ▸ hp4) hold hqn
        · rw [State.fsQueue, State.cam_modCam_ne _ _ hpp] at hq
          exact absurd hqn (hnew p q hp4 hq)
      have hk : { q with fifo := 0 } = k := by rw [hqk, ← hfifo]
      exact .inr (hk ▸ List.mem_set hpipe _)
    · refine .inl ?_
      by_cases hqp : q.port = port
      · have hne : k.frame ≠ q.frame := fun he => hqn ⟨hqp, he ▸ hframe⟩
        rw [State.taking, hqp, State.cam_modCam_self _ _ _ (by simpa [State.fsQueue] using hp)]
        exact List.mem_filter.2 ⟨hwait ▸ by simp, by simpa using hne⟩
      · rw [State.taking, State.cam_modCam_ne _ _ (Ne.symm hqp)]
        show k ∈ ((s.fsQueue port n k).cam port).waiting
        rw [hwait]
        simp
  · rw [State.taking, State.cam_modCam_congr Camera.open_ fun _ => by rfl]
    exact congrArg Camera.open_ hcam

end

theorem State.pipeOf_lt (s : State) (k : CamFrame) : s.pipeOf k < 2 := Nat.mod_lt _ (by decide)

/-- Where CAM_EN is 0 an FS is early (R369). -/
theorem State.fsOpen_early {u : State} {port : Nat} (hp : port < u.cams.length) (h : bitOf (u.cw port 0) 0 = false)
    (n : Nat) (unsure : Bool) : ((u.fsOpen port n unsure).cam port)
      = { u.cam port with early := min 65535 ((u.cam port).early + 1) } := by
  rw [State.fsOpen, if_pos (by simp [h]), u.cam_modCam_self port _ hp, sat_16]

theorem cameraFramesStart : Clause.CameraFramesStart := by
  unfold Clause.CameraFramesStart
  intro port vc n s
  refine ⟨exec_camFrameStart_off, fun hon h4 hp hn => ⟨fun hvc => ?_, fun hvc => ?_⟩⟩
  · rw [exec_camFrameStart_other hon h4 hvc, State.modCam_ignore]
  have hx := exec_camFrameStart_own hon h4 hn hvc
  refine ⟨⟨_, hx, camFrameStart_numbers s hp _⟩, fun hopen hpend hlink => ?_⟩
  rw [State.fsLinked_idle hopen hpend hlink, State.fsDoor_linkedAt_idle hopen hpend hlink] at hx
  have hu : (s.modCam port fun c => { c with sensor := n }).cam port = { s.cam port with sensor := n } :=
    s.cam_modCam_self port _ hp
  have hcw : (s.modCam port fun c => { c with sensor := n }).cw port 0 = s.cw port 0 := by
    rw [State.cw, hu, State.cw, State.modCam_variant]
  have hpu : port < (s.modCam port fun c => { c with sensor := n }).cams.length := by simpa using hp
  refine ⟨fun hoff => ⟨_, hx, ?_⟩, fun hen hpipes hnew => ?_⟩
  · have hcam := State.fsOpen_early hpu (hcw ▸ hoff) n false
    rw [hu] at hcam
    refine ⟨?_, congrArg Camera.early hcam, (congrArg Camera.open_ hcam).trans hopen⟩
    rw [State.fsOpen, if_pos (by simp [hcw, hoff])]
    rfl
  · rw [State.fsOpen, if_neg (by simp [hcw, hen])] at hx
    have hkeep (p : Nat) : ((s.modCam port fun c => { c with sensor := n }).cam p).waiting = (s.cam p).waiting :=
      s.cam_modCam_congr Camera.waiting (fun _ => by rfl) port p
    obtain ⟨hin, hop⟩ := State.takeNext_fsQueue (n := n)
      (k := (s.modCam port fun c => { c with sensor := n }).fsFrame port n false) hpu
      (hpipes ▸ State.pipeOf_lt _ _) rfl rfl (fun p q hp4 hq => hnew p q hp4 (hkeep p ▸ hq))
    refine ⟨_, _, hx, ?_, hin, hop, rfl, rfl, rfl, ?_, ?_, ?_, rfl, rfl, rfl⟩
    · obtain h | ⟨p, q, -, -, h⟩ := State.takeNext_cases _ _ <;> (rw [h]; rfl)
    · rw [State.fsFrame, hu]
    · rw [State.fsFrame, hu]
    · rw [State.fsFrame, hu]

end Sys2Proof.Machine
end

section
/-! PROOF. Lines of a camera's open frame: where they are kept, and what drops the frame's remainder (R363, R364, R375 to R377). -/
namespace Sys2Proof.Machine

/-! ### A line joins its frame (R363, R375, R376) -/

/-- What the port FIFO has room for. -/
def State.fifoRoom (s : State) (port : Nat) : Nat := 262144 - ((s.cam port).waiting.map (·.fifo)).sum

/-- What becomes of a whole line of the open frame: a bad one drops the remainder, a good one goes to the frame's pipeline, to
the port FIFO, or beyond it to the spill store. -/
def State.lineTaken (s : State) (port n : Nat) (k : CamFrame) (inPipe : Bool) (pkt : CamPacket) : State :=
  if pkt.crcBad then s.truncate port 3
  else if pkt.payload.length ≠ cdiv (fld (s.cfgWord k 4) 0 13 * pixelBits (fld (s.cfgWord k 0) 4 3)) 8 then s.truncate port 6
  else if k.spilled ≠ 0 then s.spillLine k 0 pkt.payload
  else if inPipe then s.addLine port n 0 pkt.payload
  else if pkt.payload.length ≤ s.fifoRoom port then s.addLine port n pkt.payload.length pkt.payload
  else if bitOf (s.cfgWord k 0) 9 then s.spillLine k (s.fifoRoom port) pkt.payload
  else s.truncate port 1

section
variable {port n : Nat} {pkt : CamPacket} {k : CamFrame} {inPipe : Bool} {s : State}

theorem exec_camLongPacket_off (h : s.camsOn = false ∨ 4 ≤ port) : exec (.camLongPacket port pkt) s = .next s :=
  congrArg Host.Outcome.next (if_pos (by simpa using h))

section
variable (hon : s.camsOn = true) (h4 : port < 4)
include hon h4

theorem exec_camLongPacket_eccBad (hecc : pkt.eccBad = true) :
    exec (.camLongPacket port pkt) s = .next (s.truncate port 4) :=
  congrArg Host.Outcome.next ((if_neg (by simp [hon, h4])).trans (if_pos hecc))

theorem exec_camLongPacket_otherChannel (hecc : pkt.eccBad = false) (hvc : pkt.vc ≠ fld (s.cw port 0) 7 2) :
    exec (.camLongPacket port pkt) s = .next (s.modCam port Camera.ignore) :=
  congrArg Host.Outcome.next
    ((if_neg (by simp [hon, h4])).trans ((if_neg (by simp [hecc])).trans (if_pos (.inl hvc))))

/-- While no frame is open, a packet of DT has no effect. -/
theorem exec_camLongPacket_closed (hecc : pkt.eccBad = false) (hvc : pkt.vc = fld (s.cw port 0) 7 2)
    (hopen : (s.cam port).open_ = none) :
    exec (.camLongPacket port pkt) s
      = .next (if pkt.dt ≠ dataType (fld (s.cw port 0) 4 3) then s.modCam port Camera.ignore else s) := by
  show execCamLongPacket port pkt s = _
  rw [execCamLongPacket, if_neg (by simp [hon, h4]), if_neg (by simp [hecc])]
  simp [hopen, hvc]

/-- While a frame is open, DT is that of the settings it runs under. -/
theorem exec_camLongPacket_open (hecc : pkt.eccBad = false) (hvc : pkt.vc = fld (s.cw port 0) 7 2)
    (hopen : (s.cam port).open_ = some n) (hfind : s.findFrame port n = some (k, inPipe)) :
    exec (.camLongPacket port pkt) s
      = .next (if pkt.dt ≠ dataType (fld (s.cfgWord k 0) 4 3) then s.modCam port Camera.ignore
          else s.lineTaken port n k inPipe pkt) := by
  show execCamLongPacket port pkt s = _
  rw [execCamLongPacket, if_neg (by simp [hon, h4]), if_neg (by simp [hecc])]
  simp only [hopen, Option.bind_some, hfind, hvc, ne_eq, not_true_eq_false, false_or]
  rfl

end

theorem State.lineTaken_crcBad (hcrc : pkt.crcBad = true) : s.lineTaken port n k inPipe pkt = s.truncate port 3 :=
  if_pos hcrc

section
variable (hcrc : pkt.crcBad = false)
include hcrc

theorem State.lineTaken_wrongLength
    (hlen : pkt.payload.length ≠ cdiv (fld (s.cfgWord k 4) 0 13 * pixelBits (fld (s.cfgWord k 0) 4 3)) 8) :
    s.lineTaken port n k inPipe pkt = s.truncate port 6 :=
  (if_neg (by simp [hcrc])).trans (if_pos hlen)

section
variable (hlen : pkt.payload.length = cdiv (fld (s.cfgWord k 4) 0 13 * pixelBits (fld (s.cfgWord k 0) 4 3)) 8)
include hlen

theorem State.lineTaken_spilled (hsp : k.spilled ≠ 0) : s.lineTaken port n k inPipe pkt = s.spillLine k 0 pkt.payload :=
  (if_neg (by simp [hcrc])).trans ((if_neg (not_not.2 hlen)).trans (if_pos hsp))

variable (hsp : k.spilled = 0)
include hsp

theorem State.lineTaken_inPipe : s.lineTaken port n k true pkt = s.addLine port n 0 pkt.payload :=
  (if_neg (by simp [hcrc])).trans ((if_neg (not_not.2 hlen)).trans ((if_neg (not_not.2 hsp)).trans (if_pos rfl)))

theorem State.lineTaken_waiting : s.lineTaken port n k false pkt
    = if pkt.payload.length ≤ s.fifoRoom port then s.addLine port n pkt.payload.length pkt.payload
      else if bitOf (s.cfgWord k 0) 9 then s.spillLine k (s.fifoRoom port) pkt.payload
      else s.truncate port 1 :=
  (if_neg (by simp [hcrc])).trans ((if_neg (not_not.2 hlen)).trans ((if_neg (not_not.2 hsp)).trans
    (if_neg Bool.false_ne_true)))

end
end

/-! ### The spill store (R376) -/

/-- Where the bytes of a line that spill go: behind those of the frame that the store holds. -/
def State.spillAt (s : State) (k : CamFrame) (place : Nat) : Nat :=
  basePair (s.cfgWord k 0x14) (s.cfgWord k 0x18)
    + place * spillSize (fld (s.cfgWord k 4) 0 13) (fld (s.cfgWord k 4) 16 13) (fld (s.cfgWord k 0) 4 3) + k.spilled

/-- A line joins its frame with `room` bytes of it in the FIFO and the rest in the store. -/
def CamFrame.spill (place room : Nat) (payload : List Byte) (q : CamFrame) : CamFrame :=
  { q with lines := q.lines ++ [payload], fifo := q.fifo + room, spilled := q.spilled + (payload.drop room).length,
           place := place }

/-- The bytes that spill are written, and the frame holds the line. -/
def State.spillTo (s : State) (k : CamFrame) (place room : Nat) (payload : List Byte) : State :=
  (s.dramPut (s.spillAt k place) (payload.drop room)).modFrame k.port k.frame (CamFrame.spill place room payload)

/-- A frame in the store keeps its place there. -/
theorem State.spillLine_of_spilled (h : k.spilled ≠ 0) (room : Nat) (payload : List Byte) :
    s.spillLine k room payload = s.spillTo k k.place room payload := by
  unfold State.spillLine
  simp only [h, false_and, if_false]
  rfl

/-- The first frame of a port in the store takes its first place. -/
theorem State.spillLine_first (h : k.spilled = 0) (hport : k.port = port)
    (hwait : ∀ q ∈ (s.cam port).waiting, q.spilled = 0) (hpipes : ∀ q, some q ∈ s.pipes → q.port = port → q.spilled = 0)
    (room : Nat) (payload : List Byte) :
    s.spillLine k room payload
      = (s.spillTo k 0 room payload).modCam port fun c => { c with spilledN := sat 16 (c.spilledN + 1) } := by
  have hqueue : ((s.cam k.port).waiting.filter fun q => 0 < q.spilled && q.frame != k.frame) = [] := by
    rw [List.filter_eq_nil_iff]
    intro q hq
    simp [hwait q (hport ▸ hq)]
  have hpipe : ((s.pipes.filterMap id).filter fun q => q.port == k.port && 0 < q.spilled && q.frame != k.frame) = [] := by
    rw [List.filter_eq_nil_iff]
    intro q hq
    have hq' : some q ∈ s.pipes := by simpa using hq
    by_cases hp : q.port = k.port
    · simp [hpipes q hq' (hp.trans hport)]
    · simp [hp]
  unfold State.spillLine
  simp only [hqueue, hpipe]
  rw [if_neg (by simp), if_pos h, if_pos h]
  subst hport
  rfl

/-- A line that spills: what module memory holds, and what the frame. -/
theorem State.spillTo_spec (hp : port < s.cams.length) (hfind : s.findFrame port n = some (k, inPipe)) (hport : k.port = port)
    (hframe : k.frame = n) (place room : Nat) (payload : List Byte) :
    (∀ i, i < payload.length - room →
        memGet (s.spillTo k place room payload).dram.mem (s.spillAt k place + i) = payload.getD (room + i) 0)
      ∧ (∀ x, x < s.spillAt k place ∨ s.spillAt k place + (payload.length - room) ≤ x →
          memGet (s.spillTo k place room payload).dram.mem x = memGet s.dram.mem x)
      ∧ (s.spillTo k place room payload).findFrame port n = some (k.spill place room payload, inPipe) := by
  have hmem : (s.spillTo k place room payload).dram.mem = memWrite s.dram.mem (s.spillAt k place) (payload.drop room) := rfl
  rw [hmem]
  refine ⟨fun i hi => ?_, fun x hx => ?_, ?_⟩
  · rw [memGet_memWrite_in _ _ _ _ (by simpa using hi), List.getElem_drop, List.getD_eq_getElem _ _ (by omega)]
  · exact memGet_memWrite_out _ _ _ _ (by simpa using hx)
  · rw [State.spillTo, hport, hframe]
    exact State.findFrame_modFrame hp hfind hport hframe fun _ => ⟨rfl, rfl⟩

/-- The place of a frame in the store: its own, or the first for the first frame of a port there. -/
def CamFrame.placeIn (k : CamFrame) : Nat := if k.spilled = 0 then 0 else k.place

theorem State.spillAt_placeIn (s : State) (k : CamFrame) :
    s.spillAt k k.placeIn = basePair (s.cfgWord k 0x14) (s.cfgWord k 0x18) + k.spilled
      + (if k.spilled = 0 then 0 else k.place)
        * spillSize (fld (s.cfgWord k 4) 0 13) (fld (s.cfgWord k 4) 16 13) (fld (s.cfgWord k 0) 4 3) :=
  Nat.add_right_comm ..

/-- A line spills to its frame's place, and nothing changes but that, the frame, and the count of frames that spilled. -/
theorem State.spillLine_spillTo (hport : k.port = port)
    (hfirst : k.spilled = 0 → (∀ q ∈ (s.cam port).waiting, q.spilled = 0)
      ∧ ∀ q, some q ∈ s.pipes → q.port = port → q.spilled = 0) (room : Nat) (payload : List Byte) :
    ∃ c : Camera → Nat, s.spillLine k room payload
      = (s.spillTo k k.placeIn room payload).modCam port fun x => { x with spilledN := c x } := by
  by_cases h : k.spilled = 0
  · obtain ⟨hwait, hpipes⟩ := hfirst h
    rw [State.spillLine_first h hport hwait hpipes, CamFrame.placeIn, if_pos h]
    exact ⟨_, rfl⟩
  · rw [State.spillLine_of_spilled h, CamFrame.placeIn, if_neg h]
    exact ⟨(·.spilledN), (State.modCam_id _ _).symm⟩

end

/-- A line joins the open frame, or what becomes of it otherwise (R363, R375 to R377). -/
theorem cameraLinesAreTaken : Clause.CameraLinesAreTaken := by
  unfold Clause.CameraLinesAreTaken
  intro port n dt used room pkt k inPipe s
  refine ⟨exec_camLongPacket_off, fun hon h4 hp => ⟨fun hecc hopen => ?_, fun hecc hopen => ?_, fun hecc hvc => ?_,
    fun hecc hvc hopen => ?_, fun hecc hvc hopen hfind hport hframe hdt => ?_⟩⟩
  · rw [exec_camLongPacket_eccBad hon h4 hecc, State.truncate_of_closed hopen]
  · exact ⟨_, exec_camLongPacket_eccBad hon h4 hecc, State.truncate_truncates hopen hp 4⟩
  · rw [exec_camLongPacket_otherChannel hon h4 hecc hvc, State.modCam_ignore]
  · rw [exec_camLongPacket_closed hon h4 hecc hvc hopen, ← State.modCam_ignore]
    exact ⟨fun h => by rw [if_neg (not_not.2 h)], fun h => by rw [if_pos h]⟩
  have hx := exec_camLongPacket_open hon h4 hecc hvc hopen hfind
  subst hdt
  refine ⟨fun htype => ?_, fun htype hcrc => ?_, fun htype hcrc hlen => ?_, fun htype hcrc hlen hused hroom => ?_⟩
  · rw [hx, if_pos htype, State.modCam_ignore]
  all_goals rw [if_neg (not_not.2 htype)] at hx
  · rw [State.lineTaken_crcBad hcrc] at hx
    exact ⟨_, hx, State.truncate_truncates hopen hp 3⟩
  · rw [State.lineTaken_wrongLength hcrc hlen] at hx
    exact ⟨_, hx, State.truncate_truncates hopen hp 6⟩
  have hfull : 262144 - used = s.fifoRoom port := by rw [hused, State.fifoRoom]
  rw [hfull] at hroom
  have hadd (fifo : Nat) : (s.addLine port n fifo pkt.payload).findFrame port n
      = some ({ k with lines := k.lines ++ [pkt.payload], fifo := k.fifo + fifo }, inPipe) :=
    State.findFrame_modFrame hp hfind hport hframe fun _ => ⟨rfl, rfl⟩
  refine ⟨fun hsp hpipe => ?_, fun hsp hpipe hfit => ?_, fun hsp hpipe hover hoff => ?_, fun hspill => ?_⟩
  · subst hpipe
    rw [State.lineTaken_inPipe hcrc hlen hsp] at hx
    exact ⟨_, hx, rfl, hadd 0⟩
  · subst hpipe
    rw [if_neg (not_not.2 hsp)] at hroom
    rw [State.lineTaken_waiting hcrc hlen hsp, if_pos (hroom ▸ hfit)] at hx
    exact ⟨_, hx, rfl, hadd _⟩
  · subst hpipe
    rw [if_neg (not_not.2 hsp)] at hroom
    rw [State.lineTaken_waiting hcrc hlen hsp, if_neg (by omega), if_neg (by simp [hoff])] at hx
    exact ⟨_, hx, State.truncate_truncates hopen hp 1⟩
  have hfirst (hsp : k.spilled = 0) := hspill.resolve_left (not_not.2 hsp)
  have hfree (hsp : k.spilled = 0) : (∀ q ∈ (s.cam port).waiting, q.spilled = 0)
      ∧ ∀ q, some q ∈ s.pipes → q.port = port → q.spilled = 0 := by
    obtain ⟨-, -, -, hfree⟩ := hfirst hsp
    exact hfree
  obtain ⟨c, hline⟩ := State.spillLine_spillTo hport hfree room pkt.payload
  obtain ⟨hin, hout, hfound⟩ := State.spillTo_spec hp hfind hport hframe k.placeIn room pkt.payload
  have hspills : s.lineTaken port n k inPipe pkt = s.spillLine k room pkt.payload := by
    by_cases hsp : k.spilled = 0
    · obtain ⟨rfl, hover, hen, -⟩ := hfirst hsp
      rw [if_neg (not_not.2 hsp)] at hroom
      rw [State.lineTaken_waiting hcrc hlen hsp, if_neg (by omega), if_pos hen, hroom]
    · rw [State.lineTaken_spilled hcrc hlen hsp, hroom, if_pos hsp]
  rw [hspills, hline] at hx
  refine ⟨_, _, hx, rfl, State.spillAt_placeIn s k, hin, hout, k.spill k.placeIn room pkt.payload, inPipe, ?_, rfl, ?_⟩
  · rw [State.findFrame_modCam _ _ _ _ fun _ => by rfl]
    exact hfound
  · simp [CamFrame.spill]

end Sys2Proof.Machine
end

section
/-! PROOF. An FE, a frame without one in time, and the triggers of a camera port (R364, R366, R377). -/
namespace Sys2Proof.Machine

/-! ### Frames end (R377) -/

/-- The open frame ends with all of its lines. -/
def State.endFrame (s : State) (port n : Nat) : State :=
  (s.modFrame port n fun k => { k with ended := true, endUs := s.us }).modCam port fun c => { c with open_ := none }

section
variable {port vc n : Nat} {k : CamFrame} {inPipe : Bool} {s : State}

theorem exec_camFrameEnd_off (h : s.camsOn = false ∨ 4 ≤ port) : exec (.camFrameEnd port vc) s = .next s :=
  congrArg Host.Outcome.next (if_pos (by simpa using h))

section
variable (hon : s.camsOn = true) (h4 : port < 4)
include hon h4

theorem exec_camFrameEnd_other (hvc : vc ≠ fld (s.cw port 0) 7 2) :
    exec (.camFrameEnd port vc) s = .next (s.modCam port Camera.ignore) :=
  congrArg Host.Outcome.next ((if_neg (by simp [hon, h4])).trans (if_pos hvc))

theorem exec_camFrameEnd_closed (hvc : vc = fld (s.cw port 0) 7 2) (hopen : (s.cam port).open_ = none) :
    exec (.camFrameEnd port vc) s = .next s := by
  show execCamFrameEnd port vc s = _
  rw [execCamFrameEnd, if_neg (by simp [hon, h4]), if_neg (not_not.2 hvc), hopen]

theorem exec_camFrameEnd_open (hvc : vc = fld (s.cw port 0) 7 2) (hopen : (s.cam port).open_ = some n)
    (hfind : s.findFrame port n = some (k, inPipe)) :
    exec (.camFrameEnd port vc) s = .next
      (if k.lines.length ≠ fld (s.cfgWord k 4) 16 13 then s.truncate port 5 else s.endFrame port n) := by
  show execCamFrameEnd port vc s = _
  rw [execCamFrameEnd, if_neg (by simp [hon, h4]), if_neg (not_not.2 hvc), hopen]
  dsimp only
  rw [hfind]
  rfl

end

theorem State.endFrame_spec (hp : port < s.cams.length) (hfind : s.findFrame port n = some (k, inPipe))
    (hport : k.port = port) (hframe : k.frame = n) :
    ((s.endFrame port n).cam port).open_ = none
      ∧ (s.endFrame port n).findFrame port n = some ({ k with ended := true, endUs := s.us }, inPipe) := by
  constructor
  · rw [State.endFrame, State.cam_modCam_self _ _ _ (by simpa [State.modFrame] using hp)]
  · rw [State.endFrame, State.findFrame_modCam _ _ _ _ fun _ => by rfl]
    exact State.findFrame_modFrame hp hfind hport hframe fun _ => ⟨rfl, rfl⟩

/-! ### A frame without an FE in time (R377) -/

theorem exec_camFrameTimeout_off (hoff : s.camsOn = false) : exec (.camFrameTimeout port) s = .next s := by
  show execCamFrameTimeout port s = _
  unfold execCamFrameTimeout
  split
  · rfl
  · rw [if_pos (by simp [hoff])]

theorem exec_camFrameTimeout_closed (hopen : (s.cam port).open_ = none) : exec (.camFrameTimeout port) s = .next s := by
  show execCamFrameTimeout port s = _
  rw [execCamFrameTimeout, hopen]
  rfl

theorem exec_camFrameTimeout_open (hon : s.camsOn = true) (hopen : (s.cam port).open_ = some n)
    (hfind : s.findFrame port n = some (k, inPipe)) :
    exec (.camFrameTimeout port) s
      = .next ((s.atClk (k.startClk + fld (s.cfgWord k 8) 0 10 * 25000)).truncate port 7) := by
  show execCamFrameTimeout port s = _
  rw [execCamFrameTimeout, hopen, Option.bind_some, hfind]
  exact congrArg Host.Outcome.next (if_neg (by simp [hon]))

theorem State.truncate_clk (s : State) (port cause : Nat) : (s.truncate port cause).clk = s.clk :=
  congrArg (fun v : State × Nat => v.1.clk) (s.truncate_sensorView port s port cause)

/-! ### Triggers (R366) -/

/-- The least multiple of a period that is no less than a number. -/
theorem cdiv_mul_bounds (a : Nat) {b : Nat} (hb : 0 < b) : a ≤ cdiv a b * b ∧ cdiv a b * b < a + b := by
  have hdiv := Nat.div_add_mod (a + b - 1) b
  have hmod := Nat.mod_lt (a + b - 1) hb
  rw [Nat.mul_comm] at hdiv
  unfold cdiv
  omega

/-- The first instant from which a port may be triggered next. -/
def State.trigFrom (s : State) (port : Nat) : Nat :=
  match (s.cam port).trigAt with | none => s.us | some t => max s.us (t + 1)

theorem State.trigFrom_first (h : (s.cam port).trigAt = none) : s.trigFrom port = s.us := by rw [State.trigFrom, h]

theorem State.trigFrom_after (s : State) {v : Nat} (h : (s.cam port).trigAt = some v) : v < s.trigFrom port := by
  rw [State.trigFrom, h]
  exact Nat.le_max_right ..

/-- The next instant of a phase and a period, from a given one on. -/
def trigInstant (phase period from_ : Nat) : Nat :=
  if from_ ≤ phase then phase else phase + cdiv (from_ - phase) period * period

/-- It is an instant of the phase and the period, and the first from the given one on. -/
theorem trigInstant_spec (phase from_ : Nat) {period : Nat} (h : period ≠ 0) :
    phase ≤ trigInstant phase period from_ ∧ (trigInstant phase period from_ - phase) % period = 0
      ∧ from_ ≤ trigInstant phase period from_
      ∧ (trigInstant phase period from_ = phase ∨ trigInstant phase period from_ < from_ + period) := by
  unfold trigInstant
  split
  case isTrue hle => exact ⟨Nat.le_refl _, by simp, hle, .inl rfl⟩
  case isFalse hlt =>
    obtain ⟨hge, hless⟩ := cdiv_mul_bounds (from_ - phase) (Nat.pos_of_ne_zero h)
    exact ⟨Nat.le_add_right .., by simp, by omega, .inr (by omega)⟩

theorem exec_camTrig_off (h : s.camsOn = false ∨ 4 ≤ port) : exec (.camTrig port) s = .next s :=
  congrArg Host.Outcome.next (if_pos (by rcases h with h | h <;> simp [h]))

theorem exec_camTrig_disabled (h : bitOf (s.cw port 0) 14 = false ∨ fld (s.cw port 0xC) 0 20 = 0) :
    exec (.camTrig port) s = .next s :=
  congrArg Host.Outcome.next (if_pos (by rcases h with h | h <;> simp [h]))

theorem exec_camTrig_enabled (hon : s.camsOn = true) (h4 : port < 4) (hen : bitOf (s.cw port 0) 14 = true)
    (hper : fld (s.cw port 0xC) 0 20 ≠ 0) :
    exec (.camTrig port) s = .next
      ((s.atUs (trigInstant (fld (s.cw port 0x10) 0 20) (fld (s.cw port 0xC) 0 20) (s.trigFrom port))).modCam port fun c =>
        { c with trigN := c.trigN + 1,
                 trigAt := some (trigInstant (fld (s.cw port 0x10) 0 20) (fld (s.cw port 0xC) 0 20) (s.trigFrom port)) }) :=
  congrArg Host.Outcome.next (if_neg (by simp [hon, h4, hen, hper]))

end

/-- An FE ends the open frame, a short one and one without an FE in time are truncated, and triggers fall on their instants
(R364, R366, R377). -/
theorem cameraFramesEnd : Clause.CameraFramesEnd := by
  unfold Clause.CameraFramesEnd
  intro port vc n k inPipe s
  refine ⟨fun h => ⟨exec_camFrameEnd_off h, exec_camTrig_off h⟩, exec_camFrameTimeout_off, fun hon h4 hp => ⟨fun hvc => ?_,
    exec_camFrameEnd_closed hon h4, fun hvc hopen hfind hport hframe => ⟨fun hlen => ?_, fun hlen => ?_⟩,
    exec_camFrameTimeout_closed, fun hopen hfind => ?_, exec_camTrig_disabled, fun hen hper => ?_⟩⟩
  · rw [exec_camFrameEnd_other hon h4 hvc, State.modCam_ignore]
  · obtain ⟨hclosed, hfound⟩ := State.endFrame_spec hp hfind hport hframe
    rw [exec_camFrameEnd_open hon h4 hvc hopen hfind, if_neg (not_not.2 hlen)]
    exact ⟨_, rfl, rfl, hclosed, hfound⟩
  · rw [exec_camFrameEnd_open hon h4 hvc hopen hfind, if_pos hlen]
    exact ⟨_, rfl, State.truncate_truncates hopen hp 5⟩
  · have hclk := (s.atClk (k.startClk + fld (s.cfgWord k 8) 0 10 * 25000)).truncate_clk port 7
    refine ⟨_, exec_camFrameTimeout_open hon hopen hfind, hclk, ?_⟩
    rw [hclk]
    exact State.truncate_truncates (s := s.atClk _) hopen hp 7
  · obtain ⟨hphase, hmod, hfrom, hnext⟩ := trigInstant_spec (fld (s.cw port 0x10) 0 20) (s.trigFrom port) hper
    refine ⟨_, _, exec_camTrig_enabled hon h4 hen hper, rfl, ?_, ?_, hphase, hmod, fun v hv => ?_, fun hnone => ?_,
      fun hnone => ?_⟩
    · rw [State.cam_modCam_self _ _ _ (by exact hp)]
    · rw [State.cam_modCam_self _ _ _ (by exact hp)]
      rfl
    · have hlater := s.trigFrom_after hv
      omega
    · rwa [State.trigFrom_first hnone] at hfrom ⊢
    · rwa [State.trigFrom_first hnone] at hnext ⊢

/-- Settles O53: what an FS, a line, an FE and the timers of a camera port do, each by the branch that its packet takes. -/
theorem camerasTakeFrames : Obligations.CamerasTakeFrames :=
  ⟨cameraFramesStart, cameraLinesAreTaken, cameraFramesEnd⟩

end Sys2Proof.Machine
end

section
/-! PROOF. Viewer positions that the host gives, the zone copies that Hearth writes, and what is lost with time (R382 to R386,
R506). -/
namespace Sys2Proof.Machine

/-! ### SET_VIEWERS (R382, R386, R506) -/

/-- The positions of a payload, as seen now. -/
def State.viewersGiven (s : State) (p : List Byte) : State :=
  { s with track := { s.track with
      viewers := (List.range (nAt p 0 1)).foldl (fun a k => addViewer a (viewerAt p s.us k)) s.track.viewers,
      lastPos := s.us, lost := false } }

/-- What the act of SET_VIEWERS answers. -/
theorem exec_setViewers (f : Nat) (s : State) :
    ∃ act, exec (.setViewers f) s = .next (s.hostCommand f viewersCard act) ∧ ∀ (u : State) (c : Cmd),
      (nAt c.payload 0 1 = 0 ∨ 64 < nAt c.payload 0 1 → act u c = .bad u stBadField)
      ∧ (0 < nAt c.payload 0 1 → nAt c.payload 0 1 ≤ 64 →
        (u.hostTracks = false → act u c = .bad u stNotReady)
        ∧ (u.hostTracks = true → act u c = .ok (u.viewersGiven c.payload) [])) := by
  refine ⟨_, rfl, fun u c => ⟨fun h => if_pos h, fun hpos hle => ?_⟩⟩
  have hin : ¬ (nAt c.payload 0 1 = 0 ∨ 64 < nAt c.payload 0 1) := by omega
  exact ⟨fun ht => (if_neg hin).trans (if_pos (by simp [ht])), fun ht => (if_neg hin).trans (if_neg (by simp [ht]))⟩

theorem State.storeCounter_viewersCard (s : State) (c : Cmd) : s.storeCounter viewersCard c = s :=
  State.storeCounter_plain _ _ _ (Card.hasTrailer_plain _ _ rfl)

section
variable {f : Nat} {e : SqEntry} {s : State} (h : s.hostRuns f viewersCard e)
include h

theorem setViewers_badField (hn : nAt (payloadOf e) 0 1 = 0 ∨ 64 < nAt (payloadOf e) 0 1) :
    ∃ t, exec (.setViewers f) s = .next t ∧ s.sameButBoxes t ∧ (s.box f).gained (t.box f) e stBadField 0 [] := by
  obtain ⟨act, hx, hact⟩ := exec_setViewers f s
  obtain ⟨hbad, -⟩ := hact (s.pop f) { f := f, e := e }
  obtain ⟨hsame, hgain⟩ := State.command_answers h act (.bad (s.pop f) stBadField)
    (by rw [State.storeCounter_viewersCard, hbad hn]; rfl) rfl rfl
  exact ⟨_, hx, (State.pop_sameButBoxes s f).trans hsame, hgain⟩

section
variable (hpos : 0 < nAt (payloadOf e) 0 1) (hle : nAt (payloadOf e) 0 1 ≤ 64)
include hpos hle

theorem setViewers_notReady (ht : s.hostTracks = false) :
    ∃ t, exec (.setViewers f) s = .next t ∧ s.sameButBoxes t ∧ (s.box f).gained (t.box f) e stNotReady 0 [] := by
  obtain ⟨act, hx, hact⟩ := exec_setViewers f s
  obtain ⟨-, hin⟩ := hact (s.pop f) { f := f, e := e }
  obtain ⟨hready, -⟩ := hin hpos hle
  obtain ⟨hsame, hgain⟩ := State.command_answers h act (.bad (s.pop f) stNotReady)
    (by rw [State.storeCounter_viewersCard, hready ht]; rfl) rfl rfl
  exact ⟨_, hx, (State.pop_sameButBoxes s f).trans hsame, hgain⟩

theorem setViewers_given (ht : s.hostTracks = true) :
    ∃ t, exec (.setViewers f) s = .next t ∧ (s.box f).gained (t.box f) e stOk 0 []
      ∧ (s.viewersGiven (payloadOf e)).sameButBoxes t := by
  obtain ⟨act, hx, hact⟩ := exec_setViewers f s
  obtain ⟨-, hin⟩ := hact (s.pop f) { f := f, e := e }
  obtain ⟨-, hgive⟩ := hin hpos hle
  obtain ⟨hsame, hgain⟩ := State.command_answers h act (.ok ((s.pop f).viewersGiven (payloadOf e)) [])
    (by rw [State.storeCounter_viewersCard, hgive ht]; rfl) rfl rfl
  have hpop : (s.viewersGiven (payloadOf e)).sameButBoxes ((s.pop f).viewersGiven (payloadOf e)) := rfl
  exact ⟨_, hx, hgain, hpop.trans hsame⟩

end
end

/-! ### Zone copies (R384 to R386) -/

/-- New positions change nothing but what is tracked, and no zone copy. -/
theorem State.seeBadges_eq (s : State) :
    s.seeBadges = { s with track := s.seeBadges.track } ∧ s.seeBadges.track.zoneA = s.track.zoneA
      ∧ s.seeBadges.track.zoneB = s.track.zoneB := by
  unfold State.seeBadges
  split <;> exact ⟨rfl, rfl, rfl⟩

/-- A zone copy holds the code of each view in use, and guard elsewhere (R384). -/
theorem State.tget_zoneCopy (s : State) (o : OutId) (n : Nat) :
    tget 4 (s.zoneCopy o) n = if n ∈ (s.liveSettings.mode o).usedSlots then s.zoneCode o (n % 16) (n / 16) else 4 := by
  unfold State.zoneCopy
  split
  case isTrue h =>
    exact tget_foldl_tset_of_mem (fun k => k) (fun k => s.zoneCode o (k % 16) (k / 16)) _ _ (fun _ _ hk => by rw [hk])
      ⟨n, h, rfl⟩
  case isFalse h =>
    exact tget_foldl_tset_of_ne (fun k => k) (fun k => s.zoneCode o (k % 16) (k / 16)) _ _ fun k hk hn => h (hn ▸ hk)

/-- What is tracked, with a zone copy of an output written. -/
def Tracking.setZone (t : Tracking) (o : OutId) (z : Table Nat) : Tracking :=
  if o = OutId.A then { t with zoneA := some z } else { t with zoneB := some z }

section
variable {o : OutId} {s : State}

theorem exec_zoneCopyUpdate_off (h : s.power.hearth = false ∨ s.zoned o = false) :
    exec (.zoneCopyUpdate o) s = .next s :=
  congrArg Host.Outcome.next (if_pos (by rcases h with h | h <;> simp [h]))

section
variable (hon : s.power.hearth = true) (hz : s.zoned o = true)
  (hrec : ∀ r ∈ s.cellar.recov, r.island = 53 → r.replayed = true)
include hon hz hrec

theorem exec_zoneCopyUpdate_on :
    exec (.zoneCopyUpdate o) s = .next (
      if s.seeBadges.track.lost || !s.seeBadges.journalRoom then s.seeBadges
      else ({ s.seeBadges with
        track := s.seeBadges.track.setZone o (s.seeBadges.zoneCopy o) } : State).journal (.zone o) true) := by
  refine congrArg Host.Outcome.next (if_neg ?_)
  simpa [hon, hz] using hrec

theorem exec_zoneCopyUpdate_lost (hlost : s.seeBadges.track.lost = true) :
    exec (.zoneCopyUpdate o) s = .next s.seeBadges := by
  rw [exec_zoneCopyUpdate_on hon hz hrec, if_pos (by simp [hlost])]

theorem exec_zoneCopyUpdate_writes (hlost : s.seeBadges.track.lost = false) (hroom : s.journalRoom = true) :
    ∃ l, exec (.zoneCopyUpdate o) s
      = .next { s with track := s.seeBadges.track.setZone o (s.seeBadges.zoneCopy o), cellar := l } := by
  obtain ⟨hsee, -, -⟩ := s.seeBadges_eq
  have hroom' : s.seeBadges.journalRoom = true := by
    rw [hsee]
    exact hroom
  obtain ⟨l, hl, -⟩ := State.journal_eq
    ({ s.seeBadges with track := s.seeBadges.track.setZone o (s.seeBadges.zoneCopy o) } : State) (.zone o) true
  rw [exec_zoneCopyUpdate_on hon hz hrec, if_neg (by simp [hlost, hroom']), hl]
  generalize s.seeBadges.track.setZone o (s.seeBadges.zoneCopy o) = tr
  rw [hsee]
  exact ⟨l, rfl⟩

end

/-! ### What is lost with time (R383, R386) -/

theorem exec_viewerHoldExpiry_none {k : Nat} (h : s.track.viewers[k]? = none) : exec (.viewerHoldExpiry k) s = .next s := by
  show execViewerHoldExpiry k s = _
  rw [execViewerHoldExpiry, h]

theorem exec_viewerHoldExpiry_some {k : Nat} {v : Viewer} (h : s.track.viewers[k]? = some v) :
    exec (.viewerHoldExpiry k) s = .next { s.atUs (v.seen + s.holdUs) with
      track := { s.track with viewers := s.track.viewers.eraseIdx k } } := by
  show execViewerHoldExpiry k s = _
  rw [execViewerHoldExpiry, h]

theorem exec_trackingLost_idle (h : s.track.lost = true ∨ s.power.hearth = false) : exec .trackingLost s = .next s :=
  congrArg Host.Outcome.next (if_pos (by simpa using h))

/-- HOLD_MS after tracking last had anything to go on it is lost, which every function with the event enabled learns. -/
theorem exec_trackingLost_loses (hl : s.track.lost = false) (hon : s.power.hearth = true) :
    ∃ bs, exec .trackingLost s = .next { s with
      clk := max s.clk (25 * (s.lastSeen + s.holdUs)), boxes := bs, track := { s.track with lost := true } } :=
  ⟨_, congrArg Host.Outcome.next (if_neg (by simp [hl, hon]))⟩

end

/-- Settles O55: SET_VIEWERS by what its act answers, a zone copy view by view, and each timer by its condition. -/
theorem viewersAndZones : Obligations.ViewersAndZones := by
  unfold Obligations.ViewersAndZones
  intro f k e o s
  refine ⟨fun h => ⟨fun hpos hle ht => setViewers_given h hpos hle ht, fun hpos hle ht => setViewers_notReady h hpos hle ht,
    setViewers_badField h⟩, exec_zoneCopyUpdate_off, fun hon hz hrec => ⟨exec_zoneCopyUpdate_lost hon hz hrec,
    fun hlost hroom => ?_⟩, exec_viewerHoldExpiry_none, fun v hv => exec_viewerHoldExpiry_some hv, exec_trackingLost_idle,
    fun hl hon => ?_⟩
  · obtain ⟨l, hx⟩ := exec_zoneCopyUpdate_writes hon hz hrec hlost hroom
    obtain ⟨hsee, hA, hB⟩ := s.seeBadges_eq
    have hlive : s.seeBadges.liveSettings = s.liveSettings := by rw [hsee]; rfl
    refine ⟨_, s.seeBadges.zoneCopy o, hx, rfl, ?_, ?_, fun n => ?_⟩
    · cases o <;> rfl
    · cases o
      · exact hB
      · exact hA
    · rw [State.tget_zoneCopy, hlive]
  · obtain ⟨bs, hx⟩ := exec_trackingLost_loses hl hon
    exact ⟨_, hx, rfl⟩

end Sys2Proof.Machine
end

section
/-! PROOF. Machines that meet the hypotheses of the statements about cameras and viewers: a frame that opens, takes a line, spills
one, and ends short; viewers that a host gives, a zone copy that is written. -/
namespace Sys2Proof.Machine

/-- CAM0 enabled for frames of one line of 16 RAW8 pixels, behind IS57 with its clock. SPILL_EN is 1. -/
def portSettings : RegMap := [(0, 0x201), (4, 0x10010)]

/-- Hearth is out of reset, and no frame has come. -/
def seeingPort : State :=
  { State.reset with
    power := { Power.reset with hearth := true }
    landings := State.reset.landings.set 57 { Landing.reset true with pllLocked := true }
    cams := [{ Camera.reset with live := portSettings }, .reset, .reset, .reset] }

/-- The first FS opens frame 1. -/
theorem seeingPort_opens : ∃ t, exec (.camFrameStart 0 0) seeingPort = .next t ∧ (t.cam 0).open_ = some 1 := by
  obtain ⟨-, htake⟩ := cameraFramesStart 0 0 1 seeingPort
  obtain ⟨-, hown⟩ := htake (by decide) (by decide) (by decide) (by decide)
  obtain ⟨-, hidle⟩ := hown (by decide)
  obtain ⟨-, hopens⟩ := hidle (by decide) (by decide) (by decide)
  have hempty : ∀ p < 4, (seeingPort.cam p).waiting = [] := by decide
  obtain ⟨t, k, hx, -, -, hopen, -⟩ := hopens (by decide) (by decide)
    (fun p q hp hq => by simp [hempty p hp] at hq)
  exact ⟨t, hx, hopen⟩

/-- Frame 1 of CAM0 as it waits, with some of it in the port FIFO. -/
def waitingFrame (fifo : Nat) : CamFrame :=
  { frame := 1, port := 0, startClk := 0, cfg := portSettings, expTag := 0, gain := 256, unsure := false, lines := [],
    fifo := fifo, spilled := 0, place := 0, ended := false, endUs := 0, cause := 0 }

/-- A machine that receives that frame. -/
def receiving (fifo : Nat) : State :=
  { seeingPort with
    cams := [{ Camera.reset with live := portSettings, sensor := 1, open_ := some 1, waiting := [waitingFrame fifo] },
             .reset, .reset, .reset] }

/-- A line of 16 pixels of value 7. -/
def grayLine : CamPacket := { vc := 0, dt := 0x2A, payload := List.replicate 16 7, eccBad := false, crcBad := false }

/-- While the FIFO has room the line joins the frame there. -/
theorem receiving_takesLine : ∃ t, exec (.camLongPacket 0 grayLine) (receiving 0) = .next t
    ∧ t.findFrame 0 1 = some ({ waitingFrame 16 with lines := [grayLine.payload] }, false) := by
  obtain ⟨-, hon⟩ := cameraLinesAreTaken 0 1 0 0 262144 grayLine (waitingFrame 0) false (receiving 0)
  obtain ⟨-, -, -, -, hopen⟩ := hon (by decide) (by decide) (by decide)
  obtain ⟨-, -, -, hgood⟩ := hopen (by decide) (by decide) (by decide) (by decide) (by decide) (by decide) (by decide)
  obtain ⟨-, hfits, -⟩ := hgood (by decide) (by decide) (by decide) (by decide) (by decide)
  obtain ⟨t, hx, -, hfound⟩ := hfits (by decide) (by decide) (by decide)
  exact ⟨t, hx, hfound⟩

/-- With the FIFO full the line goes to the spill store, its first byte to the store's base. -/
theorem receiving_spillsLine : ∃ t, exec (.camLongPacket 0 grayLine) (receiving 262144) = .next t
    ∧ memGet t.dram.mem 0 = 7 := by
  obtain ⟨-, hon⟩ := cameraLinesAreTaken 0 1 0 262144 0 grayLine (waitingFrame 262144) false (receiving 262144)
  obtain ⟨-, -, -, -, hopen⟩ := hon (by decide) (by decide) (by decide)
  obtain ⟨-, -, -, hgood⟩ := hopen (by decide) (by decide) (by decide) (by decide) (by decide) (by decide) (by decide)
  obtain ⟨-, -, -, hspills⟩ := hgood (by decide) (by decide) (by decide) (by decide) (by decide)
  have hnone : ∀ q, some q ∈ (receiving 262144).pipes → q.port = 0 → q.spilled = 0 := by
    intro q hq
    simp [receiving, seeingPort, State.reset] at hq
  obtain ⟨t, a, hx, -, ha, hin, -⟩ := hspills (.inr ⟨by decide, by decide, by decide, by decide, hnone⟩)
  have ha0 : a = 0 := ha.trans (by decide)
  exact ⟨t, hx, by simpa [ha0, grayLine] using hin 0 (by decide)⟩

/-- An FE before the line truncates the frame with cause 5. -/
theorem receiving_endsShort : ∃ t, exec (.camFrameEnd 0 0) (receiving 0) = .next t ∧ (t.cam 0).cause = 5
    ∧ (receiving 0).logs t 0x901 57 := by
  obtain ⟨-, -, hon⟩ := cameraFramesEnd 0 0 1 (waitingFrame 0) false (receiving 0)
  obtain ⟨-, -, hends, -⟩ := hon (by decide) (by decide) (by decide)
  obtain ⟨-, hshort⟩ := hends (by decide) (by decide) (by decide) (by decide) (by decide)
  obtain ⟨t, hx, -, -, hcause, hlogs, -⟩ := hshort (by decide)
  exact ⟨t, hx, hcause, hlogs (by decide)⟩

/-- SET_VIEWERS with one position, all of its coordinates 0. -/
def oneViewer : SqEntry := { raw := [0x01, 0x08] ++ zeros 30 ++ [1] ++ zeros 31, data := none, respOk := true }

/-- TRACK_SRC and UNOCC_CODE are 1, ZONED is 1 on output A, and function 0 has that command at the head of its ring. -/
def zonedHost : State :=
  { State.reset with
    power := { Power.reset with hearth := true, ready := true }
    landings := State.reset.landings.set 42 { Landing.reset true with
      sets := [{ blk := .sco, out := .A, port := 0, cid := 1, frame := 1, words := [(0x110, 1), (0x900, 3)] }] }
    boxes := State.reset.boxes.set 0
      { Letterbox.reset true with sqEn := true, cqEn := true, sqSize := 4, cqSize := 4, ready := [oneViewer] } }

/-- The command passes every check. -/
theorem zonedHost_runs : zonedHost.hostRuns 0 viewersCard oneViewer := by
  refine ⟨by decide, by decide, by decide, ?_, by decide, by decide, by decide, by decide, by decide, by decide, by decide,
    by decide, by decide⟩
  rintro ⟨-, htrailer, -⟩
  exact absurd htrailer (by decide)

/-- The host's viewer is the only one. -/
theorem zonedHost_sees : ∃ t, exec (.setViewers 0) zonedHost = .next t
    ∧ t.track.viewers = [{ x := 0, y := 0, z := 0, seen := 0 }] := by
  obtain ⟨t, hx, -, hgiven⟩ := setViewers_given zonedHost_runs (by decide) (by decide) (by decide)
  have hsees : (zonedHost.viewersGiven (payloadOf oneViewer)).track.viewers = [{ x := 0, y := 0, z := 0, seen := 0 }] := by
    decide
  unfold State.sameButBoxes at hgiven
  refine ⟨t, hx, ?_⟩
  rw [hgiven]
  exact hsees

/-- Nobody is seen, so the panel's one view is given UNOCC_CODE. -/
theorem zonedHost_zone : ∃ t z, exec (.zoneCopyUpdate .A) zonedHost = .next t ∧ t.track.zoneA = some z ∧ tget 4 z 0 = 5 := by
  obtain ⟨-, -, hzone, -⟩ := viewersAndZones 0 0 oneViewer .A zonedHost
  obtain ⟨-, hwrites⟩ := hzone (by decide) (by decide) (by decide)
  obtain ⟨t, z, hx, -, hz, -, hcode⟩ := hwrites (by decide) (by decide)
  exact ⟨t, z, hx, hz, (hcode 0).trans (by decide)⟩

end Sys2Proof.Machine
end

section
/-! PROOF. The phases of a calibration step, and the pass that the last view completes (R395, R397, R398). -/
namespace Sys2Proof.Machine

/-! ### Phases that end (R395, R397) -/

section
variable {s : State} {c : CalStep}

theorem exec_calPhaseEnd_noStep (h : s.calib.step = none) : exec .calPhaseEnd s = .next s := by
  show execCalPhaseEnd s = _
  rw [execCalPhaseEnd, h]

section
variable (hstep : s.calib.step = some c)
include hstep

theorem exec_calPhaseEnd_running (h : s.phaseOver c = false) : exec .calPhaseEnd s = .next s := by
  show execCalPhaseEnd s = _
  rw [execCalPhaseEnd, hstep]
  simp [h]

section
variable (hover : s.phaseOver c = true)
include hover

/-- What becomes of a step whose phase is over. -/
theorem exec_calPhaseEnd_over :
    exec .calPhaseEnd s = .next (
      if c.usable = 0 then { s with calib := { s.calib with step := some { c with phase := 5 } } }
      else if c.phase < 4 then
        { s with calib := { s.calib with step := some { c with phase := c.phase + 1, usable := 0 } } }
      else s.stepDone c) := by
  show execCalPhaseEnd s = _
  rw [execCalPhaseEnd, hstep]
  simp [hover]

theorem exec_calPhaseEnd_abandons (h : c.usable = 0) :
    exec .calPhaseEnd s = .next { s with calib := { s.calib with step := some { c with phase := 5 } } } := by
  rw [exec_calPhaseEnd_over hstep hover, if_pos h]

theorem exec_calPhaseEnd_goesOn (h : c.usable ≠ 0) (hp : c.phase < 4) :
    exec .calPhaseEnd s = .next { s with
      calib := { s.calib with step := some { c with phase := c.phase + 1, usable := 0 } } } := by
  rw [exec_calPhaseEnd_over hstep hover, if_neg h, if_pos hp]

theorem exec_calPhaseEnd_stepDone (h : c.usable ≠ 0) (hp : c.phase = 4) : exec .calPhaseEnd s = .next (s.stepDone c) := by
  rw [exec_calPhaseEnd_over hstep hover, if_neg h, if_neg (by omega)]

end
end

/-! ### A view measured (R398) -/

theorem State.stepDone_done (s : State) (c : CalStep) : (s.stepDone c).calib.done = min 65535 (s.calib.done + 1) := sat_16 _

/-- Views of the output are still to be measured: the pass goes on. -/
theorem State.stepDone_viewsLeft (h : (s.calib.measured ++ c.group).eraseDups.length < s.usedViews c.out) :
    (s.stepDone c).calib.measured = (s.calib.measured ++ c.group).eraseDups
      ∧ (s.stepDone c).calib.passes = s.calib.passes ∧ (s.stepDone c).calib.building = false := by
  have hleft : ¬ s.usedViews c.out ≤ (s.calib.measured ++ c.group).eraseDups.length := by omega
  simp [State.stepDone, hleft]

/-- The last view of the output completes the pass, whose maps the agent then builds. -/
theorem State.stepDone_lastView (h : s.usedViews c.out ≤ (s.calib.measured ++ c.group).eraseDups.length) :
    (s.stepDone c).calib.measured = [] ∧ (s.stepDone c).calib.passes = min 65535 (s.calib.passes + 1)
      ∧ (s.stepDone c).calib.building = true := by
  simp [State.stepDone, h, sat_16]

end

/-- Each phase that is over ends the step, goes on to the next phase, or measures the view. -/
theorem calibrationGoesOn : Clause.CalibrationGoesOn := by
  unfold Clause.CalibrationGoesOn
  intro s
  refine ⟨exec_calPhaseEnd_noStep, fun c hstep => ⟨exec_calPhaseEnd_running hstep, exec_calPhaseEnd_abandons hstep,
    exec_calPhaseEnd_goesOn hstep, fun hover husable hp => ?_⟩⟩
  exact ⟨s.stepDone c, exec_calPhaseEnd_stepDone hstep hover husable hp, rfl, rfl, s.stepDone_done c,
    State.stepDone_viewsLeft, State.stepDone_lastView⟩

end Sys2Proof.Machine
end

section
/-! PROOF. The maps of a pass go into a bank, a ramp's end is recorded, and a start copies the selected banks (R399, R400, R404,
R406 to R408, R437, R643). -/
namespace Sys2Proof.Machine

/-! ### Maps and their records (R399, R404, R437) -/

/-- Maps go into a bank one after another. -/
def State.putMaps (s : State) (bank : Nat) (ms : List (OutId × Nat)) : State := ms.foldl (fun a m => a.putMap bank m) s

section
variable {bank : Nat} {m : OutId × Nat} {ms : List (OutId × Nat)} {s : State}

/-- A map's own record follows those of the other areas. -/
theorem State.putMap_banks (s : State) (bank : Nat) (m : OutId × Nat) :
    ∃ r, (s.putMap bank m).mram.banks
      = (s.mram.banks.filter fun e => e.1 != bankType m.1 bank m.2) ++ [(bankType m.1 bank m.2, r)] :=
  ⟨_, rfl⟩

theorem State.putMap_hasRecord (s : State) (bank : Nat) (m : OutId × Nat) :
    ∃ e ∈ (s.putMap bank m).mram.banks, e.1 = bankType m.1 bank m.2 := by
  obtain ⟨r, hr⟩ := s.putMap_banks bank m
  exact ⟨(bankType m.1 bank m.2, r), by simp [hr], rfl⟩

theorem State.mem_putMap_banks {e : Nat × Rec (List Byte)} (he : e ∈ s.mram.banks) (hne : e.1 ≠ bankType m.1 bank m.2) :
    e ∈ (s.putMap bank m).mram.banks := by
  obtain ⟨r, hr⟩ := s.putMap_banks bank m
  simp [hr, he, hne]

/-- Maps that follow leave an area with a record, their own or another. -/
theorem State.putMaps_keepsArea {n : Nat} (h : ∃ e ∈ s.mram.banks, e.1 = n) : ∃ e ∈ (s.putMaps bank ms).mram.banks, e.1 = n := by
  refine List.foldlRecOn (motive := fun a : State => ∃ e ∈ a.mram.banks, e.1 = n) _ _ h fun a ha m _ => ?_
  by_cases hn : n = bankType m.1 bank m.2
  · subst hn
    exact a.putMap_hasRecord bank m
  · obtain ⟨e, he, rfl⟩ := ha
    exact ⟨e, State.mem_putMap_banks he hn, rfl⟩

/-- Every map has its record. -/
theorem State.putMaps_hasRecords (s : State) (bank : Nat) (ms : List (OutId × Nat)) :
    ∀ m ∈ ms, ∃ e ∈ (s.putMaps bank ms).mram.banks, e.1 = bankType m.1 bank m.2 := by
  induction ms generalizing s with
  | nil => simp
  | cons m ms ih =>
    rintro q (_ | ⟨_, hq⟩)
    · exact State.putMaps_keepsArea (s := s.putMap bank m) (s.putMap_hasRecord bank m)
    · exact ih _ q hq

/-- A record of an area that no map names stays. -/
theorem State.mem_putMaps_banks {e : Nat × Rec (List Byte)} (he : e ∈ s.mram.banks)
    (hne : ∀ m ∈ ms, e.1 ≠ bankType m.1 bank m.2) : e ∈ (s.putMaps bank ms).mram.banks :=
  List.foldlRecOn (motive := fun a : State => e ∈ a.mram.banks) _ _ he fun _ ha m hm => State.mem_putMap_banks ha (hne m hm)

/-- Maps change module DRAM and MRAM alone. -/
theorem State.putMaps_eq (s : State) (bank : Nat) (ms : List (OutId × Nat)) :
    s.putMaps bank ms = { s with dram := (s.putMaps bank ms).dram, mram := (s.putMaps bank ms).mram } := by
  refine List.foldlRecOn (motive := fun a : State => a = { s with dram := a.dram, mram := a.mram }) _ _ rfl
    fun a ha m _ => ?_
  rw [ha]
  rfl

end

/-! ### A bank that the agent writes (R400, R406) -/

/-- From `s` to `t` the agent has written the maps of a pass of an output into a bank, with their records. -/
def State.mapsWritten (s t : State) (o : OutId) (bank : Nat) : Prop :=
  t.calib.building = false
    ∧ (∀ m ∈ s.bankMaps o, ∃ e ∈ t.mram.banks, e.1 = bankType m.1 bank m.2)
    ∧ (∀ e ∈ s.mram.banks, (∀ m ∈ s.bankMaps o, e.1 ≠ bankType m.1 bank m.2) → e ∈ t.mram.banks)
    ∧ t = { s with free := t.free, boxes := t.boxes, dram := t.dram, mram := t.mram, calib := t.calib }

section
variable {o : OutId} {s : State}

/-- With AUTO_APPLY at 0 the maps are written, and reported. -/
theorem State.mapsInto_reports (h : bitOf (s.lv .cal .A 0x100) 1 = false) (bank : Nat) :
    ∃ data, s.mapsInto o bank = ((s.putMaps bank (s.bankMaps o)).drawn.eventAll 0x8900 data).nextPass o := by
  unfold State.mapsInto
  rw [if_neg (by simp [h])]
  exact ⟨_, rfl⟩

/-- The event and the next pass leave what the maps have changed. -/
theorem State.reported_eq (u : State) (o : OutId) (data : List Byte) :
    ∃ n bs c, c.building = false
      ∧ (u.drawn.eventAll 0x8900 data).nextPass o = { u with free := n, boxes := bs, calib := c } :=
  ⟨_, _, (u.nextPass o).calib, rfl, rfl⟩

theorem State.mapsInto_mapsWritten (h : bitOf (s.lv .cal .A 0x100) 1 = false) (bank : Nat) :
    s.mapsWritten (s.mapsInto o bank) o bank := by
  obtain ⟨data, hd⟩ := State.mapsInto_reports (o := o) h bank
  obtain ⟨n, bs, c, hc, hr⟩ := (s.putMaps bank (s.bankMaps o)).reported_eq o data
  have hhas := s.putMaps_hasRecords bank (s.bankMaps o)
  have hkeep (e) (he : e ∈ s.mram.banks) := State.mem_putMaps_banks (bank := bank) (ms := s.bankMaps o) he
  have heq := s.putMaps_eq bank (s.bankMaps o)
  rw [hd, hr]
  refine ⟨hc, hhas, hkeep, ?_⟩
  rw [heq]

theorem exec_calMapsBuilt_notDue (h : s.calib.building = false ∨ o ≠ s.calOut) : exec (.calMapsBuilt o) s = .next s :=
  congrArg Host.Outcome.next (if_pos (by simpa using h))

/-- While both banks are in use the agent waits. -/
theorem exec_calMapsBuilt_waits (h0 : s.bankFree o 0 = false) (h1 : s.bankFree o 1 = false) :
    exec (.calMapsBuilt o) s = .next s := by
  show execCalMapsBuilt o s = _
  simp [execCalMapsBuilt, h0, h1]

/-- The maps go into a free bank: the only one, or one that is drawn. -/
theorem exec_calMapsBuilt_writes (hb : s.calib.building = true) (ho : o = s.calOut)
    (hfree : s.bankFree o 0 = true ∨ s.bankFree o 1 = true) :
    ∃ u k, exec (.calMapsBuilt o) s = .next (u.mapsInto o k) ∧ k < 2 ∧ s.bankFree o k = true ∧ (u = s ∨ u = s.drawn) := by
  have hx : exec (.calMapsBuilt o) s = execCalMapsBuilt o s := rfl
  have hdue : ¬ (!s.calib.building || o != s.calOut) = true := by simp [hb, ho]
  rw [hx, execCalMapsBuilt, if_neg hdue]
  cases h0 : s.bankFree o 0 <;> cases h1 : s.bankFree o 1
  case false.false => simp [h0, h1] at hfree
  case false.true => exact ⟨s, 1, by simp [h0, h1], by omega, h1, .inl rfl⟩
  case true.false => exact ⟨s, 0, by simp [h0, h1], by omega, h0, .inl rfl⟩
  case true.true =>
    have hk : s.freeBelow 2 < 2 := Nat.mod_lt _ (by omega)
    refine ⟨s.drawn, s.freeBelow 2, by simp [h0, h1], hk, ?_, .inr rfl⟩
    interval_cases s.freeBelow 2
    · exact h0
    · exact h1

end

/-! ### A ramp that has ended (R408) -/

theorem exec_calRampEnd_records {o : OutId} {s : State} (h : (s.rampOf (s.eff o)).pos = 256) :
    exec (.calRampEnd o) s = .next { s with mram := { s.mram with calCfg := s.mram.calCfg.write s.us s.calRecord } } :=
  congrArg Host.Outcome.next (if_pos h)

theorem exec_calRampEnd_running {o : OutId} {s : State} (h : (s.rampOf (s.eff o)).pos ≠ 256) :
    exec (.calRampEnd o) s = .next s :=
  congrArg Host.Outcome.next (if_neg h)

/-! ### Banks at a start (R408, R643) -/

/-- Bytes that are written to module memory are read back whole. -/
theorem memRead_memWrite (m : Table Byte) (a : Nat) (bs : List Byte) : memRead (memWrite m a bs) a bs.length = bs := by
  refine List.ext_getElem (by simp [memRead]) fun i _ hi => ?_
  simp [memRead, memGet_memWrite_in _ _ _ _ hi]

/-- Bank maps go to their bases in module DRAM. -/
def State.copyBanks (s : State) (l : List (List Byte × Nat)) : State := l.foldl (fun a e => a.dramPut e.2 e.1) s

theorem State.copyBanks_eq (s : State) (l : List (List Byte × Nat)) :
    s.copyBanks l = { s with dram := (s.copyBanks l).dram } ∧ (s.copyBanks l).dram.st = s.dram.st := by
  refine List.foldlRecOn (motive := fun a : State => a = { s with dram := a.dram } ∧ a.dram.st = s.dram.st) _ _ ⟨rfl, rfl⟩
    fun a ⟨ha, hst⟩ e _ => ⟨?_, hst⟩
  rw [ha]
  rfl

/-- One map alone is read back from its base. -/
theorem State.dramGet_copyBanks (s : State) (b : List Byte) (at_ : Nat) : (s.copyBanks [(b, at_)]).dramGet at_ b.length = b :=
  memRead_memWrite s.dram.mem at_ b

section
variable {s : State}

theorem exec_bankCopyDone_copies (hon : s.power.hearth = true) (hst : s.dram.st = 1 ∨ s.dram.st = 2)
    (hin : s.power.banksIn = false) :
    exec .bankCopyDone s = .next ((s.copyBanks s.bankCopies).modPower fun p => { p with banksIn := true }) := by
  have h0 : s.dram.st ≠ 0 := by omega
  have h3 : s.dram.st ≠ 3 := by omega
  exact congrArg Host.Outcome.next (if_neg (by simp [hon, h0, h3, hin]))

theorem exec_bankCopyDone_notDue
    (h : s.power.hearth = false ∨ s.dram.st = 0 ∨ s.dram.st = 3 ∨ s.power.banksIn = true) :
    exec .bankCopyDone s = .next s :=
  congrArg Host.Outcome.next (if_pos (by simpa [or_assoc] using h))

end

/-- A pass's maps go into a bank that is not in use, and come back into module DRAM at a start. -/
theorem mapsAreBuiltAndCopied : Clause.MapsAreBuiltAndCopied := by
  unfold Clause.MapsAreBuiltAndCopied
  intro s
  refine ⟨fun _ => exec_calMapsBuilt_notDue, fun _ => exec_calMapsBuilt_waits, fun o hb ho hfree hauto => ?_,
    fun _ => exec_calRampEnd_records, fun _ => exec_calRampEnd_running, fun hon hst hin => ?_, exec_bankCopyDone_notDue⟩
  · obtain ⟨u, k, hx, hk, hbank, hu⟩ := exec_calMapsBuilt_writes hb ho hfree
    have hwritten : s.mapsWritten (u.mapsInto o k) o k := by
      rcases hu with rfl | rfl
      · exact State.mapsInto_mapsWritten hauto k
      · exact State.mapsInto_mapsWritten (s := s.drawn) hauto k
    exact ⟨_, k, hx, hk, hbank, hwritten⟩
  · obtain ⟨hcopy, hst'⟩ := s.copyBanks_eq s.bankCopies
    refine ⟨_, exec_bankCopyDone_copies hon hst hin, ?_, ?_, hst', fun b at_ hb => ?_⟩
    · rw [hcopy]
      rfl
    · rw [hcopy]
      rfl
    · rw [hb]
      exact s.dramGet_copyBanks b at_

/-- Settles O29: the phases of a step by its phase and its usable frames, and the maps by the bank that is free. -/
theorem panelsAreCalibrated : Obligations.PanelsAreCalibrated :=
  ⟨calibrationGoesOn, mapsAreBuiltAndCopied⟩

end Sys2Proof.Machine
end

section
/-! PROOF. Machines that meet the hypotheses of the statement about calibration: phases that end, a pass that is complete, maps
that are built beside a bank in use, a ramp that has ended, and a bank that is copied back. -/
namespace Sys2Proof.Machine

/-- A step from frame 1 on, of one frame a phase, that measures slot 51 and has seen `usable` camera frames. -/
def oneFrameStep (phase usable : Nat) : CalStep :=
  { out := .A, slot := 51, group := [51], phase := phase, startF := 1, frames := 1, startClk := 0, phaseClk := 0,
    prevClk := 0, usable := usable }

/-- The other slots that a panel of 4 by 4 views uses (R61). -/
def otherSlots : List Nat := [0, 1, 2, 3, 16, 17, 18, 19, 32, 33, 34, 35, 48, 49, 50]

/-- Output A of a panel of 4 by 4 views runs that step at frame `n`, with the slots `seen` measured. -/
def measuring (n phase usable : Nat) (seen : List Nat) : State :=
  { State.reset with
    landings := State.reset.landings.set 42 { Landing.reset true with
      sets := [{ blk := .sco, out := .A, port := 0, cid := 1, frame := 1, words := [(0x100, 0x33)] }] }
    outA := { Output.reset with frameNum := n, inBlank := false }
    calib := { Calib.reset with step := some (oneFrameStep phase usable), measured := seen } }

/-- While frame 1 runs, so does the first phase. -/
theorem measuring_runs : exec .calPhaseEnd (measuring 1 1 1 []) = .next (measuring 1 1 1 []) := by
  obtain ⟨hphases, -⟩ := panelsAreCalibrated
  obtain ⟨-, hstep⟩ := hphases (measuring 1 1 1 [])
  obtain ⟨hruns, -⟩ := hstep _ rfl
  exact hruns (by decide)

/-- Without a camera frame the step ends. -/
theorem measuring_abandons : exec .calPhaseEnd (measuring 10 1 0 []) = .next (measuring 10 5 0 []) := by
  obtain ⟨hphases, -⟩ := panelsAreCalibrated
  obtain ⟨-, hstep⟩ := hphases (measuring 10 1 0 [])
  obtain ⟨-, habandons, -⟩ := hstep _ rfl
  exact habandons (by decide) (by decide)

/-- With one the second phase follows. -/
theorem measuring_goesOn : exec .calPhaseEnd (measuring 10 1 1 []) = .next (measuring 10 2 0 []) := by
  obtain ⟨hphases, -⟩ := panelsAreCalibrated
  obtain ⟨-, hstep⟩ := hphases (measuring 10 1 1 [])
  obtain ⟨-, -, hgoesOn, -⟩ := hstep _ rfl
  exact hgoesOn (by decide) (by decide) (by decide)

/-- The fourth phase measures the last view, which completes the pass. -/
theorem measuring_completes : ∃ t, exec .calPhaseEnd (measuring 10 4 1 otherSlots) = .next t ∧ t.calib.passes = 1
    ∧ t.calib.building = true := by
  obtain ⟨hphases, -⟩ := panelsAreCalibrated
  obtain ⟨-, hstep⟩ := hphases (measuring 10 4 1 otherSlots)
  obtain ⟨-, -, -, hdone⟩ := hstep _ rfl
  obtain ⟨t, hx, -, -, -, -, hlast⟩ := hdone (by decide) (by decide) (by decide)
  obtain ⟨-, hpasses, hbuilding⟩ := hlast (by decide)
  exact ⟨t, hx, hpasses, hbuilding⟩

/-- The first view of 16 leaves the pass open. -/
theorem measuring_viewLeft : ∃ t, exec .calPhaseEnd (measuring 10 4 1 []) = .next t ∧ t.calib.passes = 0
    ∧ t.calib.done = 1 := by
  obtain ⟨hphases, -⟩ := panelsAreCalibrated
  obtain ⟨-, hstep⟩ := hphases (measuring 10 4 1 [])
  obtain ⟨-, -, -, hdone⟩ := hstep _ rfl
  obtain ⟨t, hx, -, -, hcount, hleft, -⟩ := hdone (by decide) (by decide) (by decide)
  obtain ⟨-, hpasses, -⟩ := hleft (by decide)
  exact ⟨t, hx, hpasses, hcount⟩

/-- A ray map of three bytes, stored for bank 0. -/
def storedMap : Nat × Rec (List Byte) := (bankType .A 0 0, { seq := 1, time := 0, val := [7, 8, 9], mac := [] })

/-- SOURCE of output A selects bank 0, whose ray map stands at 0x40 in module DRAM and in MRAM. -/
def bankSelected : State :=
  { State.reset with
    landings := State.reset.landings.set 42 { Landing.reset true with
      sets := [{ blk := .cal, out := .A, port := 0, cid := 1, frame := 1, words := [(0, 1), (4, 0x40)] }] }
    mram := { Mram.factory with banks := [storedMap] } }

/-- The same, with a pass complete. -/
def mapsDue : State := { bankSelected with calib := { Calib.reset with building := true } }

/-- The maps go into bank 1, and the record of bank 0 stays. -/
theorem mapsDue_builds : ∃ t, exec (.calMapsBuilt .A) mapsDue = .next t ∧ storedMap ∈ t.mram.banks
    ∧ ∃ e ∈ t.mram.banks, e.1 = bankType .A 1 0 := by
  obtain ⟨-, hmaps⟩ := panelsAreCalibrated
  obtain ⟨-, -, hbuilds, -⟩ := hmaps mapsDue
  obtain ⟨t, k, hx, hk, hfree, -, hhas, hkeep, -⟩ := hbuilds .A (by decide) (by decide) (by decide) (by decide)
  have hused : mapsDue.bankFree .A 0 = false := by decide
  have hk1 : k = 1 := by
    interval_cases k
    · exact absurd hfree (by simp [hused])
    · rfl
  subst hk1
  exact ⟨t, hx, hkeep _ (by decide) (by decide), hhas (.A, 0) (by decide)⟩

/-- Bank 0 is selected and bank 1 is a ramp's origin. -/
def bothBanksUsed : State :=
  { mapsDue with calib := { mapsDue.calib with rampA := { Ramp.reset with pos := 1, origin := 2 } } }

/-- The agent waits for the ramp's end. -/
theorem bothBanksUsed_waits : exec (.calMapsBuilt .A) bothBanksUsed = .next bothBanksUsed := by
  obtain ⟨-, hmaps⟩ := panelsAreCalibrated
  obtain ⟨-, hwaits, -⟩ := hmaps bothBanksUsed
  exact hwaits .A (by decide) (by decide)

/-- A ramp on output A has ended. -/
def rampOver : State := { bankSelected with calib := { Calib.reset with rampA := { Ramp.reset with pos := 256 } } }

/-- The record holds SOURCE, and the base of the bank's ray map. -/
theorem rampOver_records : ∃ t, exec (.calRampEnd .A) rampOver = .next t
    ∧ t.mram.calCfg.newest.map (·.val.cal) = some [(0, 1), (4, 0x40)] := by
  obtain ⟨-, hmaps⟩ := panelsAreCalibrated
  obtain ⟨-, -, -, hrecords, -⟩ := hmaps rampOver
  exact ⟨_, hrecords .A (by decide), by decide⟩

/-- A start with that bank selected, and module DRAM zeroed. -/
def banksToCopy : State :=
  { bankSelected with
    power := { Power.reset with hearth := true }
    dram := { Dram.reset with st := 2 } }

/-- The ray map is in module DRAM. -/
theorem banksToCopy_copies : ∃ t, exec .bankCopyDone banksToCopy = .next t ∧ t.dramGet 0x40 3 = [7, 8, 9] := by
  obtain ⟨-, hmaps⟩ := panelsAreCalibrated
  obtain ⟨-, -, -, -, -, hcopies, -⟩ := hmaps banksToCopy
  obtain ⟨t, hx, -, -, -, hmap⟩ := hcopies (by decide) (by decide) (by decide)
  exact ⟨t, hx, hmap [7, 8, 9] 0x40 (by decide)⟩

end Sys2Proof.Machine
end

section
/-! PROOF. What taking a fault leaves where it forces no SS4, whatever recovery it starts (R555 to R564, R572). -/
namespace Sys2Proof.Machine

/-- Handling touches its parts, and the fault log stays. -/
def State.handledQuietly (s t : State) : Prop := s.sameButHandling t ∧ t.cellar.log = s.cellar.log

theorem State.handledQuietly.trans {s t u : State} (h : s.handledQuietly t) (h' : t.handledQuietly u) :
    s.handledQuietly u :=
  ⟨State.sameButHandling.trans h.1 h'.1, h'.2.trans h.2⟩

theorem State.requeue_handledQuietly (s : State) (slice : Nat) : s.handledQuietly (s.requeue slice) := by
  refine ⟨?_, by rw [State.requeue_cellar]⟩
  unfold State.requeue
  split
  · rfl
  · next p _ => exact (State.modOut_sameButHandling s p.out _).trans rfl

theorem State.splReset_handledQuietly (s : State) (isl : Nat) : s.handledQuietly (s.splReset isl) := by
  unfold State.splReset
  split
  · cases outOf (isl - 44) <;> exact ⟨rfl, rfl⟩
  · exact ⟨rfl, rfl⟩

theorem State.interruptHearth_handledQuietly (s : State) : s.handledQuietly s.interruptHearth :=
  List.foldlRecOn (motive := fun a : State => s.handledQuietly { a with chans := a.chans.map Channel.toAnswered }) _ _
    ⟨rfl, rfl⟩ fun _ ha _ _ => ha.trans ⟨rfl, rfl⟩

/-- A recovery resets landings, channels, lanes and spans of slices, which handling may touch. -/
theorem State.startRecovery_handledQuietly (s : State) (isl code seq : Nat) (store : Bool) :
    s.handledQuietly (s.startRecovery isl code seq store) := by
  have hreset (seed : Nat) (l : List Nat) (a : State) (ha : s.handledQuietly a) :
      s.handledQuietly (l.foldl (fun (a : State) k =>
        ((a.requeue k).splReset k).modLanding k fun l => l.relock seed k) a) :=
    List.foldlRecOn (motive := s.handledQuietly) _ _ ha fun b hb k _ =>
      ((hb.trans (b.requeue_handledQuietly k)).trans ((b.requeue k).splReset_handledQuietly k)).trans ⟨rfl, rfl⟩
  unfold State.startRecovery
  dsimp only
  split
  · exact ⟨rfl, rfl⟩
  · split
    · refine .trans ?_ (State.interruptHearth_handledQuietly _)
      exact hreset _ _ _ ⟨rfl, rfl⟩
    · exact hreset _ _ _ ⟨rfl, rfl⟩

/-- An FC2 fault is FC2 to FC4 (R557, R558, R574). -/
theorem State.classOf_fc2_mem (s : State) {x : FaultIn} (hx : x.cls = 2) : 2 ≤ s.classOf x ∧ s.classOf x ≤ 4 := by
  have hup : s.classUp x = 2 ∨ s.classUp x = 3 := by
    unfold State.classUp
    split <;> omega
  unfold State.classOf
  split <;> omega

/-- A report of class FC2 to FC4 that forces no SS4 is entered in the log, and changes nothing but what handling it touches. -/
theorem State.fault_logs (s : State) {x : FaultIn} (hlow : 2 ≤ s.classOf x) (hhigh : s.classOf x ≤ 4)
    (hforce : x.force.level ≠ 4) : s.sameButHandling (s.fault x) ∧ s.logs (s.fault x) x.code x.island := by
  have hnew : s.repeated x = none := if_neg (by omega)
  have hf : s.forceOf x = x.force := if_neg (by omega)
  unfold State.fault
  simp only [hnew, hf]
  generalize hu : State.spoilFrames _ = u
  obtain ⟨-, -, -, hlog, hsame⟩ := State.frame_of_quiet (s := s) (t := u) (l := logAppend s.cellar.log (s.entryOf x))
    (by subst hu; simp [State.force_quiet, hforce, State.enterLog_quiet])
  have hmem : s.entryOf x ∈ u.cellar.log := hlog ▸ mem_logAppend_self _ _
  split
  · obtain ⟨hrec, hkeeps⟩ := u.startRecovery_handledQuietly x.island x.code (s.entryOf x).seq (isStore x.code)
    exact ⟨hsame.trans hrec, State.logs_of_mem (hkeeps ▸ hmem)⟩
  · exact ⟨hsame, State.logs_of_mem hmem⟩

end Sys2Proof.Machine
end

section
/-! PROOF. Module memory under writes row by row: what a rectangle's texels read afterwards, and what stays (R420, R439). -/
namespace Sys2Proof.Machine

/-! ### Rows -/

theorem memWrite_append (m : Table Byte) (a : Nat) (bs cs : List Byte) :
    memWrite m a (bs ++ cs) = memWrite (memWrite m a bs) (a + bs.length) cs := by
  induction bs generalizing m a with
  | nil => rfl
  | cons b bs ih =>
    show memWrite (memSet m a b) (a + 1) (bs ++ cs) = _
    rw [ih, List.length_cons, show a + 1 + bs.length = a + (bs.length + 1) by omega]
    rfl

/-- Memories that agree on an extent read alike there. -/
theorem memRead_congr {m m' : Table Byte} {a n : Nat} (h : ∀ x, a ≤ x → x < a + n → memGet m' x = memGet m x) :
    memRead m' a n = memRead m a n := by
  refine List.map_congr_left fun i hi => h _ (by omega) ?_
  have := List.mem_range.mp hi
  omega

section
variable {f : Nat → List Byte} {w size : Nat} (hlen : ∀ i < w, (f i).length = size)
include hlen

theorem length_flatMap_range : ((List.range w).flatMap f).length = w * size := by
  rw [List.length_flatMap, List.map_congr_left fun i hi => hlen i (List.mem_range.mp hi)]
  simp

/-- A row of elements of one size is read back element by element. -/
theorem memRead_memWrite_row (m : Table Byte) (a : Nat) {i : Nat} (hi : i < w) :
    memRead (memWrite m a ((List.range w).flatMap f)) (a + i * size) size = f i := by
  induction w with
  | zero => omega
  | succ w ih =>
    have hrow := length_flatMap_range (w := w) fun k hk => hlen k (by omega)
    rw [List.range_succ, List.flatMap_append, memWrite_append, hrow, List.flatMap_singleton]
    rcases Nat.lt_succ_iff_lt_or_eq.mp hi with hlt | rfl
    · have hnext : (i + 1) * size ≤ w * size := Nat.mul_le_mul_right _ hlt
      rw [Nat.succ_mul] at hnext
      rw [memRead_congr fun x _ hx => memGet_memWrite_out _ _ _ _ (by omega)]
      exact ih (fun k hk => hlen k (by omega)) hlt
    · have hback := memRead_memWrite (memWrite m a ((List.range i).flatMap f)) (a + i * size) (f i)
      rwa [hlen i (by omega)] at hback

end

/-! ### Rectangles -/

/-- The place of a texel, from the rectangle's first. -/
theorem Surf.at_eq (d : Surf) (i j : Nat) : d.at_ i j = d.at_ 0 0 + j * d.pitch + i * texelBytes d.fmt := by
  unfold Surf.at_
  ring

/-- An address in one of a rectangle's rows. -/
def Surf.row (d : Surf) (j x : Nat) : Prop := d.at_ 0 j ≤ x ∧ x < d.at_ 0 j + d.w * texelBytes d.fmt

/-- Module memory after the first n rows of a rectangle. -/
def Surf.paint (d : Surf) (texel : Nat → Nat → List Byte) (n : Nat) (m : Table Byte) : Table Byte :=
  (List.range n).foldl (fun m j => memWrite m (d.at_ 0 j) ((List.range d.w).flatMap fun i => texel i j)) m

theorem Surf.paint_succ (d : Surf) (texel : Nat → Nat → List Byte) (n : Nat) (m : Table Byte) :
    d.paint texel (n + 1) m
      = memWrite (d.paint texel n m) (d.at_ 0 n) ((List.range d.w).flatMap fun i => texel i n) := by
  simp [Surf.paint, List.range_succ]

/-- A rectangle's write leaves everything but module DRAM, whose memory it paints. -/
theorem State.blitWrite_eq (s : State) (d : Surf) (texel : Nat → Nat → List Byte) :
    s.blitWrite d texel = { s with dram := (s.blitWrite d texel).dram }
      ∧ (s.blitWrite d texel).dram.mem = d.paint texel d.h s.dram.mem := by
  constructor
  · exact List.foldlRecOn (motive := fun a : State => a = { s with dram := a.dram }) _ _ rfl fun a ha j _ => by
      rw [ha]
      rfl
  · exact (List.foldl_hom (fun a : State => a.dram.mem) fun _ _ => rfl).symm

section
variable {d : Surf} {texel : Nat → Nat → List Byte} {n : Nat}
  (hlen : ∀ i j, i < d.w → (texel i j).length = texelBytes d.fmt)
include hlen

theorem Surf.memGet_paint_out (m : Table Byte) {x : Nat} (hx : ∀ j < n, ¬ d.row j x) :
    memGet (d.paint texel n m) x = memGet m x := by
  induction n with
  | zero => rfl
  | succ n ih =>
    have hrow := length_flatMap_range (f := (texel · n)) (w := d.w) fun i hi => hlen i n hi
    have hout : ¬ d.row n x := hx n (by omega)
    unfold Surf.row at hout
    rw [Surf.paint_succ, memGet_memWrite_out _ _ _ _ (by omega)]
    exact ih fun j hj => hx j (by omega)

/-- Where rows do not meet, each texel is read back. -/
theorem Surf.memRead_paint (hpitch : d.w * texelBytes d.fmt ≤ d.pitch) (m : Table Byte) {i j : Nat} (hi : i < d.w)
    (hj : j < n) : memRead (d.paint texel n m) (d.at_ i j) (texelBytes d.fmt) = texel i j := by
  have hplace (k : Nat) : d.at_ 0 k = d.at_ 0 0 + k * d.pitch := by simp [d.at_eq 0 k]
  have hat : d.at_ i j = d.at_ 0 j + i * texelBytes d.fmt := by rw [d.at_eq, hplace j]
  induction n with
  | zero => omega
  | succ n ih =>
    rw [Surf.paint_succ]
    rcases Nat.lt_succ_iff_lt_or_eq.mp hj with hlt | rfl
    · have hrows : (j + 1) * d.pitch ≤ n * d.pitch := Nat.mul_le_mul_right _ hlt
      have hcols : (i + 1) * texelBytes d.fmt ≤ d.w * texelBytes d.fmt := Nat.mul_le_mul_right _ hi
      rw [Nat.succ_mul] at hrows hcols
      rw [memRead_congr fun x _ hx => memGet_memWrite_out _ _ _ _ (.inl ?_)]
      · exact ih hlt
      · rw [hat, hplace j] at hx
        rw [hplace n]
        omega
    · rw [hat]
      exact memRead_memWrite_row (fun k hk => hlen k j hk) _ _ hi

end

/-- A texel lies in its rectangle's extent. -/
theorem Surf.at_mem_extent (d : Surf) {i j : Nat} (hi : i < d.w) (hj : j < d.h) :
    d.extent.1 ≤ d.at_ i j ∧ d.at_ i j + texelBytes d.fmt ≤ d.extent.1 + d.extent.2 := by
  have hrows : j * d.pitch ≤ (d.h - 1) * d.pitch := Nat.mul_le_mul_right _ (by omega)
  have hcols : (i + 1) * texelBytes d.fmt ≤ d.w * texelBytes d.fmt := Nat.mul_le_mul_right _ hi
  rw [Nat.succ_mul] at hcols
  rw [d.at_eq]
  simp only [Surf.extent]
  omega

end Sys2Proof.Machine
end

section
/-! PROOF. Texels of a blitter command: each fills its texel of the destination (R417, R420 to R422). -/
namespace Sys2Proof.Machine

theorem memRead_length (m : Table Byte) (a n : Nat) : (memRead m a n).length = n := by simp [memRead]

theorem freeBytes_length (seed n : Nat) : (freeBytes seed n).length = n := by simp [freeBytes]

/-- A pair in a format fills a texel. -/
theorem pairBytes_length {fmt : Nat} (h : fmt ≤ 4) (p : Pair) : (pairBytes fmt p).length = texelBytes fmt := by
  interval_cases fmt <;> simp [pairBytes, texelBytes, leBytes_length]

/-- Components filtered as stored fill a texel. -/
theorem compBytes_length {fmt : Nat} (h : fmt ≤ 4) (seed : Nat) (cs : List Comp) :
    (compBytes fmt seed cs).length = texelBytes fmt := by
  unfold compBytes
  split
  · next h4 =>
    subst h4
    exact length_flatMap_range fun _ _ => leBytes_length 2 _
  · exact pairBytes_length h _

/-- What R416 and R417 give of a rectangle: a format, and rows that do not meet. -/
theorem Surf.ok_rows {d : Surf} (h : d.ok = true) : d.fmt ≤ 4 ∧ d.w * texelBytes d.fmt ≤ d.pitch := by
  simp only [Surf.ok, Bool.and_eq_true, decide_eq_true_eq] at h
  obtain ⟨⟨⟨⟨⟨⟨⟨⟨⟨⟨⟨hfmt, -⟩, -⟩, -⟩, -⟩, -⟩, -⟩, -⟩, -⟩, -⟩, -⟩, hpitch⟩ := h
  rw [Nat.add_mul] at hpitch
  exact ⟨hfmt, by omega⟩

/-- What a command that may run gives of its rectangles (R418). -/
theorem blitOk_surfaces {f : Nat} {c : BlitCmd} (h : blitOk f c = true) :
    (blitDst c).ok = true ∧ (blitOp c = 1 → (blitSrc c).fmt = (blitDst c).fmt) := by
  simp only [blitOk, Bool.and_eq_true] at h
  obtain ⟨⟨⟨⟨⟨-, hdst⟩, -⟩, hcopy⟩, -⟩, -⟩ := h
  exact ⟨hdst, fun hop => by simpa [hop] using hcopy⟩

section
variable {c : BlitCmd} {src dst : Nat → Nat → List Byte}
  (hsrc : ∀ x y, (src x y).length = texelBytes (blitSrc c).fmt) (hd : (blitDst c).fmt ≤ 4)
include hsrc hd

theorem stretchTexel_length (seed i j : Nat) :
    (stretchTexel c seed src i j).length = texelBytes (blitDst c).fmt := by
  unfold stretchTexel
  dsimp only
  split
  · split
    · next hfmt => rw [hsrc, hfmt]
    · exact pairBytes_length hd _
  · split
    · exact compBytes_length hd _ _
    · exact pairBytes_length hd _

/-- A texel of a command's result fills its texel of the destination. -/
theorem blitTexel_length (hcopy : blitOp c = 1 → (blitSrc c).fmt = (blitDst c).fmt) (seed i j : Nat) :
    (blitTexel c seed src dst i j).length = texelBytes (blitDst c).fmt := by
  unfold blitTexel
  dsimp only
  split
  · next hop => rw [hsrc, hcopy hop]
  · exact bytesAt_length _ _ _
  · exact stretchTexel_length hsrc hd _ _ _
  · exact pairBytes_length hd _
  · exact pairBytes_length hd _

end

end Sys2Proof.Machine
end

section
/-! PROOF. What the end of a blitter command leaves: its STATUS word, the place of the list, and behind the last command the
list's end (R413, R427). -/
namespace Sys2Proof.Machine

/-! ### The end of a list -/

/-- A command has ended. -/
def Blitter.counted (b : Blitter) (status : Nat) : Blitter :=
  { b with index := b.index + 1, ran := b.ran + 1,
           firstBad := if b.firstBad.isNone && status != stOk then some (b.index, status) else b.firstBad }

/-- The list has ended. -/
def Blitter.listOver (b : Blitter) : Blitter :=
  { b with run := none, done := w32 (b.done + 1), index := b.index - 1, stageBad := false }

/-- What the end of a command makes of the blitter. -/
def Blitter.after (b : Blitter) (status : Nat) : Blitter :=
  if b.staging.length ≤ b.index + 1 then (b.counted status).listOver else b.counted status

theorem State.blitVector_sameButBoxes (s : State) (f v : Nat) : s.sameButBoxes (s.blitVector f v) := by
  unfold State.blitVector
  split <;> rfl

theorem State.blitEvent_sameButBoxes (s : State) (f code : Nat) (data : List Byte) :
    s.sameButBoxes (s.blitEvent f code data) := by
  unfold State.blitEvent
  split <;> rfl

/-- The end of a list counts it, with its event and vector. -/
theorem State.blitListEnd_eq (s : State) (l : BlitList) (first : Nat × Nat) :
    (s.modBlit Blitter.listOver).sameButBoxes (s.blitListEnd l first) :=
  (State.blitEvent_sameButBoxes ..).trans (State.blitVector_sameButBoxes ..)

/-- The STATUS word of the command that the list has come to is written. -/
def State.statusPut (s : State) (l : BlitList) (status : Nat) : State :=
  s.dramPut (l.addr + 64 + 64 * s.blit.index + 4) (leBytes 4 status)

theorem State.sameButBoxes.modBlit {s t : State} (h : s.sameButBoxes t) (g : Blitter → Blitter) :
    (s.modBlit g).sameButBoxes (t.modBlit g) := by
  unfold State.sameButBoxes at *
  rw [h]
  rfl

/-- The end of a command writes its STATUS word and moves the list on, with events and vectors. -/
theorem State.blitDone_eq (s : State) (l : BlitList) (c : BlitCmd) (status : Nat) :
    ((s.statusPut l status).modBlit (·.after status)).sameButBoxes (s.blitDone l c status) := by
  unfold State.blitDone
  dsimp only
  generalize hu : (if blitFlag c 1 then _ else _ : State) = u
  have hmark : ((s.statusPut l status).modBlit (·.counted status)).sameButBoxes u := by
    rw [← hu]
    split
    · exact (State.blitEvent_sameButBoxes ..).trans (State.blitVector_sameButBoxes ..)
    · rfl
  have hlen : u.blit.staging.length = s.blit.staging.length := by
    rw [hmark]
    rfl
  have hafter (b : Blitter) (hb : s.blit.after status = b) :
      (s.statusPut l status).modBlit (·.after status) = { s.statusPut l status with blit := b } := hb ▸ rfl
  rw [hlen]
  split
  · next hlast =>
    rw [hafter _ (if_pos hlast)]
    exact (hmark.modBlit _).trans (u.blitListEnd_eq l _)
  · next hmore =>
    rw [hafter _ (if_neg hmore)]
    exact hmark

/-! ### What is left of a command and of those behind it -/

section
variable (b : Blitter) (status : Nat)

@[simp] theorem Blitter.after_staging : (b.after status).staging = b.staging := by
  unfold Blitter.after
  split <;> rfl

@[simp] theorem Blitter.after_ovl : (b.after status).ovl = b.ovl := by
  unfold Blitter.after
  split <;> rfl

@[simp] theorem Blitter.after_faults : (b.after status).faults = b.faults := by
  unfold Blitter.after
  split <;> rfl

end

/-- A list that still runs has gone on to its next command. -/
theorem Blitter.after_runs {b : Blitter} {status : Nat} {r : BlitList} (h : (b.after status).run = some r) :
    b.run = some r ∧ (b.after status).index = b.index + 1 := by
  unfold Blitter.after at *
  split at h
  · simp [Blitter.listOver] at h
  · next hmore => exact ⟨h, by rw [if_neg hmore]; rfl⟩

/-- From command k of a list on, commands have ended: letterboxes, their STATUS words and the place of the list have changed,
and nothing else. -/
structure State.statusesFrom (s t : State) (l : BlitList) (k : Nat) : Prop where
  frame : t = { s with boxes := t.boxes, dram := t.dram, blit := t.blit }
  staging : t.blit.staging = s.blit.staging
  ovl : t.blit.ovl = s.blit.ovl
  faults : t.blit.faults = s.blit.faults
  mem : ∀ x, x < l.addr + 64 + 64 * k ∨ l.addr + 64 + 64 * s.blit.staging.length ≤ x →
    memGet t.dram.mem x = memGet s.dram.mem x

theorem State.statusesFrom.refl (s : State) (l : BlitList) (k : Nat) : s.statusesFrom s l k :=
  ⟨rfl, rfl, rfl, rfl, fun _ _ => rfl⟩

theorem State.statusesFrom.trans {s t u : State} {l : BlitList} {i j k : Nat} (h : s.statusesFrom t l j)
    (h' : t.statusesFrom u l k) (hj : i ≤ j) (hk : i ≤ k) : s.statusesFrom u l i where
  frame := by rw [h'.frame, h.frame]
  staging := h'.staging.trans h.staging
  ovl := h'.ovl.trans h.ovl
  faults := h'.faults.trans h.faults
  mem x hx := (h'.mem x (by rw [h.staging]; omega)).trans (h.mem x (by omega))

section
variable {s : State} {l : BlitList} {c : BlitCmd} {status : Nat}

theorem State.blitDone_dram : (s.blitDone l c status).dram = (s.statusPut l status).dram := by
  rw [s.blitDone_eq l c status]
  rfl

theorem State.blitDone_blit : (s.blitDone l c status).blit = s.blit.after status := by
  rw [s.blitDone_eq l c status]
  rfl

theorem State.blitDone_statusesFrom (hi : s.blit.index < s.blit.staging.length) :
    s.statusesFrom (s.blitDone l c status) l s.blit.index where
  frame := by
    rw [s.blitDone_eq l c status]
    rfl
  staging := by simp [State.blitDone_blit]
  ovl := by simp [State.blitDone_blit]
  faults := by simp [State.blitDone_blit]
  mem x hx := by
    rw [State.blitDone_dram]
    refine memGet_memWrite_out _ _ _ _ ?_
    rw [leBytes_length]
    omega

/-- Commands without an operation end as they come, each in its STATUS word. -/
theorem blitSkip_statusesFrom (n : Nat) {k : Nat} (h : ∀ r, s.blit.run = some r → r = l ∧ k ≤ s.blit.index) :
    s.statusesFrom (blitSkip n s) l k := by
  induction n generalizing s with
  | zero => exact .refl s l k
  | succ n ih =>
    unfold blitSkip
    split
    · exact .refl s l k
    · next r hr =>
      obtain ⟨rfl, hk⟩ := h r hr
      split
      · exact .refl s r k
      · next c hc =>
        split
        · exact .refl s r k
        · have hi : s.blit.index < s.blit.staging.length := (List.getElem?_eq_some_iff.mp hc).1
          refine (State.blitDone_statusesFrom hi).trans (ih fun q hq => ?_) hk le_rfl
          rw [State.blitDone_blit] at hq ⊢
          obtain ⟨hrun, hindex⟩ := Blitter.after_runs hq
          exact ⟨(h q hrun).1, by omega⟩

theorem blitSkip_idle (n : Nat) (h : s.blit.run = none) : blitSkip n s = s := by
  cases n with
  | zero => rfl
  | succ n => rw [blitSkip, h]

/-- A command that has an operation waits for its event. -/
theorem blitSkip_of_op (n : Nat) (hrun : s.blit.run = some l) (hc : s.blit.staging[s.blit.index]? = some c)
    (h1 : 1 ≤ blitOp c) (h5 : blitOp c ≤ 5) : blitSkip n s = s := by
  cases n with
  | zero => rfl
  | succ n =>
    rw [blitSkip, hrun]
    dsimp only
    rw [hc]
    exact if_pos ⟨h1, h5⟩

/-- The command that the list has come to ends with a status, and so do those without an operation behind it. -/
theorem State.blitDone_ends (n : Nat) (hrun : s.blit.run = some l) (hi : s.blit.index < s.blit.staging.length) :
    s.statusesFrom (blitSkip n (s.blitDone l c status)) l s.blit.index
      ∧ s.blitEnded (blitSkip n (s.blitDone l c status)) l status := by
  have hdone := State.blitDone_statusesFrom (l := l) (c := c) (status := status) hi
  have hrest : (s.blitDone l c status).statusesFrom (blitSkip n (s.blitDone l c status)) l (s.blit.index + 1) := by
    refine blitSkip_statusesFrom n fun r hr => ?_
    rw [State.blitDone_blit] at hr ⊢
    obtain ⟨hr', hindex⟩ := Blitter.after_runs hr
    exact ⟨Option.some.inj (hr'.symm.trans hrun), hindex.ge⟩
  have hword : memRead (s.blitDone l c status).dram.mem (l.addr + 64 + 64 * s.blit.index + 4) 4 = leBytes 4 status := by
    have hback := memRead_memWrite s.dram.mem (l.addr + 64 + 64 * s.blit.index + 4) (leBytes 4 status)
    rw [leBytes_length] at hback
    rw [State.blitDone_dram]
    exact hback
  refine ⟨hdone.trans hrest le_rfl (by omega), ?_, fun d hd h1 h5 => ?_, fun hlast => ?_⟩
  · rw [← hword]
    exact memRead_congr fun x _ hx => hrest.mem x (.inl (by omega))
  · have hnext : s.blit.index + 1 < s.blit.staging.length := (List.getElem?_eq_some_iff.mp hd).1
    have hblit : (s.blitDone l c status).blit = s.blit.counted status :=
      State.blitDone_blit.trans (if_neg (by omega))
    rw [blitSkip_of_op n (l := l) (c := d) (by rw [hblit]; exact hrun) (by rw [hblit]; exact hd) h1 h5, hblit]
    exact ⟨hrun, rfl, rfl⟩
  · have hblit : (s.blitDone l c status).blit = (s.blit.counted status).listOver :=
      State.blitDone_blit.trans (if_pos hlast)
    rw [blitSkip_idle n (by rw [hblit]; rfl), hblit]
    exact ⟨rfl, rfl⟩

end

end Sys2Proof.Machine
end

section
/-! PROOF. The commands of the blitter's lists: what each case of a command does, and how it ends (R413, R418 to R427). -/
namespace Sys2Proof.Machine

/-! ### The cases of a command -/

/-- The rows of blitter commands, each with its operation (R416). -/
def blitRows (ue : Bool) : List (Instr × Nat) :=
  [(Instr.blitCopy ue, 1), (Instr.blitFill ue, 2), (Instr.blitStretch ue, 3), (Instr.blitBlend ue, 4),
    (Instr.blitConvert ue, 5)]

/-- A row runs the list's next command where that has the row's operation. -/
theorem exec_blitRow {ue : Bool} {row : Instr × Nat} (h : row ∈ blitRows ue) (s : State) :
    exec row.1 s = .next (s.blitStep row.2 ue) := by
  simp only [blitRows, List.mem_cons, List.not_mem_nil, or_false] at h
  rcases h with rfl | rfl | rfl | rfl | rfl <;> rfl

/-- What an uncorrectable word that the blitter reads reports (R426, R562). -/
def blitReport : FaultIn := { code := 0xB01, cls := 2, island := 58, detail := 5, force := .none }

theorem State.fault_blitReport (s : State) : s.sameButHandling (s.fault blitReport) ∧ s.logs (s.fault blitReport) 0xB01 58 :=
  have hclass := s.classOf_fc2_mem (x := blitReport) rfl
  s.fault_logs hclass.1 hclass.2 (by decide)

/-- The scratch area that a command uses, taken at open values (R424). -/
def State.scratched (s : State) (c : BlitCmd) : State :=
  match blitScratch c with
  | none => s
  | some n => ({ s with free := s.free + n } : State).dramPut s.blit.scratch.1 (freeBytes s.free n)

/-- A texel of a command's result, of what module memory holds (R420), its open values drawn from a seed on. -/
def State.blitResult (s : State) (c : BlitCmd) (seed i j : Nat) : List Byte :=
  blitTexel c (seed + 4 * (j * (blitDst c).w + i))
    (fun x y => s.dramGet ((blitSrc c).at_ x y) (texelBytes (blitSrc c).fmt))
    (fun x y => s.dramGet ((blitDst c).at_ x y) (texelBytes (blitDst c).fmt)) i j

/-- A command's result stands in its destination. -/
def State.blitted (s : State) (c : BlitCmd) : State :=
  let u := s.scratched c
  ({ u with free := u.free + 4 * (blitDst c).w * (blitDst c).h } : State).blitWrite (blitDst c) (s.blitResult c u.free)

/-- The open values of a spoiled destination. -/
def spoiledTexel (c : BlitCmd) (seed i j : Nat) : List Byte :=
  freeBytes (seed + j * (texelBytes (blitDst c).fmt * (blitDst c).w) + i * texelBytes (blitDst c).fmt)
    (texelBytes (blitDst c).fmt)

/-- A destination holds open values after a read that met uncorrectable words, which are counted (R426). -/
def State.spoiled (s : State) (c : BlitCmd) (bad : List Nat) : State :=
  let n := texelBytes (blitDst c).fmt * (blitDst c).w * (blitDst c).h
  ((({ s with free := s.free + 1 + n } : State).dramUe 5 bad).blitWrite (blitDst c) (spoiledTexel c (s.free + 1))).modBlit
    fun b => { b with faults := sat 16 (b.faults + 1) }

section
variable {s : State} {l : BlitList} {c : BlitCmd} {ue : Bool}

theorem State.blitStep_otherOp {op : Nat} (h : ∀ d, s.blit.staging[s.blit.index]? = some d → blitOp d ≠ op) :
    s.blitStep op ue = s := by
  unfold State.blitStep
  split
  · next hc => exact if_pos (.inl (h _ hc))
  · rfl

theorem State.blitStep_idle {op : Nat} (h : s.blit.run = none ∨ s.dram.st ≠ 2 ∨ s.works 58 = false) :
    s.blitStep op ue = s := by
  unfold State.blitStep
  split
  · next hrun _ =>
    rcases h with hno | h
    · simp [hno] at hrun
    · exact if_pos (.inr h)
  · rfl

/-- A command that may not run for its list's sake: the list was read with an uncorrectable word (R426). -/
theorem State.blitAct_stageBad (h : s.blit.stageBad = true) : s.blitAct l.func c ue = (s, stFaultState) := if_pos h

section
variable (hstage : s.blit.stageBad = false)
include hstage

theorem State.blitAct_malformed (hok : blitOk l.func c = false) : s.blitAct l.func c ue = (s, stBadField) := by
  simp [State.blitAct, hstage, hok]

theorem State.blitAct_outside (hok : blitOk l.func c = true)
    (hdst : s.inPool l.func (blitDst c).extent.1 (blitDst c).extent.2 = false) :
    s.blitAct l.func c ue = (s.violate 3, stOk) := by
  simp [State.blitAct, hstage, hok, hdst]

/-- The list's scratch area is missing or too small for a command that needs one (R425). -/
theorem State.blitAct_short {n : Nat} (hok : blitOk l.func c = true)
    (hdst : s.inPool l.func (blitDst c).extent.1 (blitDst c).extent.2 = true)
    (hsrc : s.inPool l.func (blitSrc c).extent.1 (blitSrc c).extent.2 = true) (hn : blitScratch c = some n)
    (hshort : s.blit.scratch.1 = 0 ∨ s.blit.scratch.2 < n) :
    s.blitAct l.func c ue = (s.modBlit fun b => { b with ovl := sat 16 (b.ovl + 1) }, stOverlap) := by
  simp [State.blitAct, hstage, hok, hdst, hsrc, hn, hshort]

end

/-- A command that may run writes its result, or open values where it read uncorrectable words. -/
theorem State.blitAct_runs {op : Nat} (h : s.blits op l c) :
    s.blitAct l.func c ue
      = if s.blitBad c ue ≠ [] then ((s.spoiled c (s.blitBad c ue)).fault blitReport, stFaultState)
        else (s.blitted c, stOk) := by
  obtain ⟨hrun, -, rfl, -, -, hstage, hok, hdst, hsrc, hscratch⟩ := h
  have hread : (blitOp c != 2 && !s.inPool l.func (blitSrc c).extent.1 (blitSrc c).extent.2) = false := by
    by_cases hop : blitOp c = 2
    · simp [hop]
    · simp [hsrc hop]
  unfold State.blitAct
  simp only [hstage, hok, hdst, hread, hrun, Bool.not_true, Bool.or_self, Bool.false_eq_true, if_false]
  cases hneed : blitScratch c with
  | none =>
    have hs : s.scratched c = s := by rw [State.scratched, hneed]
    unfold State.blitted
    rw [hs]
    rfl
  | some n =>
    obtain ⟨hbase, hsize, hmeetd, hmeetq, hmeetl, hours⟩ := hscratch n hneed
    have hs : s.scratched c = ({ s with free := s.free + n } : State).dramPut s.blit.scratch.1 (freeBytes s.free n) := by
      rw [State.scratched, hneed]
    have hshort : (s.blit.scratch.1 == 0 || decide (s.blit.scratch.2 < n)) = false := by
      simp [hbase, Nat.not_lt.mpr hsize]
    simp only [hshort, hmeetd, hmeetq, hmeetl, hours, Bool.or_self, Bool.not_true, Bool.and_false, Bool.false_eq_true,
      if_false]
    unfold State.blitted
    rw [hs]
    rfl

/-! ### What a command leaves of module memory -/

theorem State.dramUe_eq (s : State) (src : Nat) (ws : List Nat) :
    s.dramUe src ws = { s with dram := (s.dramUe src ws).dram } ∧ (s.dramUe src ws).dram.mem = s.dram.mem := by
  refine List.foldlRecOn (motive := fun a : State => a = { s with dram := a.dram } ∧ a.dram.mem = s.dram.mem) _ _
    ⟨rfl, rfl⟩ fun a ⟨ha, hm⟩ w _ => ⟨?_, hm⟩
  rw [ha]
  rfl

theorem State.scratched_eq (s : State) (c : BlitCmd) :
    s.scratched c = { s with free := s.free + (blitScratch c).getD 0, dram := (s.scratched c).dram } := by
  unfold State.scratched
  split
  · next hneed =>
    rw [hneed]
    rfl
  · next n hneed =>
    rw [hneed]
    rfl

/-- Outside the scratch area that it needs, a command finds module memory as it was. -/
theorem State.memGet_scratched {x : Nat}
    (h : ∀ n, blitScratch c = some n → ¬ (s.blit.scratch.1 ≤ x ∧ x < s.blit.scratch.1 + n)) :
    memGet (s.scratched c).dram.mem x = memGet s.dram.mem x := by
  unfold State.scratched
  split
  · rfl
  · next n hneed =>
    have hout := h n hneed
    refine memGet_memWrite_out _ _ _ _ ?_
    rw [freeBytes_length]
    omega

theorem State.blitted_eq (s : State) (c : BlitCmd) :
    s.blitted c = { s with dram := (s.blitted c).dram, free := (s.blitted c).free }
      ∧ (s.blitted c).dram.mem
        = (blitDst c).paint (s.blitResult c (s.free + (blitScratch c).getD 0)) (blitDst c).h (s.scratched c).dram.mem := by
  have hfree : (s.scratched c).free = s.free + (blitScratch c).getD 0 := by rw [s.scratched_eq c]
  unfold State.blitted
  dsimp only
  rw [hfree]
  obtain ⟨hframe, hmem⟩ := State.blitWrite_eq { s.scratched c with
    free := s.free + (blitScratch c).getD 0 + 4 * (blitDst c).w * (blitDst c).h } (blitDst c)
    (s.blitResult c (s.free + (blitScratch c).getD 0))
  refine ⟨?_, hmem⟩
  rw [hframe, s.scratched_eq c]

theorem State.spoiled_eq (s : State) (c : BlitCmd) (bad : List Nat) :
    s.spoiled c bad = { s with
        dram := (s.spoiled c bad).dram, free := (s.spoiled c bad).free
        blit := { s.blit with faults := sat 16 (s.blit.faults + 1) } }
      ∧ (s.spoiled c bad).dram.mem = (blitDst c).paint (spoiledTexel c (s.free + 1)) (blitDst c).h s.dram.mem := by
  obtain ⟨hue, hkept⟩ := State.dramUe_eq
    { s with free := s.free + 1 + texelBytes (blitDst c).fmt * (blitDst c).w * (blitDst c).h } 5 bad
  unfold State.spoiled
  dsimp only
  generalize State.dramUe _ 5 bad = u at *
  obtain ⟨hframe, hmem⟩ := u.blitWrite_eq (blitDst c) (spoiledTexel c (s.free + 1))
  refine ⟨?_, hmem.trans (congrArg _ hkept)⟩
  generalize u.blitWrite _ _ = v at *
  rw [hframe, hue]
  rfl

/-! ### How a command ends -/

/-- A case of a command ends with its status behind what it has done. -/
theorem blitRow_ends {row : Instr × Nat} {u : State} {status : Nat}
    (hrow : row ∈ blitRows ue) (hrun : s.blit.run = some l) (hc : s.blit.staging[s.blit.index]? = some c)
    (hop : blitOp c = row.2) (hst : s.dram.st = 2) (hw : s.works 58 = true)
    (hact : s.blitAct l.func c ue = (u, status))
    (hblit : u.blit = { s.blit with ovl := u.blit.ovl, faults := u.blit.faults }) :
    ∃ t, exec row.1 s = .next t ∧ s.blitEnded t l status ∧ t = { u with boxes := t.boxes, dram := t.dram, blit := t.blit }
      ∧ t.blit.ovl = u.blit.ovl ∧ t.blit.faults = u.blit.faults
      ∧ ∀ x, ¬ s.inList l x → memGet t.dram.mem x = memGet u.dram.mem x := by
  have hindex : u.blit.index = s.blit.index := by rw [hblit]
  have hstaging : u.blit.staging = s.blit.staging := by rw [hblit]
  have hdone : u.blit.done = s.blit.done := by rw [hblit]
  have hi : s.blit.index < s.blit.staging.length := (List.getElem?_eq_some_iff.mp hc).1
  have hstep : s.blitStep row.2 ue = blitSkip 4096 (u.blitDone l c status) := by
    unfold State.blitStep
    simp only [hrun, hc, hop, hst, hw, hact, ne_eq, not_true, Bool.true_eq_false, or_self, if_false]
  obtain ⟨hrest, hended⟩ := State.blitDone_ends (c := c) (status := status) 4096 (s := u) (l := l) (by rw [hblit]; exact hrun)
    (by rw [hindex, hstaging]; exact hi)
  rw [exec_blitRow hrow, hstep]
  refine ⟨_, rfl, ?_, hrest.frame, hrest.ovl, hrest.faults, fun x hx => hrest.mem x ?_⟩
  · unfold State.blitEnded at *
    rwa [hindex, hstaging, hdone] at hended
  · unfold State.inList at hx
    rw [hstaging, hindex]
    omega

/-- Rectangles that a command may write have rows that do not meet, and the texels of its result fill theirs. -/
theorem State.blitResult_fits (hok : blitOk l.func c = true) (seed : Nat) :
    (blitDst c).w * texelBytes (blitDst c).fmt ≤ (blitDst c).pitch
      ∧ ∀ i j, i < (blitDst c).w → (s.blitResult c seed i j).length = texelBytes (blitDst c).fmt := by
  obtain ⟨hdst, hcopy⟩ := blitOk_surfaces hok
  obtain ⟨hfmt, hpitch⟩ := Surf.ok_rows hdst
  exact ⟨hpitch, fun i j _ => blitTexel_length (fun _ _ => memRead_length ..) hfmt hcopy _ i j⟩

/-- Where the destination does not meet the list, it lies outside it. -/
theorem State.not_inList_of_extent {a : Nat × Nat} (h : rangesMeet a (l.addr, 64 + 64 * s.blit.staging.length) = false)
    {x : Nat} (hlo : a.1 ≤ x) (hhi : x < a.1 + a.2) : ¬ s.inList l x := by
  simp only [rangesMeet, Bool.and_eq_false_iff, decide_eq_false_iff_not] at h
  unfold State.inList
  omega

end

/-- What a command writes, and what it leaves. -/
theorem blitterCommandsWriteTexels : Clause.BlitterCommandsWriteTexels := by
  unfold Clause.BlitterCommandsWriteTexels
  intro ue row l c s hrow
  refine ⟨fun h => ?_, fun h => ?_, fun h hbad => ?_⟩
  · rw [exec_blitRow hrow, State.blitStep_otherOp h]
  · rw [exec_blitRow hrow, State.blitStep_idle h]
  · have hact := State.blitAct_runs (ue := ue) h
    rw [if_neg (by simp [hbad])] at hact
    obtain ⟨hrun, hc, hop, hst, hw, -, hok, -⟩ := h
    obtain ⟨hframe, hmem⟩ := s.blitted_eq c
    obtain ⟨t, hx, hended, ht, -, -, hlist⟩ := blitRow_ends hrow hrun hc hop hst hw hact (by rw [hframe])
    obtain ⟨hpitch, hlen⟩ := State.blitResult_fits (s := s) hok (s.free + (blitScratch c).getD 0)
    refine ⟨t, hx, hended, ?_, fun x hout hrows hscratch => ?_, fun hmeet i j hi hj => ?_⟩
    · rw [ht, hframe]
    · rw [hlist x hout, hmem, Surf.memGet_paint_out hlen _ hrows, State.memGet_scratched hscratch]
    · obtain ⟨hlo, hhi⟩ := (blitDst c).at_mem_extent hi hj
      rw [memRead_congr fun x hxlo hxhi => hlist x (State.not_inList_of_extent hmeet (by omega) (by omega)), hmem,
        Surf.memRead_paint hlen hpitch _ hi hj]
      rfl

/-- How a command ends that writes no result. -/
theorem blitterCommandsEnd : Clause.BlitterCommandsEnd := by
  unfold Clause.BlitterCommandsEnd
  intro ue row l c s hrow hrun hc hop hst hw
  refine ⟨fun hstage => ?_, fun hstage hok => ?_, fun hstage hok hdst => ?_, fun n hstage hok hdst hsrc hn hshort => ?_,
    fun h hbad => ?_⟩
  · obtain ⟨t, hx, hended, ht, -, -, hlist⟩ :=
      blitRow_ends hrow hrun hc hop hst hw (State.blitAct_stageBad (ue := ue) hstage) rfl
    exact ⟨t, hx, hended, ht, hlist⟩
  · obtain ⟨t, hx, hended, ht, -, -, hlist⟩ :=
      blitRow_ends hrow hrun hc hop hst hw (State.blitAct_malformed (ue := ue) hstage hok) rfl
    exact ⟨t, hx, hended, ht, hlist⟩
  · obtain ⟨t, hx, hended, ht, -, -, hlist⟩ :=
      blitRow_ends hrow hrun hc hop hst hw (State.blitAct_outside (ue := ue) hstage hok hdst) rfl
    have hcellar : t.cellar = (s.violate 3).cellar := by rw [ht]
    refine ⟨t, hx, hended, hcellar, ?_, hlist⟩
    rw [ht]
    rfl
  · obtain ⟨t, hx, hended, ht, hovl, -, hlist⟩ :=
      blitRow_ends hrow hrun hc hop hst hw (State.blitAct_short (ue := ue) hstage hok hdst hsrc hn hshort) rfl
    refine ⟨t, hx, hended, hovl.trans (Nat.min_comm ..), ht, hlist⟩
  · have hact := State.blitAct_runs (ue := ue) h
    rw [if_pos hbad] at hact
    obtain ⟨hspoil, hmem⟩ := s.spoiled_eq c (s.blitBad c ue)
    obtain ⟨hsame, hlogs⟩ := (s.spoiled c (s.blitBad c ue)).fault_blitReport
    unfold State.sameButHandling at hsame
    generalize State.fault _ blitReport = u at *
    obtain ⟨t, hx, hended, ht, -, hfaults, hlist⟩ := blitRow_ends hrow hrun hc hop hst hw hact (by rw [hsame, hspoil])
    refine ⟨t, hx, hended, ?_, ?_, ?_, fun x hout hrows => ?_⟩
    · rw [hfaults, hsame, hspoil]
      exact Nat.min_comm ..
    · have hlogged : (s.spoiled c (s.blitBad c ue)).logs t 0xB01 58 := by
        rw [ht]
        exact hlogs
      exact hlogged.of_eq (by rw [hspoil]) (by rw [hspoil])
    · unfold State.sameButHandling
      rw [ht, hsame, hspoil]
    · rw [hlist x hout, hsame, hmem]
      exact Surf.memGet_paint_out (fun _ _ _ => freeBytes_length ..) _ hrows

/-- Settles O59: each clause is one case of `State.blitAct`, whose texels `Surf.paint` lays row by row, behind which the command
ends as `blitRow_ends` says. -/
theorem blitterCommands : Obligations.BlitterCommands := ⟨blitterCommandsWriteTexels, blitterCommandsEnd⟩

end Sys2Proof.Machine
end

section
/-! PROOF. Lists of the blitter: their submission, and the start of the one that comes next (R46, R410 to R415, R493, R507). -/
namespace Sys2Proof.Machine

/-! ### SUBMIT_BLIT (R410, R493, R507) -/

/-- The lists of a function that are queued (R410). -/
def Blitter.listsOf (b : Blitter) (f : Nat) : Nat := (b.queue.filter fun q => q.func == f).length

/-- A list lies in its function's pool, as long as its COUNT says (R414, R493). -/
def State.listInPool (s : State) (f a : Nat) : Bool := s.inPool f a (64 + 64 * nAt (s.dramGet a 2) 0 2)

/-- A list is queued behind the others. -/
def State.listQueued (s : State) (f a : Nat) : State :=
  s.modBlit fun b => { b with queue := b.queue ++ [{ func := f, addr := a }] }

/-- What the act of SUBMIT_BLIT answers. -/
theorem exec_submitBlit (f : Nat) (s : State) :
    ∃ act, exec (.submitBlit f) s = .next (s.hostCommand f submitBlitCard act) ∧ ∀ (u : State) (c : Cmd) (a : Nat),
      a = nAt c.payload 0 8 →
      (a % 64 ≠ 0 → act u c = .bad u stBadField)
      ∧ (a % 64 = 0 →
        (u.listInPool f a = false → act u c = poolBreach u 16)
        ∧ (u.listInPool f a = true →
          (16 ≤ u.blit.listsOf f → act u c = .bad u stQueueFull)
          ∧ (u.blit.listsOf f < 16 → act u c = { CmdRes.ok (u.listQueued f a)
              (u.dramGet (a + 4) 4 ++ leBytes 2 (u.blit.listsOf f + 1)) with status := stDeferred }))) := by
  refine ⟨_, rfl, ?_⟩
  rintro u c _ rfl
  refine ⟨fun h => if_pos h, fun h => ⟨fun hp => (if_neg (not_not.mpr h)).trans (if_pos ?_), fun hp => ?_⟩⟩
  · rw [← Bool.not_eq_true'] at hp
    exact hp
  · have hin : ¬ (!u.listInPool f (nAt c.payload 0 8)) = true := by simp [hp]
    exact ⟨fun hfull => (if_neg (not_not.mpr h)).trans ((if_neg hin).trans (if_pos hfull)),
      fun hroom => (if_neg (not_not.mpr h)).trans ((if_neg hin).trans (if_neg (Nat.not_le.mpr hroom)))⟩

theorem State.storeCounter_submitBlitCard (s : State) (c : Cmd) : s.storeCounter submitBlitCard c = s :=
  State.storeCounter_plain _ _ _ (Card.hasTrailer_plain _ _ rfl)

section
variable {f a : Nat} {e : SqEntry} {s : State} (h : s.hostRuns f submitBlitCard e) (ha : a = nAt (payloadOf e) 0 8)
include h ha

theorem submitBlit_misaligned (halign : a % 64 ≠ 0) :
    ∃ t, exec (.submitBlit f) s = .next t ∧ s.sameButBoxes t ∧ (s.box f).gained (t.box f) e stBadField 0 [] := by
  obtain ⟨act, hx, hact⟩ := exec_submitBlit f s
  obtain ⟨hbad, -⟩ := hact (s.pop f) { f := f, e := e } a ha
  obtain ⟨hsame, hgain⟩ := State.command_answers h act (.bad (s.pop f) stBadField)
    (by rw [State.storeCounter_submitBlitCard, hbad halign]; rfl) rfl rfl
  exact ⟨_, hx, (State.pop_sameButBoxes s f).trans hsame, hgain⟩

section
variable (halign : a % 64 = 0)
include halign

theorem submitBlit_outside (hpool : s.listInPool f a = false) :
    ∃ t, exec (.submitBlit f) s = .next t ∧ (s.violate 3).sameButBoxes t := by
  obtain ⟨act, hx, hact⟩ := exec_submitBlit f s
  obtain ⟨-, hin⟩ := hact (s.pop f) { f := f, e := e } a ha
  obtain ⟨hbreach, -⟩ := hin halign
  have hrest := State.command_rest h act (poolBreach (s.pop f) 16)
    (by rw [State.storeCounter_submitBlitCard, hbreach hpool]; rfl)
  have hpop : (s.violate 3).sameButBoxes ((s.pop f).violate 3) := rfl
  exact ⟨_, hx, hpop.trans hrest⟩

variable (hpool : s.listInPool f a = true)
include hpool

theorem submitBlit_full (hfull : 16 ≤ s.blit.listsOf f) :
    ∃ t, exec (.submitBlit f) s = .next t ∧ s.sameButBoxes t ∧ (s.box f).gained (t.box f) e stQueueFull 0 [] := by
  obtain ⟨act, hx, hact⟩ := exec_submitBlit f s
  obtain ⟨-, hin⟩ := hact (s.pop f) { f := f, e := e } a ha
  obtain ⟨-, hmine⟩ := hin halign
  obtain ⟨hno, -⟩ := hmine hpool
  obtain ⟨hsame, hgain⟩ := State.command_answers h act (.bad (s.pop f) stQueueFull)
    (by rw [State.storeCounter_submitBlitCard, hno hfull]; rfl) rfl rfl
  exact ⟨_, hx, (State.pop_sameButBoxes s f).trans hsame, hgain⟩

theorem submitBlit_queues (hroom : s.blit.listsOf f < 16) :
    ∃ t, exec (.submitBlit f) s = .next t ∧ (s.listQueued f a).sameButBoxes t
      ∧ (s.box f).gained (t.box f) e stDeferred 0 (s.dramGet (a + 4) 4 ++ leBytes 2 (s.blit.listsOf f + 1)) := by
  obtain ⟨act, hx, hact⟩ := exec_submitBlit f s
  obtain ⟨-, hin⟩ := hact (s.pop f) { f := f, e := e } a ha
  obtain ⟨-, hmine⟩ := hin halign
  obtain ⟨-, hqueue⟩ := hmine hpool
  obtain ⟨hsame, hgain⟩ := State.command_answers h act
    { CmdRes.ok ((s.pop f).listQueued f a) (s.dramGet (a + 4) 4 ++ leBytes 2 (s.blit.listsOf f + 1)) with
      status := stDeferred }
    (by rw [State.storeCounter_submitBlitCard, hqueue hroom]; rfl) rfl rfl
  have hpop : (s.listQueued f a).sameButBoxes ((s.pop f).listQueued f a) := rfl
  exact ⟨_, hx, hpop.trans hsame, hgain⟩

end
end

/-! ### The start of a list (R46, R411, R412, R414, R415) -/

/-- A list runs, of which header and commands have been read, and the uncorrectable words met there. -/
def Blitter.begun (b : Blitter) (l : BlitList) (h : List Byte) (cmds : List BlitCmd) (bad : List Nat) : Blitter :=
  { b with queue := b.queue.erase l, lastFn := l.func, curFn := l.func, run := some l, noEvents := false, header := h,
           staging := cmds, index := 0, ran := 0, firstBad := none, stageBad := bad ≠ [] }

/-- The commands of a list that are read at its start: none where the header breaks R414 (R412, R415). -/
def State.listCount (s : State) (l : BlitList) : Nat :=
  if headerOk l.func (s.dramGet l.addr 64) then nAt (s.dramGet l.addr 64) 0 2 else 0

/-- A list as it stands in module memory. -/
def State.listCmds (s : State) (l : BlitList) : List BlitCmd :=
  (List.range (s.listCount l)).map fun k => s.dramGet (l.addr + 64 + 64 * k) 64

/-- A list has been read whole, which met uncorrectable words or none (R412, R426). -/
def State.listStaged (s : State) (l : BlitList) (bad : List Nat) : State :=
  let u := (s.dramUe 5 bad).modBlit (·.begun l (s.dramGet l.addr 64) (s.listCmds l) bad)
  if bad = [] then u else (u.modBlit fun b => { b with faults := sat 16 (b.faults + 1) }).fault blitReport

/-- A list starts: its commands without an operation end as they come, and one whose header breaks R414 is over at once. -/
def State.listBegins (s : State) (l : BlitList) : State :=
  let u := s.listStaged l (s.badIn l.addr (64 + 64 * s.listCount l))
  if headerOk l.func (s.dramGet l.addr 64) then blitSkip (s.listCount l) u else u.blitListEnd l (0xFFFF, stBadField)

section
variable {s : State} {l : BlitList}

theorem exec_blitListStart_waits
    (h : s.blit.nextList = none ∨ s.blit.run ≠ none ∨ s.dram.st ≠ 2 ∨ s.works 58 = false) :
    exec .blitListStart s = .next s := by
  refine congrArg Host.Outcome.next ?_
  split
  · rfl
  · next l hnext =>
    rcases h with hno | h
    · simp [hno] at hnext
    · exact if_pos (by simpa [Option.isSome_iff_ne_none, or_assoc] using h)

/-- Once none runs and the blitter works, the doorway comes, and behind it the next list where BLT_EN is 1. -/
theorem exec_blitListStart_comes (hnext : s.blit.nextList = some l) (hrun : s.blit.run = none) (hst : s.dram.st = 2)
    (hw : s.works 58 = true) :
    exec .blitListStart s = .next (
      if bitOf (s.blitDoorway.lv .blt .A 0) 0 = true then s.blitDoorway.listBegins l else s.blitDoorway) := by
  show execBlitListStart s = _
  rw [execBlitListStart, hnext]
  dsimp only
  rw [if_neg (by simp [hrun, hst, hw])]
  cases hen : bitOf (s.blitDoorway.lv .blt .A 0) 0 with
  | false => rfl
  | true =>
    rw [if_neg (by simp), if_pos rfl]
    unfold State.listBegins State.listStaged State.listCmds State.listCount
    dsimp only
    cases hok : headerOk l.func (s.blitDoorway.dramGet l.addr 64)
    · rfl
    · rfl

theorem State.blitDoorway_none (h : s.pendsOf .blt 0 = []) : s.blitDoorway = s := by
  rw [State.blitDoorway, h]
  rfl

theorem State.blitDoorway_pend (h : s.pendsOf .blt 0 ≠ []) :
    s.blitDoorway.commits.pend = s.commits.pend.filter fun p => p.blk ≠ .blt := by
  unfold State.blitDoorway
  dsimp only
  split
  · next hnil => exact absurd (List.reverse_eq_nil_iff.mp hnil) h
  · refine foldl_keeps (·.commits.pend) _ (fun a p => ?_) _ _
    rfl

/-- What is pending for BLT is live from its doorway on. -/
theorem State.blitDoorway_takes (h : s.pendsOf .blt 0 ≠ []) : ∀ p ∈ s.blitDoorway.commits.pend, p.blk ≠ .blt := by
  rw [State.blitDoorway_pend h]
  intro p hp
  simpa using (List.mem_filter.mp hp).2

theorem blitSkip_commits (n : Nat) (s : State) : (blitSkip n s).commits = s.commits := by
  cases hrun : s.blit.run with
  | none => rw [blitSkip_idle n hrun]
  | some l =>
    rw [(blitSkip_statusesFrom (l := l) (k := 0) n fun r hr => ⟨Option.some.inj (hr.symm.trans hrun), Nat.zero_le _⟩).frame]

theorem State.listStaged_commits (s : State) (l : BlitList) (bad : List Nat) : (s.listStaged l bad).commits = s.commits := by
  obtain ⟨hue, -⟩ := s.dramUe_eq 5 bad
  unfold State.listStaged
  dsimp only
  split
  · rw [hue]
    rfl
  · next hbad =>
    rw [(State.fault_blitReport _).1, hue]
    rfl

/-- A list that starts leaves the commits. -/
theorem State.listBegins_commits (s : State) (l : BlitList) : (s.listBegins l).commits = s.commits := by
  unfold State.listBegins
  dsimp only
  split
  · rw [blitSkip_commits, s.listStaged_commits]
  · rw [State.blitListEnd_eq]
    exact s.listStaged_commits l _

/-- A list that is read well. -/
theorem State.listBegins_good (h : s.badIn l.addr (64 + 64 * s.listCount l) = []) :
    s.listBegins l =
      if headerOk l.func (s.dramGet l.addr 64) then
        blitSkip (s.listCount l) (s.modBlit (·.begun l (s.dramGet l.addr 64) (s.listCmds l) []))
      else (s.modBlit (·.begun l (s.dramGet l.addr 64) (s.listCmds l) [])).blitListEnd l (0xFFFF, stBadField) := by
  rw [State.listBegins, h]
  rfl

/-- A header that may run has at least one command. -/
theorem headerOk_count {f : Nat} {h : List Byte} (hok : headerOk f h = true) : 1 ≤ nAt h 0 2 := by
  simp only [headerOk, Bool.and_eq_true, decide_eq_true_eq] at hok
  omega

theorem State.listCount_ok (hok : headerOk l.func (s.dramGet l.addr 64) = true) :
    s.listCount l = nAt (s.dramGet l.addr 64) 0 2 := if_pos hok

theorem State.listCount_bad (hok : headerOk l.func (s.dramGet l.addr 64) = false) : s.listCount l = 0 :=
  if_neg (by simp [hok])

/-- A list whose header may run stands at its first command, and waits where that has an operation. -/
theorem State.listBegins_runs (hok : headerOk l.func (s.dramGet l.addr 64) = true)
    (hbad : s.badIn l.addr (64 + 64 * s.listCount l) = []) (h1 : 1 ≤ blitOp (s.dramGet (l.addr + 64) 64))
    (h5 : blitOp (s.dramGet (l.addr + 64) 64) ≤ 5) :
    s.listBegins l = s.modBlit (·.begun l (s.dramGet l.addr 64) (s.listCmds l) []) := by
  have hfirst : (s.listCmds l)[0]? = some (s.dramGet (l.addr + 64) 64) := by
    have hpos := headerOk_count hok
    rw [State.listCmds, State.listCount_ok hok, List.getElem?_map, List.getElem?_range (by omega)]
    rfl
  rw [State.listBegins_good hbad, if_pos hok]
  exact blitSkip_of_op _ rfl hfirst h1 h5

/-- A list whose header breaks R414 is over at once. -/
theorem State.listBegins_rejects (hok : headerOk l.func (s.dramGet l.addr 64) = false) (hbad : s.badIn l.addr 64 = []) :
    (s.modBlit fun b => (b.begun l (s.dramGet l.addr 64) (s.listCmds l) []).listOver).sameButBoxes (s.listBegins l) := by
  rw [State.listBegins_good (by rw [State.listCount_bad hok]; exact hbad), if_neg (by simp [hok])]
  exact State.blitListEnd_eq ..

end

/-- Settles O58: SUBMIT_BLIT by what its act answers, and a start by the doorway, BLT_EN and the list's header. -/
theorem blitListsStart : Obligations.BlitListsStart := by
  unfold Obligations.BlitListsStart
  rintro f a n mine e l h s
  refine ⟨fun hruns ha hn hmine => ?_, exec_blitListStart_waits, fun hnext hrun hst hw => ?_⟩
  · subst hn hmine
    exact ⟨fun halign hpool hroom => submitBlit_queues hruns ha halign hpool hroom, submitBlit_misaligned hruns ha,
      fun halign hpool => submitBlit_outside hruns ha halign hpool,
      fun halign hpool hfull => submitBlit_full hruns ha halign hpool hfull⟩
  · have hx := exec_blitListStart_comes hnext hrun hst hw
    refine ⟨fun hpend => ?_, fun hpend hen => ?_, fun hpend hen hh => ?_⟩
    · refine ⟨_, hx, ?_⟩
      split
      · rw [State.listBegins_commits]
        exact State.blitDoorway_takes hpend
      · exact State.blitDoorway_takes hpend
    · rw [hx, State.blitDoorway_none hpend, hen]
      rfl
    · subst hh
      rw [State.blitDoorway_none hpend, if_pos hen] at hx
      rw [hx]
      refine ⟨fun hok hbad => ⟨_, rfl, ?_⟩, fun hok hbad h1 h5 => ?_⟩
      · rw [State.listBegins_rejects hok hbad]
        exact ⟨rfl, rfl, rfl, rfl, rfl⟩
      · rw [← State.listCount_ok hok] at hbad ⊢
        rw [State.listBegins_runs hok hbad h1 h5]
        rfl

end Sys2Proof.Machine
end

section
/-! PROOF. Machines that meet the hypotheses of the statements about the blitter: a list that is submitted, starts, or has a
header out of line; a command that writes, reads an uncorrectable word, or ends without. -/
namespace Sys2Proof.Machine

/-! ### Lists -/

/-- A list at address 64 in module memory: a header of COUNT `n`, LIST_TAG 7, no vector and no scratch area, and a FILL of two A8
texels at address 0x100 with 0xAB. -/
def fillList (n : Byte) : Table Byte :=
  [(64, n), (66, 0xFF), (67, 0xFF), (68, 7), (128, 2), (137, 1), (144, 16), (148, 3), (172, 2), (174, 1), (184, 0xAB)]

/-- IS62's settings give function 0 the first 64 MiB of module DRAM as its pool. -/
def poolLanding : Landing :=
  { Landing.reset true with
    sets := [{ blk := .sys, out := .A, port := 0, cid := 1, frame := 1, words := [(0x800, 0x10000)] }] }

/-- SUBMIT_BLIT of a list at address 64. -/
def submitAt64 : SqEntry := { raw := [0x00, 0x0A] ++ zeros 30 ++ [64] ++ zeros 31, data := none, respOk := true }

/-- Function 0 has that command at the head of its ring, IS58 has its clock, and that list is in module DRAM. -/
def blitHost (n : Byte) : State :=
  { State.reset with
    power := { Power.reset with hearth := true, ready := true }
    landings := (State.reset.landings.set 58 { Landing.reset true with pllLocked := true }).set 62 poolLanding
    dram := { Dram.reset with st := 2, mem := fillList n }
    boxes := State.reset.boxes.set 0
      { Letterbox.reset true with sqEn := true, cqEn := true, sqSize := 4, cqSize := 4, ready := [submitAt64] } }

/-- The command passes every check. -/
theorem blitHost_runs : (blitHost 1).hostRuns 0 submitBlitCard submitAt64 := by
  refine ⟨by decide, by decide, by decide, ?_, by decide, by decide, by decide, by decide, by decide, by decide, by decide,
    by decide, by decide⟩
  rintro ⟨-, htrailer, -⟩
  exact absurd htrailer (by decide)

/-- The list is the first of its function. -/
theorem blitHost_submits : ∃ t, exec (.submitBlit 0) (blitHost 1) = .next t ∧ t.blit.queue = [{ func := 0, addr := 64 }]
    ∧ ((blitHost 1).box 0).gained (t.box 0) submitAt64 stDeferred 0 [7, 0, 0, 0, 1, 0] := by
  obtain ⟨hsubmit, -⟩ := blitListsStart 0 64 1 0 submitAt64 { func := 0, addr := 64 } [] (blitHost 1)
  obtain ⟨hqueues, -⟩ := hsubmit blitHost_runs (by decide) (by decide) (by decide)
  obtain ⟨t, hx, ht, hgain⟩ := hqueues (by decide) (by decide) (by decide)
  have hresp : (blitHost 1).dramGet (64 + 4) 4 ++ leBytes 2 (0 + 1) = [7, 0, 0, 0, 1, 0] := by decide
  refine ⟨t, hx, ?_, hresp ▸ hgain⟩
  rw [ht]
  rfl

/-- A list of a function at address 64. -/
def listAt64 (f : Nat) : BlitList := { func := f, addr := 64 }

/-- That machine with the list queued. -/
def listWaits (n : Byte) : State := { blitHost n with blit := { Blitter.reset with queue := [listAt64 0] } }

/-- The FILL as it is read from the list. -/
def fillTexels : BlitCmd :=
  [2] ++ zeros 8 ++ [1] ++ zeros 6 ++ [16] ++ zeros 3 ++ [3] ++ zeros 23 ++ [2, 0, 1] ++ zeros 9 ++ [0xAB] ++ zeros 7

/-- A list of one command starts with its FILL staged. -/
theorem listWaits_starts : ∃ t, exec .blitListStart (listWaits 1) = .next t ∧ t.blit.run = some (listAt64 0)
    ∧ t.blit.staging = [fillTexels] := by
  obtain ⟨-, -, hcomes⟩ := blitListsStart 0 0 0 0 submitAt64 (listAt64 0) _ (listWaits 1)
  obtain ⟨-, -, hreads⟩ := hcomes (by decide) rfl rfl (by decide)
  obtain ⟨-, hruns⟩ := hreads (by decide) (by decide) rfl
  exact ⟨_, hruns (by decide) (by decide) (by decide) (by decide), rfl, by decide⟩

/-- A list of no command is over at once. -/
theorem listWaits_rejects : ∃ t, exec .blitListStart (listWaits 0) = .next t ∧ t.blit.run = none ∧ t.blit.done = 1
    ∧ t.blit.queue = [] := by
  obtain ⟨-, -, hcomes⟩ := blitListsStart 0 0 0 0 submitAt64 (listAt64 0) _ (listWaits 0)
  obtain ⟨-, -, hreads⟩ := hcomes (by decide) rfl rfl (by decide)
  obtain ⟨hover, -⟩ := hreads (by decide) (by decide) rfl
  obtain ⟨t, hx, -, hrun, hdone, hqueue, -⟩ := hover (by decide) (by decide)
  exact ⟨t, hx, hrun, hdone, hqueue⟩

/-- A commit that clears BLT_EN is pending for BLT. -/
def stopsBlitter : Pend :=
  { cid := 1, issuer := 0, blk := .blt, port := 0, target := .next, due := 0, words := [(0, 0)], needA := false, needB := false,
    fixA := none, fixB := none, openA := false, openB := false, lateA := false, lateB := false, unit := 0,
    waits := [] }

/-- The same machine with that commit pending. -/
def commitWaits : State := { listWaits 1 with commits := { (listWaits 1).commits with pend := [stopsBlitter] } }

/-- The commit is live before the list starts. -/
theorem commitWaits_takes : ∃ t, exec .blitListStart commitWaits = .next t ∧ ∀ p ∈ t.commits.pend, p.blk ≠ .blt := by
  obtain ⟨-, -, hcomes⟩ := blitListsStart 0 0 0 0 submitAt64 (listAt64 0) [] commitWaits
  obtain ⟨htakes, -⟩ := hcomes (by decide) rfl rfl (by decide)
  exact htakes (by decide)

/-! ### Commands -/

/-- A list of a function runs, a command of it staged. -/
def runsCommand (f : Nat) (c : BlitCmd) : State :=
  { blitHost 1 with blit := { Blitter.reset with run := some (listAt64 f), staging := [c] } }

/-- The FILL of function 0 may run. -/
theorem runsFill_blits : (runsCommand 0 fillTexels).blits 2 (listAt64 0) fillTexels :=
  ⟨rfl, rfl, by decide, rfl, by decide, rfl, by decide, by decide, by decide, by decide⟩

/-- Both texels are filled, and the list is done. -/
theorem runsFill_writes : ∃ t, exec (.blitFill false) (runsCommand 0 fillTexels) = .next t
    ∧ memRead t.dram.mem 0x100 1 = [0xAB] ∧ memRead t.dram.mem 0x101 1 = [0xAB] ∧ t.blit.done = 1 := by
  obtain ⟨hwrites, -⟩ := blitterCommands
  obtain ⟨-, -, hfill⟩ := hwrites false (.blitFill false, 2) (listAt64 0) fillTexels (runsCommand 0 fillTexels) (by decide)
  obtain ⟨t, hx, ⟨-, -, hlast⟩, -, -, htexels⟩ := hfill runsFill_blits (by decide)
  obtain ⟨-, hdone⟩ := hlast (by decide)
  have htexel := htexels (by decide)
  exact ⟨t, hx, htexel 0 0 (by decide) (by decide), htexel 1 0 (by decide) (by decide), hdone⟩

/-- A word that it writes in part and cannot correct is fault 0x0B01. -/
theorem runsFill_faults : ∃ t, exec (.blitFill true) (runsCommand 0 fillTexels) = .next t ∧ t.blit.faults = 1
    ∧ (runsCommand 0 fillTexels).logs t 0xB01 58 := by
  obtain ⟨-, hends⟩ := blitterCommands
  obtain ⟨-, -, -, -, hspoils⟩ := hends true (.blitFill true, 2) (listAt64 0) fillTexels (runsCommand 0 fillTexels)
    (by decide) rfl rfl (by decide) rfl (by decide)
  obtain ⟨t, hx, -, hfaults, hlogs, -⟩ := hspoils runsFill_blits (by decide)
  exact ⟨t, hx, hfaults, hlogs⟩

/-- Function 1 has no pool, so its FILL is a violation. -/
theorem runsFill_outside : ∃ t, exec (.blitFill false) (runsCommand 1 fillTexels) = .next t
    ∧ t.cellar.viol = [0, 0, 0, 1, 0, 0] := by
  obtain ⟨-, hends⟩ := blitterCommands
  obtain ⟨-, -, hbreaks, -⟩ := hends false (.blitFill false, 2) (listAt64 1) fillTexels (runsCommand 1 fillTexels)
    (by decide) rfl rfl (by decide) rfl (by decide)
  obtain ⟨t, hx, -, hcellar, -⟩ := hbreaks rfl (by decide) (by decide)
  exact ⟨t, hx, by rw [hcellar]; decide⟩

/-- A FILL of no texels breaks R416. -/
theorem runsFill_malformed : ∃ t, exec (.blitFill false) (runsCommand 0 [2]) = .next t
    ∧ memRead t.dram.mem 132 4 = leBytes 4 stBadField := by
  obtain ⟨-, hends⟩ := blitterCommands
  obtain ⟨-, hbad, -⟩ := hends false (.blitFill false, 2) (listAt64 0) [2] (runsCommand 0 [2])
    (by decide) rfl rfl (by decide) rfl (by decide)
  obtain ⟨t, hx, ⟨hstatus, -⟩, -⟩ := hbad rfl (by decide)
  exact ⟨t, hx, hstatus⟩

/-- Two A8 texels at address 0x100 stretched over themselves. -/
def stretchTexels : BlitCmd :=
  [3] ++ zeros 8 ++ [1] ++ zeros 6 ++ [16] ++ zeros 3 ++ [3, 3] ++ zeros 3 ++ [1] ++ zeros 6 ++ [16] ++ zeros 11
    ++ [2, 0, 1, 0] ++ zeros 4 ++ [2, 0, 1, 0] ++ zeros 8

/-- A STRETCH that overlaps is rejected where the list names no scratch area. -/
theorem runsStretch_overlaps : ∃ t, exec (.blitStretch false) (runsCommand 0 stretchTexels) = .next t ∧ t.blit.ovl = 1 := by
  obtain ⟨-, hends⟩ := blitterCommands
  obtain ⟨-, -, -, hshort, -⟩ := hends false (.blitStretch false, 3) (listAt64 0) stretchTexels (runsCommand 0 stretchTexels)
    (by decide) rfl rfl (by decide) rfl (by decide)
  obtain ⟨t, hx, -, hovl, -⟩ := hshort 64 rfl (by decide) (by decide) (by decide) (by decide) (by decide)
  exact ⟨t, hx, hovl⟩

/-- A FILL of a list that was read with an uncorrectable word. -/
def runsSpoiled : State :=
  { runsCommand 0 fillTexels with blit := { (runsCommand 0 fillTexels).blit with stageBad := true } }

/-- It ends with FAULT_STATE. -/
theorem runsSpoiled_ends : ∃ t, exec (.blitFill false) runsSpoiled = .next t
    ∧ memRead t.dram.mem 132 4 = leBytes 4 stFaultState := by
  obtain ⟨-, hends⟩ := blitterCommands
  obtain ⟨hstage, -⟩ := hends false (.blitFill false, 2) (listAt64 0) fillTexels runsSpoiled
    (by decide) rfl rfl (by decide) rfl (by decide)
  obtain ⟨t, hx, ⟨hstatus, -⟩, -⟩ := hstage rfl
  exact ⟨t, hx, hstatus⟩

end Sys2Proof.Machine
end

section
/-! PROOF. What an uncorrectable word of memory reports, and the patrol scrub of module DRAM (R438, R439, R562, R574). -/
namespace Sys2Proof.Machine

/-! ### Reports of uncorrectable words (R562) -/

theorem Force.none_below_ss4 : Force.none.level ≠ 4 := by decide

/-- An FC2 fault that forces no SS4 is entered in the log. -/
theorem State.fault_fc2 (s : State) {x : FaultIn} (hx : x.cls = 2) (hforce : x.force.level ≠ 4) :
    s.sameButHandling (s.fault x) ∧ s.logs (s.fault x) x.code x.island :=
  have hclass := s.classOf_fc2_mem hx
  s.fault_logs hclass.1 hclass.2 hforce

/-- So is an FC3 fault. -/
theorem State.fault_fc3 (s : State) {x : FaultIn} (hx : x.cls = 3) (hforce : x.force.level ≠ 4) :
    s.sameButHandling (s.fault x) ∧ s.logs (s.fault x) x.code x.island :=
  have hclass := s.classOf_fc3 hx
  s.fault_logs (by omega) hclass.2 hforce

/-- An FC1 fault is at most FC2 (R557); where it forces nothing, only handling it changes the machine. -/
theorem State.fault_fc1 (s : State) {x : FaultIn} (hx : x.cls = 1) (hforce : x.force = .none) :
    s.sameButHandling (s.fault x) := by
  have hup : s.classUp x ≤ 2 := by
    unfold State.classUp
    split <;> omega
  have h3 : s.classUp x ≠ 3 := by omega
  have hclass : s.classOf x ≤ 2 := by simpa [State.classOf, State.quick, h3] using hup
  rcases Nat.lt_or_ge (s.classOf x) 2 with hlight | hheavy
  · exact (State.fault_light (by omega) hforce).1
  · exact (s.fault_logs hheavy (by omega) (hforce ▸ Force.none_below_ss4)).1

/-- A forced checkpoint is Cellar's alone, and leaves the fault log. -/
theorem State.forceCkpt_handledQuietly (s : State) : s.handledQuietly s.forceCkpt := ⟨rfl, rfl⟩

theorem State.forceCkpt_forced (s : State) : s.forceCkpt.cellar.ckptForced = true := rfl

theorem State.logs.of_log_eq {s t u : State} {code island : Nat} (h : s.logs t code island)
    (hlog : u.cellar.log = t.cellar.log) : s.logs u code island := by
  unfold State.logs at h ⊢
  rwa [hlog]

/-- A fault of FC2 that forces a checkpoint and no safe state. -/
theorem State.fault_forceCkpt (s : State) {x : FaultIn} (hx : x.cls = 2) (hforce : x.force.level ≠ 4) :
    s.sameButHandling (s.fault x).forceCkpt ∧ s.logs (s.fault x).forceCkpt x.code x.island := by
  obtain ⟨hsame, hlogs⟩ := s.fault_fc2 hx hforce
  obtain ⟨hckpt, hlog⟩ := (s.fault x).forceCkpt_handledQuietly
  exact ⟨hsame.trans hckpt, hlogs.of_log_eq hlog⟩

/-- What handling a fault never touches. -/
theorem State.sameButHandling.kept {s t : State} (h : s.sameButHandling t) :
    t.dram = s.dram ∧ t.clk = s.clk ∧ t.commits = s.commits ∧ t.trust = s.trust ∧ t.blit = s.blit ∧ t.free = s.free := by
  unfold State.sameButHandling at h
  rw [h]
  exact ⟨rfl, rfl, rfl, rfl, rfl, rfl⟩

/-! ### The patrol scrub of module DRAM -/

/-- What an uncorrectable word at an address in module DRAM brings: its report, and where Cellar or Hearth keeps its data a
forced checkpoint. -/
theorem State.dramFault_reports (s : State) (a src : Nat) :
    s.sameButHandling (s.dramFault a src)
      ∧ s.logs (s.dramFault a src) (if a < 0x40000000 then 0xC02 else 0xC01) (49 + a / 512 % 4)
      ∧ (a < 0x40000000 → (s.dramFault a src).cellar.ckptForced = true) := by
  unfold State.dramFault
  by_cases hlow : a < 0x40000000
  · simp only [if_pos hlow]
    obtain ⟨hsame, hlogs⟩ := s.fault_forceCkpt
      (x := { code := 0xC02, cls := 2, island := 49 + a / 512 % 4, detail := src, force := .none }) rfl Force.none_below_ss4
    exact ⟨hsame, hlogs, fun _ => State.forceCkpt_forced _⟩
  · simp only [if_neg hlow]
    obtain ⟨hsame, hlogs⟩ := s.fault_fc2
      (x := { code := 0xC01, cls := 2, island := 49 + a / 512 % 4, detail := src, force := .none }) rfl Force.none_below_ss4
    exact ⟨hsame, hlogs, fun h => absurd h hlow⟩

/-- A patrol read of word `w` of module DRAM has failed: the word stays bad, is counted, and is the latest (R439, R455). -/
def State.wordLost (s : State) (w : Nat) : State :=
  (s.drawn.modDram fun d => { d with badWords := if w ∈ d.badWords then d.badWords else d.badWords ++ [w] }).dramUe
    (s.freeBelow 16) [w]

theorem mem_addedOnce (x : Nat) (l : List Nat) : x ∈ if x ∈ l then l else l ++ [x] := by
  split
  · assumption
  · simp

theorem State.mem_badWords_wordLost (s : State) (w : Nat) : w ∈ (s.wordLost w).dram.badWords :=
  mem_addedOnce w s.dram.badWords

/-- What a scrub leaves whose word is found clean, corrected or uncorrectable. -/
def State.dramScrubbed (s : State) (a : Nat) : Ecc → State
  | .clean => s
  | .corrected => s.modDram fun d => { d with corrected := w32 (d.corrected + 1) }
  | .uncorrectable => (s.wordLost (a / 8)).dramFault a (s.freeBelow 16)

section
variable {a : Nat} {ecc : Ecc} {s : State}

theorem exec_dramPatrolScrub_outside (h : s.dram.st ≠ 2 ∨ s.dataEnd ≤ a) : exec (.dramPatrolScrub a ecc) s = .next s :=
  congrArg Host.Outcome.next (if_pos h)

section
variable (hst : s.dram.st = 2) (ha : a < s.dataEnd)
include hst ha

theorem exec_dramPatrolScrub_inside :
    exec (.dramPatrolScrub a ecc) s = .next (s.dramScrubbed a (if a / 8 ∈ s.dram.badWords then .uncorrectable else ecc)) := by
  refine congrArg Host.Outcome.next ((if_neg (by omega)).trans ?_)
  dsimp only
  generalize (if a / 8 ∈ s.dram.badWords then Ecc.uncorrectable else ecc) = found
  cases found <;> rfl

theorem exec_dramPatrolScrub_clean (hgood : a / 8 ∉ s.dram.badWords) : exec (.dramPatrolScrub a .clean) s = .next s := by
  rw [exec_dramPatrolScrub_inside hst ha, if_neg hgood]
  rfl

theorem exec_dramPatrolScrub_corrected (hgood : a / 8 ∉ s.dram.badWords) :
    exec (.dramPatrolScrub a .corrected) s = .next { s with
      dram := { s.dram with corrected := (s.dram.corrected + 1) % 0x100000000 } } := by
  rw [exec_dramPatrolScrub_inside hst ha, if_neg hgood]
  rfl

theorem exec_dramPatrolScrub_uncorrectable (hbad : ecc = .uncorrectable ∨ a / 8 ∈ s.dram.badWords) :
    exec (.dramPatrolScrub a ecc) s = .next ((s.wordLost (a / 8)).dramFault a (s.freeBelow 16)) := by
  have hfound : (if a / 8 ∈ s.dram.badWords then Ecc.uncorrectable else ecc) = .uncorrectable := by
    rcases hbad with rfl | hmem
    · exact ite_self _
    · exact if_pos hmem
  rw [exec_dramPatrolScrub_inside hst ha, hfound]
  rfl

end
end

/-- The clause of O28 about module DRAM. -/
theorem dramIsScrubbed : Clause.DramIsScrubbed := by
  intro a ecc s
  refine ⟨exec_dramPatrolScrub_outside, fun hst ha hgood =>
    ⟨exec_dramPatrolScrub_clean hst ha hgood, exec_dramPatrolScrub_corrected hst ha hgood⟩, fun hst ha hbad => ?_⟩
  obtain ⟨hsame, hlogs, hckpt⟩ := (s.wordLost (a / 8)).dramFault_reports a (s.freeBelow 16)
  obtain ⟨hdram, -, -, -, -, hfree⟩ := hsame.kept
  refine ⟨_, exec_dramPatrolScrub_uncorrectable hst ha hbad, hlogs.of_eq rfl rfl, ?_, ?_, ?_, ?_, hckpt, ?_⟩
  · rw [hdram]
    exact sat_16 _
  · rw [hdram]
    rfl
  · rw [hdram]
    exact s.mem_badWords_wordLost _
  · rw [hdram]
    rfl
  · rw [hdram, hfree]
    exact hsame

end Sys2Proof.Machine
end

section
/-! PROOF. The patrol scrub of the shared SRAM, and drawing resources that are loaded again (R430, R431, R562). -/
namespace Sys2Proof.Machine

/-! ### What no area's uncorrectable word touches -/

/-- Module DRAM with the counters of both memories, time, and the commits. -/
def State.memoryView (s : State) : Dram × Nat × Commits := (s.dram, s.clk, s.commits)

theorem State.sameButHandling.memoryView {s t : State} (h : s.sameButHandling t) : t.memoryView = s.memoryView := by
  obtain ⟨hdram, hclk, hcommits, -⟩ := h.kept
  rw [State.memoryView, hdram, hclk, hcommits, State.memoryView]

theorem State.fault_fc2_memoryView (s : State) {x : FaultIn} (hx : x.cls = 2) (hforce : x.force.level ≠ 4) :
    (s.fault x).memoryView = s.memoryView := (s.fault_fc2 hx hforce).1.memoryView

theorem State.modOut_memoryView (s : State) (o : OutId) (g : Output → Output) :
    (s.modOut o g).memoryView = s.memoryView := by cases o <;> rfl

theorem State.cacheUe_memoryView (s : State) (i : Nat) : (s.cacheUe i).memoryView = s.memoryView := by
  unfold State.cacheUe
  dsimp only
  split
  · rfl
  · exact (State.fault_fc1 _ rfl rfl).memoryView.trans (State.modOut_memoryView ..)

/-- Each region that a row's word meets reports for itself. -/
theorem State.rowUe_memoryView (s : State) (i : Nat) : (s.rowUe i).memoryView = s.memoryView := by
  unfold State.rowUe
  generalize (if i < 122880 then OutId.A else OutId.B) = o
  dsimp only
  split
  · rfl
  · split
    · rfl
    · next r _ f _ =>
      generalize (s.regionsOn o).filter _ = hit
      split
      · exact (State.fault_fc2_memoryView _ rfl Force.none_below_ss4).trans (State.modOut_memoryView ..)
      · refine (foldl_keeps State.memoryView _ (fun a e => ?_) _ _).trans (State.modOut_memoryView ..)
        exact a.fault_fc2_memoryView rfl (show 1 ≠ 4 by decide)

theorem State.truncate_memoryView (s : State) (port cause : Nat) : (s.truncate port cause).memoryView = s.memoryView := by
  cases hopen : (s.cam port).open_ with
  | none => rw [State.truncate_of_closed hopen]
  | some n =>
    rw [State.truncate_of_open hopen]
    exact (State.fault_light (State.classOf_fc0 _ rfl) rfl).1.memoryView

/-! ### The point table (R237, R431) -/

/-- Two states that differ in nothing but letterboxes and the waiting inputs and commands of the point table. -/
def State.sameButPoints (s t : State) : Prop :=
  t = { s with boxes := t.boxes, trust := { s.trust with pointQ := t.trust.pointQ, pointCmds := t.trust.pointCmds } }

theorem State.sameButPoints.trans {s t u : State} (h : s.sameButPoints t) (h' : t.sameButPoints u) : s.sameButPoints u := by
  unfold State.sameButPoints at *
  rw [h'.trans (by rw [h])]

theorem State.sameButBoxes.sameButPoints {s t : State} (h : s.sameButBoxes t) : s.sameButPoints t := by
  unfold State.sameButBoxes at h
  unfold State.sameButPoints
  rw [h]

theorem State.modTrust_sameButPoints (s : State) (g : Trust → Trust)
    (hg : ∀ t, g t = { t with pointQ := (g t).pointQ, pointCmds := (g t).pointCmds }) : s.sameButPoints (s.modTrust g) := by
  unfold State.sameButPoints State.modTrust
  rw [← hg]

/-- A SUBMIT_POINTS that completes with REPLAYING is not relayed: it answers at its letterbox. -/
theorem State.pointsDone_sameButPoints (s : State) (c : PointsCmd) : s.sameButPoints (s.pointsDone c stReplaying) := by
  unfold State.pointsDone
  dsimp only
  refine (s.modTrust_sameButPoints (fun t => { t with pointCmds := t.pointCmds.filter fun d => d.ord != c.ord })
    fun _ => rfl).trans ?_
  rw [if_neg (by simp [stReplaying, stOk])]
  exact ((State.complete_sameButBoxes ..).trans (drainBad_sameButBoxes ..)).sameButPoints

theorem State.interruptPoints_sameButPoints (s : State) : s.sameButPoints s.interruptPoints := by
  refine List.foldlRecOn (motive := s.sameButPoints) _ _ (s.modTrust_sameButPoints _ fun _ => rfl) fun a ha c _ => ?_
  dsimp only
  split
  · exact ha.trans (a.pointsDone_sameButPoints _)
  · exact ha.trans (a.modTrust_sameButPoints _ fun _ => rfl)

theorem State.sameButPoints.kept {s t : State} (h : s.sameButPoints t) :
    t.memoryView = s.memoryView ∧ t.trust.pointUes = s.trust.pointUes ∧ t.cellar = s.cellar := by
  unfold State.sameButPoints at h
  rw [h]
  exact ⟨rfl, rfl, rfl⟩

/-- The report of the second uncorrectable word of the point table within a second. -/
def pointReport : FaultIn := { code := 0x406, cls := 3, island := 62, detail := 2, force := .ss1All }

/-- The entry at an index fails its CHECK, and the error's time is kept. -/
def State.pointBroken (s : State) (i : Nat) : State :=
  s.modTrust fun t =>
    { t with points := t.points.map fun e => if e.1 = i then (e.1, e.2.broken) else e, pointUes := some s.us }

theorem Point.broken_fails (q : Point) : q.broken.check ≠ q.broken.crc := by
  show (if q.crc = 1 then 2 else 1) ≠ q.crc
  split <;> omega

theorem State.pointBroken_fails {s : State} {i : Nat} {e : Nat × Point} (he : e ∈ (s.pointBroken i).trust.points)
    (hi : e.1 = i) : e.2.check ≠ e.2.crc := by
  obtain ⟨d, -, rfl⟩ := List.mem_map.mp he
  by_cases hd : d.1 = i
  · simpa only [if_pos hd] using d.2.broken_fails
  · rw [if_neg hd] at hi
    exact absurd hi hd

theorem State.pointUe_alone {s : State} (h : s.trust.pointUes = none) (i : Nat) : s.pointUe i = s.pointBroken i := by
  rw [State.pointUe, h]
  rfl

/-- An error of the point table within a second of the one before is reported, and recovers the table. -/
theorem State.pointUe_again {s : State} {u : Nat} (h : s.trust.pointUes = some u) (hu : s.us < u + 1000000) (i : Nat) :
    s.pointUe i = ((s.pointBroken i).fault pointReport).interruptPoints := by
  rw [State.pointUe, h]
  exact if_pos (decide_eq_true hu)

theorem State.pointUe_late {s : State} {u : Nat} (h : s.trust.pointUes = some u) (hu : ¬s.us < u + 1000000) (i : Nat) :
    s.pointUe i = s.pointBroken i := by
  rw [State.pointUe, h]
  exact if_neg (ne_true_of_eq_false (decide_eq_false hu))

theorem State.fault_pointReport (s : State) :
    s.sameButHandling (s.fault pointReport) ∧ s.logs (s.fault pointReport) 0x406 62 := s.fault_fc3 rfl (by decide)

/-- Reported or not, the time of the error is kept. -/
theorem State.pointUe_keeps (s : State) (i : Nat) :
    (s.pointUe i).memoryView = s.memoryView ∧ (s.pointUe i).trust.pointUes = some s.us := by
  cases hues : s.trust.pointUes with
  | none =>
    rw [State.pointUe_alone hues]
    exact ⟨rfl, rfl⟩
  | some u =>
    by_cases hsoon : s.us < u + 1000000
    · have hfault := (s.pointBroken i).fault_pointReport.1
      obtain ⟨-, -, -, htrust, -⟩ := hfault.kept
      obtain ⟨hmemory, hkept, -⟩ := (State.interruptPoints_sameButPoints _).kept
      rw [State.pointUe_again hues hsoon]
      exact ⟨hmemory.trans hfault.memoryView, hkept.trans (congrArg Trust.pointUes htrust)⟩
    · rw [State.pointUe_late hues hsoon]
      exact ⟨rfl, rfl⟩

theorem State.pointUe_logs {s : State} {u : Nat} (h : s.trust.pointUes = some u) (hu : s.us < u + 1000000) (i : Nat) :
    s.logs (s.pointUe i) 0x406 62 := by
  obtain ⟨-, -, hcellar⟩ := ((s.pointBroken i).fault pointReport).interruptPoints_sameButPoints.kept
  rw [State.pointUe_again h hu]
  exact ((s.pointBroken i).fault_pointReport.2.of_log_eq (congrArg Cellar.log hcellar)).of_eq rfl rfl

/-! ### The other areas -/

theorem State.sramUe_journal (s : State) (i : Nat) :
    s.sameButHandling (s.sramUe .journal i) ∧ s.logs (s.sramUe .journal i) 0xC04 255
      ∧ (s.sramUe .journal i).cellar.ckptForced = true := by
  obtain ⟨hsame, hlogs⟩ := s.fault_forceCkpt
    (x := { code := 0xC04, cls := 2, island := 255, detail := 10, force := .none }) rfl Force.none_below_ss4
  exact ⟨hsame, hlogs, State.forceCkpt_forced _⟩

theorem State.sramUe_blitStaging (s : State) (i : Nat) :
    s.logs (s.sramUe .blitStaging i) 0xC06 58
      ∧ (s.sramUe .blitStaging i).blit.stageBad = (s.blit.stageBad || s.blit.run.isSome) := by
  obtain ⟨hsame, hlogs⟩ := (s.modBlit fun b => { b with stageBad := b.stageBad || b.run.isSome }).fault_fc2
    (x := { code := 0xC06, cls := 2, island := 58, detail := 5, force := .none }) rfl Force.none_below_ss4
  obtain ⟨-, -, -, -, hblit, -⟩ := hsame.kept
  exact ⟨hlogs.of_eq rfl rfl, congrArg Blitter.stageBad hblit⟩

theorem State.hearthFault_reports (s : State) (detail : Nat) :
    s.sameButHandling (s.hearthFault detail) ∧ s.logs (s.hearthFault detail) 0xE01 53 :=
  s.fault_fc3 (x := { code := 0xE01, cls := 3, island := 53, detail := detail, force := .none }) rfl Force.none_below_ss4

theorem State.sramUe_atlas (s : State) (i : Nat) :
    s.logs (s.sramUe .atlas i) 0xC08 40 ∧ i % 4 ∈ (s.sramUe .atlas i).trust.resBad := by
  obtain ⟨hsame, hlogs⟩ := (s.modTrust fun t =>
      { t with resBad := if i % 4 ∈ t.resBad then t.resBad else t.resBad ++ [i % 4] }).fault_fc2
    (x := { code := 0xC08, cls := 2, island := 40, detail := 4096 * (i % 4), force := .ss1Chan (i % 4) }) rfl
    (show 1 ≠ 4 by decide)
  obtain ⟨-, -, -, htrust, -⟩ := hsame.kept
  refine ⟨hlogs.of_eq rfl rfl, ?_⟩
  rw [show (s.sramUe .atlas i).trust = _ from htrust]
  exact mem_addedOnce (i % 4) s.trust.resBad

/-! ### The scrub -/

theorem State.sramUe_memoryView (s : State) (area : SramArea) (i : Nat) : (s.sramUe area i).memoryView = s.memoryView := by
  cases area with
  | planeCache => exact s.cacheUe_memoryView i
  | pointTable => exact (s.pointUe_keeps i).1
  | journal => exact (s.sramUe_journal i).1.memoryView
  | rowStore => exact s.rowUe_memoryView i
  | blitStaging => exact State.fault_fc2_memoryView _ rfl Force.none_below_ss4
  | hearthSram => exact (s.hearthFault_reports 9).1.memoryView
  | ispFifo => exact (State.fault_fc2_memoryView _ rfl Force.none_below_ss4).trans (s.truncate_memoryView ..)
  | atlas => exact State.fault_fc2_memoryView _ rfl (show 1 ≠ 4 by decide)

/-- An uncorrectable word of the shared SRAM has been counted. -/
def State.sramLost (s : State) : State := s.modDram fun d => { d with sUncorr := sat 16 (d.sUncorr + 1) }

section
variable {area : SramArea} {i : Nat} {s : State}

theorem exec_sramPatrolScrub_off {ecc : Ecc} (h : s.sramOn area = false) :
    exec (.sramPatrolScrub area i ecc) s = .next s :=
  congrArg Host.Outcome.next (if_pos (by simp [h]))

section
variable (hon : s.sramOn area = true)
include hon

theorem exec_sramPatrolScrub_clean : exec (.sramPatrolScrub area i .clean) s = .next s :=
  congrArg Host.Outcome.next (if_neg (by simp [hon]))

theorem exec_sramPatrolScrub_corrected :
    exec (.sramPatrolScrub area i .corrected) s = .next { s with
      dram := { s.dram with sCorr := (s.dram.sCorr + 1) % 0x100000000 } } :=
  congrArg Host.Outcome.next (if_neg (by simp [hon]))

theorem exec_sramPatrolScrub_uncorrectable :
    exec (.sramPatrolScrub area i .uncorrectable) s = .next (s.sramLost.sramUe area i) :=
  congrArg Host.Outcome.next (if_neg (by simp [hon]))

end
end

/-- The clause of O28 about the shared SRAM: each area brings its report. -/
theorem sramIsScrubbed : Clause.SramIsScrubbed := by
  intro area i s
  refine ⟨fun _ => exec_sramPatrolScrub_off, fun hon => ⟨exec_sramPatrolScrub_clean hon,
    exec_sramPatrolScrub_corrected hon, _, exec_sramPatrolScrub_uncorrectable hon, ?_⟩, rfl⟩
  have hmemory := s.sramLost.sramUe_memoryView area i
  refine ⟨(congrArg Prod.fst hmemory).trans ?_, congrArg (·.2.1) hmemory, congrArg (·.2.2) hmemory, ?_, ?_, ?_, ?_, ?_⟩
  · rw [← sat_16]
    rfl
  · rintro rfl
    obtain ⟨-, hlogs, hckpt⟩ := s.sramLost.sramUe_journal i
    exact ⟨hlogs.of_eq rfl rfl, hckpt⟩
  · rintro rfl
    obtain ⟨hlogs, hstage⟩ := s.sramLost.sramUe_blitStaging i
    refine ⟨hlogs.of_eq rfl rfl, fun hrun => hstage.trans ?_⟩
    show (s.blit.stageBad || s.blit.run.isSome) = true
    rw [Option.isSome_iff_ne_none.mpr hrun, Bool.or_true]
  · rintro rfl
    exact (s.sramLost.hearthFault_reports 9).2.of_eq rfl rfl
  · rintro rfl
    obtain ⟨hlogs, hres⟩ := s.sramLost.sramUe_atlas i
    exact ⟨hlogs.of_eq rfl rfl, hres⟩
  · rintro rfl
    have hue : s.sramLost.sramUe .pointTable i = s.sramLost.pointUe i := rfl
    have hus : s.sramLost.us = s.us := rfl
    rw [hue]
    refine ⟨(s.sramLost.pointUe_keeps i).2, fun u hues hsoon => ?_, fun hnone => ?_⟩
    · exact (State.pointUe_logs (s := s.sramLost) hues (by rwa [hus]) i).of_eq rfl rfl
    · rw [State.pointUe_alone (s := s.sramLost) hnone]
      exact ⟨rfl, rfl, fun e he hi => State.pointBroken_fails he hi⟩

end Sys2Proof.Machine
end

section
/-! PROOF. Retraining of module DRAM, and the doorway of MEM that opens with it (R448, R449). -/
namespace Sys2Proof.Machine

/-! ### The doorway of MEM (R449) -/

section
variable {s : State}

theorem State.memWindow_none (h : s.pendsOf .mem 0 = []) : s.memWindow = s := by
  rw [State.memWindow, h]
  rfl

/-- The latest copy's words are live, no copy of MEM is pending any more, and beside it only landings and letterboxes change. -/
theorem State.memWindow_takes {q : Pend} (h : (s.pendsOf .mem 0).getLast? = some q) :
    s.memWindow.dram = { s.dram with liveWords := q.words }
      ∧ s.memWindow.commits.pend = (s.commits.pend.filter fun p => p.blk ≠ .mem)
      ∧ s.memWindow = { s with dram := s.memWindow.dram, commits := s.memWindow.commits,
                               landings := s.memWindow.landings, boxes := s.memWindow.boxes } := by
  obtain ⟨rest, hrev⟩ : ∃ rest, (s.pendsOf .mem 0).reverse = q :: rest := by
    rwa [List.getLast?_eq_head?_reverse, List.head?_eq_some_iff] at h
  have hposts (a : State) : a.sameButBoxes
      ((s.pendsOf .mem 0).foldl (fun a p => a.event p.issuer 0x8100 (doorwayData p.cid 0 4 0 0 0)) a) :=
    List.foldlRecOn (motive := a.sameButBoxes) _ _ rfl fun b hb p _ => hb.trans (b.event_sameButBoxes ..)
  rw [State.memWindow, hrev]
  dsimp only
  rw [hposts]
  exact ⟨rfl, rfl, rfl⟩

theorem State.memWindow_frame (s : State) :
    s.memWindow = { s with dram := { s.dram with liveWords := s.memWindow.dram.liveWords },
                           commits := s.memWindow.commits, landings := s.memWindow.landings,
                           boxes := s.memWindow.boxes } := by
  cases hlast : (s.pendsOf .mem 0).getLast? with
  | none => rw [State.memWindow_none (List.getLast?_eq_none_iff.mp hlast)]
  | some q =>
    obtain ⟨hdram, -, hrest⟩ := State.memWindow_takes hlast
    rw [hrest]
    simp only [hdram]

/-- What is pending for MEM is live from its doorway on. -/
theorem State.memWindow_pend (h : s.pendsOf .mem 0 ≠ []) : ∀ p ∈ s.memWindow.commits.pend, p.blk ≠ .mem := by
  obtain ⟨-, hpend, -⟩ := State.memWindow_takes (List.getLast?_eq_some_getLast h)
  rw [hpend]
  intro p hp
  simpa using (List.mem_filter.mp hp).2

end

/-! ### Retraining (R448) -/

/-- What a channel that retrains leaves of module DRAM, and of time. -/
theorem State.retrain_dram (s : State) (ch : Nat) (forced : Bool) :
    (s.retrain ch forced).dram.retrains = min 65535 (s.dram.retrains + 1)
      ∧ (s.retrain ch forced).dram.retrAt = s.dram.retrAt.set ch s.us
      ∧ (s.retrain ch forced).dram.retrForced = (if forced then sat 16 (s.dram.retrForced + 1) else s.dram.retrForced)
      ∧ (s.retrain ch forced).dram.liveWords = s.memWindow.dram.liveWords
      ∧ (s.retrain ch forced).dram.mem = s.dram.mem ∧ (s.retrain ch forced).dram.st = s.dram.st
      ∧ (s.retrain ch forced).clk = s.clk := by
  unfold State.retrain
  rw [s.memWindow_frame, ← sat_16]
  exact ⟨rfl, rfl, rfl, rfl, rfl, rfl, rfl⟩

/-- Beside module DRAM only MEM's doorway leaves traces. -/
theorem State.retrain_frame (s : State) (ch : Nat) (forced : Bool) :
    s.retrain ch forced = { s.memWindow with dram := (s.retrain ch forced).dram } := rfl

section
variable {ch : Nat} {s : State}

theorem exec_dramRetrain_off (h : s.dram.st ≠ 2 ∨ 8 ≤ ch) : exec (.dramRetrain ch) s = .next s :=
  congrArg Host.Outcome.next (if_pos h)

/-- A channel in service retrains once its time has come: where its controller's temperature stands, not before RETRAIN_MS
is over, and by force only where it keeps to the blanking. -/
theorem exec_dramRetrain_on (hst : s.dram.st = 2) (hch : ch < 8) :
    ∃ n forced, exec (.dramRetrain ch) s = .next ((s.atClk n).retrain ch forced)
      ∧ (s.retrainHot ch = false → 25 * (s.dram.retrAt.getD ch 0 + 1000 * fld (s.lv .mem .A 0) 0 10) ≤ n)
      ∧ (bitOf (s.lv .mem .A 0) 10 = false → forced = false) := by
  have hon : ¬(s.dram.st ≠ 2 ∨ 8 ≤ ch) := by omega
  have hnow : s.atClk 0 = s := by rw [State.atClk, Nat.max_zero]
  show ∃ n forced, execDramRetrain ch s = _ ∧ _
  unfold execDramRetrain
  rw [if_neg hon]
  dsimp only
  split
  · cases hhot : s.retrainHot ch with
    | true => exact ⟨0, false, by rw [hnow, if_pos rfl], nofun, fun _ => rfl⟩
    | false => exact ⟨_, false, rfl, fun _ => le_rfl, fun _ => rfl⟩
  · next hblank =>
    refine ⟨_, true, rfl, fun _ => ?_, fun hfree => absurd (by rw [hfree]; rfl) hblank⟩
    omega

end

/-- The clause of O28 about retraining. -/
theorem dramRetrains : Clause.DramRetrains := by
  intro ch s
  refine ⟨exec_dramRetrain_off, fun hst hch hlen => ?_⟩
  obtain ⟨n, forced, hx, hdue, hforced⟩ := exec_dramRetrain_on hst hch
  obtain ⟨hcount, hat, hforce, hlive, hmem, hstays, hclk⟩ := (s.atClk n).retrain_dram ch forced
  have hframe := (s.atClk n).retrain_frame ch forced
  refine ⟨_, hx, hcount, ?_, ?_, hmem, hstays.trans hst, fun hhot => ?_, fun hfree => ?_, fun q hq => ?_, ?_,
    fun hnone => ?_, ?_⟩
  · rw [hat, State.us, State.us, hclk]
    simp [hlen, hch]
  · rw [hclk]
    exact Nat.le_max_left ..
  · rw [hclk]
    exact (hdue hhot).trans (Nat.le_max_right ..)
  · rw [hforce, hforced hfree]
    rfl
  · obtain ⟨hdram, -⟩ := State.memWindow_takes (s := s.atClk n) hq
    rw [hlive, hdram]
  · exact fun p hp hne => State.memWindow_pend (s := s.atClk n) hne p hp
  · rw [State.memWindow_none (s := s.atClk n) hnone] at hframe hlive
    rw [hclk]
    exact ⟨hframe, hlive⟩
  · rw [hframe, (s.atClk n).memWindow_frame]
    rfl

/-! ### Upkeep of memory -/

/-- Settles O28: scrubs of module DRAM and of the shared SRAM, and retraining. -/
theorem memoryIsKept : Obligations.MemoryIsKept := ⟨dramIsScrubbed, sramIsScrubbed, dramRetrains⟩

end Sys2Proof.Machine
end

section
/-! PROOF. Machines that meet the hypotheses of the statement about memory's upkeep: words of both memories that scrubs find
uncorrectable, and a channel that retrains with a set of MEM pending. -/
namespace Sys2Proof.Machine

/-! ### Scrubs -/

/-- Module DRAM is in service, with one bad word at 1 GiB. -/
def badDram : State := { State.reset with dram := { Dram.reset with st := 2, badWords := [0x8000000] } }

/-- A bad word stays uncorrectable, whatever the scrub reads; behind the first GiB it is fault 0x0C01. -/
theorem badDram_stays : ∃ t, exec (.dramPatrolScrub 0x40000000 .clean) badDram = .next t ∧ badDram.logs t 0xC01 49
    ∧ t.dram.uncorr = 1 := by
  obtain ⟨hdram, -⟩ := memoryIsKept
  obtain ⟨-, -, hlost⟩ := hdram 0x40000000 .clean badDram
  obtain ⟨t, hx, hlogs, hcount, -⟩ := hlost rfl (by decide) (by decide)
  exact ⟨t, hx, hlogs, hcount⟩

/-- The last word of the first GiB holds Cellar's or Hearth's data. -/
theorem badDram_forces : ∃ t, exec (.dramPatrolScrub 0x3FFFFFFF .uncorrectable) badDram = .next t
    ∧ badDram.logs t 0xC02 52 ∧ t.cellar.ckptForced = true := by
  obtain ⟨hdram, -⟩ := memoryIsKept
  obtain ⟨-, -, hlost⟩ := hdram 0x3FFFFFFF .uncorrectable badDram
  obtain ⟨t, hx, hlogs, -, -, -, -, hckpt, -⟩ := hlost rfl (by decide) (by decide)
  exact ⟨t, hx, hlogs, hckpt (by decide)⟩

/-- The shared SRAM is powered, a list of the blitter runs, and entry 3 of the point table is as its owner opened it; `ues` is
the time of the table's latest uncorrectable word. -/
def badSram (ues : Option Nat) : State :=
  { State.reset with
    power := { Power.reset with rails := true }
    blit := { Blitter.reset with run := some { func := 0, addr := 64 } }
    trust := { State.reset.trust with
      pointUes := ues
      points := [(3, { id := 1, session := 0, style := 0, cell := 0, region := 0, maxAge := 100, limitLo := 0, limitHi := 0,
                       received := false, expired := false, srcInv := false, check := 0, value := 0, birth := 0 })] } }

/-- An uncorrectable word of that entry makes its CHECK fail; a second one within a second is fault 0x0406. -/
theorem badSram_point :
    (∃ t, exec (.sramPatrolScrub .pointTable 3 .uncorrectable) (badSram none) = .next t ∧ t.trust.pointUes = some 0)
      ∧ ∃ t, exec (.sramPatrolScrub .pointTable 3 .uncorrectable) (badSram (some 0)) = .next t
        ∧ (badSram (some 0)).logs t 0x406 62 := by
  obtain ⟨-, hsram, -⟩ := memoryIsKept
  constructor
  · obtain ⟨-, hon, -⟩ := hsram .pointTable 3 (badSram none)
    obtain ⟨-, -, t, hx, -, -, -, -, -, -, -, hpoint⟩ := hon (by decide)
    exact ⟨t, hx, (hpoint rfl).1⟩
  · obtain ⟨-, hon, -⟩ := hsram .pointTable 3 (badSram (some 0))
    obtain ⟨-, -, t, hx, -, -, -, -, -, -, -, hpoint⟩ := hon (by decide)
    obtain ⟨-, hsecond, -⟩ := hpoint rfl
    exact ⟨t, hx, hsecond 0 rfl (by decide)⟩

/-- The running list is spoiled by an uncorrectable word of its staging. -/
theorem badSram_staging : ∃ t, exec (.sramPatrolScrub .blitStaging 0 .uncorrectable) (badSram none) = .next t
    ∧ (badSram none).logs t 0xC06 58 ∧ t.blit.stageBad = true := by
  obtain ⟨-, hsram, -⟩ := memoryIsKept
  obtain ⟨-, hon, -⟩ := hsram .blitStaging 0 (badSram none)
  obtain ⟨-, -, t, hx, -, -, -, -, hstage, -⟩ := hon (by decide)
  obtain ⟨hlogs, hspoiled⟩ := hstage rfl
  exact ⟨t, hx, hlogs, hspoiled (by decide)⟩

/-! ### Retraining -/

/-- A commit that sets RETRAIN_MS to 7 is pending for MEM. -/
def retrainsOften : Pend := { stopsBlitter with blk := .mem, words := [(0, 7)] }

/-- The same module DRAM with that commit pending. -/
def setPends : State := { badDram with commits := { badDram.commits with pend := [retrainsOften] } }

/-- It is live once a channel has retrained, which waits for the time that RETRAIN_MS gives until then. -/
theorem setPends_live : ∃ t, exec (.dramRetrain 5) setPends = .next t ∧ t.dram.liveWords = [(0, 7)] ∧ t.dram.retrains = 1
    ∧ t.dram.retrAt.getD 5 0 = t.us ∧ 25000 * fld (setPends.lv .mem .A 0) 0 10 ≤ t.clk
    ∧ ∀ p ∈ t.commits.pend, p.blk ≠ .mem := by
  obtain ⟨-, -, hretrain⟩ := memoryIsKept
  obtain ⟨-, hon⟩ := hretrain 5 setPends
  obtain ⟨t, hx, hcount, hat, -, -, -, hdue, -, hlive, htaken, -⟩ := hon rfl (by decide) rfl
  refine ⟨t, hx, hlive retrainsOften (by decide), hcount, hat, ?_, fun p hp => htaken p hp (by decide)⟩
  have hdue := hdue (by decide)
  have hzero : setPends.dram.retrAt.getD 5 0 = 0 := rfl
  omega

end Sys2Proof.Machine
end

section
/-! PROOF. The queue's front runs, and every row answers a next state; a letterbox's ring enables, doorbells and held vectors
(R462 to R464, R469, R471, R474, R475). -/
namespace Sys2Proof.Machine

/-! ### The queue, and the answer of every row -/

/-- Settles O1: a step takes the command at the queue's front. -/
theorem stepRunsTheFrontCommand : Obligations.StepRunsTheFrontCommand := fun _ _ _ => rfl

/-- Settles O3: no row of the table answers a fault or a refusal, whatever branch it takes. -/
theorem everyCommandAnswers : Obligations.EveryCommandAnswers := by
  intro c s
  cases c <;> exact ⟨_, rfl⟩

/-! ### Entries with an undefined opcode (check 1 of R475) -/

/-- A letterbox after some entries with an undefined opcode at the head of its submission ring have completed: those
entries are fetched, BAD_OPCODE completions follow what stood in the completion ring, and what the host sets stays. -/
structure Letterbox.Drained (b b' : Letterbox) : Prop where
  ready : ∃ bad, b.ready = bad ++ b'.ready ∧ ∀ e ∈ bad, nAt e.raw 0 2 ∉ opcodes
  cq : ∃ more, b'.cq = b.cq ++ more ∧ ∀ e ∈ more, e.status = stBadOpcode
  host : b'.cqEn = b.cqEn ∧ b'.cqHead = b.cqHead ∧ b'.dbErr = b.dbErr ∧ b'.sqTail = b.sqTail

theorem Letterbox.Drained.refl (b : Letterbox) : b.Drained b :=
  ⟨⟨[], by simp⟩, ⟨[], by simp⟩, rfl, rfl, rfl, rfl⟩

theorem Letterbox.Drained.trans {a b c : Letterbox} (h : a.Drained b) (h' : b.Drained c) : a.Drained c := by
  obtain ⟨⟨bad, hready, hbad⟩, ⟨more, hcq, hmore⟩, hen, hhead, herr, htail⟩ := h
  obtain ⟨⟨bad', hready', hbad'⟩, ⟨more', hcq', hmore'⟩, hen', hhead', herr', htail'⟩ := h'
  refine ⟨⟨bad ++ bad', by simp [hready, hready'], fun e he => ?_⟩,
    ⟨more ++ more', by simp [hcq, hcq'], fun e he => ?_⟩,
    hen'.trans hen, hhead'.trans hhead, herr'.trans herr, htail'.trans htail⟩
  · exact (List.mem_append.1 he).elim (hbad e) (hbad' e)
  · exact (List.mem_append.1 he).elim (hmore e) (hmore' e)

/-- What raising the completion vector leaves of a letterbox. -/
theorem Letterbox.raiseCq_host (b : Letterbox) (n : Nat) (w : Bool) :
    (b.raiseCq n w).cqEn = b.cqEn ∧ (b.raiseCq n w).cqHead = b.cqHead ∧ (b.raiseCq n w).dbErr = b.dbErr
      ∧ (b.raiseCq n w).sqTail = b.sqTail := by
  unfold Letterbox.raiseCq Letterbox.fire
  split
  · split <;> exact ⟨rfl, rfl, rfl, rfl⟩
  · exact ⟨rfl, rfl, rfl, rfl⟩

/-- A BAD_OPCODE completion posts an entry of that status, or none where the ring takes none. -/
theorem Letterbox.postCompletion_drained (b : Letterbox) (now id len : Nat) (ok : Bool) :
    b.Drained (b.postCompletion now id stBadOpcode 0 len ok []) := by
  unfold Letterbox.postCompletion
  dsimp only
  split
  · exact ⟨⟨[], by simp⟩, ⟨[], by simp⟩, rfl, rfl, rfl, rfl⟩
  · refine ⟨⟨[], ?_, by simp⟩, ⟨[_], Letterbox.raiseCq_cq .., fun e he => ?_⟩, Letterbox.raiseCq_host ..⟩
    · rw [Letterbox.raiseCq_ready]; rfl
    · rw [List.mem_singleton.1 he]

/-- The entry that a letterbox fetches is the one at the head of its ring. -/
theorem State.fetches_ready {s : State} {f : Nat} {e : SqEntry} (h : s.fetches f = some e) :
    (s.box f).ready = e :: (s.box f).ready.drop 1 := by
  unfold State.fetches at h
  dsimp only at h
  split at h
  · cases h
  · rename_i x xs hx
    split at h
    · cases h
      simp [hx]
    · cases h

/-- An entry with an undefined opcode is fetched and completes. -/
theorem State.pop_complete_drained {s : State} {f : Nat} {e : SqEntry} (h : s.fetches f = some e)
    (hop : nAt e.raw 0 2 ∉ opcodes) : (s.box f).Drained (((s.pop f).complete f e stBadOpcode 0 []).box f) := by
  have hlt := State.fetches_lt h
  unfold State.complete
  rw [State.box_modBox_self _ _ _ (by simpa [State.pop] using hlt)]
  refine Letterbox.Drained.trans ?_ (Letterbox.postCompletion_drained ..)
  rw [State.pop_box hlt]
  exact ⟨⟨[e], State.fetches_ready h, by simpa using hop⟩, ⟨[], by simp⟩, rfl, rfl, rfl, rfl⟩

theorem drainBad_drained (f n : Nat) (s : State) : (s.box f).Drained ((drainBad f n s).box f) := by
  induction n generalizing s with
  | zero => exact .refl _
  | succ n ih =>
    unfold drainBad
    split
    · next e he =>
      split
      · exact .refl _
      · next hop => exact (State.pop_complete_drained he hop).trans (ih _)
    · exact .refl _

theorem drainBad_box_ne {f g : Nat} (h : g ≠ f) (n : Nat) (s : State) : (drainBad f n s).box g = s.box g := by
  induction n generalizing s with
  | zero => rfl
  | succ n ih =>
    unfold drainBad
    split
    · split
      · rfl
      · rw [ih, State.complete, State.box_modBox_ne _ _ h, State.pop, State.box_modBox_ne _ _ h]
    · rfl

/-- What follows a change of a function's letterbox that lets fetching go on. -/
theorem State.drain_modBox {s : State} {f : Nat} (hf : f < s.boxes.length) (g : Letterbox → Letterbox) :
    s.sameButBoxes ((s.modBox f g).drain f) ∧ (g (s.box f)).Drained (((s.modBox f g).drain f).box f)
      ∧ ∀ n, n ≠ f → ((s.modBox f g).drain f).box n = s.box n := by
  refine ⟨(State.modBox_sameButBoxes s f g).trans (drainBad_sameButBoxes ..), ?_, fun n hn => ?_⟩
  · have h : ((s.modBox f g).box f).Drained (((s.modBox f g).drain f).box f) := drainBad_drained ..
    rwa [State.box_modBox_self _ _ _ hf] at h
  · rw [State.drain, drainBad_box_ne hn, State.box_modBox_ne _ _ hn]

/-- With nothing to fetch, nothing follows. -/
theorem State.drain_of_ready_nil {s : State} {f : Nat} (h : (s.box f).ready = []) : s.drain f = s := by
  simp [State.drain, h, drainBad]

/-! ### Ring enables (R463, R464) -/

theorem muteId_ge (n : Nat) : 0x100000000 ≤ muteId n := by
  unfold muteId
  split <;> omega

/-- A completion under a marked CMD_ID is discarded. -/
theorem Letterbox.postCompletion_muted (b : Letterbox) (now id status retry len : Nat) (ok : Bool) (resp : List Byte) :
    (b.postCompletion now (muteId id) status retry len ok resp).cq = b.cq := by
  unfold Letterbox.postCompletion
  rw [if_pos (by simp [muteId_ge])]

section
variable {f : Nat} {s : State} (hh : s.hostOk f = true)
include hh

theorem exec_sqEn_off : exec (.sqEn f false) s = .next (s.modBox f fun b => { b with sqEn := false }) := by
  simp [exec, execSqEn, hh]

theorem exec_eqEn_off : exec (.eqEn f false) s = .next (s.modBox f fun b => { b with eqEn := false }) := by
  simp [exec, execEqEn, hh]

theorem exec_cqEn_off : exec (.cqEn f false) s
    = .next ((if (s.box f).cqEn then s.muteCommands f else s).modBox f fun b => { b with cqEn := false }) := by
  simp [exec, execCqEn, hh]

theorem exec_sqEn_on (hoff : (s.box f).sqEn = false) : exec (.sqEn f true) s
    = .next (if s.enOk (s.box f).sqBase (s.box f).sqSize then s.modBox f fun b =>
        { b with sqEn := true, sqHead := 0, sqTail := 0, ready := [], dbErr := 0 } else s) := by
  cases hok : s.enOk (s.box f).sqBase (s.box f).sqSize <;> simp [exec, execSqEn, hh, hoff, hok]

theorem exec_cqEn_on (hoff : (s.box f).cqEn = false) : exec (.cqEn f true) s
    = .next (if s.enOk (s.box f).cqBase (s.box f).cqSize then (s.modBox f fun b => { b with
        cqEn := true, cqHead := 0, cqTail := 0, cqPhase := true, cq := [], cqHeld := false, dbErr := 0 }).drain f
        else s) := by
  cases hok : s.enOk (s.box f).cqBase (s.box f).cqSize <;> simp [exec, execCqEn, hh, hoff, hok]

theorem exec_eqEn_on (hoff : (s.box f).eqEn = false) : exec (.eqEn f true) s
    = .next (if s.enOk (s.box f).eqBase (s.box f).eqSize then s.modBox f fun b =>
        { b with eqEn := true, eqHead := 0, eqTail := 0, eqPhase := true, eq := [], eqHeld := false, evSeq := 0,
                 eqDropped := 0, overflow := false, dbErr := 0 } else s) := by
  cases hok : s.enOk (s.box f).eqBase (s.box f).eqSize <;> simp [exec, execEqEn, hh, hoff, hok]

end

/-- Two changes of a letterbox that agree on it are one. -/
theorem State.modBox_congr {s : State} {f : Nat} {g k : Letterbox → Letterbox} (h : g (s.box f) = k (s.box f)) :
    s.modBox f g = s.modBox f k := by
  have hb : s.boxes.modify f g = s.boxes.modify f k := by
    apply List.ext_getElem? fun i => ?_
    rw [List.getElem?_modify, List.getElem?_modify]
    by_cases hi : f = i
    · subst hi
      cases hx : s.boxes[f]? with
      | none => rfl
      | some x =>
        have hbox : s.box f = x := by simp [State.box, List.getD_eq_getElem?_getD, hx]
        rw [hbox] at h
        simp [h]
    · simp [hi]
  unfold State.modBox
  rw [hb]

/-- Replacing a letterbox by itself leaves the machine as it is. -/
theorem State.modBox_of_box {s : State} {f : Nat} {g : Letterbox → Letterbox} (h : g (s.box f) = s.box f) :
    s.modBox f g = s := by
  rw [State.modBox_congr (k := id) h, State.modBox, List.modify_id]

theorem ringEnables : Clause.RingEnables := by
  intro f s hh hf
  refine ⟨exec_sqEn_off hh, fun hoff => ?_, fun hon => ?_, fun _ _ _ _ _ _ _ => Letterbox.postCompletion_muted ..,
    exec_eqEn_off hh, fun hoff => ⟨fun hok => ?_, fun hok => ?_⟩, fun hoff => ⟨fun hok => ?_, fun hok => ?_⟩,
    fun hoff => ⟨fun hok => ?_, fun hok => ?_⟩⟩
  · rw [exec_cqEn_off hh, hoff, if_neg Bool.false_ne_true, State.modBox_of_box (by rw [← hoff])]
  · rw [exec_cqEn_off hh, hon, if_pos rfl]
  · rw [exec_sqEn_on hh hoff, hok, if_neg Bool.false_ne_true]
  · rw [exec_sqEn_on hh hoff, hok, if_pos rfl]
  · rw [exec_cqEn_on hh hoff, hok, if_neg Bool.false_ne_true]
  · rw [exec_cqEn_on hh hoff, hok, if_pos rfl]
    obtain ⟨hsame, ⟨-, ⟨more, hcq, hmore⟩, hen, hhead, herr, -⟩, hothers⟩ := State.drain_modBox hf fun b : Letterbox =>
      { b with cqEn := true, cqHead := 0, cqTail := 0, cqPhase := true, cq := [], cqHeld := false, dbErr := 0 }
    refine ⟨_, rfl, hsame, hen, hhead, herr, by simpa [hcq] using hmore, fun hready => ?_, hothers⟩
    rw [State.drain_of_ready_nil (by rw [State.box_modBox_self _ _ _ hf]; exact hready), State.box_modBox_self _ _ _ hf]
    exact ⟨rfl, rfl, rfl⟩
  · rw [exec_eqEn_on hh hoff, hok, if_neg Bool.false_ne_true]
  · rw [exec_eqEn_on hh hoff, hok, if_pos rfl]

/-! ### Doorbells (R469, R471) -/

/-- What a doorbell's value moves its ring's index by. -/
def doorbellStep (val size at_ : Nat) : Nat := (val + size - at_) % size

section
variable {f val : Nat} {es : List SqEntry} {s : State} (hh : s.hostOk f = true)
include hh

theorem exec_sqTail_bad (h : s.power.ready = false ∨ (s.box f).sqEn = false ∨ (s.box f).sqSize ≤ val) :
    exec (.sqTail f val es) s = .next (s.badDoorbell f) := by
  simp only [exec, execSqTail, hh, Bool.not_true, Bool.false_eq_true, if_false]
  rw [if_pos (by simpa [or_assoc] using h)]

theorem exec_cqHead_bad (h : s.power.ready = false ∨ (s.box f).cqEn = false ∨ (s.box f).cqSize ≤ val
      ∨ (s.box f).cqHeldN < doorbellStep val (s.box f).cqSize (s.box f).cqHead) :
    exec (.cqHead f val) s = .next (s.badDoorbell f) := by
  simp only [exec, execCqHead, hh, Bool.not_true, Bool.false_eq_true, if_false]
  rw [if_pos (by simpa [or_assoc, doorbellStep] using h)]

theorem exec_eqHead_bad (h : s.power.ready = false ∨ (s.box f).eqEn = false ∨ (s.box f).eqSize ≤ val
      ∨ (s.box f).eqHeldN < doorbellStep val (s.box f).eqSize (s.box f).eqHead) :
    exec (.eqHead f val) s = .next (s.badDoorbell f) := by
  simp only [exec, execEqHead, hh, Bool.not_true, Bool.false_eq_true, if_false]
  rw [if_pos (by simpa [or_assoc, doorbellStep] using h)]

variable (hr : s.power.ready = true)
include hr

theorem exec_sqTail_good (hen : (s.box f).sqEn = true) (hval : val < (s.box f).sqSize)
    (hlen : es.length = doorbellStep val (s.box f).sqSize (s.box f).sqTail) :
    exec (.sqTail f val es) s = .next ((s.modBox f fun b => { b with ready := b.ready ++ es, sqTail := val }).drain f) := by
  have hes : (List.range (doorbellStep val (s.box f).sqSize (s.box f).sqTail)).map (fun i => es.getD i blankEntry) = es := by
    rw [← hlen]
    apply List.ext_getElem (by simp)
    intro i hi _
    simp only [List.length_map, List.length_range] at hi
    simp [hi]
  simp only [exec, execSqTail, hh, Bool.not_true, Bool.false_eq_true, if_false]
  rw [if_neg (by simp [hr, hen, hval])]
  exact congrArg (fun l => Host.Outcome.next ((s.modBox f fun b =>
    { b with ready := b.ready ++ l, sqTail := val }).drain f)) hes

theorem exec_cqHead_good (hen : (s.box f).cqEn = true) (hval : val < (s.box f).cqSize)
    (hheld : doorbellStep val (s.box f).cqSize (s.box f).cqHead ≤ (s.box f).cqHeldN) :
    exec (.cqHead f val) s = .next ((s.modBox f fun b =>
      { b with cq := b.cq.drop (doorbellStep val (s.box f).cqSize (s.box f).cqHead), cqHead := val }).drain f) := by
  simp only [exec, execCqHead, hh, Bool.not_true, Bool.false_eq_true, if_false]
  rw [if_neg (by simpa [hr, hen, hval, doorbellStep] using hheld)]
  rfl

theorem exec_eqHead_good (hen : (s.box f).eqEn = true) (hval : val < (s.box f).eqSize)
    (hheld : doorbellStep val (s.box f).eqSize (s.box f).eqHead ≤ (s.box f).eqHeldN) :
    exec (.eqHead f val) s = .next (s.modBox f fun b =>
      { b with eq := b.eq.drop (doorbellStep val (s.box f).eqSize (s.box f).eqHead), eqHead := val }) := by
  simp only [exec, execEqHead, hh, Bool.not_true, Bool.false_eq_true, if_false]
  rw [if_neg (by simpa [hr, hen, hval, doorbellStep] using hheld)]
  rfl

end

theorem badDoorbellsAreCounted : Clause.BadDoorbellsAreCounted := by
  intro f val es s hh hf
  have hcount : s.badDoorbell f = s.modBox f fun b => { b with dbErr := min 0xFFFF (b.dbErr + 1) } := by
    simp [State.badDoorbell, sat, min_comm]
  rw [← hcount]
  exact ⟨exec_sqTail_bad hh, exec_cqHead_bad hh, exec_eqHead_bad hh⟩

theorem goodDoorbellsAreServed : Clause.GoodDoorbellsAreServed := by
  intro f val es s hh hf hr
  refine ⟨fun hen hval hlen => ?_, fun hen hval hheld => ?_, fun hen hval hheld => ?_⟩
  · obtain ⟨hsame, ⟨hready, -, -, -, -, htail⟩, hothers⟩ := State.drain_modBox hf fun b : Letterbox =>
      { b with ready := b.ready ++ es, sqTail := val }
    exact ⟨_, exec_sqTail_good hh hr hen hval hlen, hsame, htail, hready, hothers⟩
  · obtain ⟨hsame, ⟨-, hcq, -, hhead, -⟩, hothers⟩ := State.drain_modBox hf fun b : Letterbox =>
      { b with cq := b.cq.drop (doorbellStep val (s.box f).cqSize (s.box f).cqHead), cqHead := val }
    exact ⟨_, exec_cqHead_good hh hr hen hval hheld, hsame, hhead, hcq, hothers⟩
  · rw [exec_eqHead_good hh hr hen hval hheld]
    exact congrArg _ (State.modBox_congr rfl)

/-- Settles O7, clause by clause. -/
theorem letterboxRings : Obligations.LetterboxRings := ⟨ringEnables, badDoorbellsAreCounted, goodDoorbellsAreServed⟩

/-! ### Vectors held back (R474) -/

/-- The instant at which a vector's interval since its last raise is over. -/
def Letterbox.raiseAt (b : Letterbox) (r : Nat) : Nat := r + min b.coalesce 1000

theorem exec_vectorCoalesceExpiry_cq {f r : Nat} {s : State} (hheld : (s.box f).cqHeld = true)
    (hr : (s.box f).cqRaised = some r) :
    exec (.vectorCoalesceExpiry f .cq) s = .next ((s.atUs ((s.box f).raiseAt r)).modBox f fun b =>
      { b.fire b.cqVec with cqRaised := some (s.atUs ((s.box f).raiseAt r)).us, cqHeld := false }) := by
  simp [exec, execVectorCoalesceExpiry, hheld, hr, Letterbox.raiseAt]

theorem exec_vectorCoalesceExpiry_eq {f r : Nat} {s : State} (hheld : (s.box f).eqHeld = true)
    (hr : (s.box f).eqRaised = some r) :
    exec (.vectorCoalesceExpiry f .eq) s = .next ((s.atUs ((s.box f).raiseAt r)).modBox f fun b =>
      { b.fire b.eqVec with eqRaised := some (s.atUs ((s.box f).raiseAt r)).us, eqHeld := false }) := by
  simp [exec, execVectorCoalesceExpiry, hheld, hr, Letterbox.raiseAt]

theorem Letterbox.fire_rings (b : Letterbox) (v : Nat) : (b.fire v).cq = b.cq ∧ (b.fire v).eq = b.eq := by
  unfold Letterbox.fire
  split <;> exact ⟨rfl, rfl⟩

theorem Letterbox.fire_unmasked {b : Letterbox} {v : Nat} (h : b.masked v = false) :
    tget 0 (b.fire v).raised v = tget 0 b.raised v + 1 := by
  simp [Letterbox.fire, h, tget_tset_self]

theorem Letterbox.fire_masked {b : Letterbox} {v : Nat} (h : b.masked v = true) :
    v ∈ (b.fire v).pba ∧ (b.fire v).raised = b.raised := by
  simp only [Letterbox.fire, h, if_true, and_true]
  split <;> simp [*]

/-- Settles O8, by what the row does with a held vector and what sending one leaves. -/
theorem heldVectorsAreRaised : Obligations.HeldVectorsAreRaised := by
  intro f s hf
  refine ⟨fun hfree => by simp [exec, execVectorCoalesceExpiry, hfree],
    fun hfree => by simp [exec, execVectorCoalesceExpiry, hfree], fun r hheld hr => ?_, fun r hheld hr => ?_⟩
  · refine ⟨_, exec_vectorCoalesceExpiry_cq hheld hr, rfl, ?_⟩
    rw [State.box_modBox_self (s.atUs _) _ _ hf]
    exact ⟨rfl, rfl, (Letterbox.fire_rings ..).1, Letterbox.fire_unmasked, Letterbox.fire_masked⟩
  · refine ⟨_, exec_vectorCoalesceExpiry_eq hheld hr, rfl, ?_⟩
    rw [State.box_modBox_self (s.atUs _) _ _ hf]
    exact ⟨rfl, rfl, (Letterbox.fire_rings ..).2, Letterbox.fire_unmasked, Letterbox.fire_masked⟩

end Sys2Proof.Machine
end

section
/-! PROOF. Host commands that answer: GET_ commands, commands outside their function's rights, commands that are refused
(R475, R478, R479, R494). -/
namespace Sys2Proof.Machine

/-! ### GET_ commands (R494) -/

/-- A command whose act answers OK and leaves the machine as it is has no effect. -/
theorem State.hostCommand_answers {s : State} {f : Nat} {k : Card} {e : SqEntry} {act : State → Cmd → CmdRes}
    {resp : List Byte} (h : s.hostRuns f k e) (ht : k.hasTrailer { f := f, e := e } = false)
    (hact : act (s.pop f) { f := f, e := e } = .ok (s.pop f) resp) : s.answers (s.hostCommand f k act) f e resp := by
  obtain ⟨hsame, hgain⟩ := State.command_answers h act (.ok (s.pop f) resp)
    (by rw [State.storeCounter_plain _ _ _ ht, hact]; rfl) rfl rfl
  exact ⟨(State.pop_sameButBoxes s f).trans hsame, hgain⟩

/-- The same of a GET_ command that names an output which the controller has. -/
theorem State.queryOut_answers {s : State} {f opcode n : Nat} {e : SqEntry} {g : State → OutId → List Byte} {o : OutId}
    (h : s.hostRuns f (outCard opcode n) e) (ho : outOf (nAt (payloadOf e) 0 1) = o) (hno : s.noOutB o = false)
    (hg : g (s.pop f) o = g s o) : s.answers (s.queryOut f opcode n g) f e (g s o) := by
  subst ho
  exact State.hostCommand_answers h rfl ((if_neg (ne_true_of_eq_false hno)).trans (congrArg _ hg))

/-- Settles O10: each response reads the live values, which the fetch of the command leaves as they are. -/
theorem queriesAnswerAndChangeNothing : Obligations.QueriesAnswerAndChangeNothing := by
  intro f e s o
  refine ⟨fun h => ⟨_, rfl, State.hostCommand_answers h rfl rfl⟩, fun h => ⟨_, rfl, State.hostCommand_answers h rfl rfl⟩,
    fun h hch => ⟨_, rfl, State.hostCommand_answers h rfl (if_neg (Nat.not_le.2 hch))⟩,
    fun h ho hno => ⟨_, rfl, State.queryOut_answers h ho hno rfl⟩,
    fun h ho hno => ⟨_, rfl, State.queryOut_answers h ho hno rfl⟩,
    fun h => ⟨_, rfl, State.hostCommand_answers h rfl rfl⟩,
    fun h ht ho hno => ?_,
    fun h => ⟨_, rfl, State.hostCommand_answers h rfl rfl⟩, fun h => ⟨_, rfl, State.hostCommand_answers h rfl rfl⟩,
    fun h hfirst hn hmax => ⟨_, rfl, State.hostCommand_answers h rfl (if_neg ?_)⟩,
    fun h => ⟨_, rfl, State.hostCommand_answers h rfl rfl⟩, fun h => ⟨_, rfl, State.hostCommand_answers h rfl rfl⟩⟩
  · subst ho
    exact ⟨_, rfl, State.hostCommand_answers h ht (if_neg (ne_true_of_eq_false hno))⟩
  · change ¬ (256 ≤ nAt (payloadOf e) 0 2 ∨ nAt (payloadOf e) 2 2 = 0 ∨ 256 < nAt (payloadOf e) 2 2)
    omega

/-! ### Want of rights (R475, R478, R479) -/

/-- A command that check 2 turns away completes as one without effect, and counts one violation. -/
theorem State.judge_check2 {s : State} {k : Card} {c : Cmd} (h : s.check2 k c.f = true) (key : Option (List Byte))
    (act : State → Cmd → CmdRes) : s.judge k c key act = silent s k c (if k.opcode = 0x200 then 2 else 1) := if_pos h

theorem Card.hasTrailer_of_check2 {s : State} {k : Card} {f : Nat} (h : s.check2 k f = true) (c : Cmd) :
    k.hasTrailer c = false := by
  have ht : k.trailed = false := by
    simp only [State.check2, Bool.and_eq_true, Bool.not_eq_true'] at h
    exact h.1.1
  exact Card.hasTrailer_plain k c ht

/-- What a command does that no ring's head relays, once it is fetched. -/
theorem State.command_judged {s : State} {f : Nat} {k : Card} {e : SqEntry} (hf : s.fetches f = some e)
    (hop : nAt e.raw 0 2 = k.opcode) (hj : k.journals = true → s.journalRoom = true)
    (ht : k.hasTrailer { f := f, e := e } = false) (key : State → Cmd → Option (List Byte)) (act : State → Cmd → CmdRes) :
    s.command f k key act
      = (((s.pop f).judge k { f := f, e := e } (key (s.pop f) { f := f, e := e }) act).finish { f := f, e := e }).drain f := by
  unfold State.command
  rw [hf]
  dsimp only
  rw [if_neg (by
    rintro (hne | hroom)
    · exact hne hop
    · simp only [Bool.and_eq_true, Bool.not_eq_true'] at hroom
      simp [hj hroom.1] at hroom), ht]
  simp only [Bool.and_false, Bool.false_and, Bool.false_eq_true, if_false]
  rfl

/-- What the completion of a command leaves, and what its function's ring gains. -/
theorem CmdRes.finish_gained {r : CmdRes} {s : State} {f : Nat} {e : SqEntry} (hf : s.fetches f = some e)
    (h64 : e.raw.length = 64) (hl : r.later = false) (hb : r.st.boxes = (s.pop f).boxes) :
    r.st.sameButBoxes ((r.finish { f := f, e := e }).drain f)
      ∧ (s.box f).gained (((r.finish { f := f, e := e }).drain f).box f) e r.status r.retry r.resp := by
  have hlt := State.fetches_lt hf
  obtain ⟨hen, hsize⟩ := State.fetches_cq hf
  have hbox : r.st.box f = (s.pop f).box f := by simp [State.box, hb]
  rw [State.pop_box hlt] at hbox
  have hfin : r.finish { f := f, e := e } = (r.st.complete f e r.status r.retry r.resp).postAll r.evs := by
    simp [CmdRes.finish, hl]
  rw [hfin]
  refine ⟨((State.complete_sameButBoxes ..).trans (State.postAll_sameButBoxes ..)).trans (drainBad_sameButBoxes ..), ?_⟩
  obtain ⟨c, more, hcq, hentry⟩ := Letterbox.postCompletion_gained (r.st.box f) r.st.us r.status r.retry e r.resp
    (by rw [hbox]; exact hen) (by rw [hbox]; exact hsize)
  obtain ⟨-, ⟨bad, hdrain, -⟩, -⟩ := drainBad_drained f
    (((r.st.complete f e r.status r.retry r.resp).postAll r.evs).box f).ready.length
    ((r.st.complete f e r.status r.retry r.resp).postAll r.evs)
  refine ⟨c, more ++ bad, ?_, hentry⟩
  rw [State.drain, hdrain, State.postAll_box_cq, State.complete,
    State.box_modBox_self _ _ _ (by rw [hb]; simpa [State.pop] using hlt), entryId_plain h64, hcq, hbox]
  simp

/-- Settles O13: check 2 comes before every other, and its answer shows nothing. -/
theorem wantOfRightsIsSilent : Obligations.WantOfRightsIsSilent := by
  intro f k e s act hf h64 hop hj hrights
  have hcmd : s.hostCommand f k act
      = ((silent (s.pop f) k { f := f, e := e } (if k.opcode = 0x200 then 2 else 1)).finish { f := f, e := e }).drain f := by
    rw [State.hostCommand, State.command_judged hf hop hj (Card.hasTrailer_of_check2 hrights _), State.judge_check2]
    exact hrights
  obtain ⟨hsame, hgain⟩ := CmdRes.finish_gained
    (r := silent (s.pop f) k { f := f, e := e } (if k.opcode = 0x200 then 2 else 1)) hf h64 rfl rfl
  exact ⟨_, rfl, hcmd ▸ hsame, hcmd ▸ hgain⟩

/-! ### Refusals (R475) -/

theorem CmdRes.settled_refused {r : CmdRes} (hok : r.status ≠ stOk) (hdef : r.status ≠ stDeferred) (s : State) :
    r.settled s = { r with st := { s with free := r.st.free } } := if_neg (not_or.2 ⟨hok, hdef⟩)

/-- Settles O14: a refused act leaves the state as its fetch left it, the counter of free values apart. -/
theorem refusedCommandsHaveNoEffect : Obligations.RefusedCommandsHaveNoEffect := by
  rintro f k e s act r h rfl hok hdef hl
  obtain ⟨hsame, hgain⟩ := State.command_answers h act _ (CmdRes.settled_refused hok hdef _) hl rfl
  refine ⟨_, rfl, ?_, hgain⟩
  rw [State.sameButBoxes] at hsame
  rw [State.hostCommand, hsame]
  rfl

end Sys2Proof.Machine
end

section
/-! PROOF. A COMMIT of SCO on output B whose shadow set makes LOCKED 1 (R28, R44, R254, R255). -/
namespace Sys2Proof.Machine

/-- COMMIT of SCO with the next doorway of output B as its target. -/
def commitScoOnB : SqEntry :=
  { raw := [0x10, 0x01] ++ zeros 30 ++ ([0x20, 0, 0, 0, 0, 1] ++ zeros 26), data := none, respOk := true }

/-- What it asks for. -/
def scoOnB : CommitReq := { issuer := 0, blks := [.sco], ports := [], kind := 0, out := .B, target := 0 }

/-- A delivered E2 whose host has written LOCKED in SCO's shadow set, no panel linked, with that command at the head of
function 0's ring. -/
def shadowLocked : State :=
  { State.reset with
    power := { Power.reset with hearth := true, ready := true }
    shadow := [(.sco, [(0, 1)])]
    boxes := State.reset.boxes.set 0
      { Letterbox.reset true with sqEn := true, cqEn := true, sqSize := 4, cqSize := 4, ready := [commitScoOnB] } }

theorem shadowLocked_inv : shadowLocked.Inv := ⟨by decide, by decide⟩

theorem shadowLocked_runs : shadowLocked.hostRuns 0 commitCard commitScoOnB := by
  refine ⟨by decide, by decide, by decide, ?_, by decide, by decide, by decide, by decide, by decide, by decide, by decide,
    by decide, by decide⟩
  rintro ⟨-, htrailer, -⟩
  exact absurd htrailer (by decide)

theorem commitReq_commitScoOnB : commitReq 0 (payloadOf commitScoOnB) = scoOnB := by decide

/-- Judged for output B alone, the commit meets no ground for refusing it. -/
theorem shadowLocked_mayCommit : (shadowLocked.pop 0).mayCommit scoOnB :=
  ⟨⟨.f, rfl, by decide⟩, by decide⟩

/-- For the whole panel, as R254 has it judged, LOCKED needs both panels' links ACTIVE (R255). -/
theorem shadowLocked_refuses : ((shadowLocked.pop 0).commitCmd scoOnB).status = stBadField := by decide

/-- Refutes O11: a commit that makes LOCKED 1 is for the whole panel (R254), so acceptance judges more than the grounds that
the statement's hypothesis names. COMMIT of SCO on output B with LOCKED in the shadow set and no panel linked meets them all,
and completes with BAD_FIELD and without a commit ID. -/
theorem not_settingsCommandsCommit : ¬ Obligations.SettingsCommandsCommit := by
  intro h
  obtain ⟨hcommit, -⟩ := h 0 commitScoOnB shadowLocked
  rw [commitReq_commitScoOnB] at hcommit
  obtain ⟨t, hx, -, hnext, -⟩ := hcommit shadowLocked_runs shadowLocked_mayCommit
  have hact : (commitReq 0 (payloadOf commitScoOnB)) = scoOnB := commitReq_commitScoOnB
  obtain ⟨u, hu, hsame, -⟩ := refusedCommandsHaveNoEffect 0 commitCard commitScoOnB shadowLocked
    (fun s c => s.commitCmd (commitReq 0 c.payload)) ((shadowLocked.pop 0).commitCmd scoOnB) shadowLocked_runs
    (congrArg (shadowLocked.pop 0).commitCmd hact) (by rw [shadowLocked_refuses]; decide)
    (by rw [shadowLocked_refuses]; decide) (by decide)
  have htu : t = u := by
    have hxu : exec (.commit 0) shadowLocked = .next u := congrArg _ hu
    rw [hxu] at hx
    injection hx with htu
    exact htu.symm
  have hid : shadowLocked.commits.nextId = nextCid shadowLocked.commits.nextId := by
    rw [htu, hsame] at hnext
    exact hnext
  exact absurd hid (by decide)

end Sys2Proof.Machine
end

section
/-! PROOF. Commits of one block of the frame doorway that is not mirrored, and the maintainers' commands that make them
(R26, R28, R30, R491, R525, R526). -/
namespace Sys2Proof.Machine

/-! ### Shadow words -/

/-- A write of a shadow word changes the shadow sets alone. -/
theorem State.writeWord_eq (s : State) (b : Blk) (off w : Nat) : ∃ sh, s.writeWord b off w = { s with shadow := sh } := by
  unfold State.writeWord
  split
  · exact ⟨_, rfl⟩
  · split <;> exact ⟨_, rfl⟩

theorem State.writeWord_boxes (s : State) (b : Blk) (off w : Nat) : (s.writeWord b off w).boxes = s.boxes := by
  obtain ⟨sh, h⟩ := s.writeWord_eq b off w
  rw [h]

theorem State.writeWord_trust (s : State) (b : Blk) (off w : Nat) : (s.writeWord b off w).trust = s.trust := by
  obtain ⟨sh, h⟩ := s.writeWord_eq b off w
  rw [h]

/-! ### The copy of an accepted commit -/

/-- What a commit's new copy is a copy of. -/
def Pend.isOf (p : Pend) (u : State) (r : CommitReq) (b : Blk) (port : Nat) : Prop :=
  p.cid = u.commits.nextId ∧ p.issuer = r.issuer ∧ p.blk = b ∧ p.port = port ∧ p.words = u.freeze b port

theorem State.newCopy_isOf (u : State) (r : CommitReq) (due : Nat) (t : Target) (lend : Option Pend) (b : Blk)
    (port : Nat) (at_ : Place) : (u.newCopy r u.commits.nextId due t lend b port at_).isOf u r b port := by
  unfold State.newCopy
  cases lend with
  | some p => cases at_ <;> exact ⟨rfl, rfl, rfl, rfl, rfl⟩
  | none =>
    cases at_ with
    | refuse st => exact ⟨rfl, rfl, rfl, rfl, rfl⟩
    | append tg => exact ⟨rfl, rfl, rfl, rfl, rfl⟩
    | replace old => dsimp only; split <;> exact ⟨rfl, rfl, rfl, rfl, rfl⟩

/-- A place is refused for R33's or R34's reason. -/
theorem State.placeOf_refuse {s : State} {b : Blk} {port : Nat} {t : Target} {st : Nat}
    (h : s.placeOf b port t = .refuse st) : st = stBadField ∨ st = stBusyRetry := by
  unfold State.placeOf at h
  dsimp only at h
  split at h
  · split at h
    · cases h
    · split at h <;> cases h
      exact .inr rfl
  · split at h
    · cases h
      exact .inl rfl
    · split at h
      · cases h
      · split at h <;> cases h
        exact .inr rfl

/-- A copy that finds its place is pending. -/
theorem State.putCopy_pends {u : State} {r : CommitReq} {due : Nat} {t : Target} {lend : Option Pend} {b : Blk} {port : Nat}
    (h : ∀ st, u.placeOf b port t ≠ .refuse st) :
    ∃ c, u.putCopy r u.commits.nextId due t lend b port = { u with commits := c } ∧ c.nextId = u.commits.nextId
      ∧ ∃ p ∈ c.pend, p.isOf u r b port := by
  unfold State.putCopy
  dsimp only
  cases hp : u.placeOf b port t with
  | refuse st => exact absurd hp (h st)
  | append tg => exact ⟨_, rfl, rfl, _, List.mem_append_right _ (List.mem_singleton_self _), u.newCopy_isOf ..⟩
  | replace old => exact ⟨_, rfl, rfl, _, List.mem_append_right _ (List.mem_singleton_self _), u.newCopy_isOf ..⟩

/-! ### Acceptance -/

/-- A commit that nothing refuses finds a place for each of its copies. -/
theorem State.places_of_not_refused {u : State} {r : CommitReq} {kind : DoorKind} (h : u.refused r kind = none)
    {x : Blk × Nat} (hx : x ∈ r.units) (st : Nat) : u.placeOf x.1 x.2 (u.takenTarget r kind) ≠ .refuse st := by
  intro hst
  have hmem : Place.refuse st ∈ u.places r kind := List.mem_map.2 ⟨x, hx, hst⟩
  have hany : ∀ n, st = n → (u.places r kind).any (· == .refuse n) = true := by
    rintro n rfl
    exact List.any_eq_true.2 ⟨_, hmem, by simp⟩
  unfold State.refused at h
  obtain hbad | hbusy := State.placeOf_refuse hst
  · simp only [hany _ hbad, if_true] at h
    split_ifs at h
  · simp only [hany _ hbusy, if_true] at h
    split_ifs at h

/-- The answer of an accepted commit (R495), with the events and the state that follow it. -/
def State.taken (u : State) (r : CommitReq) (kind : DoorKind) (evs : List (Nat × Nat × List Byte)) (t : State) : CommitRes :=
  { status := stDeferred
    retry := 0
    resp := leBytes 4 u.commits.nextId ++ leBytes 4 (u.takenDue r kind) ++ leBytes 1 kind.code
      ++ leBytes 1 (u.takenUnit r kind) ++ zeros 6
    evs := evs
    st := t }

/-- A commit of one block, whose frame is its output's, is accepted: the copy is pending and the commit ID is taken. -/
theorem State.accept_single {u : State} {r : CommitReq} {b : Blk} (hblks : r.blks = [b]) (hb : b ≠ .cam) (hsco : b ≠ .sco)
    (hk : b.kind = some .f) (h : u.refused r .f = none) :
    ∃ t evs, u.accept r = u.taken r .f evs t
      ∧ t = { u with commits := t.commits, cellar := t.cellar } ∧ t.commits.nextId = nextCid u.commits.nextId
      ∧ ∀ x ∈ r.units, ∃ p ∈ t.commits.pend, p.isOf u r x.1 x.2 := by
  have hframed : u.framed r = r := if_neg fun hc => hsco (by simpa [hblks, eq_comm] using hc.2.2.1)
  have hdoor : r.doorKind = some .f := by simp [CommitReq.doorKind, hblks, hk]
  have hunits : r.units = [(b, 0)] := by simp [CommitReq.units, hblks, hb]
  obtain ⟨c, hput, hid, p, hp, hof⟩ := State.putCopy_pends (u := u) (r := r) (due := u.takenDue r .f)
    (t := u.takenTarget r .f) (lend := u.lendOf r .f)
    (State.places_of_not_refused h (by rw [hunits]; exact List.mem_singleton_self (b, 0)))
  obtain ⟨l, hj, -⟩ := State.journal_eq (s := { u with commits := { c with nextId := nextCid u.commits.nextId } })
    (.settings u.commits.nextId r.blks) true
  have henter : u.enter r .f
      = ({ u with commits := { c with nextId := nextCid u.commits.nextId } } : State).modCellar fun _ => l := by
    rw [← hj]
    simp [State.enter, hunits, hput]
  refine ⟨u.enter r .f, replacedEvents u.commits.pend (u.enter r .f).commits.pend u.commits.nextId, ?_, ?_, ?_, ?_⟩
  · unfold State.accept
    dsimp only
    rw [hframed, hdoor]
    dsimp only
    rw [h]
    rfl
  · rw [henter]
    rfl
  · rw [henter]
    rfl
  · rw [hunits, henter]
    intro x hx
    rw [List.mem_singleton.1 hx]
    exact ⟨p, hp, hof⟩

/-- The same commit as a command makes it, of a block that no ring mirrors and that is not CPT. -/
theorem State.commitCmd_single {u : State} {r : CommitReq} {b : Blk} (hblks : r.blks = [b]) (hb : b ≠ .cam) (hsco : b ≠ .sco)
    (hk : b.kind = some .f) (hm : b.mirrored = false) (hcpt : b ≠ .cpt) (h : u.refused r .f = none) :
    ∃ t evs, u.commitCmd r = (u.taken r .f evs t).cmd
      ∧ t = { u with commits := t.commits, cellar := t.cellar } ∧ t.commits.nextId = nextCid u.commits.nextId
      ∧ ∀ x ∈ r.units, ∃ p ∈ t.commits.pend, p.isOf u r x.1 x.2 := by
  obtain ⟨t, evs, ha, hrest⟩ := State.accept_single hblks hb hsco hk h
  refine ⟨t, evs, ?_, hrest⟩
  have hno : ¬ (u.power.standby = 3 ∧ Blk.cpt ∈ r.blks) := fun hc => hcpt (by simpa [hblks, eq_comm] using hc.2)
  unfold State.commitCmd
  dsimp only
  rw [ha, if_neg (show ¬ (u.taken r .f evs t).status ≠ stDeferred from not_not_intro rfl), if_neg hno,
    if_neg (by simp [hblks, hm])]
  rfl

/-! ### Commands that commit such a block -/

/-- A command whose act writes shadow words and commits one block: the state that holds the words has the commit accepted. -/
theorem State.hostCommand_commits {s u : State} {f : Nat} {k : Card} {e : SqEntry} {act : State → Cmd → CmdRes}
    {w : State → State} {r : CommitReq} {b : Blk} (h : s.hostRuns f k e)
    (hact : act ((s.pop f).storeCounter k { f := f, e := e }) { f := f, e := e }
      = ((s.pop f).storeCounter k { f := f, e := e }).writeCommit w r)
    (hu : u = w ((s.pop f).storeCounter k { f := f, e := e })) (hboxes : u.boxes = (s.pop f).boxes)
    (hblks : r.blks = [b]) (hb : b ≠ .cam) (hsco : b ≠ .sco) (hk : b.kind = some .f) (hm : b.mirrored = false)
    (hcpt : b ≠ .cpt) (hmay : u.mayCommit r) : s.committed u f e r (s.hostCommand f k act) := by
  obtain ⟨⟨kind, hdoor, href⟩, -⟩ := hmay
  have hf : kind = .f := by
    have hdoor' : r.doorKind = some .f := by simp [CommitReq.doorKind, hblks, hk]
    rw [hdoor] at hdoor'
    injection hdoor'
  subst hf
  obtain ⟨t, evs, hcmd, ht, hid, hpend⟩ := State.commitCmd_single hblks hb hsco hk hm hcpt href
  have hset : (act ((s.pop f).storeCounter k { f := f, e := e }) { f := f, e := e }).settled (s.pop f) = u.commitCmd r := by
    rw [hact, State.writeCommit, ← hu, hcmd]
    rfl
  have hstay : (u.commitCmd r).st.boxes = (s.pop f).boxes := by
    have hbt : t.boxes = u.boxes := by rw [ht]
    rw [hcmd]
    exact hbt.trans hboxes
  obtain ⟨hsame, hgain⟩ := State.command_answers h act _ hset (by rw [hcmd]; rfl) hstay
  rw [hcmd] at hsame hgain
  replace hsame : s.command f k (fun _ _ => none) act = { t with boxes := (s.command f k (fun _ _ => none) act).boxes } :=
    hsame
  rw [State.hostCommand]
  refine ⟨⟨.f, hdoor, hgain⟩, ?_, ?_, ?_⟩
  · rw [hsame]
    exact hid
  · rw [hsame]
    exact hpend
  · rw [hsame, ht]

/-- Storing a trailer's COUNTER leaves the letterboxes. -/
theorem State.storeCounter_boxes (s : State) (k : Card) (c : Cmd) : (s.storeCounter k c).boxes = s.boxes := by
  unfold State.storeCounter
  dsimp only
  split <;> rfl

/-- A trailer of one device brings COMMAND_COUNTER its own COUNTER (R525, R526). -/
theorem State.storeCounter_counter {s : State} {k : Card} {c : Cmd} (ht : k.hasTrailer c = true)
    (hdev : nAt (k.trailerOf c) 8 8 ≠ 0) : (s.storeCounter k c).trust.counter = nAt (k.trailerOf c) 0x10 8 := by
  simp [State.storeCounter, ht, hdev, State.writeOwner, State.modMram]

/-- Settles O12: both commands write words of CAL's shadow set and commit CAL. -/
theorem maintainerCommandsCommit : Obligations.MaintainerCommandsCommit := by
  intro f e s v u
  refine ⟨fun h _ hview hlo hhi hv hu hmay => ?_, fun r h _ hsrc hv hu hr hmay => ?_,
    fun hdev ht => State.storeCounter_counter ht hdev⟩
  · have hact : setCalAct v { f := f, e := e } = v.writeCommit _ (nextCommit f [.cal] .A) := if_neg (by
      rintro (h4 | hl | hh)
      · exact absurd hview (Nat.not_lt.2 h4)
      · exact absurd hlo (Nat.not_lt.2 hl)
      · exact absurd hhi (Nat.not_lt.2 hh))
    rw [hv] at hact
    have hboxes : u.boxes = (s.pop f).boxes := by
      rw [hu, State.writeWord_boxes, State.writeWord_boxes, State.writeWord_boxes, hv, State.storeCounter_boxes]
    have hc := State.hostCommand_commits h hact (by rw [← hv]; exact hu) hboxes rfl (by decide) (by decide) rfl rfl
      (by decide) hmay
    obtain ⟨-, -, -, ht⟩ := id hc
    refine ⟨_, rfl, hc, (congrArg (·.trust.counter) ht).trans ?_⟩
    simp only [hu, State.writeWord_trust]
  · have hact : applyCalAct v { f := f, e := e } = v.writeCommit _ r :=
      (if_neg (Nat.not_le.2 hsrc)).trans (by rw [hr]; rfl)
    rw [hv] at hact
    have hboxes : u.boxes = (s.pop f).boxes := by rw [hu, State.writeWord_boxes, hv, State.storeCounter_boxes]
    have hc := State.hostCommand_commits h hact (by rw [← hv]; exact hu) hboxes (b := .cal) (by rw [hr]; rfl) (by decide)
      (by decide) rfl rfl (by decide) hmay
    obtain ⟨-, -, -, ht⟩ := id hc
    refine ⟨_, rfl, hc, (congrArg (·.trust.counter) ht).trans ?_⟩
    simp only [hu, State.writeWord_trust]

end Sys2Proof.Machine
end

section
/-! PROOF. READ_FIELDS, WRITE_FIELDS, RETRAIN and SET_AUDIT_CHAIN (R251, R291, R498 to R500): what a link's retraining leaves of
the completion rings, and what each command completes with. -/
namespace Sys2Proof.Machine

/-! ### Completion rings -/

/-- What a completion of a function rests on: its completion ring with EN and SIZE, and that the letterbox exists. -/
def State.ring4 (s : State) (f : Nat) : List CqEntry × Bool × Nat × Nat :=
  ((s.box f).cq, (s.box f).cqEn, (s.box f).cqSize, s.boxes.length)

section
variable (s : State) (f : Nat)

theorem State.ring4_of_boxes {s t : State} (h : t.boxes = s.boxes) (f : Nat) : t.ring4 f = s.ring4 f := by
  simp [State.ring4, State.box, h]

theorem Letterbox.postEvent_cqEn (b : Letterbox) (n c : Nat) (d : List Byte) :
    (b.postEvent n c d).cqEn = b.cqEn ∧ (b.postEvent n c d).cqSize = b.cqSize :=
  ⟨congrArg Prod.fst (b.postEvent_cqRing n c d), congrArg Prod.snd (b.postEvent_cqRing n c d)⟩

@[simp] theorem State.event_ring4 (g code : Nat) (data : List Byte) : (s.event g code data).ring4 f = s.ring4 f := by
  have hring := s.event_cqRing g code data f
  simp only [Letterbox.cqRing, Prod.mk.injEq] at hring
  have hlen : (s.event g code data).boxes.length = s.boxes.length := by simp [State.event]
  simp only [State.ring4, State.event_box_cq, hring, hlen]

@[simp] theorem State.eventAll_ring4 (code : Nat) (data : List Byte) : (s.eventAll code data).ring4 f = s.ring4 f := by
  have hbox : ((s.eventAll code data).box f) = s.box f ∨ (s.eventAll code data).box f = (s.box f).postEvent s.us code data := by
    unfold State.eventAll State.box
    simp only [List.getD_eq_getElem?_getD, List.getElem?_mapIdx]
    cases hb : s.boxes[f]? with
    | none => exact .inl rfl
    | some b =>
      simp only [Option.map_some, Option.getD_some]
      split
      · exact .inr rfl
      · exact .inl rfl
  have hlen : (s.eventAll code data).boxes.length = s.boxes.length := by simp [State.eventAll]
  obtain hb | hb := hbox
  · simp [State.ring4, hb, hlen]
  · simp [State.ring4, hb, hlen, Letterbox.postEvent_cq, Letterbox.postEvent_cqEn]

@[simp] theorem State.modLink_ring4 (o : OutId) (g : Link → Link) : (s.modLink o g).ring4 f = s.ring4 f :=
  State.ring4_of_boxes (by simp) f

@[simp] theorem State.modOut_ring4 (o : OutId) (g : Output → Output) : (s.modOut o g).ring4 f = s.ring4 f :=
  State.ring4_of_boxes (by simp) f

@[simp] theorem State.modLane_ring4 (n : Nat) (g : Lane → Lane) : (s.modLane n g).ring4 f = s.ring4 f := rfl

@[simp] theorem State.modLanes_ring4 (ns : List Nat) (g : Lane → Lane) : (s.modLanes ns g).ring4 f = s.ring4 f :=
  foldl_keeps (State.ring4 · f) _ (fun a n => a.modLane_ring4 f n g) ns s

@[simp] theorem State.ring4_ite (q : Prop) [Decidable q] (t u : State) :
    (if q then t else u).ring4 f = if q then t.ring4 f else u.ring4 f := apply_ite (State.ring4 · f) ..

/-! ### A retraining (R290, R291) -/

@[simp] theorem State.lneSettle_ring4 : s.lneSettle.ring4 f = s.ring4 f :=
  foldl_keeps (State.ring4 · f) _ (fun a _ => a.event_ring4 f ..) _ _

@[simp] theorem State.lneWindow_ring4 (n : Nat) (ns : List Nat) (atReturn : Bool) :
    (s.lneWindow n ns atReturn).ring4 f = s.ring4 f := by
  unfold State.lneWindow
  split
  · rfl
  · exact (State.lneSettle_ring4 ..).trans (State.modLanes_ring4 ..)

@[simp] theorem State.abortCal_ring4 (n : Nat) : (s.abortCal n).ring4 f = s.ring4 f := by simp [State.abortCal]

@[simp] theorem State.wakePort_ring4 (n : Nat) : (s.wakePort n).ring4 f = s.ring4 f := by simp [State.wakePort]

@[simp] theorem State.drivePsafe_ring4 : s.drivePsafe.ring4 f = s.ring4 f := rfl

@[simp] theorem State.startAttempt_ring4 (o : OutId) (k : Nat) : (s.startAttempt o k).ring4 f = s.ring4 f := by
  have hcal (ns : List Nat) : (ns.foldl (fun a n => a.abortCal n) s).ring4 f = s.ring4 f :=
    foldl_keeps (State.ring4 · f) _ (fun a n => a.abortCal_ring4 f n) ns s
  simp [State.startAttempt, hcal]

@[simp] theorem State.noteTe_ring4 (t : State) : (s.noteTe t).ring4 f = t.ring4 f := by
  refine foldl_keeps (State.ring4 · f) _ (fun a o => ?_) _ _
  simp

@[simp] theorem State.forceMessage_boxes (m : Nat) : (s.forceMessage m).boxes = s.boxes := by
  unfold State.forceMessage
  split <;> rfl

@[simp] theorem State.mark_boxes (x : Force) (code : Nat) : (s.mark x code).boxes = s.boxes := by cases x <;> rfl

@[simp] theorem State.dark_boxes (os : List OutId) (code : Nat) (fc4 message : Bool) :
    (s.dark os code fc4 message).boxes = s.boxes := by
  cases message
  · rfl
  · exact State.forceMessage_boxes ..

theorem State.spoilFrames_boxes : s.spoilFrames.boxes = s.boxes := rfl

/-- A safe state below SS4 leaves the letterboxes. -/
theorem State.force_boxes {x : Force} (hx : x.level ≠ 4) (code cls : Nat) : (s.force x code cls).boxes = s.boxes := by
  cases x with
  | ss4 => exact absurd rfl hx
  | ss4Off => exact absurd rfl hx
  | ss3All => simp [State.force]
  | ss3Quiet => simp [State.force]
  | _ => by_cases h4 : cls = 4 <;> simp [State.force, h4]

theorem State.enterLog_boxes (x : FaultIn) : (s.enterLog x).boxes = s.boxes := by
  simp only [State.enterLog]

/-- A report of class FC2 to FC4 that forces no SS4, and whose recovery resets no island, leaves the completion rings. -/
theorem State.fault_ring4 {x : FaultIn} (hlow : 2 ≤ s.classOf x) (hhigh : s.classOf x ≤ 4) (hforce : x.force.level ≠ 4)
    (hstore : isStore x.code = true) : (s.fault x).ring4 f = s.ring4 f := by
  have hnew : s.repeated x = none := if_neg (by omega)
  have hf : s.forceOf x = x.force := if_neg (by omega)
  unfold State.fault
  simp only [hnew, hf, hstore]
  have hforced (u : State) (n : Nat) : ((u.force x.force x.code n).spoilFrames).ring4 f = u.ring4 f :=
    State.ring4_of_boxes ((State.spoilFrames_boxes _).trans (State.force_boxes u hforce x.code n)) f
  have hlogged (n : Nat) (d : List Byte) : ((s.enterLog x).eventAll n d).ring4 f = s.ring4 f :=
    by
    rw [State.eventAll_ring4, State.ring4_of_boxes (s.enterLog_boxes x)]
  split
  · exact (State.ring4_of_boxes rfl f).trans ((hforced ..).trans (hlogged ..))
  · exact (hforced ..).trans (hlogged ..)

theorem State.retrainLink_ring4 (o : OutId) (k : Nat) : (s.retrainLink o k 0x601).ring4 f = s.ring4 f := by
  have hfault (u : State) : (u.fault (retrainReport o 0x601)).ring4 f = u.ring4 f := by
    obtain ⟨hlow, hhigh⟩ := State.classOf_fc3 u (x := retrainReport o 0x601) rfl
    exact State.fault_ring4 u f (by omega) hhigh (by simp [retrainReport, Force.level]) rfl
  unfold State.retrainLink
  dsimp only
  rw [State.ring4_ite, State.noteTe_ring4, State.ring4_ite, State.startAttempt_ring4, ite_self, State.modLink_ring4]
  exact ite_eq_right_iff.2 fun _ => (hfault _).trans (State.modLink_ring4 ..)

/-- RETRAIN leaves the completion rings. -/
theorem State.writeRetrain_ring4 (o : OutId) : (s.writeRetrain o).ring4 f = s.ring4 f := by
  unfold State.writeRetrain
  split
  · rfl
  · split
    · exact State.retrainLink_ring4 ..
    · rfl
    · simp [State.startCycle]

/-! ### Register writes (R10, R461, R498) -/

theorem State.writeBar2_boxes (g : Nat) (b : Blk) (off w : Nat) : (s.writeBar2 g b off w).boxes = s.boxes := by
  unfold State.writeBar2
  split
  · rfl
  · split
    · rfl
    · dsimp only
      split <;> split <;> rfl

theorem State.writeBar2Act_ring4 (g : Nat) (b : Blk) (off w : Nat) : (s.writeBar2Act g b off w).ring4 f = s.ring4 f := by
  have hw : (s.writeBar2 g b off w).ring4 f = s.ring4 f := State.ring4_of_boxes (s.writeBar2_boxes ..) f
  unfold State.writeBar2Act
  simp only [State.ring4_ite, State.writeRetrain_ring4, State.markRecal, State.modLanes_ring4, hw, ite_self]

theorem State.writeEntry_ring4 (g : Nat) (p : List Byte) (k : Nat) : (s.writeEntry g p k).ring4 f = s.ring4 f := by
  unfold State.writeEntry
  split
  · rfl
  · exact State.writeBar2Act_ring4 ..

end

/-! ### Completions -/

/-- A command that is answered OK at once, and whose act leaves its function's completion ring alone. -/
theorem State.hostCommand_acts {s u : State} {f : Nat} {k : Card} {e : SqEntry} {act : State → Cmd → CmdRes}
    {resp : List Byte} (h : s.hostRuns f k e) (ht : k.hasTrailer { f := f, e := e } = false)
    (hact : act (s.pop f) { f := f, e := e } = .ok u resp) (hring : u.ring4 f = (s.pop f).ring4 f) :
    u.sameButBoxes (s.hostCommand f k act) ∧ (s.box f).gained ((s.hostCommand f k act).box f) e stOk 0 resp := by
  have hlt := State.fetches_lt h.1
  have hpop : (s.pop f).ring4 f = s.ring4 f := by
    simp only [State.ring4, State.pop_box hlt]
    simp [State.pop]
  rw [hpop] at hring
  simp only [State.ring4, Prod.mk.injEq] at hring
  obtain ⟨hcq, hen, hsize, hlen⟩ := hring
  exact State.command_answers' h act (.ok u resp) (by rw [State.storeCounter_plain _ _ _ ht, hact]; rfl) rfl
    (by rw [← hlen] at hlt; exact hlt) hcq hen hsize

/-! ### READ_FIELDS (R251, R499) -/

section
variable (s : State) (f : Nat)
/-- The fetch of a command leaves what a read of a live word returns. -/
theorem State.pop_liveWord (b : Blk) (off : Nat) : (s.pop f).liveWord b off = s.liveWord b off := by
  have hlv (c : Blk) (o : OutId) (n : Nat) : (s.pop f).lv c o n = s.lv c o n := rfl
  have hslot (o : OutId) (n : Nat) : (s.pop f).slotWord o n = s.slotWord o n := rfl
  have hdiv (o : OutId) : (s.pop f).divNow o = s.divNow o := rfl
  have hlocked : (s.pop f).locked = s.locked := rfl
  have hcam (n off : Nat) : (s.pop f).lvCam n off = s.lvCam n off := rfl
  have hlne (n off : Nat) : (s.pop f).lvAt n .lne .A off = s.lvAt n .lne .A off := rfl
  unfold State.liveWord
  simp only [hlv, hslot, hdiv, hlocked, hcam, hlne]

theorem State.pop_readWord (b : Blk) (off : Nat) : (s.pop f).readWord b off = s.readWord b off := by
  have hsh (n : Nat) : (s.pop f).sh b n = s.sh b n := rfl
  have hro : (s.pop f).roWord b off = s.roWord b off := rfl
  have hvar : (s.pop f).variant = s.variant := rfl
  unfold State.readWord
  simp only [hsh, hro, hvar, State.pop_liveWord]

theorem State.pop_readEntry (p : List Byte) (k : Nat) : (s.pop f).readEntry p k = s.readEntry p k := by
  unfold State.readEntry
  simp only [State.pop_readWord]
end

/-- Entry `k` of READ_FIELDS names TIME_LO. -/
def readsTimeLo (p : List Byte) (k : Nat) : Prop := nAt p (8 + 8 * k) 1 = 4 ∧ nAt p (8 + 8 * k + 4) 4 = 0x18

/-- Entries that do not name TIME_LO are read in order, and nothing is latched. -/
theorem readEntries_plain (p : List Byte) (s : State) (ks : List Nat) (h : ∀ k ∈ ks, ¬ readsTimeLo p k) (acc : List Byte) :
    readEntries p ks s acc = (acc ++ ks.flatMap fun k => s.readEntry p k, s) := by
  induction ks generalizing acc with
  | nil => simp [readEntries]
  | cons k ks ih =>
    have hk : ¬ (nAt p (8 + 8 * k) 1 = 4 ∧ nAt p (8 + 8 * k + 4) 4 = 0x18) := h k (by simp)
    unfold readEntries
    rw [if_neg hk, ih fun j hj => h j (by simp [hj])]
    simp

/-- A single entry that names TIME_LO latches TIME_HI. -/
theorem readEntries_timeLo {p : List Byte} (s : State) (h : readsTimeLo p 0) :
    readEntries p [0] s [] = (s.readEntry p 0, s.latchTime) := by
  simp [readEntries, show nAt p (8 + 8 * 0) 1 = 4 from h.1, show nAt p (8 + 8 * 0 + 4) 4 = 0x18 from h.2]

/-- What the act of READ_FIELDS answers. -/
def readAnswer (s : State) (p : List Byte) (n : Nat) : CmdRes :=
  .ok (readEntries p (List.range n) s []).2 (fitTo (up8 (4 * n)) (readEntries p (List.range n) s []).1)

theorem exec_readFields (f : Nat) (s : State) : ∃ act, exec (.readFields f) s = .next (s.hostCommand f readFieldsCard act)
    ∧ ∀ (u : State) (c : Cmd), 0 < nAt c.payload 0 2 → nAt c.payload 0 2 ≤ 512 →
      act u c = readAnswer u c.payload (nAt c.payload 0 2) :=
  ⟨_, rfl, fun _ _ hlow hhigh => if_neg (by omega)⟩

/-! ### The commands -/

theorem exec_writeFields (f : Nat) (s : State) :
    ∃ act, exec (.writeFields f) s = .next (s.hostCommand f writeFieldsCard act)
      ∧ ∀ (u : State) (c : Cmd), 0 < nAt c.payload 0 2 → nAt c.payload 0 2 ≤ 256 →
        act u c = .ok ((List.range (nAt c.payload 0 2)).foldl (fun a k => a.writeEntry f c.payload k) u) [] :=
  ⟨_, rfl, fun _ _ hlow hhigh => if_neg (by omega)⟩

theorem exec_retrain (f : Nat) (s : State) : ∃ act, exec (.retrain f) s = .next (s.hostCommand f retrainCard act)
    ∧ ∀ (u : State) (c : Cmd), u.noOutB (outOf (nAt c.payload 0 1)) = false →
      act u c = .ok (u.writeRetrain (outOf (nAt c.payload 0 1))) [] :=
  ⟨_, rfl, fun _ _ hno => if_neg (ne_true_of_eq_false hno)⟩

theorem exec_setAuditChain (f : Nat) (s : State) :
    ∃ act, exec (.setAuditChain f) s = .next (s.hostCommand f auditChainCard act)
      ∧ ∀ (u : State) (c : Cmd), nAt c.payload 0 8 % 32 = 0 →
        act u c = .ok (u.modAudit fun x => { x with nextChain := some (nAt c.payload 0 8) }) [] :=
  ⟨_, rfl, fun _ _ halign => if_neg (not_not_intro halign)⟩

/-- Settles O15: each command's act, with what it leaves of its function's completion ring. -/
theorem fieldAndControlCommands : Obligations.FieldAndControlCommands := by
  intro f e s
  refine ⟨fun h hlow hhigh hplain => ?_, fun h hone hblk hoff => ?_, fun u h hlow hhigh hu => ?_,
    fun o u h ho hno hu => ?_, fun h halign => ?_⟩
  · obtain ⟨act, hx, hact⟩ := exec_readFields f s
    refine ⟨_, hx, State.hostCommand_answers h rfl ((hact (s.pop f) { f := f, e := e } hlow hhigh).trans ?_)⟩
    have hread := readEntries_plain (payloadOf e) (s.pop f) (List.range (nAt (payloadOf e) 0 2))
      (fun k hk => hplain k (List.mem_range.1 hk)) []
    change readAnswer (s.pop f) (payloadOf e) (nAt (payloadOf e) 0 2) = _
    simp only [readAnswer, hread, List.nil_append, State.pop_readEntry]
  · obtain ⟨act, hx, hact⟩ := exec_readFields f s
    have hread : readAnswer (s.pop f) (payloadOf e) (nAt (payloadOf e) 0 2)
        = .ok (s.pop f).latchTime (fitTo (up8 (4 * 1)) ((s.pop f).readEntry (payloadOf e) 0)) := by
      have hlatch := readEntries_timeLo (p := payloadOf e) (s.pop f) ⟨hblk, hoff⟩
      rw [hone]
      simp only [readAnswer, List.range_one, hlatch]
    have hlow : 0 < nAt (payloadOf e) 0 2 := by omega
    have hhigh : nAt (payloadOf e) 0 2 ≤ 512 := by omega
    obtain ⟨hsame, -⟩ := State.hostCommand_acts h rfl ((hact (s.pop f) { f := f, e := e } hlow hhigh).trans hread) rfl
    refine ⟨_, hx, ?_⟩
    rw [show (2 : Nat) ^ 32 = 0x100000000 by norm_num]
    exact hsame
  · obtain ⟨act, hx, hact⟩ := exec_writeFields f s
    refine ⟨_, hx, State.hostCommand_acts h rfl ((hact (s.pop f) { f := f, e := e } hlow hhigh).trans
      (congrArg (CmdRes.ok · []) hu.symm)) ?_⟩
    rw [hu]
    exact foldl_keeps (State.ring4 · f) _ (fun a k => a.writeEntry_ring4 f f _ k) _ _
  · subst ho
    obtain ⟨act, hx, hact⟩ := exec_retrain f s
    refine ⟨_, hx, State.hostCommand_acts h rfl ((hact (s.pop f) { f := f, e := e } hno).trans
      (congrArg (CmdRes.ok · []) hu.symm)) ?_⟩
    rw [hu]
    exact State.writeRetrain_ring4 ..
  · obtain ⟨act, hx, hact⟩ := exec_setAuditChain f s
    exact ⟨_, hx, State.hostCommand_acts h rfl (hact (s.pop f) { f := f, e := e } halign) rfl⟩

end Sys2Proof.Machine
end

section
/-! PROOF. What entry into SS4 leaves, and what it takes (R550, R686): the parts that lose their power, and nothing else. -/
namespace Sys2Proof.Machine

/-! ### The parts that SS4 touches -/

/-- A machine with the parts that handling a fault or SS4 works on taken from `b`. -/
def State.shut (s b : State) : State :=
  { s with boxes := b.boxes, power := b.power, cellar := b.cellar, mram := b.mram, chans := b.chans, trust := b.trust,
           ring := b.ring, transom := b.transom, cams := b.cams, landings := b.landings, sensors := b.sensors,
           outA := b.outA, outB := b.outB, linkA := b.linkA, linkB := b.linkB, lanes := b.lanes, slices := b.slices,
           pipes := b.pipes }

/-- What handling a fault touches without SS4 is among them. -/
theorem State.sameButHandling.shut {s t : State} (h : s.sameButHandling t) (b : State) : t.shut b = s.shut b := by
  unfold State.sameButHandling at h
  rw [h]
  rfl

section
variable (s b : State)

@[simp] theorem State.modOut_shut (o : OutId) (g : Output → Output) : (s.modOut o g).shut b = s.shut b := by
  cases o <;> rfl

@[simp] theorem State.eventAll_shut (code : Nat) (data : List Byte) : (s.eventAll code data).shut b = s.shut b := rfl

@[simp] theorem State.spoilFrames_shut : s.spoilFrames.shut b = s.shut b := rfl

@[simp] theorem State.enterLog_shut (x : FaultIn) : (s.enterLog x).shut b = s.shut b := by
  simp only [State.shut, State.enterLog]

@[simp] theorem State.drivePsafe_shut : s.drivePsafe.shut b = s.shut b := rfl

@[simp] theorem State.unpowered_shut : s.unpowered.shut b = s.shut b := rfl

@[simp] theorem State.boxesReset_shut : s.boxesReset.shut b = s.shut b := rfl

@[simp] theorem State.dropCommands_shut : s.dropCommands.shut b = s.shut b := rfl

@[simp] theorem State.forceMessage_shut (m : Nat) : (s.forceMessage m).shut b = s.shut b := by
  unfold State.forceMessage
  split <;> rfl

@[simp] theorem State.requeue_shut (slice : Nat) : (s.requeue slice).shut b = s.shut b :=
  (s.requeue_handledQuietly slice).1.shut b

@[simp] theorem State.domainsOff_shut (keep : List Nat) : (s.domainsOff keep).shut b = s.shut b :=
  foldl_keeps (State.shut · b) _ (fun a k => by by_cases hk : k ∈ keep <;> simp [hk]) _ _

@[simp] theorem State.enterSs4_shut (message counts : Bool) : (s.enterSs4 message counts).shut b = s.shut b := by
  unfold State.enterSs4
  dsimp only
  split
  · rfl
  · split
    · simp only [State.forceMessage_shut, State.drivePsafe_shut, State.unpowered_shut, State.domainsOff_shut,
        State.boxesReset_shut, State.dropCommands_shut]
      rfl
    · simp only [State.drivePsafe_shut, State.unpowered_shut, State.domainsOff_shut, State.boxesReset_shut,
        State.dropCommands_shut]
      rfl

/-- Safe states touch no other part. -/
@[simp] theorem State.force_shut (f : Force) (code cls : Nat) : (s.force f code cls).shut b = s.shut b := by
  by_cases hf : f.level = 4
  · cases f with
    | ss4 => simp [State.force, State.mark]
    | ss4Off => simp [State.force, State.mark]
    | _ => cases hf
  · obtain ⟨-, -, -, -, h⟩ := State.frame_of_quiet (s := s) (t := s.force f code cls) (l := s.cellar.log)
      (s.force_quiet _ hf code cls)
    exact h.shut b

/-- Nor does any fault. -/
@[simp] theorem State.fault_shut (x : FaultIn) : (s.fault x).shut b = s.shut b := by
  unfold State.fault
  dsimp only
  split
  · simp only [State.spoilFrames_shut, State.force_shut]
    rfl
  · split
    · exact ((State.startRecovery_handledQuietly ..).1.shut b).trans (by simp)
    · simp

end

/-- What the parts that SS4 touches are taken from. -/
theorem State.eq_of_shut {s t : State} (h : t.shut t = s.shut t) : t = s.shut t := h

/-! ### Domains -/

section
variable (s : State)

@[simp] theorem State.requeue_power (slice : Nat) : (s.requeue slice).power = s.power := by
  unfold State.requeue
  split <;> simp

@[simp] theorem State.requeue_boxes (slice : Nat) : (s.requeue slice).boxes = s.boxes := by
  unfold State.requeue
  split <;> simp

@[simp] theorem State.requeue_landings (slice : Nat) : (s.requeue slice).landings = s.landings := by
  unfold State.requeue
  split <;> simp

@[simp] theorem State.requeue_mram (slice : Nat) : (s.requeue slice).mram = s.mram := by
  unfold State.requeue
  split <;> simp

@[simp] theorem State.requeue_trust (slice : Nat) : (s.requeue slice).trust = s.trust := by
  unfold State.requeue
  split <;> simp

theorem State.domainsOff_eq (keep : List Nat) : ∃ a : State,
    a = (List.range 32).foldl (fun a k => if k ∈ keep then a else a.requeue k) s ∧ s.domainsOff keep =
      { a with landings := a.landings.mapIdx fun n l =>
                 if n ∈ keep then l
                 else { l with powered := false, pllLocked := false, inProtocol := false, lockWins := 0 },
               sensors := a.sensors.mapIdx fun n x =>
                 if n ∈ keep ∨ 64 ≤ n then x else { x with noSample := true, hist := [], rise := 0, same := 0, far := 0 } } :=
  ⟨_, rfl, rfl⟩

/-- A part that no requeued span touches stays when domains go off, unless it is a landing or a sensor. -/
theorem State.domainsOff_keeps {α : Type} (view : State → α) (keep : List Nat)
    (hq : ∀ (a : State) k, view (a.requeue k) = view a)
    (hv : ∀ (a : State) l x, view { a with landings := l, sensors := x } = view a) :
    view (s.domainsOff keep) = view s := by
  obtain ⟨a, ha, h⟩ := s.domainsOff_eq keep
  rw [h, hv a, ha]
  exact foldl_keeps view _ (fun a k => by by_cases hk : k ∈ keep <;> simp [hk, hq]) _ _

@[simp] theorem State.domainsOff_power (keep : List Nat) : (s.domainsOff keep).power = s.power :=
  s.domainsOff_keeps State.power keep State.requeue_power fun _ _ _ => rfl

@[simp] theorem State.domainsOff_boxes (keep : List Nat) : (s.domainsOff keep).boxes = s.boxes :=
  s.domainsOff_keeps State.boxes keep State.requeue_boxes fun _ _ _ => rfl

@[simp] theorem State.domainsOff_mram (keep : List Nat) : (s.domainsOff keep).mram = s.mram :=
  s.domainsOff_keeps State.mram keep State.requeue_mram fun _ _ _ => rfl

@[simp] theorem State.domainsOff_trust (keep : List Nat) : (s.domainsOff keep).trust = s.trust :=
  s.domainsOff_keeps State.trust keep State.requeue_trust fun _ _ _ => rfl

theorem State.domainsOff_landings (keep : List Nat) : (s.domainsOff keep).landings = s.landings.mapIdx fun n l =>
    if n ∈ keep then l else { l with powered := false, pllLocked := false, inProtocol := false, lockWins := 0 } := by
  obtain ⟨a, ha, h⟩ := s.domainsOff_eq keep
  have hl : a.landings = s.landings := by
    rw [ha]
    exact foldl_keeps State.landings _ (fun a k => by by_cases hk : k ∈ keep <;> simp [hk]) _ _
  rw [h, ← hl]

/-- A domain that is not kept is off. -/
theorem State.domainsOff_landing_off {keep : List Nat} {n : Nat} (hn : n ∉ keep) :
    ((s.domainsOff keep).landing n).powered = false := by
  simp only [State.landing, State.domainsOff_landings, List.getD_eq_getElem?_getD, List.getElem?_mapIdx]
  cases h : s.landings[n]? with
  | none => rfl
  | some l => simp [hn]

theorem State.domainsOff_landing_kept {keep : List Nat} {n : Nat} (hn : n ∈ keep) :
    (s.domainsOff keep).landing n = s.landing n := by
  simp only [State.landing, State.domainsOff_landings, List.getD_eq_getElem?_getD, List.getElem?_mapIdx]
  cases h : s.landings[n]? with
  | none => rfl
  | some l => simp [hn]

/-! ### Entry into SS4 -/

section
variable (s : State)

@[simp] theorem State.drivePsafe_power : s.drivePsafe.power = s.power := rfl
@[simp] theorem State.drivePsafe_mram : s.drivePsafe.mram = s.mram := rfl
@[simp] theorem State.drivePsafe_boxes : s.drivePsafe.boxes = s.boxes := rfl
@[simp] theorem State.drivePsafe_landing (n : Nat) : s.drivePsafe.landing n = s.landing n := rfl
@[simp] theorem State.unpowered_power : s.unpowered.power = s.power := rfl
@[simp] theorem State.unpowered_mram : s.unpowered.mram = s.mram := rfl
@[simp] theorem State.unpowered_boxes : s.unpowered.boxes = s.boxes := rfl
@[simp] theorem State.unpowered_landing (n : Nat) : s.unpowered.landing n = s.landing n := rfl
@[simp] theorem State.boxesReset_power : s.boxesReset.power = { s.power with ready := false } := rfl
@[simp] theorem State.boxesReset_mram : s.boxesReset.mram = s.mram := rfl
@[simp] theorem State.boxesReset_boxes : s.boxesReset.boxes = s.boxes.map fun b => Letterbox.reset b.present := rfl
@[simp] theorem State.dropCommands_power : s.dropCommands.power = s.power := rfl
@[simp] theorem State.dropCommands_mram : s.dropCommands.mram = s.mram := rfl
@[simp] theorem State.dropCommands_boxes : s.dropCommands.boxes = s.boxes := rfl

end

/-- PSAFE is asserted while the chip's signal to every output is (R297). -/
theorem State.drivePsafe_psafe {s : State} (h : s.cellar.psafeAll = true) :
    s.drivePsafe.linkA.psafe = true ∧ s.drivePsafe.linkB.psafe = true := by
  simp [State.drivePsafe, State.psafeCause, h]

@[simp] theorem State.forceMessage_power (m : Nat) : (s.forceMessage m).power = s.power := by
  unfold State.forceMessage
  split <;> rfl

@[simp] theorem State.forceMessage_mram (m : Nat) : (s.forceMessage m).mram = s.mram := by
  unfold State.forceMessage
  split <;> rfl

@[simp] theorem State.forceMessage_landings (m : Nat) : (s.forceMessage m).landings = s.landings := by
  unfold State.forceMessage
  split <;> rfl

@[simp] theorem State.forceMessage_linkA (m : Nat) : (s.forceMessage m).linkA = s.linkA := by
  unfold State.forceMessage
  split <;> rfl

@[simp] theorem State.forceMessage_linkB (m : Nat) : (s.forceMessage m).linkB = s.linkB := by
  unfold State.forceMessage
  split <;> rfl

/-- The machine as SS4 has been noted in Cellar, in its record and in the starts' books, before its parts lose their power. -/
def State.ss4Noted (s : State) (counts : Bool) : State :=
  let times := if counts then s.cellar.ss4Times ++ [s.us] else s.cellar.ss4Times
  let recent := times.filter fun t => s.us < t + 600000000
  let n := sat 16 (s.cellar.ss4Entries + 1)
  { s with cellar := { s.cellar with ss4 := true, psafeAll := true, safeLow := true, heartbeat := false,
                                     ss4Entries := n, ss4Times := recent },
           power := { s.power with lockout := s.power.lockout || (counts && 3 ≤ recent.length),
                                   endpoint := false, ready := false, rails := false, hearth := false,
                                   standby := 0 },
           mram := { s.mram with ss4 := s.mram.ss4.write s.us (n, recent) } }

/-- The parts that SS4 switches off. -/
def State.wentDark (s : State) : State := ((s.dropCommands.boxesReset.domainsOff [54, 61]).unpowered).drivePsafe

theorem State.enterSs4_eq {s : State} (h4 : s.cellar.ss4 = false) (message counts : Bool) :
    s.enterSs4 message counts
      = if message then (s.ss4Noted counts).wentDark.forceMessage 4 else (s.ss4Noted counts).wentDark :=
  if_neg (by simp [h4])

@[simp] theorem State.wentDark_power :
    s.wentDark.power = { s.power with ready := false } := by
  simp [State.wentDark]

@[simp] theorem State.wentDark_mram : s.wentDark.mram = s.mram := by
  simp [State.wentDark]

@[simp] theorem State.wentDark_cellar : s.wentDark.cellar = s.cellar := by
  simp [State.wentDark]

@[simp] theorem State.wentDark_boxes : s.wentDark.boxes = s.boxes.map fun b => Letterbox.reset b.present := by
  simp [State.wentDark]

theorem State.wentDark_landing_off {n : Nat} (h54 : n ≠ 54) (h61 : n ≠ 61) : (s.wentDark.landing n).powered = false := by
  simp only [State.wentDark, State.drivePsafe_landing, State.unpowered_landing]
  exact State.domainsOff_landing_off _ (by simp [h54, h61])

theorem State.wentDark_psafe {s : State} (h : s.cellar.psafeAll = true) :
    s.wentDark.linkA.psafe = true ∧ s.wentDark.linkB.psafe = true :=
  State.drivePsafe_psafe <| by simp [h]

theorem State.enterSs4_cellar {s : State} (h4 : s.cellar.ss4 = false) (message counts : Bool) :
    (s.enterSs4 message counts).cellar = (s.ss4Noted counts).cellar := by
  rw [State.enterSs4_eq h4]
  split <;> simp

theorem State.enterSs4_power {s : State} (h4 : s.cellar.ss4 = false) (message counts : Bool) :
    (s.enterSs4 message counts).power = (s.ss4Noted counts).power := by
  rw [State.enterSs4_eq h4]
  split <;> simp [State.ss4Noted]

theorem State.enterSs4_mram {s : State} (h4 : s.cellar.ss4 = false) (message counts : Bool) :
    (s.enterSs4 message counts).mram = (s.ss4Noted counts).mram := by
  rw [State.enterSs4_eq h4]
  split <;> simp

theorem State.enterSs4_boxes {s : State} (h4 : s.cellar.ss4 = false) (message counts : Bool) :
    (s.enterSs4 message counts).boxes = s.boxes.map fun b => Letterbox.reset b.present := by
  rw [State.enterSs4_eq h4]
  split <;> simp [State.ss4Noted]

theorem State.enterSs4_landing_off {s : State} (h4 : s.cellar.ss4 = false) (message counts : Bool) {n : Nat} (h54 : n ≠ 54)
    (h61 : n ≠ 61) : ((s.enterSs4 message counts).landing n).powered = false := by
  rw [State.enterSs4_eq h4]
  split
  · rw [State.landing, State.forceMessage_landings]
    exact State.wentDark_landing_off _ h54 h61
  · exact State.wentDark_landing_off _ h54 h61

theorem State.enterSs4_psafe {s : State} (h4 : s.cellar.ss4 = false) (message counts : Bool) :
    (s.enterSs4 message counts).linkA.psafe = true ∧ (s.enterSs4 message counts).linkB.psafe = true := by
  rw [State.enterSs4_eq h4]
  split
  · simpa using State.wentDark_psafe (s := s.ss4Noted counts) rfl
  · exact State.wentDark_psafe rfl

/-- Entry into SS4, with what was logged before it and the frames that it spoils. -/
theorem State.entersSs4_of_enterSs4 {s u : State} (h4 : u.cellar.ss4 = false) (message counts : Bool)
    (hboxes : u.boxes.map Letterbox.present = s.boxes.map Letterbox.present) (hshut : ∀ b, u.shut b = s.shut b) :
    s.entersSs4 (u.enterSs4 message counts).spoilFrames := by
  have hcellar : (u.enterSs4 message counts).spoilFrames.cellar = (u.ss4Noted counts).cellar :=
    State.enterSs4_cellar h4 message counts
  have hpower : (u.enterSs4 message counts).spoilFrames.power = (u.ss4Noted counts).power :=
    State.enterSs4_power h4 message counts
  obtain ⟨hA, hB⟩ := State.enterSs4_psafe h4 message counts
  refine ⟨by rw [hcellar]; rfl, by rw [hcellar]; rfl, by rw [hcellar]; rfl, by rw [hcellar]; rfl, hA, hB,
    by rw [hpower]; rfl, by rw [hpower]; rfl, fun f hf => ?_, fun n h54 h61 => State.enterSs4_landing_off h4 _ _ h54 h61, ?_⟩
  · have hb : (u.enterSs4 message counts).spoilFrames.boxes = s.boxes.map fun b => Letterbox.reset b.present := by
      calc _ = (u.boxes.map Letterbox.present).map Letterbox.reset := by
            rw [List.map_map]; exact State.enterSs4_boxes h4 message counts
        _ = _ := by rw [hboxes, List.map_map]; rfl
    simp [State.box, hb, List.getD_eq_getElem?_getD, hf]
  · exact State.eq_of_shut (by rw [State.spoilFrames_shut, State.enterSs4_shut, hshut])

end

end Sys2Proof.Machine
end

section
/-! PROOF. VMAIN lost twice within a second: the report puts the machine in SS4 and repeats its entry of the log
(R550, R559, R620). -/
namespace Sys2Proof.Machine

/-- The report of VMAIN's loss (R618, R621), class FC0, which puts the machine in SS4 without counting towards R581's limit. -/
def offReport : FaultIn := { code := 0xF10, cls := 0, island := 255, detail := 0, force := .ss4Off }

/-- The entry of a loss less than a second before, which it repeats. -/
def offEntry : LogEntry :=
  { seq := 0, cls := 0, island := 255, safe := 4, esc := false, handled := true, lifted := true, time := 0, code := 0xF10,
    frame := 0, detail := 0, count := 1 }

/-- A machine whose letterboxes read READY, with that entry in its log. -/
def readyLogged : State :=
  { State.reset with power := { Power.reset with ready := true }, cellar := { Cellar.reset with log := [offEntry], logSeq := 1 } }

theorem readyLogged_inv : readyLogged.Inv := ⟨by decide, by decide⟩

/-- A repeated report adds to its entry's COUNT and forces its safe state again (R563). -/
theorem State.fault_of_repeated {s : State} {x : FaultIn} {e : LogEntry} (h : s.repeated x = some e) :
    s.fault x = ((s.modLog (fun g => g.seq == e.seq) fun g => { g with count := sat 16 (g.count + 1) }).force (s.forceOf x)
      x.code (min (s.classOf x) 4)).spoilFrames := by
  unfold State.fault
  rw [h]

/-- READY is gone in SS4, whether or not the report that forces it repeats an entry. -/
theorem State.fault_repeated_ready {s : State} {x : FaultIn} {e : LogEntry} (h4 : s.cellar.ss4 = false)
    (hrep : s.repeated x = some e) (hforce : s.forceOf x = .ss4Off) : (s.fault x).power.ready = false := by
  rw [State.fault_of_repeated hrep, hforce]
  generalize hu : s.modLog _ _ = u
  have hu4 : u.cellar.ss4 = false := by rw [← hu]; exact h4
  exact congrArg Power.ready (State.enterSs4_power hu4 true false)

theorem readyLogged_fault : (readyLogged.fault offReport).power.ready = false :=
  State.fault_repeated_ready (e := offEntry) rfl (by decide) (by decide)

/-- Refutes O17: of the two ways into SS4 the statement's second clause leaves out one. VMAIN lost twice within
a second is one entry with COUNT 2, and the second loss takes READY away, which handling a fault without SS4 never touches. -/
theorem not_faultsAreClassedAndLogged : ¬ Obligations.FaultsAreClassedAndLogged := by
  rintro ⟨-, hcounted⟩
  obtain ⟨-, -, -, hsame⟩ := hcounted offReport readyLogged offEntry (by decide) (by decide) (by decide) (by decide)
  have hready : (readyLogged.fault offReport).power = readyLogged.power := by rw [hsame]
  have hlost := readyLogged_fault
  rw [hready] at hlost
  exact absurd hlost (by decide)

end Sys2Proof.Machine
end

section
/-! PROOF. The boot of a machine whose link is not off: LINK_EN being 0 ends what the link's faults forced (R300, R557, R579). -/
namespace Sys2Proof.Machine

/-! ### The fault log while ports start -/

theorem State.startPort_books (s : State) (p : RPort) (o : OutId) : (s.startPort p).books o = s.books o := by
  have hring (u : State) (q : RPort) (g : RingPort → RingPort) : (u.modRport q g).books o = u.books o := by
    cases q <;> cases o <;> rfl
  have hcal (ns : List Nat) : (ns.foldl (fun a n => a.abortCal n) s).books o = s.books o :=
    foldl_keeps (State.books · o) _ (fun a n => a.abortCal_books o n) ns s
  unfold State.startPort
  split
  · rw [State.idlePort, State.modLanes_books, hring]
  · rw [hring, State.wakePort_books, State.lneWindow_books, hcal]

@[simp] theorem State.idlePort_cellar (s : State) (p : Nat) : (s.idlePort p).cellar = s.cellar :=
  foldl_keeps State.cellar _ (fun a n => a.modLane_cellar n _) _ _

/-- Ends of a link's faults depend on Cellar alone. -/
theorem State.linkRestored_cellar {s u : State} (h : s.cellar = u.cellar) (o : OutId) :
    (s.linkRestored o).cellar = (u.linkRestored o).cellar := by
  have hrel (v : State) : v.releaseHold.cellar = v.cellar := by
    obtain ⟨tr, h⟩ := v.releaseHold_eq
    rw [h]
  simp only [State.linkRestored, hrel, State.noteLifts, State.modLog, State.modCellar, h]

/-- LINK_EN live at 0 disables a link and ends what its faults forced. -/
theorem State.linkEnLive_log {s : State} {o : OutId} (hen : s.linkEn o = false) (hst : (s.link o).st ≠ .disabled)
    {u : State} (hu : s.cellar = u.cellar) : (s.linkEnLive o).cellar.log = (u.linkRestored o).cellar.log := by
  unfold State.linkEnLive
  rw [if_neg (by simp [hen]), if_neg hst]
  dsimp only
  rw [State.noteTe_eq]
  refine congrArg Cellar.log (State.linkRestored_cellar ?_ o)
  simp [hu]

/-! ### The machine -/

/-- The entry of a link's fault, whose SS3 nothing forces any more. -/
def darkEntry : LogEntry :=
  { seq := 0, cls := 3, island := 44, safe := 3, esc := false, handled := true, lifted := false, time := 0, code := 0x601,
    frame := 0, detail := 0, count := 1 }

/-- An E1 with its rails up, whose output A's link is ACTIVE though LINK_EN is 0, and with that entry in its log. -/
def railsUpLinked : State :=
  { readyE1 with
    power := { Power.reset with rails := true }
    landings := readyE1.landings.set 44 ((Landing.reset true).setLive .spl .A 0 [(0x800, 0)])
    linkA := { Link.reset with st := .active }
    cellar := { Cellar.reset with log := [darkEntry], logSeq := 1 } }

/-- A delivered device holds one image, and its seal holds. -/
theorem railsUpLinked_bootImage : railsUpLinked.bootImage = some (FwImage.factory, 0, false) := by
  have hfw : railsUpLinked.fwRecs = { a := some (sealRec 1 0x41 FwImage.payload 1 0 FwImage.factory), b := none } := by
    show AB.sound 1 0x41 FwImage.payload { a := some (sealRec 1 0x41 FwImage.payload 1 0 FwImage.factory), b := none } = _
    simp [AB.sound]
  have hpass : railsUpLinked.fwPasses FwImage.factory = true := by decide
  unfold State.bootImage
  rw [hfw]
  simp [hpass]

/-- What the boot hands to the ports: Hearth runs. -/
def railsUpBooted : State :=
  let s := railsUpLinked.modTrust fun t => { t with firmware := some FwImage.factory, bootCopy := 0, fallback := false }
  let s := (s.modPower fun p => { p with hearth := true }).modCellar fun c => { c with hearthAt := s.us }
  let tail := s.tailRecs.newest
  (s.modAudit fun a => { a with startDue := some 0, segment := (tail.map (·.val.1)).getD 0,
                                prevHash := (tail.map (·.val.2)).getD (zeros 64) })

theorem railsUpLinked_exec : exec .bootVerifyDone railsUpLinked = .next
    (((((railsUpBooted.idlePort 0).idlePort 1).linkEnLive .A).startPort .east).startPort .west).drivePsafe := by
  show execBootVerifyDone railsUpLinked = _
  simp only [execBootVerifyDone, railsUpLinked_bootImage]
  rfl

/-- A machine with the Cellar that the boot leaves. -/
def darkCellar : State := { State.reset with cellar := { Cellar.reset with log := [darkEntry], logSeq := 1 } }

/-- Refutes O24 in `Clause.FirmwareIsVerified`: the clause has the fault log as it was once an image passes, whatever the links'
states are. Where a link is not disabled at the boot though LINK_EN is 0, the boot disables it, and the log notes that the safe
states of its faults are lifted (R300, R563, R579). -/
theorem not_startUpGoesOn : ¬ Obligations.StartUpGoesOn := by
  rintro ⟨-, hboot⟩
  obtain ⟨-, hboot⟩ := hboot railsUpLinked
  obtain ⟨-, hruns⟩ := hboot rfl rfl rfl
  obtain ⟨t, ht, -, -, -, -, -, -, -, -, hlog, -⟩ := hruns _ _ _ railsUpLinked_bootImage
  have hlinks : (((railsUpBooted.idlePort 0).idlePort 1).linkEnLive .A).cellar.log = (darkCellar.linkRestored .A).cellar.log :=
    State.linkEnLive_log (by decide) (by decide) (by simp; rfl)
  rw [railsUpLinked_exec] at ht
  cases ht
  have hports (u : State) : ((u.startPort .east).startPort .west).drivePsafe.cellar.log = u.cellar.log := by
    have hb : ((u.startPort .east).startPort .west).drivePsafe.books .A = u.books .A := by
      rw [State.drivePsafe_books, State.startPort_books, State.startPort_books]
    exact congrArg (fun b => b.2.1) hb
  rw [hports, hlinks] at hlog
  exact absurd hlog (by decide)

end Sys2Proof.Machine
end

section
/-! PROOF. The verification of an output's frames, and STANDBY (R622, R623, R649). -/
namespace Sys2Proof.Machine

/-! ### Verification (R649) -/

/-- The report of an output without a verified frame. -/
def verifyReport (o : OutId) : FaultIn := { code := 0xE09, cls := 2, island := 44 + o.num, detail := 0, force := .ss3 o }

theorem State.dark_ss3 (s : State) (os : List OutId) (code : Nat) (fc4 message : Bool) :
    (s.dark os code fc4 message).cellar.ss3 = os.foldl (fun ds o => addDark ds o code fc4 s.us) s.cellar.ss3 := by
  cases message <;> simp [State.dark]

theorem State.force_ss3_cellar (s : State) (o : OutId) (code : Nat) {cls : Nat} (h : cls ≠ 4) :
    (s.force (.ss3 o) code cls).cellar.ss3 = addDark s.cellar.ss3 o code false s.us := by
  simp only [State.force, if_neg h]
  exact State.dark_ss3 ..

@[simp] theorem State.enterLog_ss3 (s : State) (x : FaultIn) : (s.enterLog x).cellar.ss3 = s.cellar.ss3 := by
  simp only [State.enterLog]

@[simp] theorem State.enterLog_us (s : State) (x : FaultIn) : (s.enterLog x).us = s.us := by
  simp only [State.us, State.enterLog]

@[simp] theorem State.eventAll_cellar (s : State) (code : Nat) (data : List Byte) :
    (s.eventAll code data).cellar = s.cellar := rfl

@[simp] theorem State.eventAll_us (s : State) (code : Nat) (data : List Byte) : (s.eventAll code data).us = s.us := rfl

@[simp] theorem State.spoilFrames_cellar (s : State) : s.spoilFrames.cellar = s.cellar := rfl

/-- SS3 that a fault of FC2 forces on an output. -/
theorem State.fault_fc2_ss3 {s : State} {x : FaultIn} {o : OutId} (hh : s.handling = false) (hx : x.cls = 2)
    (hf : x.force = .ss3 o) :
    (s.fault x).cellar.ss3 = addDark s.cellar.ss3 o x.code false s.us := by
  have hc : s.classOf x = 2 := State.classOf_fc2 hh hx
  have hnew : s.repeated x = none := if_neg (by omega)
  have hforce : s.forceOf x = .ss3 o := by rw [← hf]; exact if_neg (by omega)
  have hrec : ¬ (recoverable x (min (s.classOf x) 4) = true ∧ s.classOf x ≤ 4) := by simp [recoverable, hc]
  unfold State.fault
  simp only [hnew, hforce, if_neg hrec]
  rw [State.spoilFrames_cellar, State.force_ss3_cellar _ o x.code (by omega)]
  rw [State.eventAll_cellar, State.eventAll_us, State.enterLog_ss3, State.enterLog_us]

theorem mem_addDark (ds : List Dark) (o : OutId) (code : Nat) (fc4 : Bool) (now : Nat) :
    ({ out := o, code := code, fc4 := fc4, since := now } : Dark) ∈ addDark ds o code fc4 now := by
  simp [addDark]

theorem exec_verifyTimeout {o : OutId} {s : State} (hl : (s.link o).st = .active) (hv : (s.out o).verified = false)
    (hk : (s.out o).knownV = false) (hd : ∀ d ∈ s.cellar.ss3, ¬ (d.out = o ∧ d.code = 0xE09)) :
    exec (.verifyTimeout o) s = .next ((s.atUs ((s.out o).activeAt + 2000000)).fault (verifyReport o)) := by
  have hnone : s.cellar.ss3.any (fun d => d.out == o && d.code == 0xE09) = false := by
    simpa [List.any_eq_false] using hd
  show execVerifyTimeout o s = _
  simp [execVerifyTimeout, hl, hv, hk, hnone, verifyReport]

theorem exec_verifyTimeout_idle {o : OutId} {s : State}
    (h : (s.link o).st ≠ .active ∨ (s.out o).verified = true ∨ (s.out o).knownV = true) :
    exec (.verifyTimeout o) s = .next s := by
  show execVerifyTimeout o s = _
  rcases h with h | h | h <;> simp [execVerifyTimeout, h]

/-! ### STANDBY (R622, R623) -/

/-- The islands that are on in STANDBY. -/
def standbyOn : List Nat := [48, 53, 54, 60, 61, 62, 63]

theorem State.modLanes_eq (s : State) (ns : List Nat) (g : Lane → Lane) : ∃ l, s.modLanes ns g = { s with lanes := l } := by
  induction ns generalizing s with
  | nil => exact ⟨s.lanes, rfl⟩
  | cons n ns ih =>
    obtain ⟨l, hl⟩ := ih (s.modLane n g)
    exact ⟨l, hl⟩

theorem State.foldl_idlePort_eq (ps : List Nat) (s : State) :
    ∃ l, ps.foldl (fun a p => a.idlePort p) s = { s with lanes := l } := by
  induction ps generalizing s with
  | nil => exact ⟨s.lanes, rfl⟩
  | cons p ps ih =>
    obtain ⟨l, hl⟩ := s.modLanes_eq ((portLanes p).filter s.variant.hasLane) fun l =>
      { l with st := 2, exiting := false, lock := false }
    obtain ⟨m, hm⟩ := ih (s.idlePort p)
    exact ⟨m, hm.trans (by rw [State.idlePort, hl])⟩

@[simp] theorem State.requeue_frameNum (s : State) (slice : Nat) (o : OutId) :
    ((s.requeue slice).out o).frameNum = (s.out o).frameNum := by
  unfold State.requeue
  split
  · rfl
  · next p _ =>
    cases o <;> cases p.out <;> rfl

@[simp] theorem State.domainsOff_frameNum (s : State) (keep : List Nat) (o : OutId) :
    ((s.domainsOff keep).out o).frameNum = (s.out o).frameNum :=
  s.domainsOff_keeps (fun a => (a.out o).frameNum) keep (fun a k => a.requeue_frameNum k o) fun _ _ _ => by cases o <;> rfl

@[simp] theorem State.domainsOff_commits (s : State) (keep : List Nat) : (s.domainsOff keep).commits = s.commits :=
  have h := congrArg State.commits (s.domainsOff_shut s keep)
  h

@[simp] theorem State.domainsOff_shadow (s : State) (keep : List Nat) : (s.domainsOff keep).shadow = s.shadow :=
  have h := congrArg State.shadow (s.domainsOff_shut s keep)
  h

@[simp] theorem State.domainsOff_dram (s : State) (keep : List Nat) : (s.domainsOff keep).dram = s.dram :=
  have h := congrArg State.dram (s.domainsOff_shut s keep)
  h

/-- What STANDBY leaves of a machine whose domains have gone off, after the outputs' frames `a` and `b`. -/
def State.standbyOf (s : State) (a b : Nat) : State :=
  let o := fun (x : Output) =>
    { x with prepFrame := w32 (x.frameNum + 1), prepY := 0, regions := [],
             frames := x.frames.filter fun i => i.frame == x.frameNum }
  { s with
    outA := o s.outA, outB := o s.outB,
    landings := s.landings.map fun (l : Landing) => { l with swapA := a, swapB := b },
    commits := { s.commits with
      doors := s.commits.doors.map fun (d : OutId × Door) =>
        (d.1, { d.2 with closeN := (s.out d.1).frameNum, swapN := (s.out d.1).frameNum, closing := false }),
      pend := s.commits.pend.map fun (p : Pend) =>
        { p with fixA := p.fixA.filter fun n => !ahead n a, fixB := p.fixB.filter fun n => !ahead n b } },
    power := { s.power with standby := 3 },
    dram := { s.dram with st := 3 } }

theorem State.standbyOf_powered (s : State) (a b n : Nat) :
    (((s.standbyOf a b).drivePsafe).landing n).powered = (s.landing n).powered := by
  rw [State.drivePsafe_landing]
  simp only [State.standbyOf, State.landing, List.getD_eq_getElem?_getD, List.getElem?_map]
  cases s.landings[n]? <;> rfl

theorem exec_standbyReached {s : State} (hs : s.power.standby = 2) (hf : s.power.stdFrames = []) :
    exec .standbyReached s
      = .next (((List.range 4).foldl (fun a p => a.idlePort p) (s.domainsOff standbyOn).unpowered).standbyOf
          s.outA.frameNum s.outB.frameNum).drivePsafe := by
  show execStandbyReached s = _
  unfold execStandbyReached
  rw [if_neg (by simp [hs, hf])]
  simp only [State.standbyOf, standbyOn]

/-- Settles O26: a missing verification is one fault of FC2 (R649), and STANDBY is domains that go off (R622, R623). -/
theorem verificationAndStandby : Obligations.VerificationAndStandby := by
  intro s
  refine ⟨fun o hl hv hk hd hh => ?_, fun o h => exec_verifyTimeout_idle h, fun h => ?_, fun hs hf => ?_⟩
  · have hcls : State.classOf (s.atUs ((s.out o).activeAt + 2000000)) (verifyReport o) = 2 := State.classOf_fc2 hh rfl
    obtain ⟨hsame, hlogs⟩ := State.fault_logs (s.atUs ((s.out o).activeAt + 2000000)) (x := verifyReport o) (by omega) (by omega)
      (by simp [verifyReport, Force.level])
    refine ⟨_, exec_verifyTimeout hl hv hk hd, hlogs, hsame,
      { out := o, code := 0xE09, fc4 := false, since := (s.atUs ((s.out o).activeAt + 2000000)).us }, ?_, rfl, rfl, rfl⟩
    rw [State.fault_fc2_ss3 (s := s.atUs _) (x := verifyReport o) (o := o) hh rfl rfl]
    exact mem_addDark ..
  · exact congrArg _ (if_pos h)
  · obtain ⟨l, hl⟩ := State.foldl_idlePort_eq (List.range 4) (s.domainsOff standbyOn).unpowered
    have hpsafe (u : State) (h : u.power.standby = 3) : u.drivePsafe.linkA.psafe = true ∧ u.drivePsafe.linkB.psafe = true := by
      simp [State.drivePsafe, State.psafeCause, h]
    refine ⟨_, exec_standbyReached hs hf, ?_, ?_, fun n hn => ?_, fun n hn => ?_, (hpsafe _ rfl).1, (hpsafe _ rfl).2, ?_⟩
    all_goals rw [hl]
    · rw [← s.domainsOff_power standbyOn]
      generalize s.domainsOff standbyOn = u
      rfl
    · rw [← s.domainsOff_dram standbyOn]
      generalize s.domainsOff standbyOn = u
      rfl
    · rw [State.standbyOf_powered]
      have hoff := s.domainsOff_landing_off (keep := standbyOn) hn
      generalize s.domainsOff standbyOn = u at hoff ⊢
      exact hoff
    · rw [State.standbyOf_powered]
      have hkept := s.domainsOff_landing_kept (keep := standbyOn) hn
      generalize s.domainsOff standbyOn = u at hkept ⊢
      exact congrArg Landing.powered hkept
    · rw [← s.domainsOff_commits standbyOn, ← s.domainsOff_trust standbyOn, ← s.domainsOff_cellar standbyOn,
        ← s.domainsOff_boxes standbyOn, ← s.domainsOff_shadow standbyOn, ← s.domainsOff_mram standbyOn]
      have hframe := s.domainsOff_frameNum standbyOn .A
      generalize s.domainsOff standbyOn = u at hframe ⊢
      refine ⟨hframe, ?_, rfl, rfl, rfl, rfl, rfl⟩
      exact List.map_map

end Sys2Proof.Machine
end

section
/-! PROOF. What taking a fault makes of Cellar, and of the machine where it forces SS4 (R550, R555 to R564). -/
namespace Sys2Proof.Machine

/-! ### Steps of taking a fault -/

/-- A report that repeats no entry: its own entry and event, its safe state, and the recovery that it starts. -/
theorem State.fault_of_new {s : State} {x : FaultIn} (h : s.repeated x = none) : ∃ data, ∀ t,
    t = (((s.enterLog x).eventAll 0x8D00 data).force (s.forceOf x) x.code (min (s.classOf x) 4)).spoilFrames →
    s.fault x = if recoverable x (min (s.classOf x) 4) ∧ s.classOf x ≤ 4 then
      t.startRecovery x.island x.code (s.entryOf x).seq (isStore x.code) else t := by
  unfold State.fault
  simp only [h]
  exact ⟨_, fun t ht => by rw [ht]⟩

/-- A report of FC2 to FC4 repeats no entry. -/
theorem State.repeated_none (s : State) {x : FaultIn} (h : 2 ≤ s.classOf x) : s.repeated x = none := if_neg (by omega)

/-- No rule lowers the class of a report. -/
theorem State.cls_le_classOf (s : State) (x : FaultIn) : min x.cls 4 ≤ s.classOf x := by
  unfold State.classOf
  split
  · omega
  · unfold State.classUp
    split <;> omega

/-! ### Cellar -/

theorem State.splReset_cellar (s : State) (isl : Nat) : (s.splReset isl).cellar = s.cellar := by
  unfold State.splReset
  split
  · cases outOf (isl - 44) <;> rfl
  · rfl

theorem State.interruptHearth_cellar (s : State) : s.interruptHearth.cellar = s.cellar :=
  List.foldlRecOn (motive := fun a : State => a.cellar = s.cellar) _ _ rfl fun _ ha _ _ => ha

/-- The recovery that a fault starts. -/
def newRecovery (s : State) (isl code seq : Nat) (store : Bool) : Recovery :=
  { island := isl, code := code, logSeq := seq, resetAt := s.us, replayed := false, rejoin := none, store := store }

theorem State.startRecovery_cellar (s : State) (isl code seq : Nat) (store : Bool) :
    (s.startRecovery isl code seq store).cellar
      = { s.cellar with recov := s.cellar.recov ++ [newRecovery s isl code seq store] } := by
  have hreset (l : List Nat) (seed : State → Nat) (a : State) :
      (l.foldl (fun (a : State) k => ((a.requeue k).splReset k).modLanding k fun l => l.relock (seed a) k) a).cellar
        = a.cellar :=
    foldl_keeps State.cellar _ (fun a k => by rw [State.modLanding_cellar, State.splReset_cellar, State.requeue_cellar]) _ _
  unfold State.startRecovery
  dsimp only
  split
  · rfl
  · split
    · rw [State.interruptHearth_cellar]
      exact hreset _ (fun _ => _) _
    · exact hreset _ (fun _ => _) _

theorem State.mark_cellar (s : State) (f : Force) (code : Nat) :
    ∃ a b, (s.mark f code).cellar = { s.cellar with ss1 := a, ss2 := b } := by
  cases f <;> exact ⟨_, _, rfl⟩

theorem State.dark_cellar (s : State) (os : List OutId) (code : Nat) (fc4 message : Bool) :
    ∃ d, (s.dark os code fc4 message).cellar = { s.cellar with ss3 := d } := by
  cases message
  · exact ⟨_, rfl⟩
  · refine ⟨_, (State.forceMessage_cellar _ 3).trans rfl⟩

/-- What a safe state below SS4 does to Cellar. -/
theorem State.force_cellar (s : State) {f : Force} (hf : f.level ≠ 4) (code cls : Nat) :
    ∃ a b d, (s.force f code cls).cellar = { s.cellar with ss1 := a, ss2 := b, ss3 := d } := by
  obtain ⟨a, b, hmark⟩ := s.mark_cellar f code
  have hdark (os : List OutId) (fc4 message : Bool) :
      ∃ a b d, ((s.mark f code).dark os code fc4 message).cellar = { s.cellar with ss1 := a, ss2 := b, ss3 := d } := by
    obtain ⟨d, hd⟩ := (s.mark f code).dark_cellar os code fc4 message
    exact ⟨a, b, d, by rw [hd, hmark]⟩
  have hnone : ∃ a b d, (s.mark f code).cellar = { s.cellar with ss1 := a, ss2 := b, ss3 := d } :=
    ⟨a, b, s.cellar.ss3, hmark⟩
  have hrest (p : Prop) [Decidable p] (os os' : List OutId) (c c' m m' : Bool) :
      ∃ a b d, (if p then (s.mark f code).dark os code c m else (s.mark f code).dark os' code c' m').cellar
        = { s.cellar with ss1 := a, ss2 := b, ss3 := d } := by
    split
    · exact hdark ..
    · exact hdark ..
  have hmild (p : Prop) [Decidable p] :
      ∃ a b d, (if p then (s.mark f code).dark s.outs code true true else s.mark f code).cellar
        = { s.cellar with ss1 := a, ss2 := b, ss3 := d } := by
    split
    · exact hdark ..
    · exact hnone
  cases f with
  | ss4 => exact absurd rfl hf
  | ss4Off => exact absurd rfl hf
  | ss3 o => exact hrest ..
  | ss3All => exact hdark ..
  | ss3Quiet => exact hdark ..
  | _ => exact hmild _

/-- SS4 is never left by a fault. -/
theorem State.force_ss4 {s : State} (h : s.cellar.ss4 = true) (f : Force) (code cls : Nat) :
    (s.force f code cls).cellar.ss4 = true := by
  by_cases hf : f.level = 4
  · cases f with
    | ss4 => exact State.enterSs4_ss4 ..
    | ss4Off => exact State.enterSs4_ss4 ..
    | _ => cases hf
  · obtain ⟨a, b, d, hc⟩ := s.force_cellar hf code cls
    rw [hc, h]

@[simp] theorem State.enterLog_ss4 (s : State) (x : FaultIn) : (s.enterLog x).cellar.ss4 = s.cellar.ss4 := by
  simp only [State.enterLog]

theorem State.fault_ss4_stays {s : State} (h : s.cellar.ss4 = true) (x : FaultIn) : (s.fault x).cellar.ss4 = true := by
  cases hr : s.repeated x with
  | some e =>
    rw [State.fault_of_repeated hr, State.spoilFrames_cellar]
    exact State.force_ss4 (by exact h) ..
  | none =>
    obtain ⟨data, ht⟩ := State.fault_of_new hr
    rw [ht _ rfl]
    generalize hu : State.spoilFrames _ = u
    have hu4 : u.cellar.ss4 = true := by
      rw [← hu, State.spoilFrames_cellar]
      exact State.force_ss4 (by rw [State.eventAll_cellar, State.enterLog_ss4, h]) ..
    split
    · rw [State.startRecovery_cellar]
      exact hu4
    · exact hu4

/-! ### A fault that forces SS4 -/

theorem Letterbox.postEvent_present (b : Letterbox) (now code : Nat) (data : List Byte) :
    (b.postEvent now code data).present = b.present := by
  have hraise (c : Letterbox) (e : Bool) : (c.raiseEq now e).present = c.present := by
    unfold Letterbox.raiseEq Letterbox.fire
    split
    · split <;> rfl
    · rfl
  unfold Letterbox.postEvent
  split
  · rfl
  · split
    · rfl
    · exact hraise _ _

theorem State.eventAll_present (s : State) (code : Nat) (data : List Byte) :
    (s.eventAll code data).boxes.map Letterbox.present = s.boxes.map Letterbox.present := by
  apply List.ext_getElem
  · simp [State.eventAll]
  · intro n h1 h2
    simp only [State.eventAll, List.getElem_map, List.getElem_mapIdx]
    split
    · exact Letterbox.postEvent_present ..
    · rfl

@[simp] theorem State.ss4Noted_log (s : State) (counts : Bool) : (s.ss4Noted counts).cellar.log = s.cellar.log := rfl

@[simp] theorem State.ss4Noted_thermStop (s : State) (counts : Bool) :
    (s.ss4Noted counts).power.thermStop = s.power.thermStop := rfl

@[simp] theorem State.ss4Noted_shutdown (s : State) (counts : Bool) :
    (s.ss4Noted counts).mram.shutdown = s.mram.shutdown := rfl

@[simp] theorem State.eventAll_power (s : State) (code : Nat) (data : List Byte) : (s.eventAll code data).power = s.power := rfl

@[simp] theorem State.eventAll_mram (s : State) (code : Nat) (data : List Byte) : (s.eventAll code data).mram = s.mram := rfl

/-- A report of FC2 to FC4 that forces SS4 is SS4 at once, behind its entry and its event. -/
theorem State.fault_ss4 (s : State) {x : FaultIn} (hx : 2 ≤ x.cls) (hf : x.force = .ss4) :
    ∃ data, s.fault x = (((s.enterLog x).eventAll 0x8D00 data).enterSs4 true true).spoilFrames := by
  have hc : 2 ≤ s.classOf x := le_trans (by omega) (s.cls_le_classOf x)
  have hforce : s.forceOf x = .ss4 := by
    unfold State.forceOf
    split
    · rfl
    · exact hf
  obtain ⟨data, ht⟩ := State.fault_of_new (s.repeated_none hc)
  refine ⟨data, ?_⟩
  rw [ht _ rfl, if_neg (by simp [recoverable, hf]), hforce]
  rfl

section
variable {s : State} {x : FaultIn} (hx : 2 ≤ x.cls) (hf : x.force = .ss4) (h4 : s.cellar.ss4 = false)
include hx hf h4

theorem State.fault_entersSs4 : s.entersSs4 (s.fault x) := by
  obtain ⟨data, h⟩ := s.fault_ss4 hx hf
  rw [h]
  refine State.entersSs4_of_enterSs4 (by rw [State.eventAll_cellar, State.enterLog_ss4, h4]) true true ?_ fun b => ?_
  · rw [State.eventAll_present, State.enterLog_boxes]
  · rw [State.eventAll_shut, State.enterLog_shut]

theorem State.fault_ss4_logs : s.logs (s.fault x) x.code x.island := by
  obtain ⟨data, h⟩ := s.fault_ss4 hx hf
  refine State.logs_of_mem ?_
  rw [h, State.spoilFrames_cellar, State.enterSs4_cellar (by rw [State.eventAll_cellar, State.enterLog_ss4, h4])]
  have hlog : (s.enterLog x).cellar.log = logAppend s.cellar.log (s.entryOf x) := by simp only [State.enterLog]
  rw [State.ss4Noted_log, State.eventAll_cellar, hlog]
  exact mem_logAppend_self _ _

theorem State.fault_ss4_thermStop : (s.fault x).power.thermStop = s.power.thermStop := by
  obtain ⟨data, h⟩ := s.fault_ss4 hx hf
  have hp : (s.enterLog x).power = s.power := by simp only [State.enterLog]
  have hs : (s.fault x).power = _ :=
    (congrArg State.power h).trans (State.enterSs4_power (by rw [State.eventAll_cellar, State.enterLog_ss4, h4]) true true)
  rw [hs, State.ss4Noted_thermStop, State.eventAll_power, hp]

theorem State.fault_ss4_shutdown : (s.fault x).mram.shutdown = s.mram.shutdown := by
  obtain ⟨data, h⟩ := s.fault_ss4 hx hf
  have hp : (s.enterLog x).mram.shutdown = s.mram.shutdown := by simp only [State.enterLog]
  have hs : (s.fault x).mram = _ :=
    (congrArg State.mram h).trans (State.enterSs4_mram (by rw [State.eventAll_cellar, State.enterLog_ss4, h4]) true true)
  rw [hs, State.ss4Noted_shutdown, State.eventAll_mram, hp]

end

end Sys2Proof.Machine
end

section
/-! PROOF. Sensors, throttling and thermal stops (R389, R628 to R636). -/
namespace Sys2Proof.Machine

/-! ### Samples -/

theorem State.modSensor_sensor_self {s : State} {n : Nat} (h : n < s.sensors.length) (g : Sensor → Sensor) :
    (s.modSensor n g).sensor n = g (s.sensor n) := by
  simp [State.sensor, List.getD_eq_getElem?_getD, h]

theorem State.modSensor_sensor_ne (s : State) {n k : Nat} (h : k ≠ n) (g : Sensor → Sensor) :
    (s.modSensor n g).sensor k = s.sensor k := by
  simp [State.sensor, List.getD_eq_getElem?_getD, Ne.symm h]

/-- The median of a sensor's group as a reading comes in (R630). -/
def State.medianWith (s : State) (n : Nat) (x : Int) : Int :=
  (s.modSensor n fun y => { y with temp := x, noSample := false }).groupMedian n

/-- A machine with a reading of a sensor. -/
def State.sampledAt (s : State) (n : Nat) (x : Int) : State := s.modSensor n fun y => y.sample x (s.medianWith n x)

/-- The report of a broken sensor (R638). -/
def brokenReport (n : Nat) : FaultIn :=
  { code := 0xF03, cls := 2, island := if n < 64 then n else 255, detail := n, force := .none }

/-- A reading that finds its sensor broken is reported. -/
def State.sampleHeard (s : State) (n : Nat) (x : Int) : State :=
  if ((s.sampledAt n x).sensor n).broken && !(s.sensor n).broken then (s.sampledAt n x).fault (brokenReport n)
  else s.sampledAt n x

/-- The time since which every sensor is cool (R632). -/
def State.cooled (s : State) : State :=
  s.modPower fun p => { p with coolAt := if s.coolNow then some (p.coolAt.getD s.us) else none }

/-- A sensor gives samples while Cellar runs, its domain is on and its offset is not being calibrated (R389, R628). -/
def State.samples (s : State) (n : Nat) : Prop :=
  n < 68 ∧ s.cellar.ctlRuns = true ∧ (s.sensor n).cal = false ∧ (64 ≤ n ∨ (s.landing n).powered = true)

theorem exec_sensorSample_idle {s : State} {n : Nat} (x : Int)
    (h : 68 ≤ n ∨ s.cellar.ctlRuns = false ∨ (s.sensor n).cal = true ∨ (n < 64 ∧ (s.landing n).powered = false)) :
    exec (.sensorSample n x) s = .next s := by
  show execSensorSample n x s = _
  unfold execSensorSample
  rw [if_pos (by tauto)]

/-- What a sample calls for once it has been heard (R631, R634). -/
def State.sampleActs (s : State) (n : Nat) : State :=
  match s.critical n with
  | some cause => s.thermalStop n cause
  | none => if s.reqCond n && s.power.graceEnd.isNone && s.power.stepLive == 0 then s.requestStep n else s

theorem exec_sensorSample {s : State} {n : Nat} (x : Int) (h : s.samples n) :
    exec (.sensorSample n x) s = .next (
      if (s.sampleHeard n x).cooled.power.thermWait then
        (if (s.sampleHeard n x).cooled.modulesCool then (s.sampleHeard n x).cooled.goRails else (s.sampleHeard n x).cooled)
      else if (s.sampleHeard n x).cooled.cellar.ss4 || !(s.sampleHeard n x).cooled.power.rails then (s.sampleHeard n x).cooled
      else (s.sampleHeard n x).cooled.sampleActs n) := by
  obtain ⟨hn, hrun, hcal, hon⟩ := h
  show execSensorSample n x s = _
  unfold execSensorSample
  rw [if_neg (by
    rintro (h | h | ⟨h, hoff⟩ | h)
    · omega
    · simp [hrun] at h
    · rcases hon with hon | hon
      · omega
      · simp [hon] at hoff
    · simp [hcal] at h)]
  rfl

theorem Sensor.sample_temp (y : Sensor) (x m : Int) : (y.sample x m).temp = x := rfl

theorem Sensor.sample_noSample (y : Sensor) (x m : Int) : (y.sample x m).noSample = false := rfl

theorem State.sampledAt_sensor {s : State} {n : Nat} (h : n < s.sensors.length) (x : Int) :
    (s.sampledAt n x).sensor n = (s.sensor n).sample x (s.medianWith n x) := State.modSensor_sensor_self h _

/-- A report changes what handling it touches; the rest, sensors and power among them, is as the sample left it. -/
theorem State.sampleHeard_frame (s : State) (n : Nat) (x : Int) :
    (s.sampledAt n x).sameButHandling (s.sampleHeard n x)
      ∧ (((s.sampledAt n x).sensor n).broken = true → (s.sensor n).broken = false →
          s.logs (s.sampleHeard n x) 0xF03 (if n < 64 then n else 255))
      ∧ (((s.sampledAt n x).sensor n).broken = false ∨ (s.sensor n).broken = true → s.sampleHeard n x = s.sampledAt n x) := by
  obtain ⟨hsame, hlogs⟩ := (s.sampledAt n x).fault_fc2 (x := brokenReport n) rfl (by simp [brokenReport, Force.level])
  unfold State.sampleHeard
  refine ⟨?_, fun hb hw => ?_, fun h => ?_⟩
  · split
    · exact hsame
    · rfl
  · rw [if_pos (by simp [hb, hw])]
    exact hlogs.of_eq rfl rfl
  · exact if_neg (by rcases h with h | h <;> simp [h])

theorem State.sameButHandling.sensors {s t : State} (h : s.sameButHandling t) : t.sensors = s.sensors ∧ t.power = s.power := by
  unfold State.sameButHandling at h
  rw [h]
  exact ⟨rfl, rfl⟩

theorem State.sampleHeard_sensor (s : State) (n : Nat) (x : Int) (k : Nat) :
    (s.sampleHeard n x).sensor k = (s.sampledAt n x).sensor k := by
  obtain ⟨hsame, -, -⟩ := s.sampleHeard_frame n x
  rw [State.sensor, hsame.sensors.1]
  rfl

theorem State.sampleHeard_power (s : State) (n : Nat) (x : Int) : (s.sampleHeard n x).power = s.power :=
  (s.sampleHeard_frame n x).1.sensors.2

/-- A sample in SS4 leaves SS4. -/
theorem State.sampleHeard_ss4 {s : State} (h : s.cellar.ss4 = true) (n : Nat) (x : Int) :
    (s.sampleHeard n x).cellar.ss4 = true := by
  unfold State.sampleHeard
  split
  · exact State.fault_ss4_stays (by exact h) _
  · exact h

theorem sensorsAreSampled : Clause.SensorsAreSampled := by
  intro n x s
  refine ⟨exec_sensorSample_idle x, fun hn hlen hrun hcal hon hwait hoff => ?_, fun done hrun => ?_, fun done hrun => ?_⟩
  · obtain ⟨hsame, hlogs, hquiet⟩ := s.sampleHeard_frame n x
    have hpow : (s.sampleHeard n x).cooled.power.thermWait = false :=
      (congrArg Power.thermWait (s.sampleHeard_power n x)).trans hwait
    have hstop : ((s.sampleHeard n x).cooled.cellar.ss4 || !(s.sampleHeard n x).cooled.power.rails) = true := by
      rcases hoff with h4 | hr
      · have := State.sampleHeard_ss4 h4 n x
        simp [State.cooled, this]
      · have := s.sampleHeard_power n x
        simp [State.cooled, this, hr]
    have hself : (s.sampleHeard n x).cooled.sensor n = (s.sensor n).sample x (s.medianWith n x) :=
      (s.sampleHeard_sensor n x n).trans (State.sampledAt_sensor hlen x)
    have hbroken : ((s.sampleHeard n x).cooled.sensor n).broken = ((s.sampledAt n x).sensor n).broken :=
      congrArg Sensor.broken (s.sampleHeard_sensor n x n)
    refine ⟨(s.sampleHeard n x).cooled, s.medianWith n x, ?_, hself, ?_, ?_, fun k hk => ?_, ?_, fun hb hw => ?_, fun h => ?_⟩
    · rw [exec_sensorSample x ⟨hn, hrun, hcal, hon⟩, hpow, hstop]
      rfl
    · rw [hself, Sensor.sample_temp]
    · rw [hself, Sensor.sample_noSample]
    · exact (s.sampleHeard_sensor n x k).trans (s.modSensor_sensor_ne hk _)
    · have hsens := hsame.sensors.1
      unfold State.sameButHandling at hsame ⊢
      generalize hj : s.sampleHeard n x = j at hsame hsens
      rw [hsame]
      rfl
    · exact (hlogs (hbroken ▸ hb) hw).of_log_eq rfl
    · rw [hbroken] at h
      show (s.sampleHeard n x).cellar = _
      rw [hquiet h]
      rfl
  · show execSensorOffsetCal n done s = _
    simp [execSensorOffsetCal, hrun]
  · show execSensorOffsetCal n done s = _
    simp [execSensorOffsetCal, hrun]

/-! ### What a hot sensor calls for (R631, R634) -/

/-- A reading between -50 and 150 °C of a sensor that has not begun to look broken is sound. -/
theorem Sensor.sample_sound {y : Sensor} {x : Int} (m : Int) (hlow : -800 ≤ x) (hhigh : x ≤ 2400) (hb : y.broken = false)
    (hfar : y.far = 0) (hsame : y.same ≤ 1) : (y.sample x m).broken = false := by
  have hrep (c : Bool) : (if c then y.same + 1 else 1) < 500 := by split <;> omega
  have hmed (d : Nat) : (if 240 < d then y.far + 1 else 0) < 100 := by split <;> omega
  simp only [Sensor.sample, hb, Bool.false_and, Bool.or_false, Bool.or_eq_false_iff, decide_eq_false_iff_not, not_lt, not_le,
    Bool.and_eq_false_iff]
  exact ⟨⟨⟨hlow, hhigh⟩, .inl (hrep _)⟩, hmed _⟩

/-- A sensor without samples yet has no rise. -/
theorem Sensor.sample_rise {y : Sensor} (x m : Int) (h : y.hist = []) : (y.sample x m).rise = 0 := by
  simp [Sensor.sample, h]

theorem State.groupBroken_of_sound {s : State} (h : ∀ k, (s.sensor k).broken = false) (n : Nat) : s.groupBroken n = false := by
  simp [State.groupBroken, h]

/-- A sound sensor without samples yet, in a machine that judges it. -/
structure State.freshSensor (s : State) (n : Nat) (x : Int) : Prop where
  samples : s.samples n
  present : n < s.sensors.length
  inRange : -800 ≤ x ∧ x ≤ 2400
  sound : ∀ k, (s.sensor k).broken = false
  unused : (s.sensor n).hist = [] ∧ (s.sensor n).far = 0 ∧ (s.sensor n).same ≤ 1
  runs : s.cellar.ss4 = false ∧ s.power.rails = true ∧ s.power.thermWait = false

namespace State.freshSensor
variable {s : State} {n : Nat} {x : Int} (h : s.freshSensor n x)
include h

theorem sampled_sound (k : Nat) : ((s.sampledAt n x).sensor k).broken = false := by
  obtain ⟨-, hlen, ⟨hlow, hhigh⟩, hsound, ⟨-, hfar, hsame⟩, -⟩ := h
  by_cases hk : k = n
  · rw [hk, State.sampledAt_sensor hlen]
    exact Sensor.sample_sound _ hlow hhigh (hsound n) hfar hsame
  · exact (congrArg Sensor.broken (s.modSensor_sensor_ne hk _)).trans (hsound k)

theorem heard : s.sampleHeard n x = s.sampledAt n x :=
  (s.sampleHeard_frame n x).2.2 (.inl (h.sampled_sound n))

theorem exec_acts : exec (.sensorSample n x) s = .next ((s.sampledAt n x).cooled.sampleActs n) := by
  obtain ⟨h4, hrails, hwait⟩ := h.runs
  have hpow : (s.sampledAt n x).cooled.power.thermWait = false := hwait
  have hgo : ((s.sampledAt n x).cooled.cellar.ss4 || !(s.sampledAt n x).cooled.power.rails) = false := by
    show (s.cellar.ss4 || !s.power.rails) = false
    simp [h4, hrails]
  rw [exec_sensorSample x h.samples, h.heard, hpow, hgo]
  rfl

theorem reading_eq : (s.sampledAt n x).cooled.reading n = x := by
  have hr : (s.sampledAt n x).cooled.reading n = (s.sampledAt n x).reading n := rfl
  rw [hr, State.reading, if_neg (by simp [h.sampled_sound n]), State.sampledAt_sensor h.present]
  rfl

theorem riseOf_eq : (s.sampledAt n x).cooled.riseOf n = 0 := by
  have hr : (s.sampledAt n x).cooled.riseOf n = (s.sampledAt n x).riseOf n := rfl
  rw [hr, State.riseOf, if_neg (by simp [h.sampled_sound n]), State.sampledAt_sensor h.present]
  exact Sensor.sample_rise _ _ h.unused.1

theorem groupBroken_eq : (s.sampledAt n x).cooled.groupBroken n = false :=
  State.groupBroken_of_sound (fun k => h.sampled_sound k) n

theorem critical_none (hx : x < if n < 64 then 1760 else 1680) : (s.sampledAt n x).cooled.critical n = none := by
  unfold State.critical
  rw [h.reading_eq, h.riseOf_eq, h.groupBroken_eq, if_neg (by omega), if_neg (by omega), if_neg (by simp)]

theorem critical_hot (hx : (if n < 64 then 1760 else 1680) ≤ x) : (s.sampledAt n x).cooled.critical n = some 1 := by
  unfold State.critical
  rw [h.reading_eq, if_pos hx]

end State.freshSensor

theorem State.requestStep_frame (s : State) (n : Nat) :
    s.requestStep n = { s with power := (s.requestStep n).power, boxes := (s.requestStep n).boxes }
      ∧ (s.requestStep n).power = { s.power with reqs := min 65535 (s.power.reqs + 1), stepReq := min 2 (s.power.stepLive + 1),
                                                 graceEnd := some (s.us + s.graceUs) } := by
  rw [← sat_16]
  exact ⟨rfl, rfl⟩

/-! ### Thermal stops (R634 to R636) -/

/-- A stop's shutdown record is written behind those before it. -/
theorem State.shutdownRecord_eq (s : State) (cause orderly n : Nat) (temp rise : Int) :
    ∃ r : Shutdown, r.cause = cause ∧ r.sensor = n ∧ r.temp = temp ∧ s.shutdownRecord cause orderly n temp rise
      = { s with mram := { s.mram with shutdown := s.mram.shutdown.write s.us r } } :=
  ⟨_, rfl, rfl, rfl, rfl⟩

/-- The report of a critical condition or a cut-off. -/
def heatReport (code n : Nat) : FaultIn :=
  { code := code, cls := 4, island := if n < 64 then n else 255, detail := n, force := .ss4 }

@[simp] theorem State.dark_mram (s : State) (os : List OutId) (code : Nat) (fc4 message : Bool) :
    (s.dark os code fc4 message).mram = s.mram := by
  cases message
  · rfl
  · exact State.forceMessage_mram ..

@[simp] theorem State.dark_clk (s : State) (os : List OutId) (code : Nat) (fc4 message : Bool) :
    (s.dark os code fc4 message).clk = s.clk := by
  cases message
  · rfl
  · have h := congrArg State.clk (State.forceMessage_shut (s.dark os code fc4 false) s 3)
    exact h

/-- A critical condition ends in SS4, behind the record of its stop. -/
theorem State.thermalStop_stops {s : State} (h4 : s.cellar.ss4 = false) (n cause : Nat) : ∃ r : Shutdown,
    r.cause = cause ∧ r.sensor = n ∧ r.temp = s.reading n ∧ s.logs (s.thermalStop n cause) 0xF01 (if n < 64 then n else 255)
      ∧ (s.thermalStop n cause).cellar.ss4 = true ∧ (s.thermalStop n cause).power.thermStop = true
      ∧ (s.thermalStop n cause).mram.shutdown = s.mram.shutdown.write s.us r := by
  have hstop (u : State) (orderly : Nat) (hu4 : u.cellar.ss4 = false) (hseq : u.cellar.logSeq = s.cellar.logSeq)
      (hclk : u.clk = s.clk) (hmram : u.mram = s.mram) : ∃ r : Shutdown,
      r.cause = cause ∧ r.sensor = n ∧ r.temp = s.reading n ∧ ∀ t, t = ((u.shutdownRecord cause orderly n (s.reading n)
        (s.riseOf n)).modPower fun p => { p with thermStop := true }).fault (heatReport 0xF01 n) →
        s.logs t 0xF01 (if n < 64 then n else 255) ∧ t.cellar.ss4 = true ∧ t.power.thermStop = true
          ∧ t.mram.shutdown = s.mram.shutdown.write s.us r := by
    obtain ⟨r, hc, hn, ht, hr⟩ := u.shutdownRecord_eq cause orderly n (s.reading n) (s.riseOf n)
    refine ⟨r, hc, hn, ht, fun t htt => ?_⟩
    rw [hr] at htt
    generalize hv : State.modPower _ _ = v at htt
    have hv4 : v.cellar.ss4 = false := by rw [← hv]; exact hu4
    subst htt
    refine ⟨(State.fault_ss4_logs (x := heatReport 0xF01 n) (by simp [heatReport]) rfl hv4).of_eq ?_ ?_,
      (State.fault_entersSs4 (x := heatReport 0xF01 n) (by simp [heatReport]) rfl hv4).1, ?_, ?_⟩
    · rw [← hv]; exact hseq
    · rw [← hv]; exact hclk
    · rw [State.fault_ss4_thermStop (by simp [heatReport]) rfl hv4, ← hv]
      rfl
    · rw [State.fault_ss4_shutdown (by simp [heatReport]) rfl hv4, ← hv]
      show u.mram.shutdown.write u.us r = _
      rw [hmram, State.us, hclk]
      rfl
  unfold State.thermalStop
  dsimp only
  generalize (decide (s.riseOf n ≤ 0) || decide (s.riseOf n ≤ 10 * (cutOffAt n - s.reading n))) = orderly
  split
  · obtain ⟨d, hd⟩ := s.dark_cellar s.outs 0xF01 true true
    obtain ⟨r, hc, hn, ht, hr⟩ := hstop (s.dark s.outs 0xF01 true true) (b2n orderly) (by rw [hd, h4]) (by rw [hd])
      (State.dark_clk ..) (State.dark_mram ..)
    exact ⟨r, hc, hn, ht, hr _ rfl⟩
  · obtain ⟨r, hc, hn, ht, hr⟩ := hstop s (b2n orderly) h4 rfl rfl rfl
    exact ⟨r, hc, hn, ht, hr _ rfl⟩

theorem hotSensorsAct : Clause.HotSensorsAct := by
  intro n x s hn hlen hrun hcal hon h4 hrails hwait _ hhist hfar hsame hsound
  have hfresh (hlow : -800 ≤ x) (hhigh : x ≤ 2400) : s.freshSensor n x :=
    ⟨⟨hn, hrun, hcal, hon⟩, hlen, ⟨hlow, hhigh⟩, hsound, ⟨hhist, hfar, hsame⟩, ⟨h4, hrails, hwait⟩⟩
  refine ⟨fun hlow hhigh hgrace hlive => ?_, fun hlow hhigh => ?_⟩
  · have h := hfresh (by unfold throttleAt at hlow; split at hlow <;> omega) (by split at hhigh <;> omega)
    have hcond : (s.sampledAt n x).cooled.reqCond n = true := by
      simp [State.reqCond, h.reading_eq, hlow]
    have hact : (s.sampledAt n x).cooled.sampleActs n = (s.sampledAt n x).cooled.requestStep n := by
      unfold State.sampleActs
      rw [h.critical_none hhigh]
      refine if_pos ?_
      rw [hcond]
      show (true && s.power.graceEnd.isNone && s.power.stepLive == 0) = true
      simp [hgrace, hlive]
    obtain ⟨hframe, hpower⟩ := (s.sampledAt n x).cooled.requestStep_frame n
    refine ⟨_, h.exec_acts, ?_⟩
    rw [hact]
    generalize (s.sampledAt n x).cooled.requestStep n = t at hframe hpower ⊢
    refine ⟨?_, ?_, ?_, ?_⟩
    · rw [hframe]
      rfl
    · rw [hpower]
      show min 2 (s.power.stepLive + 1) = 1
      rw [hlive]
      rfl
    · rw [hpower]
      rfl
    · rw [hpower]
      rfl
  · have h := hfresh (by split at hlow <;> omega) hhigh
    have hact : (s.sampledAt n x).cooled.sampleActs n = (s.sampledAt n x).cooled.thermalStop n 1 := by
      unfold State.sampleActs
      rw [h.critical_hot hlow]
    have hu4 : (s.sampledAt n x).cooled.cellar.ss4 = false := h4
    obtain ⟨r, hc, hsens, ht, hlogs, hss4, hstop, hmram⟩ := State.thermalStop_stops hu4 n 1
    refine ⟨_, r, h.exec_acts, ?_⟩
    rw [hact]
    exact ⟨hlogs.of_eq rfl rfl, hss4, hstop, hmram, hc, hsens, ht.trans h.reading_eq⟩

/-! ### Steps and cut-off (R631 to R635) -/

/-- Whether a sensor is within 2 °C of its threshold, or rises by 3 °C/s (R631). -/
def State.stillHot (s : State) : Bool :=
  s.sampled.any fun n => decide (throttleAt n - 32 ≤ s.reading n) || decide (48 ≤ s.riseOf n)

theorem State.stillHot_iff (s : State) :
    s.stillHot = true ↔ ∃ n ∈ s.sampled, throttleAt n - 32 ≤ s.reading n ∨ 48 ≤ s.riseOf n := by
  simp [State.stillHot]

theorem exec_graceExpiry {s : State} {g : Nat} (h : s.power.graceEnd = some g) :
    exec .graceExpiry s = .next (
      if s.stillHot && s.canLower then { s with
        clk := max s.clk (25 * g)
        power := { s.power with graceEnd := none, stepReq := 0, stepLive := s.power.stepLive + 1,
                                enforced := min 65535 (s.power.enforced + 1),
                                stepAt := max s.clk (25 * g) / 25, coolAt := none } }
      else { s with
        clk := max s.clk (25 * g)
        power := { s.power with graceEnd := none, stepReq := 0 } }) := by
  rw [← sat_16]
  show execGraceExpiry s = _
  simp only [execGraceExpiry, h]
  rfl

theorem thermalCutoff_stops {s : State} {n : Nat} (hrun : s.cellar.ctlRuns = true) (hn : n < 68) (h4 : s.cellar.ss4 = false) :
    ∃ (t : State) (r : Shutdown), exec (.thermalCutoff n) s = .next t ∧ s.logs t 0xF02 (if n < 64 then n else 255) ∧ s.entersSs4 t
      ∧ t.power.thermStop = true ∧ t.mram.shutdown = s.mram.shutdown.write s.us r ∧ r.cause = 4 ∧ r.sensor = n := by
  obtain ⟨u, hu⟩ : ∃ u, u = (s.domainsOff [54, 61]).unpowered := ⟨_, rfl⟩
  have hcellar : u.cellar = s.cellar := by rw [hu, State.unpowered_cellar, State.domainsOff_cellar]
  have hshut (b : State) : u.shut b = s.shut b := by rw [hu, State.unpowered_shut, State.domainsOff_shut]
  have hboxes : u.boxes = s.boxes := by rw [hu, State.unpowered_boxes, State.domainsOff_boxes]
  have hmram : u.mram = s.mram := by rw [hu, State.unpowered_mram, State.domainsOff_mram]
  have hu4 : u.cellar.ss4 = false := by rw [hcellar, h4]
  have hclk : u.clk = s.clk := by
    have h := congrArg State.clk (hshut s)
    exact h
  have hx : 2 ≤ (heatReport 0xF02 n).cls := by simp [heatReport]
  have hlogs := State.fault_ss4_logs hx rfl hu4
  have henters := State.fault_entersSs4 hx rfl hu4
  have hshutdown := State.fault_ss4_shutdown hx rfl hu4
  have hexec : exec (.thermalCutoff n) s = .next (((u.fault (heatReport 0xF02 n)).shutdownRecord 4 0 n
      ((u.fault (heatReport 0xF02 n)).reading n) ((u.fault (heatReport 0xF02 n)).riseOf n)).modPower fun p =>
        { p with thermStop := true }) := by
    rw [hu]
    show execThermalCutoff n s = _
    unfold execThermalCutoff
    rw [if_neg (by simp [hrun, hn])]
    rfl
  have hv (b : State) : (u.fault (heatReport 0xF02 n)).shut b = s.shut b := (u.fault_shut b _).trans (hshut b)
  generalize u.fault (heatReport 0xF02 n) = v at hlogs henters hshutdown hexec hv
  have hvclk : v.clk = s.clk := by
    have h := congrArg State.clk (hv s)
    exact h
  obtain ⟨r, hc, hsens, -, hr⟩ := v.shutdownRecord_eq 4 0 n (v.reading n) (v.riseOf n)
  refine ⟨_, r, hexec, ?_, ?_, rfl, ?_, hc, hsens⟩
  · rw [hr]
    exact (hlogs.of_eq (by rw [hcellar]) hclk).of_log_eq rfl
  · rw [hr]
    obtain ⟨hss4, hall, hsafe, hheart, hA, hB, hend, hready, hbox, hland, -⟩ := henters
    refine ⟨hss4, hall, hsafe, hheart, hA, hB, hend, hready, fun f hf => ?_, hland, ?_⟩
    · have h := hbox f (by rw [hboxes]; exact hf)
      rw [State.box, State.box, hboxes] at h
      exact h
    · exact State.eq_of_shut (hv _)
  · rw [hr]
    show v.mram.shutdown.write v.us r = _
    rw [hshutdown, hmram, State.us, hvclk]
    rfl

theorem throttlingAndCutOff : Clause.ThrottlingAndCutOff := by
  intro s
  refine ⟨fun h => ?_, fun g hg => ⟨fun hlow hhot => ?_, fun h => ?_⟩, fun h => ?_, fun c hlive hc => ?_,
    fun hlive hc hg hcond => ?_, fun n hrun hn h4 => thermalCutoff_stops hrun hn h4⟩
  · show execGraceExpiry s = _
    simp only [execGraceExpiry, h]
  · rw [exec_graceExpiry hg, if_pos (by simp [s.stillHot_iff.mpr hhot, hlow])]
  · rw [exec_graceExpiry hg, if_neg]
    rw [Bool.and_eq_true, State.stillHot_iff]
    rintro ⟨⟨n, hn, hhot⟩, hlow⟩
    rcases h with h | h
    · simp [h] at hlow
    · obtain ⟨h1, h2⟩ := h n hn
      omega
  · exact congrArg _ (if_pos h)
  · show execThrottleStepTimer s = _
    unfold execThrottleStepTimer
    rw [if_neg hlive]
    simp only [hc]
    rfl
  · obtain ⟨n, hn⟩ : ∃ n, s.sampled.find? s.reqCond = some n :=
      Option.isSome_iff_exists.mp (List.find?_isSome.mpr hcond)
    have hexec : exec .throttleStepTimer s = .next ((s.atUs (s.power.stepAt + 10000000)).requestStep n) := by
      show execThrottleStepTimer s = _
      unfold execThrottleStepTimer
      rw [if_neg hlive]
      simp only [hc, hg, hn]
    obtain ⟨hframe, hpower⟩ := (s.atUs (s.power.stepAt + 10000000)).requestStep_frame n
    refine ⟨_, hexec, ?_⟩
    generalize (s.atUs (s.power.stepAt + 10000000)).requestStep n = t at hframe hpower ⊢
    refine ⟨hframe, by rw [hpower]; rfl, ?_⟩
    rw [hpower, hframe]
    rfl

/-- Settles O27: a sample is kept and judged, a hot sensor requests a step or stops the machine, and what follows is timed. -/
theorem heatIsWatched : Obligations.HeatIsWatched := ⟨sensorsAreSampled, hotSensorsAct, throttlingAndCutOff⟩

end Sys2Proof.Machine
end

section
/-! PROOF. Starts: what each kind leaves, and what it restores (R619, R640 to R643). -/
namespace Sys2Proof.Machine

/-! ### What a start's restores leave -/

/-- What no restore of a start touches. -/
structure StartBooks where
  pending  : List Instr
  variant  : Variant
  clk      : Nat
  power    : Power
  boxes    : List Letterbox
  trust    : Trust
  pend     : List Pend
  nextId   : Nat
  frameA   : Nat
  frameB   : Nat

def State.startBooks (s : State) : StartBooks :=
  { pending := s.pending, variant := s.variant, clk := s.clk, power := s.power, boxes := s.boxes, trust := s.trust,
    pend := s.commits.pend, nextId := s.commits.nextId, frameA := s.outA.frameNum, frameB := s.outB.frameNum }

section
variable (s : State)

theorem State.requeue_startBooks (slice : Nat) : (s.requeue slice).startBooks = s.startBooks := by
  unfold State.requeue
  split
  · rfl
  · next p _ => cases p.out <;> rfl

theorem State.domainsOff_startBooks (keep : List Nat) : (s.domainsOff keep).startBooks = s.startBooks :=
  s.domainsOff_keeps State.startBooks keep State.requeue_startBooks fun _ _ _ => rfl

theorem State.restoreCal_startBooks : s.restoreCal.startBooks = s.startBooks := by
  have hfold (f : State → OutId → State) (hf : ∀ a o, (f a o).startBooks = a.startBooks) (l : List OutId)
      (sh : List (Blk × RegMap))
      (ca : Calib) : ({ l.foldl f s with shadow := sh, calib := ca } : State).startBooks = s.startBooks :=
    foldl_keeps State.startBooks f hf l s
  refine hfold _ ?_ _ _ _
  intros
  rfl

theorem State.restoreCal_cellar : s.restoreCal.cellar = s.cellar := by
  have hfold (f : State → OutId → State) (hf : ∀ a o, (f a o).cellar = a.cellar) (l : List OutId) (sh : List (Blk × RegMap))
      (ca : Calib) : ({ l.foldl f s with shadow := sh, calib := ca } : State).cellar = s.cellar :=
    foldl_keeps State.cellar f hf l s
  refine hfold _ ?_ _ _ _
  intros
  rfl

theorem State.restoreCal_mram : s.restoreCal.mram = s.mram := by
  have hfold (f : State → OutId → State) (hf : ∀ a o, (f a o).mram = a.mram) (l : List OutId) (sh : List (Blk × RegMap))
      (ca : Calib) : ({ l.foldl f s with shadow := sh, calib := ca } : State).mram = s.mram := foldl_keeps State.mram f hf l s
  refine hfold _ ?_ _ _ _
  intros
  rfl

theorem State.noteLifts_cellar : ∃ l, s.noteLifts.cellar = { s.cellar with log := l }
    ∧ l.map (·.seq) = s.cellar.log.map (·.seq) := by
  refine ⟨_, rfl, ?_⟩
  rw [List.map_map]
  refine List.map_congr_left fun e _ => ?_
  show (if _ then _ else e).seq = e.seq
  split <;> rfl

theorem State.noteLifts_startBooks : s.noteLifts.startBooks = s.startBooks := rfl

theorem State.noteLifts_mram : s.noteLifts.mram = s.mram := rfl

theorem State.trRestore_startBooks : s.trRestore.startBooks = s.startBooks :=
  (apply_ite State.startBooks _ _ _).trans (ite_self _)

theorem State.trRestore_cellar : s.trRestore.cellar = s.cellar :=
  (apply_ite State.cellar _ _ _).trans (ite_self _)

theorem State.trRestore_mram : ∃ n, s.trRestore.mram = { s.mram with trCounts := n } :=
  ⟨_, (apply_ite State.mram _ _ _).trans (ite_self _)⟩

theorem State.relocks_eq (seed : Nat) (ks : List Nat) (a : State) :
    ∃ l, ks.foldl (fun a k => a.modLanding k fun l => l.relock seed k) a = { a with landings := l } := by
  induction ks generalizing a with
  | nil => exact ⟨a.landings, rfl⟩
  | cons k ks ih =>
    obtain ⟨l, hl⟩ := ih (a.modLanding k fun l => l.relock seed k)
    exact ⟨l, hl⟩

/-- What a start leaves is what it has afresh, with the log's lifts and the Transom's counts. -/
theorem State.restart_frame (kind : Nat) : (s.restart kind).startBooks = (s.afresh kind).startBooks
    ∧ (∃ l, (s.restart kind).cellar = { (s.afresh kind).cellar with log := l }
        ∧ l.map (·.seq) = (s.afresh kind).cellar.log.map (·.seq))
    ∧ ∃ n, (s.restart kind).mram = { s.mram with trCounts := n } := by
  have hlater (r : State) (seed : Nat) : ∃ u : State, u.startBooks = r.startBooks ∧ u.cellar = r.cellar ∧ u.mram = r.mram
      ∧ u = if kind = 0 then [54, 61].foldl (fun a k => a.modLanding k fun l => l.relock seed k) r else r := by
    obtain ⟨l, hl⟩ := State.relocks_eq seed [54, 61] r
    refine ⟨_, ?_, ?_, ?_, rfl⟩
    · split
      · exact (congrArg State.startBooks hl).trans rfl
      · rfl
    · split
      · exact (congrArg State.cellar hl).trans rfl
      · rfl
    · split
      · exact (congrArg State.mram hl).trans rfl
      · rfl
  have hbegin (r : State) (hr : r = if kind = 0 then
      { s.afresh kind with transom := { (s.afresh kind).transom with frameAt := 0, rampAt := 0 } } else s.afresh kind) :
      (r.domainsOff [54, 61]).restoreCal.noteLifts.startBooks = (s.afresh kind).startBooks
        ∧ (∃ l, (r.domainsOff [54, 61]).restoreCal.noteLifts.cellar = { (s.afresh kind).cellar with log := l }
            ∧ l.map (·.seq) = (s.afresh kind).cellar.log.map (·.seq))
        ∧ (r.domainsOff [54, 61]).restoreCal.noteLifts.mram = s.mram := by
    have hbooks : r.startBooks = (s.afresh kind).startBooks := by rw [hr]; split <;> rfl
    have hcellar : r.cellar = (s.afresh kind).cellar := by rw [hr]; split <;> rfl
    have hmram : r.mram = s.mram := by rw [hr]; split <;> rfl
    obtain ⟨l, hl, hseq⟩ := (r.domainsOff [54, 61]).restoreCal.noteLifts_cellar
    rw [State.restoreCal_cellar, State.domainsOff_cellar, hcellar] at hl hseq
    refine ⟨?_, ⟨l, hl, hseq⟩, ?_⟩
    · rw [State.noteLifts_startBooks, State.restoreCal_startBooks, State.domainsOff_startBooks, hbooks]
    · rw [State.noteLifts_mram, State.restoreCal_mram, State.domainsOff_mram, hmram]
  unfold State.restart
  dsimp only
  generalize hr : (if kind = 0 then
    ({ s.afresh kind with transom := { (s.afresh kind).transom with frameAt := 0, rampAt := 0 } } : State)
      else s.afresh kind) = r
  obtain ⟨hbooks, ⟨l, hl, hseq⟩, hmram⟩ := hbegin r hr.symm
  obtain ⟨u, hub, huc, hum, hu⟩ := hlater (r.domainsOff [54, 61]).restoreCal.noteLifts (s.lv .cpt .A 8)
  rw [← hu]
  rw [hbooks] at hub
  rw [hl] at huc
  rw [hmram] at hum
  have hkeep : (u.keepTrm s).startBooks = u.startBooks ∧ (u.keepTrm s).cellar = u.cellar ∧ (u.keepTrm s).mram = u.mram :=
    ⟨rfl, rfl, rfl⟩
  obtain ⟨hkb, hkc, hkm⟩ := hkeep
  split
  · split
    · exact ⟨hkb.trans hub, ⟨l, hkc.trans huc, hseq⟩, s.mram.trCounts, hkm.trans hum⟩
    · obtain ⟨n, hn⟩ := u.trRestore_mram
      exact ⟨u.trRestore_startBooks.trans hub, ⟨l, u.trRestore_cellar.trans huc, hseq⟩, n, by rw [hn, hum]⟩
  · exact ⟨hkb.trans hub, ⟨l, hkc.trans huc, hseq⟩, s.mram.trCounts, hkm.trans hum⟩

end

end Sys2Proof.Machine
end

section
/-! PROOF. VAUX, VMAIN and PERST#: the cold, the main and the warm start (R619, R640 to R643). -/
namespace Sys2Proof.Machine

/-! ### The rails (R643) -/

/-- Without a thermal stop to wait for, the rails are sequenced and every PLL begins a lock sequence. -/
theorem State.goRails_eq {s : State} (h : s.power.thermStop = false) :
    s.goRails = { s with
      power := { s.power with rails := true, thermWait := false, thermStop := false }
      landings := s.landings.mapIdx fun k l =>
        if l.present ∧ k ≠ 54 ∧ k ≠ 61 then l.relock (s.lv .cpt .A 8) k else l } := by
  unfold State.goRails
  rw [if_neg (by simp [h])]

theorem State.goRails_landing {s : State} (h : s.power.thermStop = false) {n : Nat} (h54 : n ≠ 54) (h61 : n ≠ 61)
    (hp : (s.landing n).present = true) : s.goRails.landing n = (s.landing n).relock (s.lv .cpt .A 8) n := by
  rw [State.goRails_eq h]
  simp only [State.landing, List.getD_eq_getElem?_getD, List.getElem?_mapIdx] at hp ⊢
  cases hl : s.landings[n]? with
  | none => simp [hl, Landing.reset] at hp
  | some l =>
    have hl' : l.present = true := by simpa [hl] using hp
    simp [hl', h54, h61]

/-! ### What a start has afresh (R640) -/

theorem State.afresh_box {s t : State} {kind : Nat} (h : t.boxes = (s.afresh kind).boxes) (f : Nat) :
    t.box f = Letterbox.reset (f == 0) := by
  rw [State.box, h]
  show ((List.range 32).map fun f => Letterbox.reset (f == 0)).getD f _ = _
  rw [List.getD_eq_getElem?_getD, List.getElem?_map]
  by_cases hf : f < 32
  · simp [hf]
  · rw [beq_eq_false_iff_ne.mpr (show f ≠ 0 by omega)]
    simp [hf]

/-- The parts of a start that the machine's restores leave, one by one. -/
theorem State.restart_books (s : State) (kind : Nat) :
    (s.restart kind).pending = s.pending ∧ (s.restart kind).variant = s.variant
      ∧ (s.restart kind).clk = (s.afresh kind).clk ∧ (s.restart kind).power = (s.afresh kind).power
      ∧ (s.restart kind).boxes = (s.afresh kind).boxes ∧ (s.restart kind).trust = (s.afresh kind).trust
      ∧ (s.restart kind).commits.pend = [] ∧ (s.restart kind).commits.nextId = 1
      ∧ (s.restart kind).outA.frameNum = 0 ∧ (s.restart kind).outB.frameNum = 0 := by
  obtain ⟨h, -, -⟩ := s.restart_frame kind
  exact ⟨congrArg StartBooks.pending h, congrArg StartBooks.variant h, congrArg StartBooks.clk h,
    congrArg StartBooks.power h, congrArg StartBooks.boxes h, congrArg StartBooks.trust h, congrArg StartBooks.pend h,
    congrArg StartBooks.nextId h, congrArg StartBooks.frameA h, congrArg StartBooks.frameB h⟩

/-! ### The cold start -/

theorem coldStart : Clause.ColdStart := by
  intro mv s
  refine ⟨fun h => congrArg _ (if_pos h), fun hv hmv => ?_⟩
  have hexec : exec (.vauxValid mv) s = .next ((s.restart 0).modPower fun p => { p with vauxMv := mv, vmainValid := false }) :=
    congrArg _ (if_neg (by simp [hv, hmv]))
  obtain ⟨hpending, hvariant, hclk, hpower, hboxes, htrust, hpend, hnext, hA, hB⟩ := s.restart_books 0
  obtain ⟨-, ⟨l, hcellar, hlog⟩, n, hmram⟩ := s.restart_frame 0
  generalize s.restart 0 = r at hpending hvariant hclk hpower hboxes htrust hpend hnext hA hB hcellar hmram hexec
  have hl : l = [] := List.map_eq_nil_iff.mp hlog
  refine ⟨_, hexec, hpending, hvariant, hclk, ?_, rfl, rfl, ?_, ?_, ?_, ?_, ?_, ?_, ?_, ?_, hpend, hnext, ?_, ?_, ?_, ?_, hA, hB,
    State.afresh_box (t := r) hboxes, ?_⟩
  · show r.power.vauxValid = true
    rw [hpower]; rfl
  · show r.power.startKind = 0
    rw [hpower]; rfl
  · show r.power.ready = false
    rw [hpower]; rfl
  · show r.power.rails = false
    rw [hpower]; rfl
  · show r.cellar.ctlRuns = true
    rw [hcellar]; rfl
  · show r.cellar.ss4 = false
    rw [hcellar]; rfl
  · show r.cellar.safeLow = true
    rw [hcellar]; rfl
  · show r.cellar.log = []
    rw [hcellar, hl]
  · show r.cellar.logSeq = _
    rw [hcellar]; rfl
  · show r.trust.points = []
    rw [htrust]; rfl
  · show r.trust.sessions = []
    rw [htrust]; rfl
  · show r.trust.bootN = _
    rw [htrust]; rfl
  · show r.trust.ownerKey = _
    rw [htrust]; rfl
  · show r.mram = _
    rw [hmram]
    show _ = { s.mram with ledger := r.mram.ledger, trCounts := r.mram.trCounts }
    rw [hmram]

/-! ### The main start and the warm start -/

/-- What a start that is no cold one leaves, once the rails are sequenced (R640, R642, R643). -/
theorem State.restart_rails {s : State} {kind : Nat} (hk : kind ≠ 0) (hstop : s.power.thermStop = false) :
    (s.restart kind).goRails.pending = s.pending ∧ (s.restart kind).goRails.variant = s.variant
      ∧ (s.restart kind).goRails.clk = s.clk ∧ (s.restart kind).goRails.power.rails = true
      ∧ (s.restart kind).goRails.power.vmainValid = s.power.vmainValid
      ∧ (s.restart kind).goRails.power.perst = s.power.perst
      ∧ (s.restart kind).goRails.power.startKind = kind ∧ (s.restart kind).goRails.power.offHold = false
      ∧ (s.restart kind).goRails.cellar.ss4 = false ∧ (s.restart kind).goRails.cellar.recov = []
      ∧ (s.restart kind).goRails.cellar.log.map (·.seq) = s.cellar.log.map (·.seq)
      ∧ (s.restart kind).goRails.cellar.logSeq = s.cellar.logSeq ∧ (s.restart kind).goRails.commits.pend = []
      ∧ (s.restart kind).goRails.trust.points = (if kind = 2 then s.trust.points else [])
      ∧ (s.restart kind).goRails.trust.sessions = [] ∧ (s.restart kind).goRails.outA.frameNum = 0
      ∧ ∀ f, (s.restart kind).goRails.box f = Letterbox.reset (f == 0) := by
  obtain ⟨hpending, hvariant, hclk, hpower, hboxes, htrust, hpend, -, hA, -⟩ := s.restart_books kind
  obtain ⟨-, ⟨l, hcellar, hlog⟩, -⟩ := s.restart_frame kind
  have hfresh : (s.afresh kind).cellar = s.cellar.restarted (s.clk / 25) (s.afresh kind).trust.points := by
    simp only [State.afresh, if_neg hk]
  have hnow : (s.afresh kind).clk = s.clk := by
    simp only [State.afresh, if_neg hk]
  rw [hfresh] at hcellar hlog
  have hrstop : (s.restart kind).power.thermStop = false := by rw [hpower]; exact hstop
  have hbox := State.afresh_box (t := s.restart kind) hboxes
  generalize s.restart kind = r at hpending hvariant hclk hpower hboxes htrust hpend hA hcellar hrstop hbox
  rw [State.goRails_eq hrstop]
  refine ⟨hpending, hvariant, hclk.trans hnow, rfl, ?_, ?_, ?_, ?_, ?_, ?_, ?_, ?_, hpend, ?_, ?_, hA, hbox⟩
  · show r.power.vmainValid = _
    rw [hpower]; rfl
  · show r.power.perst = _
    rw [hpower]; rfl
  · show r.power.startKind = _
    rw [hpower]; rfl
  · show r.power.offHold = _
    rw [hpower]; rfl
  · show r.cellar.ss4 = _
    rw [hcellar]; rfl
  · show r.cellar.recov = _
    rw [hcellar]; rfl
  · show r.cellar.log.map _ = _
    rw [hcellar]; exact hlog
  · show r.cellar.logSeq = _
    rw [hcellar]; rfl
  · show r.trust.points = _
    rw [htrust]; rfl
  · show r.trust.sessions = _
    rw [htrust]; rfl

/-- VMAIN valid, as the starts' books note it. -/
def State.vmainNoted (s : State) (mv : Nat) : State :=
  s.modPower fun p => { p with vmainValid := true, vmainMv := mv, vmainClk := s.clk, offHold := false }

theorem exec_vmainValid {s : State} {mv : Nat} (hv : s.power.vauxValid = true) (hm : s.power.vmainValid = false)
    (hmv : 10800 ≤ mv) : exec (.vmainValid mv) s = .next (
      if s.power.lockout then s.vmainNoted mv
      else if s.power.startKind = 0 ∧ s.power.offHold = false ∧ s.cellar.ss4 = false ∧ s.power.rails = false then
        (s.vmainNoted mv).goRails
      else ((s.vmainNoted mv).restart 1).goRails) :=
  congrArg _ (if_neg (by simp [hv, hm, hmv]))

theorem mainStart : Clause.MainStart := by
  intro mv s
  refine ⟨fun h => congrArg _ (if_pos ?_), fun hv hm hmv => ⟨fun hl => ?_, fun hl hstop hkind hoff h4 hr => ?_,
    fun hl hstop hlater => ?_⟩⟩
  · rcases h with h | h | h <;> simp [h]
  · rw [exec_vmainValid hv hm hmv, hl]
    rfl
  · have hnoted : (s.vmainNoted mv).power.thermStop = false := hstop
    refine ⟨_, exec_vmainValid hv hm hmv, ?_⟩
    rw [hl, if_neg (by simp), if_pos ⟨hkind, hoff, h4, hr⟩]
    refine ⟨?_, ?_, ?_, ?_, fun n h54 h61 hp => ?_⟩
    · rw [State.goRails_eq hnoted]
      rfl
    · rw [State.goRails_eq hnoted]
    · rw [State.goRails_eq hnoted]
      rfl
    · rw [State.goRails_eq hnoted]
      rfl
    · rw [State.goRails_landing hnoted h54 h61 hp]
      exact ⟨rfl, rfl, rfl⟩
  · have hnoted : (s.vmainNoted mv).power.thermStop = false := hstop
    obtain ⟨hpending, hvariant, hclk, hrails, hvalid, -, hkind, hoff, h4, hrecov, hlog, hseq, hpend, hpoints, hsess, hA, hbox⟩ :=
      State.restart_rails (kind := 1) (by omega) hnoted
    refine ⟨_, exec_vmainValid hv hm hmv, ?_⟩
    rw [hl, if_neg (by simp), if_neg (by rintro ⟨h1, h2, -⟩; rcases hlater with h | h <;> simp_all)]
    exact ⟨hpending, hvariant, hclk, hrails, hvalid, hkind, hoff, h4, hrecov, hlog, hseq, hpend, hpoints, hsess, hA, hbox⟩

/-- Settles O22: each kind of start keeps what its books keep, and where VMAIN was never valid the cold start goes on
(R640, R643). -/
theorem coldAndMainStart : Obligations.ColdAndMainStart := ⟨coldStart, mainStart⟩

end Sys2Proof.Machine
end

section
/-! PROOF. PERST# asserted and released: what is held, and the warm start (R581, R640, R641). -/
namespace Sys2Proof.Machine

/-- PERST# asserted, as the starts' books note it. -/
def State.perstNoted (s : State) : State := s.modPower fun p => { p with perst := true, perstAt := s.clk }

/-- Every island but IS54 and IS61 held in reset, once the slices' spans are pending again (R641). -/
def State.perstHeld (s : State) : State :=
  let s1 := (s.dropCommands.boxesReset.unpowered).modCellar fun c => { c with psafeAll := true, safeLow := true }
  let s1 := { s1 with
    landings := s1.landings.mapIdx fun k l => if k = 54 ∨ k = 61 then l else { l with inProtocol := false },
    transom := if s1.transom.powerLoss then s1.transom else { s1.transom with hold := true, release := false } }
  (s1.modPower fun p => { p with perstApplied := true, endpoint := false, ready := false, hearth := false }).drivePsafe

theorem State.perstHeld_psafe (s : State) : s.perstHeld.linkA.psafe = true ∧ s.perstHeld.linkB.psafe = true := by
  unfold State.perstHeld
  exact State.drivePsafe_psafe rfl

theorem State.perstHeld_hold (s : State) (h : s.transom.powerLoss = false) : s.perstHeld.transom.hold = true := by
  have ht : s.perstHeld.transom = if s.transom.powerLoss then { s.transom with loading := [] }
      else { s.transom with loading := [], hold := true, release := false } := rfl
  rw [ht, h]
  rfl

theorem State.perstHeld_rest (s : State) : s.perstHeld.clk = s.clk ∧ s.perstHeld.commits = s.commits
    ∧ s.perstHeld.shadow = s.shadow ∧ s.perstHeld.dram = s.dram ∧ s.perstHeld.mram = s.mram
    ∧ s.perstHeld.trust.points = s.trust.points
    ∧ s.perstHeld.power = { s.power with perstApplied := true, endpoint := false, ready := false, hearth := false }
    ∧ s.perstHeld.cellar = { s.cellar with psafeAll := true, safeLow := true } := by
  simp only [State.perstHeld, State.drivePsafe, State.modPower, State.modCellar, State.unpowered, State.boxesReset,
    State.dropCommands, and_self]

/-- The slices' spans go back to their bands. -/
def State.requeues (s : State) (ks : List Nat) : State := ks.foldl State.requeue s

theorem exec_perstAssert {s : State} (h : s.power.perst = false) : exec .perstAssert s = .next (
    if s.cellar.ss4 then s.perstNoted.modPower fun p => { p with perstApplied := true }
    else if s.power.vmainValid && s.power.endpoint then (s.perstNoted.requeues (List.range 32)).perstHeld
    else s.perstNoted.modPower fun p => { p with endpoint := false }) := by
  show execPerstAssert s = _
  unfold execPerstAssert State.perstHeld State.requeues State.perstNoted
  rw [if_neg (by simp [h])]

theorem State.perstHeld_landing (s : State) {n : Nat} (h54 : n ≠ 54) (h61 : n ≠ 61) (hn : n < s.landings.length) :
    (s.perstHeld.landing n).inProtocol = false := by
  have h : s.perstHeld.landing n = (s.landings.mapIdx fun k l =>
      if k = 54 ∨ k = 61 then l else { l with inProtocol := false }).getD n (Landing.reset false) := rfl
  rw [h, List.getD_eq_getElem?_getD, List.getElem?_mapIdx]
  simp [hn, h54, h61]

/-- What spans leave as they go back. -/
theorem State.requeues_frame (s : State) (ks : List Nat) :
    (s.requeues ks).power = s.power ∧ (s.requeues ks).cellar = s.cellar ∧ (s.requeues ks).trust = s.trust
      ∧ (s.requeues ks).mram = s.mram ∧ (s.requeues ks).landings = s.landings ∧ (s.requeues ks).transom = s.transom
      ∧ ∀ b, (s.requeues ks).shut b = s.shut b := by
  have htransom (a : State) (k : Nat) : (a.requeue k).transom = a.transom := by
    unfold State.requeue
    split <;> simp
  exact ⟨foldl_keeps State.power _ State.requeue_power ks s, foldl_keeps State.cellar _ State.requeue_cellar ks s,
    foldl_keeps State.trust _ State.requeue_trust ks s, foldl_keeps State.mram _ State.requeue_mram ks s,
    foldl_keeps State.landings _ State.requeue_landings ks s, foldl_keeps State.transom _ htransom ks s,
    fun b => foldl_keeps (State.shut · b) _ (fun a k => a.requeue_shut b k) ks s⟩

theorem perstHolds : Clause.PerstHolds := by
  intro s
  refine ⟨fun h => congrArg _ (if_pos h), fun h h4 => ?_, fun h h4 hidle => ?_, fun h h4 hv he => ?_⟩
  · rw [exec_perstAssert h, h4]
    rfl
  · rw [exec_perstAssert h, h4, if_neg (by simp), if_neg (by rcases hidle with h | h <;> simp [h])]
    rfl
  · obtain ⟨hpower, hcellar, htrust, hmram, hland, htransom, hshut⟩ := s.perstNoted.requeues_frame (List.range 32)
    refine ⟨_, exec_perstAssert h, ?_⟩
    rw [h4, if_neg (by simp), hv, he, if_pos (by rfl)]
    generalize s.perstNoted.requeues (List.range 32) = u at hpower hcellar htrust hmram hland hshut htransom
    have hfield := hshut u
    obtain ⟨hclk, hcommits, hshadow, hdram, humram, hpoints, hupower, hucellar⟩ := u.perstHeld_rest
    rw [hupower, hucellar, hclk, hcommits, hshadow, hdram, humram, hpoints, hpower, hcellar, htrust, hmram]
    refine ⟨rfl, rfl, rfl, rfl, rfl, rfl, u.perstHeld_psafe.1, u.perstHeld_psafe.2,
      fun hloss => u.perstHeld_hold ((congrArg Transom.powerLoss htransom).trans hloss),
      fun n h54 h61 hn => u.perstHeld_landing h54 h61 (by rw [hland]; exact hn), ?_, ?_, ?_, rfl, rfl, ?_, rfl⟩
    · have hkept := congrArg State.clk hfield
      exact hkept
    · have hkept := congrArg State.commits hfield
      exact hkept
    · have hkept := congrArg State.shadow hfield
      exact hkept
    · have hkept := congrArg State.dram hfield
      exact hkept

/-- PERST# released, as the starts' books note it. -/
def State.perstEnded (s : State) : State :=
  s.modPower fun p => { p with perst := false, perstApplied := false, perstAt := s.clk }

theorem exec_perstDeassert {s : State} (h : s.power.perst = true) : exec .perstDeassert s = .next (
    if s.power.perstApplied && s.power.vmainValid
        && (!s.cellar.ss4 || (decide (s.power.perstAt + 2500000 ≤ s.clk) && !s.power.lockout)) then
      (s.perstEnded.restart 2).goRails
    else s.perstEnded) :=
  congrArg _ (if_neg (by simp [h]))

theorem warmStart : Clause.WarmStart := by
  intro s
  refine ⟨fun h => congrArg _ (if_pos (by simp [h])), fun h hshort => ?_, fun h happ hv hstop hlong => ?_⟩
  · rw [exec_perstDeassert h, if_neg]
    · rfl
    · rcases hshort with h | h | ⟨h4, h | h⟩
      · simp [h]
      · simp [h]
      · simp [h4, Nat.not_le.mpr h]
      · simp [h4, h]
  · have hended : s.perstEnded.power.thermStop = false := hstop
    obtain ⟨hpending, hvariant, hclk, hrails, -, hperst, hkind, -, h4, -, hlog, -, hpend, hpoints, hsess, hA, hbox⟩ :=
      State.restart_rails (kind := 2) (by omega) hended
    refine ⟨_, exec_perstDeassert h, ?_⟩
    rw [if_pos (by rcases hlong with h4 | ⟨hlong, hlock⟩ <;> simp_all)]
    exact ⟨hpending, hvariant, hclk, hrails, hperst, hkind, h4, hlog, hpoints, hsess, hpend, hA, hbox⟩

/-- Settles O23: PERST# holds the islands behind PSAFE, and its release is a start of kind 2 (R640, R641). -/
theorem perstAndWarmStart : Obligations.PerstAndWarmStart := ⟨perstHolds, warmStart⟩

end Sys2Proof.Machine
end

section
/-! PROOF. HEARTBEAT, and the lock of the islands' PLLs (R551, R615, R616). -/
namespace Sys2Proof.Machine

/-! ### Landings and the log while a fault is taken -/

section
variable (s : State)

@[simp] theorem State.mark_landings (f : Force) (code : Nat) : (s.mark f code).landings = s.landings := by
  cases f <;> rfl

@[simp] theorem State.dark_landings (os : List OutId) (code : Nat) (fc4 message : Bool) :
    (s.dark os code fc4 message).landings = s.landings := by
  cases message
  · rfl
  · exact State.forceMessage_landings ..

/-- A safe state below SS4 switches no domain off. -/
theorem State.force_landings {f : Force} (hf : f.level ≠ 4) (code cls : Nat) :
    (s.force f code cls).landings = s.landings := by
  cases f with
  | ss4 => exact absurd rfl hf
  | ss4Off => exact absurd rfl hf
  | ss3All => simp [State.force]
  | ss3Quiet => simp [State.force]
  | _ => by_cases h4 : cls = 4 <;> simp [State.force, h4]

@[simp] theorem State.splReset_landings (isl : Nat) : (s.splReset isl).landings = s.landings := by
  unfold State.splReset
  split
  · cases outOf (isl - 44) <;> rfl
  · rfl

theorem State.interruptHearth_landings : s.interruptHearth.landings = s.landings :=
  List.foldlRecOn (motive := fun a : State => a.landings = s.landings) _ _ rfl fun _ ha _ _ => ha

@[simp] theorem State.eventAll_landings (code : Nat) (data : List Byte) : (s.eventAll code data).landings = s.landings := rfl

theorem State.wentDark_landings : s.wentDark.landings = (s.dropCommands.boxesReset.domainsOff [54, 61]).landings := by
  unfold State.wentDark
  generalize s.dropCommands.boxesReset.domainsOff [54, 61] = u
  rfl

/-- The log stays while a safe state is forced. -/
theorem State.force_log (f : Force) (code cls : Nat) : (s.force f code cls).cellar.log = s.cellar.log := by
  have hss4 (counts : Bool) : (s.enterSs4 true counts).cellar.log = s.cellar.log := by
    by_cases h4 : s.cellar.ss4 = true
    · rw [State.enterSs4, if_pos h4]
    · rw [State.enterSs4_cellar (by simpa using h4), State.ss4Noted_log]
  by_cases hf : f.level = 4
  · cases f with
    | ss4 => exact hss4 true
    | ss4Off => exact hss4 false
    | _ => cases hf
  · obtain ⟨a, b, d, hc⟩ := s.force_cellar hf code cls
    rw [hc]

end

/-- Every report of FC2 and above is entered in the log, whatever it forces. -/
theorem State.fault_logs_always (s : State) {x : FaultIn} (hx : 2 ≤ x.cls) : s.logs (s.fault x) x.code x.island := by
  obtain ⟨data, ht⟩ := State.fault_of_new (s.repeated_none (le_trans (by omega) (s.cls_le_classOf x)))
  have hlog : (s.enterLog x).cellar.log = logAppend s.cellar.log (s.entryOf x) := by simp only [State.enterLog]
  have hmem (u : State) (hu : u.cellar.log = (s.enterLog x).cellar.log) : s.entryOf x ∈ u.cellar.log := by
    rw [hu, hlog]
    exact mem_logAppend_self _ _
  refine State.logs_of_mem (hmem _ ?_)
  rw [ht _ rfl]
  generalize hu : State.spoilFrames _ = u
  have hulog : u.cellar.log = (s.enterLog x).cellar.log := by
    rw [← hu, State.spoilFrames_cellar, State.force_log, State.eventAll_cellar]
  split
  · rw [State.startRecovery_cellar]
    exact hulog
  · exact hulog

/-! ### A PLL without lock (R616) -/

/-- A landing whose PLL has no lock, with its count of losses. -/
def State.pllDown (s : State) (isl losses : Nat) : Prop :=
  (s.landing isl).pllLocked = false ∧ (s.landing isl).lossCount = losses

section
variable {s t : State} {isl losses : Nat}

theorem State.pllDown.of_landings (h : s.pllDown isl losses) (ht : t.landings = s.landings) : t.pllDown isl losses := by
  unfold State.pllDown State.landing
  rw [ht]
  exact h

/-- A landing's update that gives no lock and counts no loss leaves a PLL without lock. -/
theorem State.pllDown.modLanding (h : s.pllDown isl losses) (k : Nat) {g : Landing → Landing}
    (hg : ∀ l, (g l).pllLocked = false ∧ (g l).lossCount = l.lossCount) : (s.modLanding k g).pllDown isl losses := by
  unfold State.pllDown State.landing at *
  simp only [State.modLanding_landings, List.getD_eq_getElem?_getD, List.getElem?_modify] at *
  cases hl : s.landings[isl]? with
  | none => simpa [hl] using h
  | some l =>
    rw [hl] at h
    by_cases hk : k = isl
    · simpa [hk, hg] using h.2
    · simpa [hk] using h

theorem State.pllDown.domainsOff (h : s.pllDown isl losses) (keep : List Nat) : (s.domainsOff keep).pllDown isl losses := by
  unfold State.pllDown State.landing at *
  simp only [State.domainsOff_landings, List.getD_eq_getElem?_getD, List.getElem?_mapIdx] at *
  cases hl : s.landings[isl]? with
  | none => simpa [hl] using h
  | some l =>
    rw [hl] at h
    by_cases hk : isl ∈ keep
    · simpa [hk] using h
    · simpa [hk] using h.2

theorem State.pllDown.enterSs4 (h : s.pllDown isl losses) (message counts : Bool) :
    (s.enterSs4 message counts).pllDown isl losses := by
  have hdark (u : State) (hu : u.landings = s.landings) : u.wentDark.pllDown isl losses :=
    ((h.of_landings (t := u.dropCommands.boxesReset) hu).domainsOff [54, 61]).of_landings u.wentDark_landings
  by_cases h4 : s.cellar.ss4 = true
  · rw [State.enterSs4, if_pos h4]
    exact h
  · rw [State.enterSs4_eq (by simpa using h4)]
    split
    · exact (hdark (s.ss4Noted counts) rfl).of_landings (State.forceMessage_landings ..)
    · exact hdark (s.ss4Noted counts) rfl

theorem State.pllDown.force (h : s.pllDown isl losses) (f : Force) (code cls : Nat) :
    (s.force f code cls).pllDown isl losses := by
  by_cases hf : f.level = 4
  · cases f with
    | ss4 => exact h.enterSs4 true true
    | ss4Off => exact h.enterSs4 true false
    | _ => cases hf
  · exact h.of_landings (s.force_landings hf code cls)

/-- A recovery gives no PLL its lock. -/
theorem State.pllDown.startRecovery (h : s.pllDown isl losses) (k code seq : Nat) (store : Bool) :
    (s.startRecovery k code seq store).pllDown isl losses := by
  have hreset (seed : Nat) (ks : List Nat) (a : State) (ha : a.pllDown isl losses) :
      (ks.foldl (fun (a : State) k => ((a.requeue k).splReset k).modLanding k fun l => l.relock seed k) a).pllDown isl losses :=
    List.foldlRecOn (motive := fun a : State => a.pllDown isl losses) _ _ ha fun b hb n _ =>
      State.pllDown.modLanding (hb.of_landings (by rw [State.splReset_landings, State.requeue_landings])) n
        fun _ => ⟨rfl, rfl⟩
  have hnoted (g : Cellar → Cellar) : (s.modCellar g).pllDown isl losses := h.of_landings rfl
  unfold State.startRecovery
  dsimp only
  split
  · exact hnoted _
  · split
    · exact (hreset _ _ _ (hnoted _)).of_landings (State.interruptHearth_landings _)
    · exact hreset _ _ _ (hnoted _)

theorem State.pllDown.fault (h : s.pllDown isl losses) {x : FaultIn} (hx : 2 ≤ x.cls) : (s.fault x).pllDown isl losses := by
  obtain ⟨data, ht⟩ := State.fault_of_new (s.repeated_none (le_trans (by omega) (s.cls_le_classOf x)))
  rw [ht _ rfl]
  generalize hu : State.spoilFrames _ = u
  have hdown : u.pllDown isl losses := by
    have hlog : (s.enterLog x).landings = s.landings := by simp only [State.enterLog]
    rw [← hu]
    refine State.pllDown.of_landings ?_ rfl
    refine State.pllDown.force ?_ ..
    exact h.of_landings (t := (s.enterLog x).eventAll 0x8D00 data) (by rw [State.eventAll_landings, hlog])
  split
  · exact hdown.startRecovery ..
  · exact hdown

end

/-! ### HEARTBEAT and the PLLs' windows (R551, R615, R616) -/

theorem heartbeatToggles : Clause.HeartbeatToggles := by
  refine fun s => ⟨fun hrun h4 => ?_, fun h4 => congrArg _ (if_pos (by simp [h4]))⟩
  refine (congrArg Host.Outcome.next (if_neg (by simp [hrun, h4]))).trans ?_
  rfl

/-- A loss is counted and reported, and nothing else of the frame's machinery changes. -/
theorem State.pllLoss_frame {s : State} {isl : Nat} (hp : (s.landing isl).present = true) :
    s.logs (s.pllLoss isl) 3 isl ∧ ((s.pllLoss isl).landing isl).pllLocked = false
      ∧ ((s.pllLoss isl).landing isl).lossCount = min 65535 ((s.landing isl).lossCount + 1)
      ∧ (s.pllLoss isl).commits = s.commits ∧ (s.pllLoss isl).shadow = s.shadow ∧ (s.pllLoss isl).dram = s.dram
      ∧ (s.pllLoss isl).clk = s.clk := by
  obtain ⟨u, hu⟩ : ∃ u, u = s.modLanding isl fun l =>
      { l with pllLocked := false, lockWins := 0, gated := true, lossCount := sat 16 (l.lossCount + 1) } := ⟨_, rfl⟩
  have hdown : u.pllDown isl (min 65535 ((s.landing isl).lossCount + 1)) := by
    rw [hu, ← sat_16]
    unfold State.pllDown State.landing at *
    simp only [State.modLanding_landings, List.getD_eq_getElem?_getD, List.getElem?_modify] at *
    cases hl : s.landings[isl]? with
    | none => simp [hl, Landing.reset] at hp
    | some l => simp
  have hushut : u.shut s = s.shut s := by rw [hu]; rfl
  have hlogs := u.fault_logs_always (x := { code := 0x3, cls := 3, island := isl, detail := isl, force := s.islandForce isl })
    (by simp)
  have hfault := hdown.fault (x := { code := 0x3, cls := 3, island := isl, detail := isl, force := s.islandForce isl }) (by simp)
  have hshut := (u.fault_shut s { code := 0x3, cls := 3, island := isl, detail := isl, force := s.islandForce isl }).trans hushut
  have hloss : s.pllLoss isl
      = (u.fault { code := 0x3, cls := 3, island := isl, detail := isl, force := s.islandForce isl }).requeue isl := by
    rw [hu]
    rfl
  generalize u.fault _ = v at hlogs hfault hshut hloss
  obtain ⟨hlock, hcount⟩ := hfault.of_landings (v.requeue_landings isl)
  have hkept : (v.requeue isl).shut s = s.shut s := (v.requeue_shut s isl).trans hshut
  rw [hloss]
  generalize hw : v.requeue isl = w at hlock hcount hkept
  refine ⟨?_, hlock, hcount, ?_, ?_, ?_, ?_⟩
  · rw [← hw]
    exact (hlogs.of_eq (by rw [hu]; rfl) (by rw [hu]; rfl)).of_log_eq (by rw [State.requeue_cellar])
  · have h := congrArg State.commits hkept
    exact h
  · have h := congrArg State.shadow hkept
    exact h
  · have h := congrArg State.dram hkept
    exact h
  · have h := congrArg State.clk hkept
    exact h

theorem exec_pllWindow {isl n : Nat} {s : State} (hrun : s.cellar.ctlRuns = true) (hp : (s.landing isl).present = true)
    (hon : (s.landing isl).powered = true) (hg : (s.landing isl).gated = false) : exec (.pllWindow isl n) s = .next (
      if (s.landing isl).pllLocked then if inPpm isl n 500 then s else s.pllLoss isl
      else (s.modLanding isl fun l =>
        if inPpm isl n 100 then { l with lockWins := min 3 (l.lockWins + 1), pllLocked := 2 ≤ l.lockWins }
        else { l with lockWins := 0 }).wake isl) :=
  congrArg _ (if_neg (by simp [hrun, hp, hon, hg]))

theorem pllsLockAndLose : Clause.PllsLockAndLose := by
  intro isl n s hrun hp hon
  refine ⟨fun hg hl hin => ?_, fun hg hl hin => ?_, fun hg hl hin => ?_, fun hg hl hin => ?_, fun hl => ?_⟩
  · rw [exec_pllWindow hrun hp hon hg, hl, hin]
    rfl
  · rw [exec_pllWindow hrun hp hon hg, hl, hin]
    rfl
  · rw [exec_pllWindow hrun hp hon hg, hl, hin]
    rfl
  · refine ⟨s.pllLoss isl, ?_, State.pllLoss_frame hp⟩
    rw [exec_pllWindow hrun hp hon hg, hl, hin]
    rfl
  · exact ⟨s.pllLoss isl, congrArg _ (if_pos (by simp [hrun, hp, hon, hl])), State.pllLoss_frame hp⟩

/-- Settles O19: HEARTBEAT toggles on time, and a PLL's loss is one report whose island recovers (R551, R615, R616). -/
theorem heartbeatAndPlls : Obligations.HeartbeatAndPlls := ⟨heartbeatToggles, pllsLockAndLose⟩

end Sys2Proof.Machine
end

section
/-! PROOF. Checkpoints and recoveries (R562, R567, R568, R570 to R574). -/
namespace Sys2Proof.Machine

/-! ### Checkpoints -/

theorem State.ckptStart_frame (s : State) (frame : Nat) (forced : Bool) :
    s.ckptStart frame forced = { s with cellar := (s.ckptStart frame forced).cellar }
      ∧ (s.ckptStart frame forced).cellar.ckptForced = forced
      ∧ (s.ckptStart frame forced).cellar.journal = s.cellar.journal ++ [(.ckptStart frame, true)]
      ∧ (s.ckptStart frame forced).cellar.ckptBusy = some
          { frame := frame, slot := 1 - (s.cellar.ckpt.map (·.slot)).getD 1, pos := s.cellar.jPos, pend := s.commits.pend,
            landings := s.landings.map (·.sets), channels := s.chans, zoneA := s.outA.zone, zoneB := s.outB.zone } :=
  ⟨rfl, rfl, rfl, rfl⟩

/-- The report of a forced checkpoint that failed twice (R574). -/
def ckptReport : FaultIn := { code := 0xE07, cls := 4, island := 255, detail := 0, force := .ss3All }

/-- The state in which it is raised: no checkpoint is being written. -/
def State.ckptLost (s : State) : State :=
  s.modCellar fun c => { c with ckptBusy := none, ckptForced := false, ckptTries := 0 }

/-- While nothing is handled, an FC4 fault is FC4. -/
theorem State.classOf_fc4 {s : State} {x : FaultIn} (hh : s.handling = false) (hx : x.cls = 4) : s.classOf x = 4 := by
  simp [State.classOf, State.quick, State.classUp, hh, hx]

@[simp] theorem State.enterLog_ckpt (s : State) (x : FaultIn) :
    (s.enterLog x).cellar.ckptBusy = s.cellar.ckptBusy ∧ (s.enterLog x).cellar.ckptForced = s.cellar.ckptForced := by
  simp only [State.enterLog, and_self]

/-- An FC4 fault of no island touches no checkpoint. -/
theorem State.fault_ckpt {s : State} {x : FaultIn} (hh : s.handling = false) (hx : x.cls = 4) (hf : x.force = .ss3All)
    (hisl : x.island = 255) (hcode : x.code ≠ 0x406) :
    (s.fault x).cellar.ckptBusy = s.cellar.ckptBusy ∧ (s.fault x).cellar.ckptForced = s.cellar.ckptForced := by
  have hc : s.classOf x = 4 := State.classOf_fc4 hh hx
  obtain ⟨data, ht⟩ := State.fault_of_new (s.repeated_none (x := x) (by omega))
  have hforce : s.forceOf x = .ss3All := by rw [← hf]; exact if_neg (by omega)
  rw [ht _ rfl, hforce, if_neg (by simp [recoverable, hisl, hcode])]
  obtain ⟨a, b, d, hcell⟩ := State.force_cellar ((s.enterLog x).eventAll 0x8D00 data) (f := .ss3All)
    (by simp [Force.level]) x.code (min (s.classOf x) 4)
  rw [State.spoilFrames_cellar, hcell, State.eventAll_cellar]
  dsimp only
  exact s.enterLog_ckpt x

theorem exec_checkpointDone {s : State} {k : Checkpoint} (h : s.cellar.ckptBusy = some k) (ok : Bool) :
    exec (.checkpointDone ok) s = .next (
      if ok then s.ckptComplete k
      else if !s.cellar.ckptForced then s.modCellar fun c => { c with ckptBusy := none }
      else if s.cellar.ckptTries = 0 then
        s.modCellar fun c =>
          { c with ckptTries := 1,
                   ckptBusy := some { k with frame := s.outA.frameNum, pos := c.jPos, pend := s.commits.pend,
                                             landings := s.landings.map (·.sets), channels := s.chans,
                                             zoneA := s.outA.zone, zoneB := s.outB.zone } }
      else s.ckptLost.fault ckptReport) := by
  show execCheckpointDone ok s = _
  simp only [execCheckpointDone, h]
  rfl

theorem checkpointsAreKept : Clause.CheckpointsAreKept := by
  intro s
  refine ⟨fun hh hb hv => ?_, fun h => ?_, fun ok h => ?_, fun k hk => ⟨?_, fun hf => ?_, fun hf ht => ?_, fun hf ht hh => ?_⟩⟩
  · obtain ⟨hframe, hforced, hjournal, hbusy⟩ := s.ckptStart_frame s.outA.frameNum false
    have hexec : exec .checkpointByVolume s = .next (s.ckptStart s.outA.frameNum false) :=
      congrArg _ (if_pos (by simp [hh, hb, hv]))
    exact ⟨_, hexec, hframe, hforced, hjournal, hbusy⟩
  · refine congrArg _ (if_neg ?_)
    rcases h with h | h
    · simp [Option.isNone_iff_eq_none, h]
    · simp [Nat.not_le.mpr h]
  · show execCheckpointDone ok s = _
    simp only [execCheckpointDone, h]
  · exact ⟨_, exec_checkpointDone hk true, rfl, rfl, rfl, rfl, rfl, rfl⟩
  · rw [exec_checkpointDone hk, hf]
    rfl
  · refine ⟨_, exec_checkpointDone hk false, ?_⟩
    rw [hf, ht]
    exact ⟨rfl, hf, rfl, rfl, _, rfl, rfl, rfl⟩
  · have hlost : s.ckptLost.handling = false := hh
    have hc : s.ckptLost.classOf ckptReport = 4 := State.classOf_fc4 hlost rfl
    obtain ⟨hsame, hlogs⟩ := s.ckptLost.fault_logs (x := ckptReport) (by omega) (by omega) (by simp [ckptReport, Force.level])
    obtain ⟨hbusy, hforced⟩ := State.fault_ckpt (x := ckptReport) hlost rfl rfl rfl (by simp [ckptReport])
    have hstart : s.sameButHandling s.ckptLost := rfl
    refine ⟨_, exec_checkpointDone hk false, ?_⟩
    rw [hf, if_neg (by simp), if_neg (by simp), if_neg ht]
    exact ⟨hlogs.of_eq rfl rfl, hstart.trans hsame, hbusy, hforced⟩

/-! ### Recoveries (R562, R570, R572) -/

/-- The end of handling takes recoveries out of Cellar and marks their entries in the log. -/
theorem State.endHandling_frame (s : State) (p : Recovery → Bool) :
    s.endHandling p = { s with cellar := (s.endHandling p).cellar }
      ∧ (s.endHandling p).cellar.recov = s.cellar.recov.filter fun r => !p r := ⟨rfl, rfl⟩

/-- No fault brings an island into service. -/
theorem State.fault_outOfSvc (s : State) {x : FaultIn} (hx : 2 ≤ x.cls) :
    (s.fault x).cellar.outOfSvc = s.cellar.outOfSvc := by
  have hforce (u : State) (f : Force) (code cls : Nat) : (u.force f code cls).cellar.outOfSvc = u.cellar.outOfSvc := by
    have hss4 (counts : Bool) : (u.enterSs4 true counts).cellar.outOfSvc = u.cellar.outOfSvc := by
      by_cases h4 : u.cellar.ss4 = true
      · rw [State.enterSs4, if_pos h4]
      · rw [State.enterSs4_cellar (by simpa using h4)]
        rfl
    by_cases hf : f.level = 4
    · cases f with
      | ss4 => exact hss4 true
      | ss4Off => exact hss4 false
      | _ => cases hf
    · obtain ⟨a, b, d, hc⟩ := u.force_cellar hf code cls
      rw [hc]
  have hlog : (s.enterLog x).cellar.outOfSvc = s.cellar.outOfSvc := by simp only [State.enterLog]
  obtain ⟨data, ht⟩ := State.fault_of_new (s.repeated_none (le_trans (by omega) (s.cls_le_classOf x)))
  rw [ht _ rfl]
  generalize hu : State.spoilFrames _ = u
  have hout : u.cellar.outOfSvc = s.cellar.outOfSvc := by
    rw [← hu, State.spoilFrames_cellar, hforce, State.eventAll_cellar, hlog]
  split
  · rw [State.startRecovery_cellar]
    exact hout
  · exact hout

theorem exec_islandReplayDone {isl : Nat} {s : State} {r : Recovery}
    (h : (s.cellar.recov.find? fun r => r.island == isl && r.waitsReplay) = some r) :
    exec (.islandReplayDone isl) s = .next (
      if r.code = 0x407 ∧ r.store = true then s.endHandling fun q => q == r
      else if s.cellar.ckptForced then s
      else if r.store then s.restorePoints.endHandling fun q => q == r
      else if (s.landing isl).powered && (s.landing isl).pllLocked then
        (s.modCellar fun c =>
          { c with recov := c.recov.map fun q => if q = r then { q with replayed := true } else q,
                   hearthAt := if isl = 53 then s.us else c.hearthAt }).wake isl
      else s) := by
  show execIslandReplayDone isl s = _
  simp only [execIslandReplayDone, h]

/-- The report of an island that has not rejoined in time. -/
def rejoinReport (isl : Nat) : FaultIn := { code := 0xE08, cls := 4, island := isl, detail := 0, force := .ss3All }

/-- An island held out of service. -/
def State.heldOut (s : State) (isl : Nat) : State :=
  s.modCellar fun c =>
    { c with recov := c.recov.filter fun q => !(q.island == isl && !q.store),
             outOfSvc := if isl ∈ c.outOfSvc then c.outOfSvc else c.outOfSvc ++ [isl] }

theorem State.heldOut_mem (s : State) (isl : Nat) : isl ∈ (s.heldOut isl).cellar.outOfSvc := by
  show isl ∈ if isl ∈ s.cellar.outOfSvc then s.cellar.outOfSvc else s.cellar.outOfSvc ++ [isl]
  split
  case isTrue h => exact h
  case isFalse => exact List.mem_append_right _ List.mem_cons_self

theorem recoveriesEnd : Clause.RecoveriesEnd := by
  intro isl s
  refine ⟨fun h => ?_, fun r h => ⟨fun hstore hf hon hl => ?_, fun hcode hf => ?_, fun hstore hf => ?_⟩, fun h => ?_,
    fun r h => ?_⟩
  · show execIslandReplayDone isl s = _
    simp only [execIslandReplayDone, h]
  · rw [exec_islandReplayDone h, if_neg (by simp [hstore]), hf, hstore, hon, hl]
    rfl
  · rw [exec_islandReplayDone h, if_neg (fun hc => hcode hc.1), hf]
    rfl
  · have hmem : r ∉ s.cellar.recov.filter fun q => !(q == r) := by simp
    refine ⟨_, exec_islandReplayDone h, ?_⟩
    rw [hf, hstore]
    by_cases hcode : r.code = 0x407
    · obtain ⟨hframe, hrecov⟩ := s.endHandling_frame fun q => q == r
      rw [if_pos ⟨hcode, rfl⟩, hrecov]
      exact ⟨rfl, hmem, rfl, rfl⟩
    · obtain ⟨hframe, hrecov⟩ := s.restorePoints.endHandling_frame fun q => q == r
      rw [if_neg (fun hc => hcode hc.1), if_neg (by simp), if_pos rfl, hrecov]
      exact ⟨rfl, hmem, rfl, rfl⟩
  · show execIslandRejoinTimeout isl s = _
    simp only [execIslandRejoinTimeout, h]
  · have hexec : exec (.islandRejoinTimeout isl) s
        = .next (((s.atUs (r.resetAt + 100000)).heldOut isl).fault (rejoinReport isl)) := by
      show execIslandRejoinTimeout isl s = _
      simp only [execIslandRejoinTimeout, h]
      rfl
    have hmem := (s.atUs (r.resetAt + 100000)).heldOut_mem isl
    have hstart : ((s.atUs (r.resetAt + 100000)).heldOut isl).commits = s.commits
        ∧ ((s.atUs (r.resetAt + 100000)).heldOut isl).shadow = s.shadow
        ∧ ((s.atUs (r.resetAt + 100000)).heldOut isl).dram = s.dram := ⟨rfl, rfl, rfl⟩
    have hlogs := ((s.atUs (r.resetAt + 100000)).heldOut isl).fault_logs_always (x := rejoinReport isl) (by simp [rejoinReport])
    have hlater := hlogs.of_eq (s := s.atUs (r.resetAt + 100000)) rfl rfl
    generalize (s.atUs (r.resetAt + 100000)).heldOut isl = u at hexec hmem hlater hstart
    have hout := u.fault_outOfSvc (x := rejoinReport isl) (by simp [rejoinReport])
    have hshut := u.fault_shut u (rejoinReport isl)
    generalize u.fault (rejoinReport isl) = t at hexec hlater hout hshut
    obtain ⟨hc, hs, hd⟩ := hstart
    refine ⟨t, hexec, by rw [hout]; exact hmem, hlater, ?_, ?_, ?_⟩
    · have h := congrArg State.commits hshut
      exact Eq.trans h hc
    · have h := congrArg State.shadow hshut
      exact Eq.trans h hs
    · have h := congrArg State.dram hshut
      exact Eq.trans h hd

/-- Settles O20: a checkpoint is begun, completed or lost, and a recovery ends with its replay or out of service. -/
theorem checkpointsAndRecoveries : Obligations.CheckpointsAndRecoveries := ⟨checkpointsAreKept, recoveriesEnd⟩

end Sys2Proof.Machine
end

section
/-! PROOF. The training of ring ports: HELLO, the partner's reports, phases that run out and retries (R594, R595). -/
namespace Sys2Proof.Machine

/-! ### Ports and lanes -/

theorem rportNo_ge (p : RPort) : ¬ p.no < 2 := by cases p <;> decide

theorem ringOf_no (p : RPort) : ringOf p.no = p := by cases p <;> rfl

theorem State.modRport_ring (s : State) (p : RPort) (g : RingPort → RingPort) :
    s.modRport p g = { s with ring := (s.modRport p g).ring } := by
  cases p <;> rfl

/-- A field that an update of a port leaves is as it was on every port. -/
theorem State.modRport_keeps {β : Type} (s : State) (view : RingPort → β) {g : RingPort → RingPort}
    (hg : ∀ r, view (g r) = view r) (p q : RPort) : view ((s.modRport q g).rport p) = view (s.rport p) := by
  cases p <;> cases q <;> simp [State.modRport, State.rport, hg]

/-- A DESKEW slot of a ring port. -/
theorem State.deskew_no (s : State) (p : RPort) (k : Nat) :
    s.deskew p.no k = s.modRport p fun r => { r with deskews := w32 (r.deskews + k) } := by
  unfold State.deskew
  rw [if_neg (rportNo_ge p), ringOf_no]

/-- Steps of which each touches lanes alone touch lanes alone. -/
theorem foldl_lanes_eq {α : Type} (f : State → α → State) (hf : ∀ a x, ∃ l, f a x = { a with lanes := l }) (xs : List α)
    (s : State) : ∃ l, xs.foldl f s = { s with lanes := l } := by
  induction xs generalizing s with
  | nil => exact ⟨s.lanes, rfl⟩
  | cons x xs ih =>
    obtain ⟨l, hl⟩ := hf s x
    obtain ⟨m, hm⟩ := ih (f s x)
    exact ⟨m, by rw [List.foldl_cons, hm, hl]⟩

theorem State.modLane_eq (s : State) (n : Nat) (g : Lane → Lane) : ∃ l, s.modLane n g = { s with lanes := l } := ⟨_, rfl⟩

theorem State.nextPreset_eq (s : State) (n least : Nat) : ∃ l, s.nextPreset n least = { s with lanes := l } := by
  unfold State.nextPreset
  dsimp only
  split
  · exact ⟨s.lanes, rfl⟩
  · exact s.modLane_eq ..

theorem State.firstPresets_eq (s : State) (p : Nat) : ∃ l, s.firstPresets p = { s with lanes := l } :=
  foldl_lanes_eq _ (fun a n => a.modLane_eq n _) _ _

/-! ### HELLO (R594, R595) -/

/-- A port's update that leaves its state and the packets it takes next. -/
theorem pump_keeps (l : List (Nat × List Byte)) (r : RingPort) :
    (pump l r).st = r.st ∧ (pump l r).rxSeq = r.rxSeq := by
  induction l generalizing r with
  | nil => exact ⟨rfl, rfl⟩
  | cons e l ih =>
    unfold pump
    split
    · exact ih _
    · exact ih _

theorem RingPort.enqueue_keeps (r : RingPort) (mk : Nat → List Byte) :
    (r.enqueue mk).st = r.st ∧ (r.enqueue mk).rxSeq = r.rxSeq := pump_keeps _ _

/-- What a packet sent leaves of the ports and of the rest. -/
theorem State.sendPacket_frame (s : State) (q : RPort) (typ flags src dst hops : Nat) (body : List Byte) :
    (∀ p, ((s.sendPacket q typ flags src dst hops body).rport p).st = (s.rport p).st
      ∧ ((s.sendPacket q typ flags src dst hops body).rport p).rxSeq = (s.rport p).rxSeq)
      ∧ (s.sendPacket q typ flags src dst hops body).ring.known = s.ring.known
      ∧ s.sendPacket q typ flags src dst hops body
        = { s with ring := (s.sendPacket q typ flags src dst hops body).ring } := by
  unfold State.sendPacket
  split
  · refine ⟨fun p => ⟨?_, ?_⟩, ?_, State.modRport_ring ..⟩
    · exact State.modRport_keeps s RingPort.st (fun r => (r.enqueue_keeps _).1) p q
    · exact State.modRport_keeps s RingPort.rxSeq (fun r => (r.enqueue_keeps _).2) p q
    · cases q <;> rfl
  · exact ⟨fun _ => ⟨rfl, rfl⟩, rfl, rfl⟩

/-- A port stays ACTIVE, its packets counted from 0, while the head's ENUM goes out. -/
structure State.portJoined (s t : State) (p : RPort) : Prop where
  active : (t.rport p).st = 5
  counted : (t.rport p).rxSeq = 0
  known : t.ring.known = true
  frame : t = { s with ring := t.ring, boxes := t.boxes, free := t.free }

theorem State.portJoined.sendPacket {s t : State} {p : RPort} (h : s.portJoined t p) (q : RPort) (typ flags src dst hops : Nat)
    (body : List Byte) : s.portJoined (t.sendPacket q typ flags src dst hops body) p := by
  obtain ⟨hport, hknown, hframe⟩ := t.sendPacket_frame q typ flags src dst hops body
  obtain ⟨hact, hcount, hk, ht⟩ := h
  refine ⟨(hport p).1.trans hact, (hport p).2.trans hcount, hknown.trans hk, ?_⟩
  generalize t.sendPacket q typ flags src dst hops body = u at hframe
  rw [hframe, ht]

/-- A port that is ACTIVE is a direction for ENUM (R596). -/
theorem State.portJoined.enumerate {s t : State} {p : RPort} (h : s.portJoined t p) : s.portJoined t.enumerate p := by
  unfold State.enumerate
  split
  · exact h
  · obtain ⟨u, hu⟩ : ∃ u, u = t.modRing fun r =>
      { r with enumAt := t.us, enumE := if r.east.active then none else some [],
               enumW := if r.west.active then none else some [] } := ⟨_, rfl⟩
    have hports : u.rport = t.rport := by rw [hu]; funext q; cases q <;> rfl
    have hjoined : s.portJoined u p := by
      obtain ⟨hact, hcount, hk, ht⟩ := h
      refine ⟨by rw [hports, hact], by rw [hports, hcount], by rw [hu]; exact hk, ?_⟩
      rw [hu, ht]
      rfl
    rw [← hu]
    have hact : u.activePorts ≠ [] := by
      have hp : (u.rport p).active = true := by simp [RingPort.active, hjoined.active]
      unfold State.activePorts
      cases p <;> simp [hp]
    dsimp only
    rw [if_neg hact]
    exact State.portJoined.sendPacket (hjoined.sendPacket ..) ..

theorem State.portUp_portJoined (s : State) (p : RPort) : s.portJoined (s.portUp p) p := by
  refine State.portJoined.enumerate ?_
  rw [State.deskew_no]
  constructor
  · rw [State.modRport_rport_self]
    cases p <;> rfl
  · rw [State.modRport_rport_self]
    cases p <;> rfl
  · cases p <;> rfl
  · cases p <;> rfl

/-- The report of a ring port. -/
def portReport (p : RPort) (code cls : Nat) : FaultIn :=
  { code := code, cls := cls, island := 44 + p.no, detail := 0, force := .none }

/-- Whether a partner's HELLO is refused (R595). -/
def State.refuses (s : State) (b : List Byte) : Prop :=
  nAt b 0xD 1 ≠ (if s.variant = .E2 then 0xE2 else 0xE1) ∨ (s.headBit = true ∧ bitOf (nAt b 0xC 1) 0 = true)

theorem State.takeHello_refused {s : State} {b : List Byte} (h : s.refuses b) (p : RPort) :
    s.takeHello p b = (s.modRport p fun r =>
      { r with st := 7, refused := true, retryAt := s.clk + 25000000, hello := none }).fault (portReport p 0x1004 2) := by
  unfold State.takeHello
  rw [if_pos]
  · rfl
  · exact h.imp_right fun h => by simp [h]

theorem State.takeHello_taken {s : State} {b : List Byte} (h : ¬ s.refuses b) (p : RPort) :
    s.takeHello p b = s.portUp p := by
  unfold State.takeHello
  rw [if_neg]
  exact fun hc => h (hc.imp_right fun h => by simpa using h)

theorem exec_helloBlk {p : RPort} {b : List Byte} {s : State} (hok : ctlOk b = true) (hsub : nAt b 0 1 = 0x20) :
    exec (.helloBlk p b) s = .next (
      if (s.rport p).st = 4 then s.takeHello p b
      else if 1 ≤ (s.rport p).st ∧ (s.rport p).st ≤ 3 then s.modRport p fun r => { r with hello := some b }
      else s) :=
  congrArg _ (if_neg (by simp [ctlIs, hok, hsub]))

theorem helloDecides : Clause.HelloDecides := by
  intro p b s hok hsub
  refine ⟨fun hst hown hhead => ?_, fun hst hbad => ?_, fun hst => ?_, fun hst => ?_⟩
  · have hne : ¬ s.refuses b := by
      rintro (h | ⟨h, h'⟩)
      · exact h hown
      · rcases hhead with hh | hh
        · simp [hh] at h
        · simp [hh] at h'
    obtain ⟨hact, hcount, hknown, hframe⟩ := s.portUp_portJoined p
    refine ⟨_, exec_helloBlk hok hsub, ?_⟩
    rw [if_pos hst, State.takeHello_taken hne]
    exact ⟨hact, hcount, hknown, hframe⟩
  · refine ⟨_, exec_helloBlk hok hsub, ?_⟩
    rw [if_pos hst, State.takeHello_refused hbad]
    obtain ⟨u, hu⟩ : ∃ u, u = s.modRport p fun r =>
      { r with st := 7, refused := true, retryAt := s.clk + 25000000, hello := none } := ⟨_, rfl⟩
    rw [← hu]
    have hport : u.rport p = { s.rport p with st := 7, refused := true, retryAt := s.clk + 25000000, hello := none } := by
      rw [hu, State.modRport_rport_self]
    obtain ⟨hsame, hlogs⟩ := u.fault_fc2 (x := portReport p 0x1004 2) rfl (by simp [portReport, Force.level])
    have hlater : s.logs (u.fault (portReport p 0x1004 2)) 0x1004 (44 + p.no) :=
      hlogs.of_eq (by rw [hu, State.modRport_cellar]) (by rw [hu, State.modRport_clk])
    generalize u.fault (portReport p 0x1004 2) = t at hsame hlater
    have hring : t.ring = u.ring := by
      unfold State.sameButHandling at hsame
      rw [hsame]
    have hrport : t.rport p = u.rport p := by
      cases p
      · exact congrArg Ring.east hring
      · exact congrArg Ring.west hring
    rw [hrport, hport]
    refine ⟨rfl, rfl, rfl, hlater, ?_⟩
    have hus : ({ s with ring := t.ring } : State) = u := by
      rw [hring, hu]
      exact (State.modRport_ring ..).symm
    rw [hus]
    exact hsame
  · rw [exec_helloBlk hok hsub, if_neg (by omega), if_pos (by omega)]
  · rw [exec_helloBlk hok hsub, if_neg (by omega), if_neg (by omega)]

end Sys2Proof.Machine
end

section
/-! PROOF. The partner's TRAIN_REPORTs at a ring port, its phases' bounds and its starts (R594). -/
namespace Sys2Proof.Machine

/-! ### Reports -/

/-- The margins of a TRAIN_REPORT at a port's transmit lanes. -/
def State.heardEyes (s : State) (p : RPort) (b : List Byte) : State :=
  (List.range 4).foldl (fun a k => a.modLane ((txLanes p.no).getD k 0) fun l => { l with eye := nAt b (4 + k) 1 }) s

theorem State.heardEyes_eq (s : State) (p : RPort) (b : List Byte) : ∃ l, s.heardEyes p b = { s with lanes := l } :=
  foldl_lanes_eq _ (fun a _ => a.modLane_eq _ _) _ _

theorem txLanes_no (p : RPort) : txLanes p.no = (List.range 4).map (· + (if p = .east then 34 else 42)) := by
  cases p <;> rfl

/-- A port's transmit lanes have the margins of the report. -/
theorem State.heardEyes_eye {s : State} (hlen : s.lanes.length = 50) (p : RPort) (b : List Byte) {k : Nat} (hk : k < 4) :
    ((s.heardEyes p b).lane (k + (if p = .east then 34 else 42))).eye = nAt b (4 + k) 1 := by
  have hrange : List.range 4 = [0, 1, 2, 3] := rfl
  have hk' : k = 0 ∨ k = 1 ∨ k = 2 ∨ k = 3 := by omega
  unfold State.heardEyes State.lane
  rw [txLanes_no, hrange]
  rcases hk' with rfl | rfl | rfl | rfl <;> cases p <;>
    simp [State.modLane, List.getD_eq_getElem?_getD, hlen]

/-- Whether every transmit lane has a margin of EYE_MIN or more. -/
theorem State.heardEyes_wide {s : State} (hlen : s.lanes.length = 50) (p : RPort) (b : List Byte) (least : Nat) :
    ((txLanes p.no).any fun n => ((s.heardEyes p b).lane n).eye < least) = true ↔ ∃ k, k < 4 ∧ nAt b (4 + k) 1 < least := by
  rw [txLanes_no, List.any_eq_true]
  constructor
  · rintro ⟨n, hn, hlt⟩
    obtain ⟨k, hk, rfl⟩ := List.mem_map.mp hn
    have hk4 : k < 4 := List.mem_range.mp hk
    rw [State.heardEyes_eye hlen p b hk4] at hlt
    exact ⟨k, hk4, by simpa using hlt⟩
  · rintro ⟨k, hk, hlt⟩
    refine ⟨_, List.mem_map.mpr ⟨k, List.mem_range.mpr hk, rfl⟩, ?_⟩
    rw [State.heardEyes_eye hlen p b hk]
    simpa using hlt

/-- What a report calls for in a state of the port (R594). -/
def State.reportActs (u : State) (p : RPort) (b : List Byte) : State :=
  match (u.rport p).st with
  | 1 =>
    if nAt b 2 1 % 16 = 15 then
      ((u.portPhase p 2).modRport p fun r => { r with block := true }).firstPresets p.no
    else u
  | 2 =>
    if (txLanes p.no).any fun n => (u.lane n).eye < u.eyeMin .A then
      (txLanes p.no).foldl (fun a n => a.nextPreset n (u.eyeMin .A)) u
    else (u.portPhase p 3).deskew p.no 1
  | 3 => if nAt b 3 1 = 1 then (u.deskewRepeats p).helloPhase p else u
  | _ => u

theorem exec_ringTrainReport {p : RPort} {b : List Byte} {s : State} (hok : ctlOk b = true) (hsub : nAt b 0 1 = 0x11)
    (h0 : (s.rport p).st ≠ 0) : exec (.ringTrainReport p b) s = .next ((s.heardEyes p b).reportActs p b) :=
  congrArg _ (if_neg (by simp [ctlIs, hok, hsub, h0]))

theorem exec_ringTrainReport_off {p : RPort} {b : List Byte} {s : State} (h0 : (s.rport p).st = 0) :
    exec (.ringTrainReport p b) s = .next s :=
  congrArg _ (if_pos (by simp [h0]))

theorem State.portPhase_eq (s : State) (p : RPort) (st : Nat) : s.portPhase p st = s.modRport p fun r =>
    { r with st := st, phaseAt := s.clk } := rfl

theorem State.deskewRepeats_eq (s : State) (p : RPort) : ∃ k, s.deskewRepeats p = s.modRport p fun r =>
    { r with deskews := w32 (r.deskews + k) } := ⟨_, s.deskew_no p _⟩

/-- With no HELLO kept, the HELLO phase sends the port's own. -/
theorem State.helloPhase_none {s : State} {p : RPort} (h : (s.rport p).hello = none) :
    s.helloPhase p = (s.portPhase p 4).sendCtl p (s.helloBlock p) := by
  have hquiet : (((s.portPhase p 4).sendCtl p (s.helloBlock p)).rport p).hello = none := by
    rw [State.sendCtl, State.modRport_rport_self, State.portPhase, State.modRport_rport_self]
    exact h
  unfold State.helloPhase
  simp only [hquiet]

theorem trainReports (p : RPort) (b : List Byte) (s : State) (hok : ctlOk b = true) (hsub : nAt b 0 1 = 0x11) :
    ((s.rport p).st = 1 → nAt b 2 1 % 16 = 15 →
      ∃ t, exec (.ringTrainReport p b) s = .next t ∧ (t.rport p).st = 2 ∧ (t.rport p).block = true
        ∧ (t.rport p).phaseAt = s.clk ∧ t = { s with ring := t.ring, lanes := t.lanes }) ∧
    ((s.rport p).st = 1 → nAt b 2 1 % 16 ≠ 15 →
      ∃ t, exec (.ringTrainReport p b) s = .next t ∧ t = { s with lanes := t.lanes }) ∧
    ((s.rport p).st = 2 → s.lanes.length = 50 → (∀ k, k < 4 → s.eyeMin .A ≤ nAt b (4 + k) 1) →
      ∃ t, exec (.ringTrainReport p b) s = .next t ∧ (t.rport p).st = 3
        ∧ t = { s with ring := t.ring, lanes := t.lanes }) ∧
    ((s.rport p).st = 2 → s.lanes.length = 50 → (∃ k, k < 4 ∧ nAt b (4 + k) 1 < s.eyeMin .A) →
      ∃ t, exec (.ringTrainReport p b) s = .next t ∧ t = { s with lanes := t.lanes }) ∧
    ((s.rport p).st = 3 → nAt b 3 1 = 1 → (s.rport p).hello = none →
      ∃ t, exec (.ringTrainReport p b) s = .next t ∧ (t.rport p).st = 4
        ∧ (t.rport p).ctl = (s.rport p).ctl ++ [ctlBlock (s.helloBlock p)]
        ∧ t = { s with ring := t.ring, lanes := t.lanes }) := by
  obtain ⟨l, hl⟩ := s.heardEyes_eq p b
  have hst (n : Nat) (h : (s.rport p).st = n) : ((s.heardEyes p b).rport p).st = n := by
    rw [hl]; exact h
  have hmin : (s.heardEyes p b).eyeMin .A = s.eyeMin .A := by rw [hl]; rfl
  refine ⟨fun h hall => ?_, fun h hsome => ?_, fun h hlen hwide => ?_, fun h hlen hnarrow => ?_, fun h hdone hnone => ?_⟩
  · refine ⟨_, exec_ringTrainReport hok hsub (by omega), ?_⟩
    unfold State.reportActs
    rw [hst 1 h, hl]
    simp only [if_pos hall]
    obtain ⟨m, hm⟩ := State.firstPresets_eq ((({ s with lanes := l } : State).portPhase p 2).modRport p fun r =>
      { r with block := true }) p.no
    rw [hm]
    cases p <;> exact ⟨rfl, rfl, rfl, rfl⟩
  · refine ⟨_, exec_ringTrainReport hok hsub (by omega), ?_⟩
    unfold State.reportActs
    rw [hst 1 h, hl]
    simp only [if_neg hsome]
  · have hclear : ¬ ((txLanes p.no).any fun n => ((s.heardEyes p b).lane n).eye < s.eyeMin .A) = true := by
      rw [State.heardEyes_wide hlen]
      rintro ⟨k, hk, hlt⟩
      exact absurd (hwide k hk) (by omega)
    refine ⟨_, exec_ringTrainReport hok hsub (by omega), ?_⟩
    unfold State.reportActs
    rw [hst 2 h, hmin]
    simp only [if_neg hclear]
    rw [hl, State.deskew_no]
    cases p <;> exact ⟨rfl, rfl⟩
  · have hlow : ((txLanes p.no).any fun n => ((s.heardEyes p b).lane n).eye < s.eyeMin .A) = true :=
      (State.heardEyes_wide hlen p b _).mpr hnarrow
    refine ⟨_, exec_ringTrainReport hok hsub (by omega), ?_⟩
    unfold State.reportActs
    rw [hst 2 h, hmin]
    simp only [if_pos hlow]
    rw [hl]
    obtain ⟨m, hm⟩ := foldl_lanes_eq (fun a n => State.nextPreset a n (s.eyeMin .A)) (fun a n => a.nextPreset_eq n _)
      (txLanes p.no) { s with lanes := l }
    rw [hm]
  · refine ⟨_, exec_ringTrainReport hok hsub (by omega), ?_⟩
    unfold State.reportActs
    rw [hst 3 h, hl]
    simp only [if_pos hdone]
    obtain ⟨k, hk⟩ := State.deskewRepeats_eq { s with lanes := l } p
    have hquiet : ((State.deskewRepeats { s with lanes := l } p).rport p).hello = none := by
      rw [hk, State.modRport_rport_self]
      exact hnone
    have hblock : (State.deskewRepeats { s with lanes := l } p).helloBlock p = s.helloBlock p := by
      rw [hk]
      cases p <;> rfl
    rw [State.helloPhase_none hquiet, hblock, hk]
    cases p <;> exact ⟨rfl, rfl, rfl⟩

/-! ### Starts and phases that run out -/

/-- With no pending LNE copy, a training window is empty (R323). -/
theorem State.lneWindow_none {s : State} (h : s.pendsOf .lne 0 = []) (p : Nat) (ns : List Nat) (atReturn : Bool) :
    s.lneWindow p ns atReturn = s := by
  unfold State.lneWindow
  rw [h]
  rfl

theorem State.abortCal_eq (s : State) (n : Nat) : ∃ l, s.abortCal n = { s with lanes := l } := by
  unfold State.abortCal
  split
  · exact s.modLane_eq ..
  · exact ⟨s.lanes, rfl⟩

theorem State.wakePort_eq (s : State) (n : Nat) : ∃ l, s.wakePort n = { s with lanes := l } := by
  obtain ⟨l, hl⟩ := s.modLanes_eq (txLanes n) fun l => { l with exiting := l.st != 1, tried := 0 }
  obtain ⟨m, hm⟩ := State.modLanes_eq (s.modLanes (txLanes n) fun l => { l with exiting := l.st != 1, tried := 0 })
    ((portLanes n).filter fun n => !laneTx n) fun l => if l.st = 2 then { l with st := 0 } else l
  exact ⟨m, hm.trans (by rw [hl])⟩

theorem State.modLane_lane_self {s : State} {n : Nat} (h : n < s.lanes.length) (g : Lane → Lane) :
    (s.modLane n g).lane n = g (s.lane n) := by
  simp [State.lane, State.modLane, List.getD_eq_getElem?_getD, h]

theorem State.modLane_lane_ne (s : State) {n k : Nat} (h : k ≠ n) (g : Lane → Lane) : (s.modLane k g).lane n = s.lane n := by
  simp [State.lane, State.modLane, List.getD_eq_getElem?_getD, h]

theorem State.modLanes_lane_ne (s : State) {ns : List Nat} {n : Nat} (h : n ∉ ns) (g : Lane → Lane) :
    (s.modLanes ns g).lane n = s.lane n := by
  induction ns generalizing s with
  | nil => rfl
  | cons k ns ih =>
    obtain ⟨hk, hns⟩ := not_or.mp (List.mem_cons.not.mp h)
    exact (ih (s.modLane k g) hns).trans (s.modLane_lane_ne (Ne.symm hk) g)

theorem State.modLanes_lane_mem {s : State} {ns : List Nat} {n : Nat} (hns : ns.Nodup) (h : n ∈ ns)
    (hn : n < s.lanes.length) (g : Lane → Lane) : (s.modLanes ns g).lane n = g (s.lane n) := by
  induction ns generalizing s with
  | nil => simp at h
  | cons k ns ih =>
    obtain ⟨hk, hrest⟩ := List.nodup_cons.mp hns
    rcases List.mem_cons.mp h with rfl | h
    · exact ((s.modLane n g).modLanes_lane_ne hk g).trans (State.modLane_lane_self hn g)
    · have hne : k ≠ n := fun he => hk (he ▸ h)
      exact (ih (s := s.modLane k g) hrest h (by simpa [State.modLane] using hn)).trans (by rw [s.modLane_lane_ne hne])

/-- A calibration that ends lets no lane carry blocks, and stops none. -/
theorem State.abortCal_carries (s : State) (k n : Nat) :
    (((s.abortCal k).lane n).st == 1) = ((s.lane n).st == 1) ∧ (s.abortCal k).lanes.length = s.lanes.length := by
  unfold State.abortCal
  split
  case isFalse => exact ⟨rfl, rfl⟩
  case isTrue h3 =>
    refine ⟨?_, by simp [State.modLane]⟩
    by_cases hk : k = n
    · subst hk
      by_cases hn : k < s.lanes.length
      · rw [State.modLane_lane_self hn, h3]
        rfl
      · simp [State.lane, State.modLane, List.getD_eq_getElem?_getD, hn]
    · rw [s.modLane_lane_ne hk]

theorem txLanes_nodup (p : RPort) : (txLanes p.no).Nodup := by cases p <;> decide

/-- A port that may run starts with block lock, its transmit lanes on their way out of electrical idle (R318, R594). -/
theorem State.startPort_frame {s : State} {p : RPort} (hrun : s.portMayRun p = true) (hp : s.pendsOf .lne 0 = []) :
    ((s.startPort p).rport p).st = 1 ∧ ((s.startPort p).rport p).phaseAt = s.clk
      ∧ (∀ n ∈ txLanes p.no, n < s.lanes.length → ((s.startPort p).lane n).exiting = !((s.lane n).st == 1))
      ∧ s.startPort p = { s with ring := (s.startPort p).ring, lanes := (s.startPort p).lanes } := by
  obtain ⟨u, hu⟩ : ∃ u, u = (txLanes p.no).foldl (fun a n => a.abortCal n) s := ⟨_, rfl⟩
  obtain ⟨l, hl⟩ := foldl_lanes_eq (fun a n => State.abortCal a n) State.abortCal_eq (txLanes p.no) s
  rw [← hu] at hl
  have hcarries (n : Nat) : ((u.lane n).st == 1) = ((s.lane n).st == 1) := by
    rw [hu]
    exact foldl_keeps (fun a => ((State.lane a n).st == 1)) _ (fun a k => (a.abortCal_carries k n).1) _ s
  have hlen : u.lanes.length = s.lanes.length := by
    rw [hu]
    exact foldl_keeps (fun a => (State.lanes a).length) _ (fun a k => (a.abortCal_carries k 0).2) _ s
  have hup : u.pendsOf .lne 0 = [] := by rw [hl]; exact hp
  have hstart : s.startPort p = (u.wakePort p.no).modRport p fun r =>
      { r with st := 1, phaseAt := s.clk, hello := none, unacked := [], credits := 0, group := [] } := by
    unfold State.startPort
    rw [if_neg (by simp [hrun]), ← hu]
    dsimp only
    obtain ⟨m, hm⟩ := u.wakePort_eq p.no
    rw [State.lneWindow_none hup, hm, hl]
  have hexit (n : Nat) (hn : n ∈ txLanes p.no) (hnl : n < s.lanes.length) :
      ((u.wakePort p.no).lane n).exiting = !((s.lane n).st == 1) := by
    have hrx (a : State) (ns : List Nat) :
        ((a.modLanes ns fun l => if l.st = 2 then { l with st := 0 } else l).lane n).exiting = (a.lane n).exiting := by
      refine foldl_keeps (fun a => (State.lane a n).exiting) _ (fun a k => ?_) ns a
      by_cases hk : k = n
      · subst hk
        by_cases hkl : k < a.lanes.length
        · rw [State.modLane_lane_self hkl]
          split <;> rfl
        · simp [State.lane, State.modLane, List.getD_eq_getElem?_getD, hkl]
      · rw [a.modLane_lane_ne hk]
    unfold State.wakePort
    rw [hrx, State.modLanes_lane_mem (txLanes_nodup p) hn (by rw [hlen]; exact hnl)]
    show ((u.lane n).st != 1) = _
    rw [bne, hcarries]
  obtain ⟨m, hm⟩ := u.wakePort_eq p.no
  rw [hstart]
  refine ⟨by rw [State.modRport_rport_self], by rw [State.modRport_rport_self], fun n hn hnl => ?_, ?_⟩
  · rw [← hexit n hn hnl]
    cases p <;> rfl
  · rw [hm, hl]
    cases p <;> rfl

theorem exec_ringTrainTimeout {p : RPort} {s : State} {n : Nat} (h : portBound (s.rport p).st = some n) :
    ∃ k, exec (.ringTrainTimeout p) s = .next ((if (s.rport p).st = 3 then
        (s.atClk ((s.rport p).phaseAt + n)).modRport p fun r => { r with deskews := w32 (r.deskews + k) }
      else s.atClk ((s.rport p).phaseAt + n)).modRport p fun r =>
        { r with st := 6, retryAt := (s.atClk ((s.rport p).phaseAt + n)).clk + 2500000, hello := none }) := by
  obtain ⟨k, hk⟩ := (s.atClk ((s.rport p).phaseAt + n)).deskewRepeats_eq p
  refine ⟨k, ?_⟩
  show execRingTrainTimeout p s = _
  simp only [execRingTrainTimeout, h, hk]
  split <;> cases p <;> rfl

theorem exec_ringTrainTimeout_waited {p : RPort} {s : State} (h : (s.rport p).st = 6) :
    exec (.ringTrainTimeout p) s = .next ((s.atClk (s.rport p).retryAt).startPort p) := by
  have hnone : portBound (s.rport p).st = none := by rw [h]; rfl
  show execRingTrainTimeout p s = _
  simp only [execRingTrainTimeout, hnone, if_pos h]

theorem exec_ringTrainTimeout_idle {p : RPort} {s : State}
    (h : (s.rport p).st = 0 ∨ (s.rport p).st = 5 ∨ (s.rport p).st = 7) : exec (.ringTrainTimeout p) s = .next s := by
  have hnone : portBound (s.rport p).st = none := by rcases h with h | h | h <;> rw [h] <;> rfl
  show execRingTrainTimeout p s = _
  simp only [execRingTrainTimeout, hnone, if_neg (show (s.rport p).st ≠ 6 by omega)]

theorem ringPortsTrainClause : Clause.RingPortsTrain := by
  intro p b s
  refine ⟨fun hok hsub => ?_, fun n hn => ?_, fun h6 hrun hp => ?_, fun h7 hrun hp => ?_, exec_ringTrainTimeout_idle,
    fun h => congrArg _ (if_neg h)⟩
  · obtain ⟨h1, h2, h3, h4, h5⟩ := trainReports p b s hok hsub
    exact ⟨h1, h2, h3, h4, h5, exec_ringTrainReport_off⟩
  · obtain ⟨k, hexec⟩ := exec_ringTrainTimeout hn
    refine ⟨_, hexec, ?_⟩
    by_cases h3 : (s.rport p).st = 3
    · rw [if_pos h3]
      cases p <;> exact ⟨rfl, rfl, rfl, rfl, fun h => absurd h3 h, rfl⟩
    · rw [if_neg h3]
      cases p <;> exact ⟨rfl, rfl, rfl, rfl, fun _ => rfl, rfl⟩
  · obtain ⟨hst, hat_, hexit, hframe⟩ := State.startPort_frame (s := s.atClk (s.rport p).retryAt) hrun hp
    refine ⟨_, exec_ringTrainTimeout_waited h6, ?_⟩
    generalize (s.atClk (s.rport p).retryAt).startPort p = t at hst hat_ hexit hframe ⊢
    have hclk : t.clk = max s.clk (s.rport p).retryAt := by rw [hframe]; rfl
    refine ⟨hst, hclk, hat_.trans hclk.symm, hexit, ?_⟩
    rw [hclk]
    exact hframe
  · obtain ⟨hst, -, -, hframe⟩ := State.startPort_frame (s := s.atClk (s.rport p).retryAt) hrun hp
    have hexec : exec (.joinRetry p) s = .next ((s.atClk (s.rport p).retryAt).startPort p) := congrArg _ (if_pos h7)
    refine ⟨_, hexec, ?_⟩
    generalize (s.atClk (s.rport p).retryAt).startPort p = t at hst hframe ⊢
    have hclk : t.clk = max s.clk (s.rport p).retryAt := by rw [hframe]; rfl
    refine ⟨hst, hclk, ?_⟩
    rw [hclk]
    exact hframe

/-- Settles O31: HELLO decides on a partner, its reports move the phases on, and each phase's end is timed (R594, R595). -/
theorem ringPortsTrain : Obligations.RingPortsTrain := ⟨helloDecides, ringPortsTrainClause⟩

end Sys2Proof.Machine
end

section
/-! PROOF. What a frame start leaves of its outputs' timing, of the clock and of the ring
(R161, R162, R204 to R208, R297, R580). -/
namespace Sys2Proof.Machine

/-! ### The view -/

/-- What a frame start sets of an output, with the clock and the ring. -/
structure StartView where
  frameNum : Nat
  inBlank  : Bool
  forced   : Bool
  fsClk    : Nat
  clk      : Nat
  ring     : Ring

def State.startView (s : State) (q : OutId) : StartView :=
  { frameNum := (s.out q).frameNum, inBlank := (s.out q).inBlank, forced := (s.out q).forced, fsClk := (s.out q).fsClk,
    clk := s.clk, ring := s.ring }

section
variable (s : State) (q : OutId)

@[simp] theorem State.startView_ite (p : Prop) [Decidable p] (t u : State) :
    (if p then t else u).startView q = if p then t.startView q else u.startView q := apply_ite (State.startView · q) ..

@[simp] theorem State.modAudit_startView (g : Audit → Audit) : (s.modAudit g).startView q = s.startView q := by
  cases q <;> rfl

@[simp] theorem State.modCellar_startView (g : Cellar → Cellar) : (s.modCellar g).startView q = s.startView q := by
  cases q <;> rfl

@[simp] theorem State.modPower_startView (g : Power → Power) : (s.modPower g).startView q = s.startView q := by
  cases q <;> rfl

@[simp] theorem State.modLink_startView (o : OutId) (g : Link → Link) : (s.modLink o g).startView q = s.startView q := by
  cases q <;> cases o <;> rfl

@[simp] theorem State.drawn_startView : s.drawn.startView q = s.startView q := by cases q <;> rfl

@[simp] theorem State.drivePsafe_startView : s.drivePsafe.startView q = s.startView q := by cases q <;> rfl

@[simp] theorem State.eventAll_startView (code : Nat) (data : List Byte) :
    (s.eventAll code data).startView q = s.startView q := by
  cases q <;> rfl

@[simp] theorem State.noteLifts_startView : s.noteLifts.startView q = s.startView q := by cases q <;> rfl

@[simp] theorem State.releaseHold_startView : s.releaseHold.startView q = s.startView q := by
  obtain ⟨tr, h⟩ := s.releaseHold_eq
  rw [h]
  cases q <;> rfl

/-- An update of an output that leaves its timing. -/
theorem State.modOut_startView (o : OutId) {g : Output → Output}
    (h : ∀ x, (g x).frameNum = x.frameNum ∧ (g x).inBlank = x.inBlank ∧ (g x).forced = x.forced ∧ (g x).fsClk = x.fsClk) :
    (s.modOut o g).startView q = s.startView q := by
  by_cases hq : q = o
  · subst hq
    obtain ⟨h1, h2, h3, h4⟩ := h (s.out q)
    simp [State.startView, State.modOut_out_self, h1, h2, h3, h4]
  · simp [State.startView, State.modOut_out_ne _ _ hq]

/-! ### The audit chain and captures -/

@[simp] theorem State.leaveBuffer_startView (k : Chain) : (s.leaveBuffer k).startView q = s.startView q := by
  simp [State.leaveBuffer, State.post]

@[simp] theorem State.enterDesc_startView (gen addr : Nat) : (s.enterDesc gen addr).startView q = s.startView q := by
  simp [State.enterDesc, State.setChain]

@[simp] theorem State.advanceChain_startView (gen : Nat) : (s.advanceChain gen).startView q = s.startView q := by
  simp [State.advanceChain, State.setChain]

theorem State.fillChain_startView (n : Nat) (gen : Nat) (bs : List Byte) :
    (State.fillChain n s gen bs).1.startView q = s.startView q := by
  fun_induction State.fillChain n s gen bs <;> simp_all [State.setChain, State.post]

@[simp] theorem State.newRecord_startView (mk : Nat → List Byte) : (s.newRecord mk).startView q = s.startView q := by
  simp [State.newRecord, State.putRecord, State.fillChain_startView]

@[simp] theorem State.chainStart_startView : s.chainStart.startView q = s.startView q := by
  unfold State.chainStart
  split <;> simp

@[simp] theorem State.takeChain_startView : s.takeChain.startView q = s.startView q := by
  unfold State.takeChain
  split
  · rfl
  · unfold State.tidyChains
    rw [State.modAudit_startView]
    exact (foldl_keeps (State.startView · q) _ (fun a (e : Nat × Chain) => a.leaveBuffer_startView q e.2) _ _).trans
      (State.modAudit_startView ..)

@[simp] theorem State.writeGaps_startView (gs : List Gap) : (State.writeGaps gs s).startView q = s.startView q := by
  induction gs generalizing s with
  | nil => rfl
  | cons g gs ih => simp [State.writeGaps, ih]

@[simp] theorem State.findRoom_startView : s.findRoom.startView q = s.startView q := by
  simp [State.findRoom]

@[simp] theorem State.beginCapture_startView (o : OutId) (i : FrameInfo) (c : Nat) (forced : Bool) :
    (s.beginCapture o i c forced).startView q = s.startView q := by
  simp [State.beginCapture, State.noteGap]

@[simp] theorem State.captureStart_startView (o : OutId) (i : FrameInfo) (forced : Bool) :
    (s.captureStart o i forced).startView q = s.startView q :=
  foldl_keeps (State.startView · q) _ (fun a c => by simp [State.noteGap]) _ s

/-! ### The start's other steps -/

@[simp] theorem State.recoverLift_startView (o : OutId) (n : Nat) : (s.recoverLift o n).startView q = s.startView q := by
  unfold State.recoverLift
  split <;> simp

@[simp] theorem State.releasePsafe_startView (o : OutId) : (s.releasePsafe o).startView q = s.startView q := by
  simp [State.releasePsafe]

@[simp] theorem State.releaseSafeOut_startView : s.releaseSafeOut.startView q = s.startView q := by
  simp [State.releaseSafeOut]

@[simp] theorem State.standbyEnter_startView (os : List OutId) : (s.standbyEnter os).startView q = s.startView q := by
  unfold State.standbyEnter
  split <;> simp

@[simp] theorem State.slotConflict_startView (o : OutId) (n k : Nat) : (s.slotConflict o n k).startView q = s.startView q := by
  simp [State.slotConflict, State.modOut_startView]

@[simp] theorem State.sendStartBlk_startView (o : OutId) (n : Nat) (i : FrameInfo) (forced : Bool) :
    (s.sendStartBlk o n i forced).startView q = s.startView q := by
  simp [State.sendStartBlk]

theorem State.slices_startView (l : List (Option Span)) : ({ s with slices := l } : State).startView q = s.startView q := by
  cases q <;> rfl

@[simp] theorem State.dropSpans_startView (o : OutId) (n : Nat) : (s.dropSpans o n).startView q = s.startView q :=
  (State.slices_startView ..).trans (State.modOut_startView _ _ _ fun _ => ⟨rfl, rfl, rfl, rfl⟩)

theorem State.calib_startView (c : Calib) : ({ s with calib := c } : State).startView q = s.startView q := by
  cases q <;> rfl

/-- An output that starts has its frame's number and instant; the other one is as it was. -/
theorem State.startOutput_startView (o : OutId) (n : Nat) (i : FrameInfo) (forced held : Bool) :
    (s.startOutput o n i forced held).startView q =
      if q = o then { frameNum := n, inBlank := false, forced := forced, fsClk := s.clk, clk := s.clk, ring := s.ring }
      else s.startView q := by
  unfold State.startOutput
  dsimp only
  rw [State.calib_startView, State.recoverLift_startView, State.noteLifts_startView, State.modCellar_startView,
    State.sendStartBlk_startView, State.startView_ite, State.dropSpans_startView, ite_self]
  by_cases hq : q = o
  · subst hq
    rw [if_pos rfl]
    simp [State.startView, State.modOut_out_self]
  · rw [if_neg hq]
    simp [State.startView, State.modOut_out_ne _ _ hq]

end

/-! ### Frame starts -/

/-- What a frame start gives an output that starts. -/
def startedView (n : Nat) (forced : Bool) (clk : Nat) (r : Ring) : StartView :=
  { frameNum := n, inBlank := false, forced := forced, fsClk := clk, clk := clk, ring := r }

theorem State.startOutput_clk (s : State) (o : OutId) (n : Nat) (i : FrameInfo) (forced held : Bool) :
    (s.startOutput o n i forced held).clk = s.clk ∧ (s.startOutput o n i forced held).ring = s.ring := by
  have h := s.startOutput_startView o o n i forced held
  rw [if_pos rfl] at h
  exact ⟨congrArg StartView.clk h, congrArg StartView.ring h⟩

theorem State.foldl_startOutput_startView (os : List OutId) (info : OutId → FrameInfo) (n : Nat) (forced held : Bool)
    (s : State) (q : OutId) : (os.foldl (fun a o => a.startOutput o n (info o) forced held) s).startView q
      = if q ∈ os then startedView n forced s.clk s.ring else s.startView q := by
  induction os generalizing s with
  | nil => rfl
  | cons o os ih =>
    obtain ⟨hclk, hring⟩ := s.startOutput_clk o n (info o) forced held
    rw [List.foldl_cons, ih, State.startOutput_startView, hclk, hring]
    by_cases hos : q ∈ os
    · simp [hos]
    · by_cases hq : q = o
      · simp [hq, startedView]
      · simp [hos, hq]

/-- A frame start of outputs that have a frame to run: their timing begins, and the clock and the ring stay. -/
theorem State.beginFrame_startView {s : State} {os : List OutId} {n : Nat} (hi : (s.startInfos os n).isEmpty = false)
    (forced held : Bool) (q : OutId) : (s.beginFrame os n forced held).startView q
      = if q ∈ os then startedView n forced s.clk s.ring else s.startView q := by
  unfold State.beginFrame
  dsimp only
  split
  case h_1 h => simp [h] at hi
  case h_2 e l h =>
    have hsafe (ps : List OutId) (a : State) : (ps.foldl (fun a o => a.releasePsafe o) a).startView q = a.startView q :=
      foldl_keeps (State.startView · q) _ (fun a o => a.releasePsafe_startView q o) ps a
    have hcap (is : List (OutId × FrameInfo)) (a : State) :
        (is.foldl (fun a k => a.captureStart k.1 k.2 forced) a).startView q = a.startView q :=
      foldl_keeps (State.startView · q) _ (fun a (k : OutId × FrameInfo) => a.captureStart_startView q k.1 k.2 forced) is a
    have hslot (is : List (OutId × FrameInfo)) (a : State) :
        (is.foldl (fun a k => a.slotConflict k.1 n k.2.confl) a).startView q = a.startView q :=
      foldl_keeps (State.startView · q) _ (fun a (k : OutId × FrameInfo) => a.slotConflict_startView q k.1 n k.2.confl) is a
    rw [hsafe, State.releaseSafeOut_startView, State.standbyEnter_startView, State.modPower_startView, hcap, hslot]
    exact State.foldl_startOutput_startView ..

/-- A forced start tells of itself; the rest is its frame start. -/
theorem State.forceFrame_startView {s : State} {os : List OutId} {n : Nat} (hi : (s.startInfos os n).isEmpty = false)
    (q : OutId) : (s.forceFrame os n).startView q = if q ∈ os then startedView n true s.clk s.ring else s.startView q :=
  (foldl_keeps (State.startView · q) _ (fun a o => by simp [State.forcedEvent]) _ _).trans
    (State.beginFrame_startView hi true _ q)

end Sys2Proof.Machine
end

section
/-! PROOF. READY and START tokens, the head's starts and a member's (R597 to R601, R609). -/
namespace Sys2Proof.Machine

/-! ### Tokens (R597, R599) -/

theorem State.modRport_rport_other (s : State) (p : RPort) (g : RingPort → RingPort) :
    (s.modRport p g).rport p.other = s.rport p.other := by
  cases p <;> rfl

theorem State.modRport_rport_ne (s : State) (p : RPort) (g : RingPort → RingPort) :
    (s.modRport p.other g).rport p = s.rport p := by
  cases p <;> rfl

/-- A token of a kind that comes whole at an ACTIVE port. -/
theorem State.tokenIs_of {s : State} {p : RPort} {b : List Byte} (ha : (s.rport p).active = true) (hok : ctlOk b = true)
    (hsub : nAt b 0 1 = 0x40) (kind : Nat) : s.tokenIs p kind b = (nAt b 1 1 == kind) := by
  simp [State.tokenIs, ctlIs, ha, hok, hsub]

theorem exec_tokenReady {s : State} {p : RPort} {b : List Byte} (h : s.tokenIs p 0 b = true) : exec (.tokenReady p b) s = .next (
    if s.headBit then
      if s.ring.readyN = some (nAt b 4 4) then
        s.modRing fun r => { r with readyBack := r.readyBack ++ [if bitOf (nAt b 0x10 1) 1 then p else p.other] }
      else s
    else if bitOf (nAt b 0x10 1) 1 then s.heard.passReady p b
    else (s.heard.modRing fun r => { r with readyHeld := r.readyHeld ++ [(p, b)] }).releaseReady) :=
  congrArg _ (if_neg (by simp [h]))

theorem exec_tokenStart {s : State} {p : RPort} {b : List Byte} (h : s.tokenIs p 1 b = true) (hh : s.headBit = false) :
    exec (.tokenStart p b) s = .next (
      if s.ring.lastStart = some (nAt b 4 4) then s.heard
      else
        let t := s.heard.modRing fun r =>
          { r with lastStart := some (nAt b 4 4)
                   startN := some (nAt b 4 4, 40 * s.clk + nAt b 8 4 - (nAt b 0xC 4 + (s.rport p).hopNs), bitOf (nAt b 0x10 1) 0)
                   ownTiming := false }
        if (t.rport p.other).active then
          t.sendCtl p.other (tokenBlock 1 (nAt b 2 2) (nAt b 4 4) (nAt b 8 4) (nAt b 0xC 4 + (s.rport p).hopNs) (nAt b 0x10 1)
            (nAt b 0x12 2 + 1))
        else t) :=
  congrArg _ (if_neg (by simp [h, hh]))

theorem tokensTravel : Clause.TokensTravel := by
  intro p b s ha hok hsub
  have htok (kind : Nat) (hk : nAt b 1 1 = kind) : s.tokenIs p kind b = true := by
    rw [State.tokenIs_of ha hok hsub, hk, beq_self_eq_true]
  refine ⟨fun hk hh hn => ?_, fun hk hh hn => ?_, fun hk hh hb => ?_, fun hk hh => ?_, fun hk hh hn => ?_, fun hk hh hn => ?_⟩
  · rw [exec_tokenReady (htok 0 hk), hh, if_pos rfl, if_pos hn]
    rfl
  · rw [exec_tokenReady (htok 0 hk), hh, if_pos rfl, if_neg hn]
  · refine ⟨_, exec_tokenReady (htok 0 hk), ?_⟩
    rw [hh, if_neg (by simp), hb, if_pos rfl]
    have hother : s.heard.rport = s.rport := by funext q; cases q <;> rfl
    unfold State.passReady
    rw [hother, hb]
    by_cases ho : (s.rport p.other).active = true
    · rw [if_pos ho, State.sendCtl, State.modRport_rport_self, State.modRport_rport_ne, hother]
      refine ⟨?_, ?_, ?_, fun _ => rfl, fun h => absurd ho (by simp [h]), rfl⟩
      · cases p <;> rfl
      · cases p <;> rfl
      · cases p <;> rfl
    · rw [if_neg ho, if_pos rfl, hother]
      exact ⟨rfl, rfl, rfl, fun h => absurd h ho, fun _ => rfl, rfl⟩
  · exact congrArg _ (if_pos (by simp [hh]))
  · rw [exec_tokenStart (htok 1 hk) hh, if_pos hn]
    rfl
  · refine ⟨_, exec_tokenStart (htok 1 hk) hh, ?_⟩
    rw [if_neg hn]
    obtain ⟨t, ht⟩ : ∃ t, t = s.heard.modRing fun r =>
      { r with lastStart := some (nAt b 4 4)
               startN := some (nAt b 4 4, 40 * s.clk + nAt b 8 4 - (nAt b 0xC 4 + (s.rport p).hopNs), bitOf (nAt b 0x10 1) 0)
               ownTiming := false } := ⟨_, rfl⟩
    have hport : t.rport = s.rport := by rw [ht]; funext q; cases q <;> rfl
    have hring : t = { s with ring := t.ring } := by rw [ht]; rfl
    have hvals : t.ring.lastStart = some (nAt b 4 4) ∧ t.ring.startN = some (nAt b 4 4, 40 * s.clk + nAt b 8 4
        - (nAt b 0xC 4 + (s.rport p).hopNs), bitOf (nAt b 0x10 1) 0) ∧ t.ring.ownTiming = false := by
      rw [ht]
      exact ⟨rfl, rfl, rfl⟩
    dsimp only
    rw [← ht, hport]
    obtain ⟨hlast, hstart, hown⟩ := hvals
    by_cases ho : (s.rport p.other).active = true
    · rw [if_pos ho, State.sendCtl, State.modRport_rport_self, hport]
      refine ⟨?_, ?_, ?_, ?_, fun _ => rfl⟩
      · rw [State.modRport_ring t]
        exact hring ▸ rfl
      · rw [← hlast]; cases p <;> rfl
      · rw [← hstart]; cases p <;> rfl
      · rw [← hown]; cases p <;> rfl
    · rw [if_neg ho]
      exact ⟨hring, hlast, hstart, hown, fun h => absurd h ho⟩

end Sys2Proof.Machine
end

section
/-! PROOF. The head's frame starts and a member's (R597 to R602, R609). -/
namespace Sys2Proof.Machine

/-! ### START goes out (R597) -/

/-- START of a frame, as the head's ports send it. -/
def State.startToken (s : State) (n flags : Nat) : List Byte := tokenBlock 1 s.ring.ownId n s.ring.lMax 0 flags 0

/-- START touches the ports' waiting CONTROL blocks alone. -/
structure State.startSent (s t : State) (n flags : Nat) : Prop where
  frame : t = { s with ring := t.ring }
  bound : t.ring.lMax = s.ring.lMax
  sent : ∀ p, (s.rport p).active = true → (t.rport p).ctl = (s.rport p).ctl ++ [ctlBlock (s.startToken n flags)]

theorem State.sendStart_sent (s : State) (n flags : Nat) : s.startSent (s.sendStart n flags) n flags := by
  unfold State.sendStart State.activePorts
  by_cases he : (s.rport .east).active = true <;> by_cases hw : (s.rport .west).active = true <;>
    simp only [List.filter, he, hw, List.foldl] <;>
    exact ⟨rfl, rfl, fun p hp => by cases p <;> simp_all [State.sendCtl, State.modRport, State.rport, State.startToken]⟩

/-- The head's own frame starts DELAY after START went out (R597). -/
def State.startSentAt (s : State) (c n flags : Nat) : State :=
  let u := (s.atClk c).sendStart n flags
  u.atClk (u.clk + u.delayClk)

/-- The state in which the head's own frame starts: later, START sent, its outputs as they were. -/
structure State.readyToStart (s t : State) (c n flags : Nat) : Prop where
  out : t.out = s.out
  clk : t.clk = max s.clk c + s.delayClk
  sent : ∀ p, (s.rport p).active = true → (t.rport p).ctl = (s.rport p).ctl ++ [ctlBlock (s.startToken n flags)]

theorem State.startSentAt_ready (s : State) (c n flags : Nat) : s.readyToStart (s.startSentAt c n flags) c n flags := by
  obtain ⟨hframe, hbound, hsent⟩ := (s.atClk c).sendStart_sent n flags
  unfold State.startSentAt
  generalize (s.atClk c).sendStart n flags = u at hframe hbound hsent
  have hclk : u.clk = max s.clk c := by rw [hframe]; rfl
  have hdelay : u.delayClk = s.delayClk := congrArg (cdiv · 40) hbound
  refine ⟨?_, ?_, fun p hp => hsent p hp⟩
  · rw [hframe]; funext q; cases q <;> rfl
  · rw [← hclk, ← hdelay]
    exact Nat.max_eq_right (Nat.le_add_right ..)

theorem State.startInfos_of_out {s t : State} (h : t.out = s.out) (os : List OutId) (n : Nat) :
    t.startInfos os n = s.startInfos os n := by
  simp only [State.startInfos, h]

theorem State.startInfos_of_mayStart {s : State} {os : List OutId} {n : Nat} (h : s.mayStart os n = true) :
    (s.startInfos os n).isEmpty = false := by
  simp only [State.mayStart, Bool.and_eq_true, Bool.not_eq_true'] at h
  exact h.1.2

/-! ### The head's starts (R599) -/

theorem exec_headStartSend (s : State) : exec .headStartSend s = .next (
    let os := s.startOuts .A
    let n := s.startN os
    if !s.isHead || !s.mayStart os n || !s.readyAll n || !s.bandReady os n || !os.all s.tePermits then s
    else (s.startSentAt (s.headStartClk os) n 0).beginFrame os n false ((s.startSentAt (s.headStartClk os) n 0).teWaited os n)) :=
  rfl

/-- The instant from which the head starts by force. -/
def State.headForcedClk (s : State) (os : List OutId) : Nat :=
  os.foldl (fun a o =>
    let x := s.out o
    match x.info x.frameNum with
    | none => a
    | some i => max a (x.feClk + max (25 * i.mode.vmax - s.delayClk) 1000)) 0

theorem exec_headStartForced (s : State) : exec .headStartForced s = .next (
    let os := s.startOuts .A
    let n := s.startN os
    let own := s.bandReady os n && os.all s.tePermits
    if !s.isHead || !s.mayStart os n || (own && s.readyAll n) || os.any (fun q => (s.out q).frameNum == 0) then s
    else
      let u := s.startSentAt (s.headForcedClk os) n 1
      if own then u.beginFrame os n false (u.teWaited os n) else u.forceFrame os n) :=
  rfl

/-- What the start views of every output say of a frame begun. -/
theorem State.started_of_view {t : State} {os : List OutId} {n c : Nat} {forced : Bool} {r : Ring} {old : OutId → StartView}
    (hview : ∀ q, t.startView q = if q ∈ os then startedView n forced c r else old q) {o : OutId} (ho : o ∈ os) :
    (t.out o).frameNum = n ∧ (t.out o).inBlank = false ∧ (t.out o).forced = forced ∧ (t.out o).fsClk = c
      ∧ t.clk = c ∧ t.ring = r := by
  have h := hview o
  rw [if_pos ho] at h
  exact ⟨congrArg StartView.frameNum h, congrArg StartView.inBlank h, congrArg StartView.forced h,
    congrArg StartView.fsClk h, congrArg StartView.clk h, congrArg StartView.ring h⟩

theorem State.startOuts_head (s : State) : ∃ o, o ∈ s.startOuts .A := by
  unfold State.startOuts
  split
  · exact ⟨.A, by simp⟩
  · exact ⟨.A, by simp⟩

theorem State.rport_of_ring {s t : State} (h : t.ring = s.ring) : t.rport = s.rport := by
  funext q
  cases q <;> simp [State.rport, h]

theorem theHeadStarts : Clause.TheHeadStarts := by
  rintro s os n rfl rfl
  obtain ⟨o₀, ho₀⟩ := s.startOuts_head
  refine ⟨fun h => ⟨?_, ?_⟩, fun h => ?_, fun hhead hmay hready hband hte => ?_, fun hhead hmay hready hnum hband => ?_,
    fun hready hband hte => ?_⟩
  · rw [exec_headStartSend]
    exact congrArg _ (if_pos (by rcases h with h | h <;> simp [h]))
  · rw [exec_headStartForced]
    exact congrArg _ (if_pos (by rcases h with h | h <;> simp [h]))
  · rw [exec_headStartSend]
    exact congrArg _ (if_pos (by rcases h with h | h | h <;> simp [h]))
  · refine ⟨_, (exec_headStartSend s).trans (congrArg _ (if_neg (by simp [hhead, hmay, hready, hband, hte]))), ?_⟩
    obtain ⟨hout, hclk, hsent⟩ := s.startSentAt_ready (s.headStartClk (s.startOuts .A)) (s.startN (s.startOuts .A)) 0
    generalize s.startSentAt (s.headStartClk (s.startOuts .A)) (s.startN (s.startOuts .A)) 0 = u at hout hclk hsent
    have hview := u.beginFrame_startView (os := s.startOuts .A) (n := s.startN (s.startOuts .A))
      (by rw [State.startInfos_of_out hout]; exact State.startInfos_of_mayStart hmay) false
      (u.teWaited (s.startOuts .A) (s.startN (s.startOuts .A)))
    generalize u.beginFrame _ _ _ _ = t at hview
    obtain ⟨-, -, -, -, htclk, htring⟩ := State.started_of_view hview ho₀
    refine ⟨fun o ho => ?_, htclk.trans hclk, fun p hp => ?_⟩
    · obtain ⟨h1, h2, h3, h4, h5, -⟩ := State.started_of_view hview ho
      exact ⟨h1, h2, h3, h4.trans h5.symm⟩
    · rw [State.rport_of_ring htring]
      exact hsent p hp
  · have hzero : (s.startOuts .A).any (fun q => (s.out q).frameNum == 0) = false := by
      simpa using hnum
    refine ⟨_, (exec_headStartForced s).trans (congrArg _ ((if_neg (by simp [hhead, hmay, hready, hzero])).trans
      (if_neg (by simp [hband])))), ?_⟩
    obtain ⟨hout, -, hsent⟩ := s.startSentAt_ready (s.headForcedClk (s.startOuts .A)) (s.startN (s.startOuts .A)) 1
    generalize s.startSentAt (s.headForcedClk (s.startOuts .A)) (s.startN (s.startOuts .A)) 1 = u at hout hsent
    have hview := u.forceFrame_startView (os := s.startOuts .A) (n := s.startN (s.startOuts .A))
      (by rw [State.startInfos_of_out hout]; exact State.startInfos_of_mayStart hmay)
    generalize u.forceFrame _ _ = t at hview
    obtain ⟨-, -, -, -, -, htring⟩ := State.started_of_view hview ho₀
    refine ⟨fun o ho => ?_, fun p hp => ?_⟩
    · obtain ⟨h1, h2, h3, -⟩ := State.started_of_view hview ho
      exact ⟨h1, h2, h3⟩
    · rw [State.rport_of_ring htring]
      exact hsent p hp
  · rw [exec_headStartForced]
    exact congrArg _ (if_pos (by simp [hready, hband, hte]))

/-! ### A light report leaves the frames (R557, R559) -/

@[simp] theorem State.spoilFrames_startView (s : State) (q : OutId) : s.spoilFrames.startView q = s.startView q := by
  cases q <;> rfl

@[simp] theorem State.enterLog_startView (s : State) (x : FaultIn) (q : OutId) :
    (s.enterLog x).startView q = s.startView q := by
  simp only [State.startView, State.enterLog, State.out]

@[simp] theorem State.modLog_startView (s : State) (f : LogEntry → Bool) (g : LogEntry → LogEntry) (q : OutId) :
    (s.modLog f g).startView q = s.startView q := by
  cases q <;> rfl

/-- A report of FC0 or FC1 that forces no safe state leaves every output's frame, the clock and the ring. -/
theorem State.fault_light_startView {s : State} {x : FaultIn} (hc : s.classOf x ≤ 1) (hf : x.force = .none) (q : OutId) :
    (s.fault x).startView q = s.startView q := by
  have hforce : s.forceOf x = .none := (if_neg (by omega)).trans hf
  have hcls : min (s.classOf x) 4 ≠ 4 := by omega
  have hrec : recoverable x (min (s.classOf x) 4) = false := by
    have h3 : min (s.classOf x) 4 ≠ 3 := by omega
    simp [recoverable, h3, hcls]
  have hmark (u : State) : u.force .none x.code (min (s.classOf x) 4) = u := if_neg hcls
  unfold State.fault
  split <;> simp only [hforce, hmark, hrec] <;> simp

/-! ### A member's starts (R600) -/

theorem State.ringEvent_startView (s : State) (kind : Nat) (dev : Option Nat) (q : OutId) :
    (s.ringEvent kind dev).startView q = s.startView q := by
  unfold State.ringEvent
  dsimp only
  split <;> simp

/-- A start that is told to be misaligned is a start all the same. -/
theorem State.misaligned_started {s : State} (due : Nat) (q : OutId) :
    { (s.misaligned due).startView q with ring := s.ring } = s.startView q
      ∧ (s.misaligned due).ring.startN = s.ring.startN := by
  unfold State.misaligned
  split
  case isTrue => exact ⟨rfl, rfl⟩
  case isFalse =>
    obtain ⟨u, hu⟩ : ∃ u, u = s.modRing fun r => { r with missed := w32 (r.missed + 1) } := ⟨_, rfl⟩
    rw [← hu]
    have hview : ((u.ringEvent 3 (some s.ring.ownId)).fault
        { code := 0x1006, cls := 0, island := 255, detail := s.outA.frameNum, force := .none }).startView q = u.startView q := by
      rw [State.fault_light_startView (State.classOf_fc0 _ rfl) rfl, State.ringEvent_startView]
    refine ⟨?_, ?_⟩
    · rw [hview, hu]
      cases q <;> rfl
    · have hring := congrArg (·.ring.startN) hview
      exact hring.trans (by rw [hu]; rfl)

theorem foldl_fixCopies_nil (s : State) (os : List OutId) (joint : Bool) (n : Nat) :
    os.foldl (fun ps q => s.fixCopies q joint n [] ps) [] = [] := by
  induction os with
  | nil => rfl
  | cons o os ih => exact ih

theorem foldl_fixScenes_nil (s : State) (os : List OutId) (joint : Bool) (n : Nat) :
    os.foldl (fun ks q => s.fixScenes q joint n false ks) [] = [] := by
  induction os with
  | nil => rfl
  | cons o os ih => exact ih

/-- With nothing pending, no commit becomes live at a start. -/
theorem State.takeDue_idle {s : State} (hp : s.commits.pend = []) (hc : ∀ c ∈ s.chans, c.pending = []) (os : List OutId)
    (n : Nat) : s.takeDue os n = s := by
  refine if_pos ⟨?_, ?_⟩
  · rw [hp, foldl_fixCopies_nil]
  · rw [List.map_map]
    refine List.map_congr_left fun c hmem => ?_
    simp only [Function.comp_apply, hc c hmem, foldl_fixScenes_nil]

/-- The instant from which a member may start the frame whose START is due then. -/
def State.memberClk (s : State) (os : List OutId) (due : Nat) : Nat :=
  os.foldl (fun a o =>
    let x := s.out o
    match (if x.frameNum = 0 then none else x.info x.frameNum) with
    | none => a
    | some i => max a (x.feClk + 25 * i.mode.vmin)) (cdiv due 40)

theorem State.le_memberClk (s : State) (os : List OutId) (due : Nat) : cdiv due 40 ≤ s.memberClk os due := by
  unfold State.memberClk
  generalize cdiv due 40 = a
  induction os generalizing a with
  | nil => exact Nat.le_refl a
  | cons o os ih =>
    refine Nat.le_trans ?_ (ih _)
    dsimp only
    split
    · exact Nat.le_refl a
    · exact Nat.le_max_left ..

theorem exec_memberFrameStart {s : State} {n due : Nat} {forced : Bool} (hs : s.ring.startN = some (n, due, forced)) :
    exec .memberFrameStart s = .next (
      let os := s.startOuts .A
      let m := s.startN os
      if !s.isMember || !s.mayStart os m then s
      else
        let own := s.bandReady os m && os.all s.tePermits
        let u := (((s.atClk (s.memberClk os due)).adopt os m n).takeDue os n).modRing fun r => { r with startN := none }
        (if forced && !own then u.forceFrame os n else u.beginFrame os n false (u.teWaited os n)).misaligned due) := by
  show execMemberFrameStart s = _
  unfold execMemberFrameStart
  rw [hs]
  rfl

theorem exec_memberFrameStart_none {s : State} (hs : s.ring.startN = none) : exec .memberFrameStart s = .next s := by
  show execMemberFrameStart s = _
  unfold execMemberFrameStart
  rw [hs]

theorem memberFrameStart_held {s : State} {due : Nat} (hs : s.ring.startN = some (s.startN (s.startOuts .A), due, false))
    (hmem : s.isMember = true) (hp : s.commits.pend = []) (hc : ∀ c ∈ s.chans, c.pending = [])
    (hmay : s.mayStart (s.startOuts .A) (s.startN (s.startOuts .A)) = true) :
    ∃ t, exec .memberFrameStart s = .next t ∧ t.ring.startN = none
      ∧ (∀ o ∈ s.startOuts .A, (t.out o).frameNum = s.startN (s.startOuts .A) ∧ (t.out o).inBlank = false
          ∧ (t.out o).forced = false)
      ∧ cdiv due 40 ≤ t.clk := by
  obtain ⟨o₀, ho₀⟩ := s.startOuts_head
  refine ⟨_, (exec_memberFrameStart hs).trans (congrArg _ ((if_neg (by simp [hmem, hmay])).trans
    (congrArg (State.misaligned · due) (if_neg (by simp))))), ?_⟩
  have hadopt : (s.atClk (s.memberClk (s.startOuts .A) due)).adopt (s.startOuts .A) (s.startN (s.startOuts .A))
      (s.startN (s.startOuts .A)) = s.atClk (s.memberClk (s.startOuts .A) due) := if_pos rfl
  rw [hadopt, State.takeDue_idle (s := s.atClk (s.memberClk (s.startOuts .A) due)) hp hc]
  obtain ⟨u, hu⟩ : ∃ u, u = (s.atClk (s.memberClk (s.startOuts .A) due)).modRing fun r => { r with startN := none } :=
    ⟨_, rfl⟩
  rw [← hu]
  have hout : u.out = s.out := by rw [hu]; funext q; cases q <;> rfl
  have hclk : u.clk = max s.clk (s.memberClk (s.startOuts .A) due) := by rw [hu]; rfl
  have hnone : u.ring.startN = none := by rw [hu]; rfl
  have hview := u.beginFrame_startView (os := s.startOuts .A) (n := s.startN (s.startOuts .A))
    (by rw [State.startInfos_of_out hout]; exact State.startInfos_of_mayStart hmay) false
    (u.teWaited (s.startOuts .A) (s.startN (s.startOuts .A)))
  generalize u.beginFrame _ _ _ _ = v at hview
  obtain ⟨-, -, -, -, hvclk, hvring⟩ := State.started_of_view hview ho₀
  have htold (q : OutId) := (v.misaligned_started due q).1
  refine ⟨(v.misaligned_started due .A).2.trans (by rw [hvring, hnone]), fun o ho => ?_, ?_⟩
  · obtain ⟨h1, h2, h3, -⟩ := State.started_of_view hview ho
    exact ⟨(congrArg StartView.frameNum (htold o)).trans h1, (congrArg StartView.inBlank (htold o)).trans h2,
      (congrArg StartView.forced (htold o)).trans h3⟩
  · have hlater : (v.misaligned due).clk = u.clk := (congrArg StartView.clk (htold .A)).trans hvclk
    rw [hlater, hclk]
    exact Nat.le_trans (s.le_memberClk _ _) (Nat.le_max_right ..)

/-- The report of a START that has not come. -/
def startLost (s : State) : FaultIn :=
  { code := 0x1003, cls := 2, island := 255, detail := w32 (s.outA.frameNum + 1), force := .none }

theorem exec_startTimeout (s : State) : exec .startTimeout s = .next (
    if s.headBit || s.ring.ownTiming || s.ring.startN.isSome || !s.power.hearth || !s.outA.inBlank then s
    else if s.outA.frameNum = 0 then
      if (s.ring.east.block || s.ring.west.block) && s.power.closed1 then
        ((s.atClk ((s.door .A).closeClk + 25000000)).modRing fun r => { r with ownTiming := true }).fault (startLost s)
      else s
    else if !s.isMember then s
    else match s.outA.info s.outA.frameNum with
      | none => s
      | some i => ((s.atClk (s.outA.feClk + 25 * i.mode.vmax + 250)).modRing fun r =>
          { r with ownTiming := true }).fault (startLost s)) := by
  show execStartTimeout s = _
  unfold execStartTimeout
  rfl

theorem membersStart : Clause.MembersStart := by
  intro s
  refine ⟨exec_memberFrameStart_none, fun h => ?_, fun due hs hmem hp hc hmay => memberFrameStart_held hs hmem hp hc hmay,
    fun h => ?_, fun i hhead hown hstart hhearth hblank hnum hmem hi => ?_, fun hmem hiso => ?_, fun h => ?_⟩
  · match hs : s.ring.startN with
    | none => exact exec_memberFrameStart_none hs
    | some (n, due, forced) =>
      rw [exec_memberFrameStart hs]
      exact congrArg _ (if_pos (by rcases h with h | h <;> simp [h]))
  · rw [exec_startTimeout]
    refine congrArg _ (if_pos ?_)
    rcases h with h | h | h | h
    · simp [h]
    · simp [h]
    · simp [Option.isSome_iff_ne_none.mpr h]
    · simp [h]
  · have hexec := (exec_startTimeout s).trans (congrArg _ ((if_neg (by simp [hhead, hown, hstart, hhearth, hblank])).trans
      ((if_neg hnum).trans (if_neg (by simp [hmem])))))
    rw [hi] at hexec
    dsimp only at hexec
    refine ⟨_, hexec, ?_⟩
    obtain ⟨hsame, hlogs⟩ := State.fault_fc2 ((s.atClk (s.outA.feClk + 25 * i.mode.vmax + 250)).modRing fun r =>
      { r with ownTiming := true }) (x := startLost s) rfl (by simp [startLost, Force.level])
    generalize ((s.atClk (s.outA.feClk + 25 * i.mode.vmax + 250)).modRing fun r =>
      { r with ownTiming := true }).fault (startLost s) = t at hsame hlogs
    unfold State.sameButHandling at hsame
    have hring : t.ring = { s.ring with ownTiming := true } := by rw [hsame]; rfl
    have hclk : t.clk = max s.clk (s.outA.feClk + 25 * i.mode.vmax + 250) := by rw [hsame]; rfl
    refine ⟨hring, hclk, ?_, ?_⟩
    · rw [hclk]
      exact hlogs
    · rw [hring, hclk]
      exact hsame
  · exact congrArg _ (if_pos (by simp [hmem, hiso]))
  · exact congrArg _ (if_neg (by rcases h with h | h <;> simp [h]))

/-- Settles O35: READY and START are handed on at the port they came to; the starts of the head and of a member are frame
starts of the machine, of which `State.startView` keeps the outputs' timing, the clock and the ring. -/
theorem ringFramesStart : Obligations.RingFramesStart := ⟨tokensTravel, theHeadStarts, membersStart⟩

end Sys2Proof.Machine
end

section
/-! PROOF. OPEN_SESSION at its fetch, CLOSE_SESSION and ATTEST (R502, R532, R538, R545, R654, R655). -/
namespace Sys2Proof.Machine

/-! ### OPEN_SESSION at its fetch (R654, R655) -/

/-- The state behind an OPEN_SESSION that takes its place in the queue. -/
def State.openQueued (s : State) (f : Nat) (e : SqEntry) : State :=
  (s.pop f).modTrust fun t =>
    { t with admitQ := t.admitQ ++ [{ func := f, entry := e }],
             pointQ := t.pointQ ++ [{ func := f, ord := 0, slot := 0, update := bytesAt (payloadOf e) 0 48, openS := true }] }

/-- The answer of an OPEN_SESSION for which the queue has no place. -/
def State.openBusy (s : State) (f : Nat) : CmdRes :=
  { CmdRes.bad ((s.pop f).modTrust fun t => { t with admitBusy := sat 16 (t.admitBusy + 1) }) stBusyRetry with
    retry := cdiv s.trust.admitQ.length 8 }

theorem exec_openSession {f : Nat} {e : SqEntry} {s : State} (hf : s.fetches f = some e) (hop : nAt e.raw 0 2 = 0x500)
    (hj : s.journalRoom = true) (hc : ({ f := f, e := e } : Cmd).check3 = false) : exec (.openSession f) s = .next (
      if 4096 ≤ s.trust.admitQ.length then ((s.openBusy f).finish { f := f, e := e }).drain f
      else (s.openQueued f e).drain f) := by
  show execOpenSession f s = _
  unfold execOpenSession
  rw [hf]
  dsimp only
  rw [if_neg (by simp [hop, hj]), if_neg (by simp [hc])]
  rfl

/-! ### CLOSE_SESSION (R502, R538) -/

/-- Steps of which each touches Cellar alone touch Cellar alone. -/
theorem foldl_cellar_eq {α : Type} (f : State → α → State) (hf : ∀ a x, ∃ l, f a x = { a with cellar := l }) (xs : List α)
    (s : State) : ∃ l, xs.foldl f s = { s with cellar := l } := by
  induction xs generalizing s with
  | nil => exact ⟨s.cellar, rfl⟩
  | cons x xs ih =>
    obtain ⟨l, hl⟩ := hf s x
    obtain ⟨m, hm⟩ := ih (f s x)
    exact ⟨m, by rw [List.foldl_cons, hm, hl]⟩

/-- Sessions that close leave the list of those open, and are journalled. -/
theorem State.closeSessions_eq (s : State) (gone : List Session) : ∃ l, s.closeSessions gone = { s with
    trust := { s.trust with sessions := s.trust.sessions.filter fun q => !(gone.any (·.num == q.num)) }, cellar := l } :=
  foldl_cellar_eq _ (fun a q => (a.journal_eq (.session q.num false a.us) true).imp fun _ h => h.1) gone _

theorem State.sessionOf_num {s : State} {n : Nat} {x : Session} (h : s.sessionOf n = some x) : x.num = n := by
  have := List.find?_some h
  simpa using this

/-- Closing a session leaves the others. -/
theorem State.closeSessions_sessionOf (s : State) (x : Session) (n : Nat) :
    (s.closeSessions [x]).sessionOf n = if n = x.num then none else s.sessionOf n := by
  have htrust : (s.closeSessions [x]).trust.sessions = s.trust.sessions.filter fun q => !(x.num == q.num) := by
    obtain ⟨l, hl⟩ := s.closeSessions_eq [x]
    rw [hl]
    simp
  unfold State.sessionOf
  rw [htrust, List.find?_filter]
  by_cases hn : n = x.num
  · rw [if_pos hn, List.find?_eq_none]
    intro q _
    simp [hn, Ne, eq_comm (a := q.num)]
  · rw [if_neg hn]
    congr 1
    funext q
    by_cases hq : q.num = n
    · simp [hq, Ne.symm hn]
    · simp [hq]

/-- CLOSE_SESSION's act. -/
def closeAct (s : State) (c : Cmd) : CmdRes :=
  if s.closeRelayed c then { CmdRes.ok (s.relayOut c stOk [] false) [] with later := true }
  else let r := s.closeSession c.payload; .ok r.1 r.2

theorem closeAct_open {s : State} {c : Cmd} {x : Session} (h : s.sessionOf (nAt c.payload 0 2) = some x) :
    closeAct s c = .ok (s.closeSessions [x])
      (receiptOf (some x.rcpKey) (nAt c.payload 0 2) 3 (nAt c.payload 8 8) s.us) := by
  unfold closeAct
  rw [if_neg (by simp [State.closeRelayed, h])]
  simp only [State.closeSession, h, State.receipt]
  rfl

theorem exec_closeSession {f : Nat} {e : SqEntry} {s : State} (hf : s.fetches f = some e) : exec (.closeSession f) s = .next (
    if s.trust.pointQ.any fun i => i.session == nAt (payloadOf e) 0 2 then s else s.hostCommand f closeCard closeAct) := by
  show execCloseSession f s = _
  unfold execCloseSession
  rw [hf]
  rfl

/-! ### Refused host commands -/

/-- A command whose act refuses it has no effect, and its completion bears the status. -/
theorem State.hostCommand_refuses {s : State} {f : Nat} {k : Card} {e : SqEntry} {act : State → Cmd → CmdRes} {status : Nat}
    (h : s.hostRuns f k e) (ht : k.hasTrailer { f := f, e := e } = false)
    (hact : act (s.pop f) { f := f, e := e } = .bad (s.pop f) status) :
    s.sameButBoxes (s.hostCommand f k act) ∧ (s.box f).gained ((s.hostCommand f k act).box f) e status 0 [] := by
  obtain ⟨hsame, hgain⟩ := State.command_answers h act (.bad (s.pop f) status)
    (by rw [State.storeCounter_plain _ _ _ ht, hact]; unfold CmdRes.settled; split <;> rfl) rfl rfl
  exact ⟨(State.pop_sameButBoxes s f).trans hsame, hgain⟩

/-- ATTEST's act. -/
def attestAct (s : State) (c : Cmd) : CmdRes :=
  if s.trust.lifecycle = 3 ∨ s.trust.identity = false then .bad s stNotReady
  else .ok s (s.attestBody (c.payload.take 32)
    ++ fitTo 1280 (Config.falconSign s.identityKeys (signedMsg domAttest (s.attestBody (c.payload.take 32)))))

/-- Settles O47: OPEN_SESSION is queued at its fetch or told to come back; CLOSE_SESSION and ATTEST are host commands, and a
closed session's receipt has the key it had. -/
theorem sessionCommands : Obligations.SessionCommands := by
  intro f e s
  refine ⟨fun hf h64 hop hj hc => ⟨fun hroom => ⟨_, (exec_openSession hf hop hj hc).trans (congrArg _ (if_neg (by omega))), ?_⟩,
      fun hfull => ⟨_, (exec_openSession hf hop hj hc).trans (congrArg _ (if_pos hfull)), ?_⟩⟩,
    fun hf hwait => ?_, fun x h hfree hx => ?_, fun h => ⟨fun hlife hid => ?_, fun hnone => ?_⟩⟩
  · have hsame : (s.openQueued f e).sameButBoxes ((s.openQueued f e).drain f) := drainBad_sameButBoxes ..
    rw [State.sameButBoxes] at hsame
    rw [hsame]
    rfl
  · obtain ⟨hsame, hgain⟩ := CmdRes.finish_gained (r := s.openBusy f) hf h64 rfl rfl
    refine ⟨?_, ?_⟩
    · rw [State.sameButBoxes] at hsame
      rw [hsame, ← sat_16]
      rfl
    · exact hgain
  · rw [exec_closeSession hf]
    obtain ⟨i, hi, hsess⟩ := hwait
    exact congrArg _ (if_pos (List.any_eq_true.2 ⟨i, hi, by simp [hsess]⟩))
  · have hrun := exec_closeSession (f := f) (e := e) (s := s) h.1
    rw [if_neg (by simpa using hfree)] at hrun
    refine ⟨_, hrun, ?_⟩
    have hact := closeAct_open (s := s.pop f) (c := { f := f, e := e }) (x := x) hx
    obtain ⟨l, hl⟩ := (s.pop f).closeSessions_eq [x]
    obtain ⟨hsame, hgain⟩ := State.command_answers h closeAct
      (.ok ((s.pop f).closeSessions [x]) (receiptOf (some x.rcpKey) (nAt (payloadOf e) 0 2) 3 (nAt (payloadOf e) 8 8) s.us))
      (by rw [State.storeCounter_plain _ _ _ rfl, hact]; rfl) rfl
      (by show ((s.pop f).closeSessions [x]).boxes = _; rw [hl])
    change ((s.pop f).closeSessions [x]).sameButBoxes (s.hostCommand f closeCard closeAct) at hsame
    change (s.box f).gained ((s.hostCommand f closeCard closeAct).box f) _ _ _ _ at hgain
    generalize s.hostCommand f closeCard closeAct = t at hsame hgain
    unfold State.sameButBoxes at hsame
    have hsess (n : Nat) : t.sessionOf n = if n = nAt (payloadOf e) 0 2 then none else s.sessionOf n := by
      have hclosed := (s.pop f).closeSessions_sessionOf x n
      rw [State.sessionOf_num hx] at hclosed
      rw [hsame]
      exact hclosed
    refine ⟨(hsess _).trans (if_pos rfl), fun n hn => (hsess n).trans (if_neg hn), hgain, ?_⟩
    rw [hsame, hl]
    rfl
  · exact ⟨_, rfl, State.hostCommand_answers (act := attestAct) h rfl (if_neg (not_or.2 ⟨hlife, ne_false_of_eq_true hid⟩))⟩
  · exact ⟨_, rfl, State.hostCommand_refuses (act := attestAct) h rfl (if_pos hnone)⟩

end Sys2Proof.Machine
end

section
/-! PROOF. The owner's commands: packages, the lifecycle, firmware, the violation counters, GET_CAL under a trailer
(R508, R513, R517, R519, R522, R523, R525, R526, R529 to R531). -/
namespace Sys2Proof.Machine

/-! ### The state in which a trailed command acts (R525, R526) -/

/-- Storing a COUNTER changes the counter and the owner state record. -/
theorem State.storeCounter_eq (s : State) (k : Card) (c : Cmd) : ∃ n o, s.storeCounter k c = { s with
    trust := { s.trust with counter := n }, mram := { s.mram with owner := o } } := by
  unfold State.storeCounter
  dsimp only
  split
  · exact ⟨_, _, rfl⟩
  · exact ⟨s.trust.counter, s.mram.owner, rfl⟩

/-- Once fetched, a command whose trailer's COUNTER is stored acts in the machine as it was, but for the counter and the
letterbox that it was fetched from. -/
theorem State.acting_eq (s : State) (f : Nat) (k : Card) (c : Cmd) : ∃ b n o, (s.pop f).storeCounter k c = { s with
    boxes := b, trust := { s.trust with counter := n }, mram := { s.mram with owner := o } } := by
  obtain ⟨n, o, h⟩ := (s.pop f).storeCounter_eq k c
  exact ⟨(s.pop f).boxes, n, o, h⟩

/-- A command that acts with a status of acceptance, and whose act leaves the letterboxes. -/
theorem State.command_acts {s u : State} {f : Nat} {k : Card} {e : SqEntry} {cl : State → Cmd → Option (List Byte)}
    {act : State → Cmd → CmdRes} {r : CmdRes} (h : s.runs f k e cl) (hu : u = (s.pop f).storeCounter k { f := f, e := e })
    (hact : act u { f := f, e := e } = r) (hst : r.status = stOk ∨ r.status = stDeferred) (hl : r.later = false)
    (hb : r.st.boxes = u.boxes) :
    r.st.sameButBoxes (s.command f k cl act) ∧ (s.box f).gained ((s.command f k cl act).box f) e r.status r.retry r.resp := by
  subst hu
  exact State.command_answers h act r (by rw [hact]; exact if_pos hst) hl (hb.trans (State.storeCounter_boxes ..))

/-- A command that its act refuses: nothing has happened but to the counter of the free values. -/
theorem State.command_refuses {s u : State} {f : Nat} {k : Card} {e : SqEntry} {cl : State → Cmd → Option (List Byte)}
    {act : State → Cmd → CmdRes} {r : CmdRes} (h : s.runs f k e cl) (hu : u = (s.pop f).storeCounter k { f := f, e := e })
    (hact : act u { f := f, e := e } = r) (hok : r.status ≠ stOk) (hdef : r.status ≠ stDeferred) (hl : r.later = false) :
    ({ s with free := r.st.free } : State).sameButBoxes (s.command f k cl act)
      ∧ (s.box f).gained ((s.command f k cl act).box f) e r.status r.retry r.resp := by
  subst hu
  obtain ⟨hsame, hgain⟩ := State.command_answers h act _ ((congrArg (CmdRes.settled · (s.pop f)) hact).trans
    (CmdRes.settled_refused hok hdef _)) hl rfl
  refine ⟨?_, hgain⟩
  rw [State.sameButBoxes] at hsame ⊢
  rw [hsame]
  rfl

/-! ### INSTALL_PACKAGE (R513, R522, R529 to R531) -/

/-- The key slot behind an accepted package. -/
def Package.keyBehind (p : Package) (key : Option (List Byte)) : Option (List Byte) :=
  match p.nextKey with
  | some k => some k
  | none => if p.claim = true then some p.ownerKey else key

/-- What an accepted package leaves. -/
theorem State.install_eq (s : State) (p : Package) (due : Nat) : ∃ o, s.install p due = { s with
    trust := { s.trust with pending := some p, pendDue := due, ownerKey := p.keyBehind s.trust.ownerKey,
                            lifecycle := if p.claim = true then 2 else s.trust.lifecycle, undefine := false }
    mram := { s.mram with owner := o, pkg := s.mram.pkg.writeSealed s.trust.serial 0x50 Package.payload s.us p } } := by
  unfold State.install Package.keyBehind
  dsimp only
  split
  · exact ⟨_, rfl⟩
  · exact ⟨s.mram.owner, rfl⟩

/-- INSTALL_PACKAGE's act. -/
def installCmd (s : State) (c : Cmd) : CmdRes :=
  s.installAct (installCard.bodyOf c) (s.pkgDue (nAt (installCard.trailerOf c) 8 8 == 0))

/-- A function's INSTALL_PACKAGE. -/
def State.installRun (s : State) (f : Nat) : State :=
  s.command f installCard (fun s c => some (s.readPackage (installCard.bodyOf c)).ownerKey) installCmd

theorem exec_installPackage (s : State) (f : Nat) : exec (.installPackage f) s = .next (s.installRun f) := rfl

theorem State.installAct_accepts {u : State} {b : List Byte} {p : Package} (hp : p = u.readPackage b)
    (hpend : u.trust.pending = none) (hgood : u.pkgGood b p = true) (hver : ∀ v ∈ u.pkgVersions, v < p.version) (due : Nat) :
    u.installAct b due = { CmdRes.ok (u.install p due) (leBytes 4 p.version ++ leBytes 4 due) with status := stDeferred } := by
  subst hp
  have hall : u.pkgVersions.all (fun v => decide (v < (u.readPackage b).version)) = true := by simpa using hver
  exact (if_neg (by simp [hpend])).trans (if_neg (by simp [hgood, hall]))

theorem State.installAct_busy {u : State} {b : List Byte} {due : Nat} (hpend : u.trust.pending.isSome = true) :
    u.installAct b due = { CmdRes.bad u.drawn stBusyRetry with retry := u.pkgRetry } := if_pos hpend

/-! ### SET_LIFECYCLE (R522, R523) -/

theorem State.leaveOwned_eq (s : State) (n : Nat) : ∃ l o, s.leaveOwned n = { s with
    trust := { s.trust with sessions := [], lifecycle := n, ownerKey := none, pending := none, pendB := 0, undefine := true,
                            identity := s.trust.identity && n != 3 }
    mram := { s.mram with owner := o, pkg := .blank }
    cellar := l } := by
  obtain ⟨l, hl⟩ := s.closeSessions_eq s.trust.sessions
  have hnone : (s.trust.sessions.filter fun q => !(s.trust.sessions.any (·.num == q.num))) = [] := by
    rw [List.filter_eq_nil_iff]
    intro q hq
    simpa using ⟨q, hq, rfl⟩
  rw [hnone] at hl
  unfold State.leaveOwned
  rw [hl]
  exact ⟨l, _, rfl⟩

theorem setLifecycleAct_leaves {u : State} {c : Cmd} (hlife : u.trust.lifecycle = 2)
    (hn : nAt c.payload 0 1 = 1 ∨ nAt c.payload 0 1 = 3) :
    setLifecycleAct u c = .ok (u.leaveOwned (nAt c.payload 0 1)) [] := by
  unfold setLifecycleAct
  dsimp only
  rw [if_neg]
  rintro (h | ⟨h1, h3⟩)
  · exact h hlife
  · exact hn.elim h1 h3

/-! ### UPDATE_FIRMWARE, READ_VIOLATIONS and GET_CAL (R494, R508, R519) -/

/-- UPDATE_FIRMWARE's act. -/
def firmwareCmd (s : State) (c : Cmd) : CmdRes := s.firmwareAct (firmwareCard.bodyOf c)

theorem exec_updateFirmware (s : State) (f : Nat) :
    exec (.updateFirmware f) s = .next (s.hostCommand f firmwareCard firmwareCmd) := rfl

theorem exec_readViolations (s : State) (f : Nat) :
    exec (.readViolations f) s = .next (s.hostCommand f readViolationsCard readViolationsAct) := rfl

theorem exec_getCal (s : State) (f : Nat) : exec (.getCal f) s = .next (s.hostCommand f getCalCard getCalAct) := rfl

/-- What GET_CAL answers for an output. -/
def State.calReport (s : State) (o : OutId) : List Byte :=
  leBytes 1 s.optState ++ leBytes 1 s.calib.curSlot ++ leBytes 1 (s.liveSource o) ++ zeros 1
    ++ leBytes 2 s.calib.measured.length ++ leBytes 2 s.calib.passes ++ leBytes 2 s.calib.abandoned
    ++ leBytes 2 (s.rampOf (s.eff o)).pos ++ leBytes 2 s.transom.vcomOpt

theorem State.calReport_acting {s u : State} {b : List Letterbox} {n : Nat} {o : AB (Option (List Byte) × Nat)}
    (h : u = { s with boxes := b, trust := { s.trust with counter := n }, mram := { s.mram with owner := o } }) (q : OutId) :
    u.calReport q = s.calReport q := by
  subst h
  rfl

/-! ### The claim -/

/-- Settles O49: each of the commands acts in the state in which its trailer's COUNTER is stored, and its act is accepted or
refused whole. -/
theorem ownerCommands : Obligations.OwnerCommands := by
  intro f e s u b
  refine ⟨fun p h hu hb hp hpend hgood hver => ?_, fun h hu hpend => ?_, fun h hlife hn => ?_,
    fun w h hu hw => ⟨fun hpass => ?_, fun hfail => ?_⟩, fun h hu => ?_, fun o h _ ho hno hu => ?_⟩
  · obtain ⟨due, hdue⟩ : ∃ due, due = u.pkgDue (nAt (installCard.trailerOf { f := f, e := e }) 8 8 == 0) := ⟨_, rfl⟩
    have hact : installCmd u { f := f, e := e }
        = { CmdRes.ok (u.install p due) (leBytes 4 p.version ++ leBytes 4 due) with status := stDeferred } := by
      unfold installCmd
      rw [← hb, ← hdue]
      exact State.installAct_accepts hp hpend hgood hver _
    obtain ⟨o, hinst⟩ := u.install_eq p due
    have hran := State.command_acts h hu hact (.inr rfl) rfl (by show (u.install p due).boxes = _; rw [hinst])
    obtain ⟨bx, n, o', hacting⟩ := s.acting_eq f installCard { f := f, e := e }
    rw [← hu] at hacting
    refine ⟨_, due, exec_installPackage s f, ?_⟩
    obtain ⟨hsame, hgain⟩ : (u.install p due).sameButBoxes (s.installRun f)
      ∧ (s.box f).gained ((s.installRun f).box f) e stDeferred 0 (leBytes 4 p.version ++ leBytes 4 due) := hran
    generalize s.installRun f = t at hsame hgain ⊢
    rw [State.sameButBoxes, hinst] at hsame
    clear hinst hact hp hpend hgood hver hu h
    subst hacting
    refine ⟨?_, ?_, hdue, ?_, ?_, ?_, hgain, ?_⟩
    · rw [hsame]
    · rw [hsame]
    · rw [hsame]
    · rw [hsame]; rfl
    · rw [hsame]; rfl
    · rw [hsame]
  · have hact : installCmd u { f := f, e := e } = { CmdRes.bad u.drawn stBusyRetry with retry := u.pkgRetry } :=
      State.installAct_busy hpend
    obtain ⟨hsame, hgain⟩ : ({ s with free := u.drawn.free } : State).sameButBoxes (s.installRun f)
      ∧ (s.box f).gained ((s.installRun f).box f) e stBusyRetry u.pkgRetry [] :=
      State.command_refuses h hu hact (show stBusyRetry ≠ stOk by decide) (show stBusyRetry ≠ stDeferred by decide) rfl
    refine ⟨_, exec_installPackage s f, hgain, ?_⟩
    rw [State.sameButBoxes] at hsame
    rw [hsame]
  · obtain ⟨v, hv⟩ : ∃ v, v = (s.pop f).storeCounter setLifecycleCard { f := f, e := e } := ⟨_, rfl⟩
    obtain ⟨bx, n, o, hacting⟩ := s.acting_eq f setLifecycleCard { f := f, e := e }
    rw [← hv] at hacting
    have hact : setLifecycleAct v { f := f, e := e } = .ok (v.leaveOwned (nAt (payloadOf e) 0 1)) [] :=
      setLifecycleAct_leaves (by rw [hacting]; exact hlife) hn
    obtain ⟨l, o', hleft⟩ := v.leaveOwned_eq (nAt (payloadOf e) 0 1)
    obtain ⟨hsame, hgain⟩ : (v.leaveOwned (nAt (payloadOf e) 0 1)).sameButBoxes (s.hostCommand f setLifecycleCard setLifecycleAct)
      ∧ (s.box f).gained ((s.hostCommand f setLifecycleCard setLifecycleAct).box f) e stOk 0 [] :=
      State.command_acts h hv hact (.inl rfl) rfl (by show (v.leaveOwned _).boxes = _; rw [hleft])
    have hexec : exec (.setLifecycle f) s = .next (s.hostCommand f setLifecycleCard setLifecycleAct) := rfl
    refine ⟨_, hexec, ?_⟩
    generalize s.hostCommand f setLifecycleCard setLifecycleAct = t at hsame hgain ⊢
    rw [State.sameButBoxes, hleft, hacting] at hsame
    refine ⟨?_, ?_, ?_, ?_, ?_, ?_, hgain, ?_⟩
    · rw [hsame]
    · rw [hsame]
    · rw [hsame]
    · rw [hsame]
    · rw [hsame]
    · rw [hsame]
    · rw [hsame]
  · have hact : u.firmwareAct (firmwareCard.bodyOf { f := f, e := e })
        = .ok (u.modMram fun m => { m with fw := m.fw.writeSealed u.trust.serial 0x41 FwImage.payload u.us w }) [] := by
      subst hw
      exact if_pos hpass
    obtain ⟨hsame, hgain⟩ := State.command_acts (act := firmwareCmd) h hu hact (.inl rfl) rfl rfl
    obtain ⟨bx, n, o, hacting⟩ := s.acting_eq f firmwareCard { f := f, e := e }
    rw [← hu] at hacting
    refine ⟨_, exec_updateFirmware s f, ?_⟩
    change ({ u with mram := { u.mram with
      fw := u.mram.fw.writeSealed u.trust.serial 0x41 FwImage.payload u.us w } } : State).sameButBoxes
        (s.hostCommand f firmwareCard firmwareCmd) at hsame
    change (s.box f).gained ((s.hostCommand f firmwareCard firmwareCmd).box f) e stOk 0 [] at hgain
    generalize s.hostCommand f firmwareCard firmwareCmd = t at hsame hgain ⊢
    rw [State.sameButBoxes] at hsame
    refine ⟨?_, ?_, ?_, hgain⟩
    · rw [hsame, hacting]
      rfl
    · rw [State.sameButBoxes, hsame]
    · rw [hsame]
  · have hact : firmwareCmd u { f := f, e := e } = .bad u stBadField := by
      subst hw
      exact if_neg (ne_true_of_eq_false hfail)
    obtain ⟨bx, n, o, hacting⟩ := s.acting_eq f firmwareCard { f := f, e := e }
    rw [← hu] at hacting
    have hfree : u.free = s.free := by rw [hacting]
    obtain ⟨hsame, hgain⟩ := State.command_refuses h hu hact (show stBadField ≠ stOk by decide)
      (show stBadField ≠ stDeferred by decide) rfl
    refine ⟨_, exec_updateFirmware s f, ?_, hgain⟩
    rw [show (CmdRes.bad u stBadField).st.free = s.free from hfree] at hsame
    exact hsame
  · obtain ⟨bx, n, o, hacting⟩ := s.acting_eq f readViolationsCard { f := f, e := e }
    rw [← hu] at hacting
    have hcellar : u.cellar = s.cellar := by rw [hacting]
    obtain ⟨hsame, hgain⟩ := State.command_acts (act := readViolationsAct) h hu rfl (.inl rfl) rfl rfl
    refine ⟨_, exec_readViolations s f, hsame, ?_⟩
    rw [← hcellar]
    exact hgain
  · obtain ⟨bx, n, o', hacting⟩ := s.acting_eq f getCalCard { f := f, e := e }
    rw [← hu] at hacting
    have hact : getCalAct u { f := f, e := e } = .ok u (s.calReport o) := by
      have hout : u.noOutB (outOf (nAt (payloadOf e) 0 1)) = false := by
        rw [ho, hacting]
        exact hno
      subst ho
      refine (if_neg (ne_true_of_eq_false hout)).trans ?_
      rw [← State.calReport_acting hacting]
      rfl
    obtain ⟨hsame, hgain⟩ := State.command_acts h hu hact (.inl rfl) rfl rfl
    exact ⟨_, exec_getCal s f, hsame, hgain⟩

end Sys2Proof.Machine
end

section
/-! PROOF. Point updates: their queue, what a KMAC engine judges, receipts, the sweep and the rewrite's end (R212 to R216,
R224, R227, R230, R231, R482, R503). -/
namespace Sys2Proof.Machine

/-! ### RELAY packets go out on the ports alone (R606) -/

/-- Steps of which each touches the ring alone touch the ring alone. -/
theorem foldl_ring_eq {α : Type} (f : State → α → State) (hf : ∀ a x, ∃ r, f a x = { a with ring := r }) (xs : List α)
    (s : State) : ∃ r, xs.foldl f s = { s with ring := r } := by
  induction xs generalizing s with
  | nil => exact ⟨s.ring, rfl⟩
  | cons x xs ih =>
    obtain ⟨r, hr⟩ := hf s x
    obtain ⟨r', hr'⟩ := ih (f s x)
    exact ⟨r', by rw [List.foldl_cons, hr', hr]⟩

theorem State.sendPacket_ring (s : State) (p : RPort) (typ flags src dst hops : Nat) (body : List Byte) :
    ∃ r, s.sendPacket p typ flags src dst hops body = { s with ring := r } :=
  ⟨_, (s.sendPacket_frame p typ flags src dst hops body).2.2⟩

/-- The response area of a command that goes out along the ring. -/
def relayArea (e : SqEntry) (resp : List Byte) : List Byte :=
  fitTo (if nAt e.raw 0x14 4 = 0 then 16 else min (nAt e.raw 0x14 4) 1048576) resp

theorem State.sendRelay_ring (s : State) (p : RPort) (returning : Bool) (src hops opcode status tag : Nat)
    (payload resp : List Byte) : ∃ r, s.sendRelay p returning src hops opcode status tag payload resp = { s with ring := r } :=
  foldl_ring_eq _ (fun a _ => a.sendPacket_ring ..) _ s

theorem State.relayOut_ring (s : State) (c : Cmd) (status : Nat) (resp : List Byte) (dev0 : Bool) :
    ∃ r, s.relayOut c status resp dev0 = { s with ring := r } := by
  obtain ⟨u, r₀, hu, hr₀⟩ : ∃ u r₀, u = s.modRing (fun r =>
      { r with relayTag := w32 (s.ring.relayTag + 1)
               relays := r.relays ++ [{ func := c.f, entry := c.e, tag := s.ring.relayTag, left := s.activePorts,
                                        status := if dev0 then some status else none, resp := relayArea c.e resp,
                                        dev0 := dev0 }] }) ∧ u = { s with ring := r₀ } := ⟨_, _, rfl, rfl⟩
  obtain ⟨r, hr⟩ := foldl_ring_eq (fun (a : State) p => a.sendRelay p false u.ring.ownId 0 c.opcode noneActed s.ring.relayTag
    c.payload (relayArea c.e resp)) (fun a p => a.sendRelay_ring ..) u.activePorts u
  refine ⟨r, Eq.trans ?_ (hr.trans (by rw [hr₀]))⟩
  rw [hu]
  rfl

/-! ### A completion and what follows it in its ring -/

/-- The completion of a command whose entry is at hand. -/
theorem State.completed_gained {s : State} {f : Nat} {e : SqEntry} (hf : f < s.boxes.length) (hen : (s.box f).cqEn = true)
    (hsize : (s.box f).cqSize ≠ 0) (h64 : e.raw.length = 64) (status retry : Nat) (resp : List Byte) :
    (s.box f).gained (((s.complete f e status retry resp).drain f).box f) e status retry resp := by
  obtain ⟨c, more, hcq, hentry⟩ := Letterbox.postCompletion_gained (s.box f) s.us status retry e resp hen hsize
  obtain ⟨bad, hdrain⟩ := drainBad_cq f ((s.complete f e status retry resp).box f).ready.length (s.complete f e status retry resp)
  refine ⟨c, more ++ bad, ?_, hentry⟩
  rw [State.drain, hdrain, State.complete, State.box_modBox_self _ _ _ hf, entryId_plain h64, hcq]
  simp

/-! ### Receipts (R482, R503, R606) -/

/-- The commands that wait for receipts, one of which has got one. -/
def State.receiptPut (s : State) (i : PointIn) (rc : List Byte) : State :=
  s.modTrust fun t =>
    { t with pointCmds := t.pointCmds.map fun c =>
        if c.ord = i.ord then { c with receipts := c.receipts.set i.slot (some rc) } else c }

/-- The command that has got a receipt is the one that an input is of. -/
theorem State.receiptPut_find (s : State) (i : PointIn) (rc : List Byte) :
    ((s.receiptPut i rc).trust.pointCmds.find? fun c => c.ord == i.ord)
      = (s.trust.pointCmds.find? fun c => c.ord == i.ord).map fun c =>
          { c with receipts := c.receipts.set i.slot (some rc) } := by
  show ((s.trust.pointCmds.map _).find? _) = _
  generalize s.trust.pointCmds = l
  induction l with
  | nil => rfl
  | cons c l ih =>
    by_cases hc : c.ord = i.ord
    · simp [hc]
    · simpa [hc] using ih

theorem State.putReceipt_eq (s : State) (i : PointIn) (rc : List Byte) : s.putReceipt i rc =
    match (s.trust.pointCmds.find? fun c => c.ord == i.ord) with
    | none => s.receiptPut i rc
    | some w =>
      if w.relay.isNone && (w.receipts.set i.slot (some rc)).all (·.isSome) then
        (s.receiptPut i rc).pointsDone { w with receipts := w.receipts.set i.slot (some rc) } stOk
      else s.receiptPut i rc := by
  have h := s.receiptPut_find i rc
  unfold State.putReceipt
  dsimp only
  change (match ((s.receiptPut i rc).trust.pointCmds.find? fun c => c.ord == i.ord) with
    | none => s.receiptPut i rc
    | some c => if c.relay.isNone && c.receipts.all (·.isSome) then (s.receiptPut i rc).pointsDone c stOk
      else s.receiptPut i rc) = _
  rw [h]
  cases s.trust.pointCmds.find? fun c => c.ord == i.ord <;> rfl

/-- The commands that wait, without those of an order number. -/
def State.dropPoints (s : State) (ord : Nat) : State :=
  s.modTrust fun t => { t with pointCmds := t.pointCmds.filter fun d => d.ord != ord }

/-- The response of a command whose receipts are in. -/
def PointsCmd.response (c : PointsCmd) : List Byte := c.receipts.flatMap fun r => r.getD (zeros 40)

theorem State.pointsDone_ite (s : State) (c : PointsCmd) (status : Nat) : s.pointsDone c status =
    if (s.relays && status == stOk) = true then
      (s.dropPoints c.ord).relayOut { f := c.func, e := c.entry } status c.response false
    else ((s.dropPoints c.ord).complete c.func c.entry status 0 c.response).drain c.func := rfl

/-- A command's end touches its letterbox, or at a ring's head the ports. -/
theorem State.pointsDone_eq (s : State) (c : PointsCmd) (status : Nat) : ∃ b r, s.pointsDone c status = { s.dropPoints c.ord with
    boxes := b, ring := r } ∧ (s.relays = false → r = s.ring) := by
  rw [State.pointsDone_ite]
  split
  case isTrue h =>
    obtain ⟨r, hr⟩ := (s.dropPoints c.ord).relayOut_ring { f := c.func, e := c.entry } status c.response false
    refine ⟨s.boxes, r, hr, fun hno => ?_⟩
    have hyes : s.relays = true := (Bool.and_eq_true_iff.1 h).1
    simp [hno] at hyes
  case isFalse =>
    have hsame : (s.dropPoints c.ord).sameButBoxes
        (((s.dropPoints c.ord).complete c.func c.entry status 0 c.response).drain c.func) :=
      (State.complete_sameButBoxes ..).trans (drainBad_sameButBoxes ..)
    exact ⟨_, s.ring, hsame, fun _ => rfl⟩

/-- A receipt that goes into its place touches the commands that wait, letterboxes and, at a ring's head, the ports. -/
theorem State.putReceipt_frame (s : State) (i : PointIn) (rc : List Byte) : ∃ b c r, s.putReceipt i rc = { s with
    boxes := b, ring := r, trust := { s.trust with pointCmds := c } } ∧ (s.relays = false → r = s.ring) := by
  rw [State.putReceipt_eq]
  split
  · exact ⟨s.boxes, _, s.ring, rfl, fun _ => rfl⟩
  · split
    · obtain ⟨b, r, h, hr⟩ := (s.receiptPut i rc).pointsDone_eq _ stOk
      exact ⟨b, _, r, h, hr⟩
    · exact ⟨s.boxes, _, s.ring, rfl, fun _ => rfl⟩

/-- The command that an order number finds bears it. -/
theorem State.findOrd {s : State} {n : Nat} {w : PointsCmd} (h : (s.trust.pointCmds.find? fun c => c.ord == n) = some w) :
    w.ord = n := by
  simpa using List.find?_some h

theorem State.dropPoints_find (s : State) (n : Nat) :
    ((s.dropPoints n).trust.pointCmds.find? fun c => c.ord == n) = none := by
  show ((s.trust.pointCmds.filter _).find? _) = none
  rw [List.find?_eq_none]
  intro c hc
  simpa using (List.mem_filter.1 hc).2

/-- A receipt goes where it belongs, whatever has been judged before it. -/
theorem State.putReceipt_goes {s u : State} (hcmds : u.trust.pointCmds = s.trust.pointCmds) (hboxes : u.boxes = s.boxes)
    (hrelays : u.relays = s.relays) (i : PointIn) (rc : List Byte) : State.receiptGoes s (u.putReceipt i rc) i rc := by
  intro w hw
  have hbox (f : Nat) : u.box f = s.box f := by simp [State.box, hboxes]
  rw [← hcmds] at hw
  have heq := u.putReceipt_eq i rc
  rw [hw] at heq
  dsimp only at heq
  refine ⟨fun hwait => ?_, fun hall hlocal hno hfn h64 hen hsize => ?_⟩
  · rw [if_neg (by
      rcases hwait with h | h
      · simp [h]
      · simp [Option.isSome_iff_ne_none.1 h])] at heq
    rw [heq, State.receiptPut_find, hw]
    exact ⟨rfl, hboxes⟩
  · rw [if_pos (by simp [hall, hlocal]), State.pointsDone_ite,
      if_neg (show ¬ ((u.receiptPut i rc).relays && stOk == stOk) = true from by
        rw [show (u.receiptPut i rc).relays = u.relays from rfl, hrelays, hno]
        simp)] at heq
    obtain ⟨v, hv⟩ : ∃ v, v = (u.receiptPut i rc).dropPoints w.ord := ⟨_, rfl⟩
    have hvbox (f : Nat) : v.box f = s.box f := by rw [← hbox, hv]; rfl
    have hvlen : v.boxes.length = s.boxes.length := by rw [← hboxes, hv]; rfl
    have hnone : (v.trust.pointCmds.find? fun c => c.ord == i.ord) = none := by
      rw [hv, State.findOrd hw]
      exact State.dropPoints_find ..
    have hgain := State.completed_gained (s := v) (f := w.func) (e := w.entry) (by rw [hvlen]; exact hfn)
      (by rw [hvbox]; exact hen) (by rw [hvbox]; exact hsize) h64 stOk 0
      (PointsCmd.response { w with receipts := w.receipts.set i.slot (some rc) })
    have hsame : v.sameButBoxes ((v.complete w.func w.entry stOk 0
        (PointsCmd.response { w with receipts := w.receipts.set i.slot (some rc) })).drain w.func) :=
      (State.complete_sameButBoxes ..).trans (drainBad_sameButBoxes ..)
    rw [← hv] at heq
    rw [heq]
    refine ⟨?_, hvbox w.func ▸ hgain⟩
    rw [hsame]
    exact hnone

/-! ### Judging (R213 to R216, R230, R231) -/

theorem State.judgeInput_session {s : State} {i : PointIn} {x : Session} (h : s.sessionOf (nAt i.update 4 2) = some x) :
    s.judgeInput i = s.judgeUpdate i.update := by
  unfold State.judgeInput
  rw [h]
  cases s.carriedReceipt i <;> rfl

theorem State.judgeInput_plain {s : State} {i : PointIn} (h : s.carriedReceipt i = none) :
    s.judgeInput i = s.judgeUpdate i.update := by
  unfold State.judgeInput
  rw [h]

/-- An update outside every session. -/
theorem State.judgeUpdate_unknown {s : State} {u : List Byte} (h : s.sessionOf (nAt u 4 2) = none) (hr : s.relays = false) :
    s.judgeUpdate u = (s.violate 4, s.noReceipt u) := by
  unfold State.judgeUpdate
  simp [h, hr]

/-- An update that its session's key does not authenticate. -/
theorem State.judgeUpdate_forged {s : State} {u : List Byte} {x : Session} (h : s.sessionOf (nAt u 4 2) = some x)
    (htag : bytesAt u 0x20 16 ≠ kmacTag x.updKey (u.take 0x20) csPnt) : s.judgeUpdate u = (s.violate 4, s.noReceipt u) := by
  unfold State.judgeUpdate
  simp only [h]
  exact if_pos htag

/-- An accepted update's journal entry, and the point's image in SRAM. -/
def State.pointJournalled (s : State) (u : List Byte) (k : Nat) (q : Point) : State :=
  (s.journal (.point k q.value q.birth q.flags (nAt u 4 2) (nAt u 8 8)) true).modCellar fun c =>
    { c with image := tput c.image k (q.value, q.birth, q.flags) }

theorem State.pointJournalled_eq (s : State) (u : List Byte) (k : Nat) (q : Point) :
    ∃ l, s.pointJournalled u k q = { s with cellar := l } ∧ l.viol = s.cellar.viol := by
  obtain ⟨l, hl, hviol⟩ := State.journal_eq (s := s) (.point k q.value q.birth q.flags (nAt u 4 2) (nAt u 8 8)) true
  unfold State.pointJournalled
  rw [hl]
  exact ⟨_, rfl, hviol⟩

/-- A session that has accepted an update. -/
def Session.moved (x : Session) (u rc : List Byte) : Session :=
  { x with highSeq := nAt u 8 8,
           recent := (x.recent ++ [(⟨nAt u 8 8, bytesAt u 0x20 16, rc⟩ : Recent)]).drop (x.recent.length + 1 - 8) }

/-- An accepted update in its session and its point. -/
def State.pointSet (s : State) (u : List Byte) (k : Nat) (q : Point) (rc : List Byte) : State :=
  (s.modSession (nAt u 4 2) fun x => x.moved u rc).modTrust fun t =>
    { t with points := tput t.points k q, accepted := t.accepted + 1 }

theorem State.pointSet_eq (s : State) (u : List Byte) (k : Nat) (q : Point) (rc : List Byte) :
    s.pointSet u k q rc = { s with trust := { s.trust with
      sessions := (s.modSession (nAt u 4 2) fun x => x.moved u rc).trust.sessions, points := tput s.trust.points k q,
      accepted := s.trust.accepted + 1 } } := rfl

/-- An accepted update: the state behind it and its receipt. -/
def State.pointTaken (s : State) (u : List Byte) (k : Nat) (q : Point) : State × List Byte :=
  let v := s.pointJournalled u k q
  let rc := v.receipt (nAt u 4 2) 1 (nAt u 8 8) true
  (v.pointSet u k q rc, rc)

/-- An update that its session's key authenticates. -/
theorem State.judgeUpdate_signed {s : State} {u : List Byte} {x : Session} (h : s.sessionOf (nAt u 4 2) = some x)
    (htag : bytesAt u 0x20 16 = kmacTag x.updKey (u.take 0x20) csPnt) : s.judgeUpdate u =
      match x.recent.find? fun r => r.seq == nAt u 8 8 && r.tag == bytesAt u 0x20 16 with
      | some r => (s, r.receipt)
      | none =>
        if nAt u 8 8 ≤ x.highSeq then (s.violate 4, s.noReceipt u)
        else match s.updateEntry x u with
          | none => (s.violate 4, s.noReceipt u)
          | some e => s.pointTaken u e.1 (e.2.updated u s.us) := by
  unfold State.judgeUpdate
  simp only [h]
  rw [if_neg (not_not_intro htag)]
  rfl

/-- What an accepted update leaves, and its receipt (R216, R231). -/
theorem State.pointTaken_eq {s : State} {u : List Byte} {x : Session} (h : s.sessionOf (nAt u 4 2) = some x) (k : Nat)
    (q : Point) : ∃ l ss, s.pointTaken u k q = ({ s with
        cellar := l, trust := { s.trust with sessions := ss, points := tput s.trust.points k q,
                                             accepted := s.trust.accepted + 1 } },
        receiptOf (some x.rcpKey) (nAt u 4 2) 1 (nAt u 8 8) s.us)
      ∧ l.viol = s.cellar.viol ∧ (ss.find? (·.num == nAt u 4 2)).map (·.highSeq) = some (nAt u 8 8) := by
  obtain ⟨l, hl, hviol⟩ := s.pointJournalled_eq u k q
  have hrc : (s.pointJournalled u k q).receipt (nAt u 4 2) 1 (nAt u 8 8) true
      = receiptOf (some x.rcpKey) (nAt u 4 2) 1 (nAt u 8 8) s.us := by
    have hx : (s.pointJournalled u k q).sessionOf (nAt u 4 2) = some x := by rw [hl]; exact h
    unfold State.receipt
    rw [if_pos rfl, hx, hl]
    rfl
  unfold State.pointTaken
  dsimp only
  rw [hrc, State.pointSet_eq, hl]
  generalize receiptOf (some x.rcpKey) (nAt u 4 2) 1 (nAt u 8 8) s.us = rc
  refine ⟨l, _, rfl, hviol, ?_⟩
  have hfind := State.sessionOf_modSession { s with cellar := l } (nAt u 4 2) (fun x => x.moved u rc) fun _ => rfl
  have hx : ({ s with cellar := l } : State).sessionOf (nAt u 4 2) = some x := h
  rw [hx] at hfind
  unfold State.sessionOf at hfind
  rw [hfind]
  rfl

/-! ### A KMAC engine's turn (R212, R230) -/

/-- An input leaves the queue as it is judged. -/
def State.inputTaken (s : State) (k : Nat) : State := s.modTrust fun t => { t with pointQ := t.pointQ.eraseIdx k }

/-- The report of an engine whose lanes disagree. -/
def engineReport (engine : Nat) : FaultIn := { code := 0x407, cls := 3, island := 62, detail := engine, force := .none }

theorem exec_pointUpdate_none {k engine : Nat} {b : Bool} {s : State} (h : s.trust.pointQ[k]? = none) :
    exec (.pointUpdate k engine b) s = .next s := by
  show execPointUpdate k engine b s = _
  unfold execPointUpdate
  rw [h]

theorem exec_pointUpdate {k engine : Nat} {b : Bool} {i : PointIn} {s : State} (h : s.trust.pointQ[k]? = some i) :
    exec (.pointUpdate k engine b) s = .next (
      if (!s.mayJudge k i || 16 ≤ engine || s.engineDown engine) = true then s
      else if b = true then ((s.inputTaken k).judgeInput i).1.putReceipt i ((s.inputTaken k).judgeInput i).2
      else ((s.inputTaken k).fault (engineReport engine)).putReceipt i (s.noReceipt i.update)) := by
  show execPointUpdate k engine b s = _
  unfold execPointUpdate
  rw [h]
  cases b <;> rfl

theorem exec_pointUpdate_waits {k engine : Nat} {b : Bool} {i : PointIn} {s : State} (h : s.trust.pointQ[k]? = some i)
    (hwait : s.mayJudge k i = false ∨ 16 ≤ engine ∨ s.engineDown engine = true) :
    exec (.pointUpdate k engine b) s = .next s := by
  rw [exec_pointUpdate h]
  refine congrArg _ (if_pos ?_)
  rcases hwait with h | h | h <;> simp [h]

theorem State.relays_books (s : State) (l : Cellar) (tr : Trust) :
    ({ s with cellar := l, trust := tr } : State).relays = s.relays := rfl

/-- What a judgement leaves, and where its receipt goes. -/
theorem pointUpdate_judged {k engine : Nat} {i : PointIn} {s : State} (h : s.trust.pointQ[k]? = some i)
    (hmay : s.mayJudge k i = true) (he : engine < 16) (hup : s.engineDown engine = false) {l : Cellar} {tr : Trust}
    {rc : List Byte} (hj : (s.inputTaken k).judgeInput i = ({ s with cellar := l, trust := tr }, rc))
    (hcmds : tr.pointCmds = s.trust.pointCmds) :
    ∃ t b c r, exec (.pointUpdate k engine true) s = .next t
      ∧ t = { s with cellar := l, boxes := b, ring := r, trust := { tr with pointCmds := c } }
      ∧ (s.relays = false → r = s.ring) ∧ State.receiptGoes s t i rc := by
  have hexec := (exec_pointUpdate (engine := engine) (b := true) h).trans
    (congrArg _ (if_neg (by simp [hmay, hup, Nat.not_le.2 he])))
  rw [if_pos rfl, hj] at hexec
  obtain ⟨b, c, r, hframe, hring⟩ := ({ s with cellar := l, trust := tr } : State).putReceipt_frame i rc
  exact ⟨_, b, c, r, hexec, hframe, fun hno => hring ((s.relays_books l tr).trans hno),
    State.putReceipt_goes (s := s) (u := { s with cellar := l, trust := tr }) hcmds rfl (s.relays_books l tr) i rc⟩

theorem State.sessionOf_inputTaken (s : State) (k n : Nat) : (s.inputTaken k).sessionOf n = s.sessionOf n := rfl

/-- An update that is refused as a violation (R215). -/
theorem State.judgeInput_refused {s : State} {i : PointIn} (k : Nat) (hno : s.relays = false)
    (hbad : (s.sessionOf (nAt i.update 4 2) = none ∧ s.carriedReceipt i = none)
      ∨ (∃ y, s.sessionOf (nAt i.update 4 2) = some y
          ∧ (bytesAt i.update 0x20 16 ≠ kmacTag y.updKey (i.update.take 0x20) csPnt
              ∨ ((∀ r ∈ y.recent, r.seq ≠ nAt i.update 8 8)
                  ∧ (nAt i.update 8 8 ≤ y.highSeq ∨ s.updateEntry y i.update = none))))) :
    (s.inputTaken k).judgeInput i = ((s.inputTaken k).violate 4, (s.inputTaken k).noReceipt i.update) := by
  rcases hbad with ⟨hnone, hcarried⟩ | ⟨y, hy, hcase⟩
  · rw [State.judgeInput_plain (s := s.inputTaken k) hcarried]
    exact State.judgeUpdate_unknown (s := s.inputTaken k) hnone hno
  · rw [State.judgeInput_session (s := s.inputTaken k) hy]
    by_cases htag : bytesAt i.update 0x20 16 = kmacTag y.updKey (i.update.take 0x20) csPnt
    · obtain ⟨hnew, hold⟩ := hcase.resolve_left (not_not_intro htag)
      have hfind : (y.recent.find? fun r => r.seq == nAt i.update 8 8 && r.tag == bytesAt i.update 0x20 16) = none := by
        rw [List.find?_eq_none]
        intro r hr
        simp [hnew r hr]
      rw [State.judgeUpdate_signed (s := s.inputTaken k) hy htag, hfind]
      by_cases hseq : nAt i.update 8 8 ≤ y.highSeq
      · exact if_pos hseq
      · have hentry : (s.inputTaken k).updateEntry y i.update = none := hold.resolve_left hseq
        refine (if_neg hseq).trans ?_
        rw [hentry]
    · exact State.judgeUpdate_forged (s := s.inputTaken k) hy htag

/-- An update that stands every condition (R230). -/
theorem State.judgeInput_accepted {s : State} {i : PointIn} {x : Session} {q : Nat × Point} (k : Nat)
    (hx : s.sessionOf (nAt i.update 4 2) = some x)
    (htag : bytesAt i.update 0x20 16 = kmacTag x.updKey (i.update.take 0x20) csPnt) (hseq : x.highSeq < nAt i.update 8 8)
    (hnew : ∀ r ∈ x.recent, r.seq ≠ nAt i.update 8 8) (hq : s.updateEntry x i.update = some q) :
    (s.inputTaken k).judgeInput i = (s.inputTaken k).pointTaken i.update q.1 (q.2.updated i.update s.us) := by
  have hfind : (x.recent.find? fun r => r.seq == nAt i.update 8 8 && r.tag == bytesAt i.update 0x20 16) = none := by
    rw [List.find?_eq_none]
    intro r hr
    simp [hnew r hr]
  have hentry : (s.inputTaken k).updateEntry x i.update = some q := hq
  rw [State.judgeInput_session (s := s.inputTaken k) hx, State.judgeUpdate_signed (s := s.inputTaken k) hx htag, hfind]
  refine (if_neg (Nat.not_le.2 hseq)).trans ?_
  rw [hentry]
  rfl

/-! ### SUBMIT_POINTS (R503) -/

/-- The updates of a SUBMIT_POINTS, in their order. -/
def pointInputs (c : Cmd) (ord : Nat) : List PointIn :=
  (List.range (c.payload.length / 48)).map fun k =>
    { func := c.f, ord := ord, slot := k, update := bytesAt c.payload (48 * k) 48, openS := false }

theorem pointInputs_length (c : Cmd) (ord : Nat) : (pointInputs c ord).length = c.payload.length / 48 := by
  simp [pointInputs]

theorem pointInputs_getElem? {c : Cmd} {n : Nat} (ord : Nat) (h : n < c.payload.length / 48) : (pointInputs c ord)[n]?
    = some { func := c.f, ord := ord, slot := n, update := bytesAt c.payload (48 * n) 48, openS := false } := by
  simp [pointInputs, h]

/-- The command that waits for their receipts. -/
def pointsWaiting (c : Cmd) (ord : Nat) : PointsCmd :=
  { relay := none, func := c.f, ord := ord, entry := c.e, receipts := List.replicate (c.payload.length / 48) none }

/-- A SUBMIT_POINTS that is handed over. -/
def State.pointsQueued (s : State) (c : Cmd) : State :=
  s.modTrust fun t => { t with pointQ := t.pointQ ++ pointInputs c s.nextOrd
                               pointCmds := t.pointCmds ++ [pointsWaiting c s.nextOrd] }

/-- SUBMIT_POINTS's act. -/
def submitPointsAct (s : State) (c : Cmd) : CmdRes := { CmdRes.ok (s.pointsQueued c) [] with later := true }

theorem exec_submitPoints (f : Nat) (s : State) :
    exec (.submitPoints f) s = .next (s.hostCommand f submitPointsCard submitPointsAct) := rfl

/-- A SUBMIT_POINTS that runs is handed over and completes later. -/
theorem submitPoints_queued {s : State} {f : Nat} {e : SqEntry} (h : s.hostRuns f submitPointsCard e) :
    ((s.pop f).pointsQueued { f := f, e := e }).sameButBoxes (s.hostCommand f submitPointsCard submitPointsAct) := by
  obtain ⟨n, hrun⟩ := State.command_runs h submitPointsAct
  rw [State.storeCounter_plain _ _ _ (Card.hasTrailer_plain _ _ rfl)] at hrun
  have hfin : ((submitPointsAct (s.pop f) { f := f, e := e }).settled (s.pop f)).finish { f := f, e := e }
      = (s.pop f).pointsQueued { f := f, e := e } := rfl
  rw [hfin] at hrun
  rw [State.hostCommand, hrun]
  exact drainBad_sameButBoxes ..

theorem updatesAreJudged : Clause.PointUpdatesAreJudged := by
  intro f k engine e i x s
  refine ⟨fun h => ?_, exec_pointUpdate_none, fun b hi hwait => exec_pointUpdate_waits hi hwait,
    fun hi hmay he hup => ⟨fun hx htag hseq hnew q hq => ?_, fun hno hbad => ?_, fun r hno hx htag hr => ?_, ?_⟩⟩
  · obtain ⟨ord, hord⟩ : ∃ ord, ord = (s.pop f).nextOrd := ⟨_, rfl⟩
    have hsame := submitPoints_queued h
    refine ⟨_, exec_submitPoints f s, ?_⟩
    generalize s.hostCommand f submitPointsCard submitPointsAct = t at hsame
    unfold State.sameButBoxes State.pointsQueued at hsame
    rw [← hord] at hsame
    refine ⟨?_, ⟨pointInputs { f := f, e := e } ord, ?_, ?_, fun n hn => ?_⟩,
      ⟨pointsWaiting { f := f, e := e } ord, ?_, rfl, rfl, rfl⟩⟩
    · rw [hsame]; rfl
    · rw [hsame]; rfl
    · exact pointInputs_length ..
    · rw [pointInputs_length] at hn
      exact ⟨_, pointInputs_getElem? ord hn, rfl, rfl, rfl, rfl⟩
    · rw [hsame]; rfl
  · obtain ⟨l, ss, htaken, hviol, hhigh⟩ := State.pointTaken_eq (s := s.inputTaken k) hx q.1 (q.2.updated i.update s.us)
    obtain ⟨t, b, c, r, hexec, ht, -, hgoes⟩ := pointUpdate_judged hi hmay he hup
      ((State.judgeInput_accepted k hx htag hseq hnew hq).trans htaken) rfl
    refine ⟨t, hexec, fun n => ?_, ?_, ?_, ?_, ?_, hgoes, ?_⟩
    · rw [ht]
      by_cases hn : n = q.1
      · rw [if_pos hn, hn]
        exact tfind_tput_self ..
      · rw [if_neg hn]
        exact tfind_tput_ne _ _ _ _ hn
    · rw [ht, State.sessionOf_num hx]
      exact hhigh
    · rw [ht]
      rfl
    · rw [ht]
      exact hviol
    · rw [ht]
      rfl
    · rw [ht]
  · obtain ⟨t, b, c, r, hexec, ht, hring, hgoes⟩ := pointUpdate_judged hi hmay he hup (State.judgeInput_refused k hno hbad) rfl
    rw [hring hno] at ht
    refine ⟨t, hexec, ?_, ?_, ?_, ?_, hgoes, ?_⟩
    · rw [ht]; rfl
    · rw [ht]; rfl
    · rw [ht]; rfl
    · rw [ht]; rfl
    · rw [ht]
  · have hj : (s.inputTaken k).judgeInput i = (s.inputTaken k, r.receipt) := by
      rw [State.judgeInput_session (s := s.inputTaken k) hx, State.judgeUpdate_signed (s := s.inputTaken k) hx htag, hr]
    obtain ⟨t, b, c, r', hexec, ht, hring, hgoes⟩ := pointUpdate_judged hi hmay he hup hj rfl
    rw [hring hno] at ht
    exact ⟨t, hexec, hgoes, by rw [ht]⟩
  · have hexec := (exec_pointUpdate (engine := engine) (b := false) hi).trans
      (congrArg _ (if_neg (by simp [hmay, hup, Nat.not_le.2 he])))
    rw [if_neg Bool.false_ne_true] at hexec
    obtain ⟨hsame, hlogs⟩ := (s.inputTaken k).fault_fc3 (x := engineReport engine) rfl Force.none_below_ss4
    obtain ⟨b, c, r, hframe, -⟩ := ((s.inputTaken k).fault (engineReport engine)).putReceipt_frame i (s.noReceipt i.update)
    refine ⟨_, hexec, ?_, fun _ => ?_⟩
    · exact State.logs.of_log_eq (s := s) hlogs (by rw [hframe])
    · rw [hframe]
      unfold State.sameButHandling at hsame
      rw [hsame]
      exact ⟨rfl, rfl⟩

/-! ### The sweep (R224) -/

/-- Whether a sweep marks a point now. -/
def Point.overdue (q : Point) (now : Nat) : Prop :=
  q.received = true ∧ 1000 * q.maxAge < counted ((now % 2 ^ 32 + 2 ^ 32 - q.birth) % 2 ^ 32)

/-- What the sweep does to a point. -/
structure Point.sweptTo (q : Point) (now : Nat) (q' : Point) : Prop where
  frame : q' = { q with expired := q'.expired, check := q'.check }
  marked : q'.expired = true ↔ q.expired = true ∨ q.overdue now
  stays : q'.expired = q.expired → q' = q
  check : q'.expired ≠ q.expired → q'.check = if q.checkOk = true then q'.crc else q.check

theorem Point.swept_sweptTo (q : Point) (now : Nat) : q.sweptTo now (q.swept now) := by
  have hpow : (2 : Nat) ^ 32 = 0x100000000 := by norm_num
  unfold Point.swept
  dsimp only
  split
  case isTrue h =>
    simp only [Bool.and_eq_true, Bool.not_eq_true', decide_eq_true_eq] at h
    obtain ⟨⟨hrec, hexp⟩, hage⟩ := h
    have hover : q.overdue now := ⟨hrec, by rw [hpow]; exact hage⟩
    split
    case isTrue hok => exact ⟨rfl, by simp [hover], fun hc => by simp [hexp] at hc, fun _ => (if_pos hok).symm⟩
    case isFalse hok => exact ⟨rfl, by simp [hover], fun hc => by simp [hexp] at hc, fun _ => (if_neg hok).symm⟩
  case isFalse h =>
    refine ⟨rfl, ⟨.inl, ?_⟩, fun _ => rfl, fun hc => absurd rfl hc⟩
    rintro (hexp | ⟨hrec, hage⟩)
    · exact hexp
    · by_contra hexp
      rw [hpow] at hage
      exact h (by simp [hrec, hexp, hage])

theorem tfind_map {α β : Type} (g : α → β) (t : Table α) (n : Nat) :
    tfind (t.map fun e => (e.1, g e.2)) n = (tfind t n).map g := by
  induction t with
  | nil => rfl
  | cons e t ih =>
    obtain ⟨k, v⟩ := e
    simp only [List.map_cons, tfind]
    split
    · rfl
    · exact ih

theorem exec_pointSweep (s : State) : exec .pointSweep s = .next (
    if !s.cellar.ctlRuns then s
    else
      let u := s.atUs (s.trust.sweepUs + 1000000)
      u.modTrust fun t => { t with
        points := s.trust.points.map fun e => (e.1, e.2.swept u.us), sweepUs := u.us,
        stalePts := ((s.trust.points.map fun e => (e.1, e.2.swept u.us)).filter fun e => e.2.expired || e.2.srcInv).length }) :=
  rfl

theorem pointsExpire : Clause.PointsExpire := by
  intro s
  refine ⟨fun h => ?_, fun h => ?_, rfl⟩
  · rw [exec_pointSweep]
    exact congrArg _ (if_pos (by simp [h]))
  · refine ⟨_, (exec_pointSweep s).trans (congrArg _ (if_neg (by simp [h]))), rfl, rfl, fun n hn => ?_, fun n q hq => ?_, rfl⟩
    · exact (tfind_map (Point.swept · _) s.trust.points n).trans (by rw [hn]; rfl)
    · obtain ⟨hframe, hmarked, hstays, hcheck⟩ := q.swept_sweptTo (s.atUs (s.trust.sweepUs + 1000000)).us
      exact ⟨_, (tfind_map (Point.swept · _) s.trust.points n).trans (by rw [hq]; rfl), hframe, hmarked, hstays, hcheck⟩

/-- Settles O46: an update's judgement is one of four, each with its receipt; the sweep maps the points. -/
theorem pointUpdatesAreJudged : Obligations.PointUpdatesAreJudged := ⟨updatesAreJudged, pointsExpire⟩

end Sys2Proof.Machine
end
